-- ==== Sys2Proof/Word.lean ====
section
/-! DEFINITION. Words, bytes and the sparse tables that every other file uses: the plainest arithmetic only. -/

namespace Sys2Proof

/-- One byte. -/
abbrev Byte := BitVec 8

/-- One 64-bit register (R23). -/
abbrev Word := BitVec 64

/-- A sparse table: (key, value) pairs, keys strictly rising, no entry equal to what an unlisted key reads as. -/
abbrev Tab (α : Type) := List (Nat × α)

/-- Region index, 0–83 (R12). -/
abbrev RegionIx := Fin 84

/-- Optical engine site, 0–63 (R359). -/
abbrev EngineIx := Fin 64

/-- Stack site, 0–25 (R379). -/
abbrev SiteIx := Fin 26

/-- Port number, 0–255 (R152). -/
abbrev PortIx := Fin 256

/-- Job slot, 0–15 (R159). -/
abbrev SlotIx := Fin 16

end Sys2Proof
end

