-- ==== Sys2Proof/Syntax.lean ====
section
/-! DEFINITION. The commands of the block: one constructor per row of the opcode table, with the row's operands.
A command is something that reaches the module at one of its interfaces (a register access, a message, a pin event),
a command word of a region's stream at issue, or a moment of one of the module's own units (a timer, a completion). -/

namespace Sys2Proof

/-- The requesters of the register space (R29). -/
inductive Requester where
  | jtag
  | mgmt
  | mmc
  | rcc (r : RegionIx)
  deriving DecidableEq, Repr

/-- The reset kinds (R36). -/
inductive ResetKind where
  | cold
  | warm
  | job
  | block
  deriving DecidableEq, Repr

/-- What a storage check finds (R79, R386): nothing, a corrected error, an uncorrectable error. -/
inductive MemErr where
  | ok
  | ce
  | ue
  deriving DecidableEq, Repr

/-- A 32-byte sequencer command: four little-endian 64-bit words (R119). -/
structure Cmd where
  w0 : Word
  w1 : Word
  w2 : Word
  w3 : Word
  deriving DecidableEq, Repr

/-- A transport message as it arrives (R370): the port it came in on (256: on the wafer, from this module's own blocks),
its header fields, and its payload. -/
structure Msg where
  port : Nat
  version : Nat := 1
  cls : Nat
  flags : Nat := 0
  key : Word := 0#64
  dst : Nat := 0
  src : Nat := 0
  bondSeq : Nat := 0
  body : List Byte
  deriving DecidableEq, Repr

/-- The path a control message takes (R149, R455): the management port, or an optical port. -/
inductive CtlPath where
  | mgmt
  | port (p : Nat)
  deriving DecidableEq, Repr

/-- A mailbox request as it arrives at the management port (R436); the opcode is the row's. -/
structure MgtReq where
  major : Nat := 2
  minor : Nat := 3
  flags : Nat := 0
  length : Nat
  pair : Nat
  seq : Nat
  arg : Word := 0#64
  tag : List Byte
  payload : List Byte
  deriving DecidableEq, Repr

/-- A CONTROL message as it arrives (R370, R438): a mailbox message of opcode 0x30 on the management port, or a CONTROL
message on an optical port. Its payload is the 8-byte control header and the body. -/
inductive CtlMsg where
  | mgmt (f : MgtReq)
  | port (m : Msg)
  deriving DecidableEq, Repr

/-- A management frame that no other row accepts (R435, R437). -/
structure MgtFrame where
  fcsOk : Bool
  ethertype : Nat
  destOk : Bool
  opcode : Nat
  req : MgtReq
  deriving DecidableEq, Repr

/-- The classes of R328, in the table's row order. -/
inductive FaultClass where
  | module
  | corruption
  | stack
  | engine
  | region
  | tile
  | load
  | program
  | anchor
  | notice
  | corrected
  deriving DecidableEq, Repr

/-- A detector's report to the fault unit (R327): the class, the unit (a region, site, engine, port or page index), the
tile for a TILE fault, the job slot (16: none), the page and ERR_STATUS bit it rests on (0xFF: injected), and TBASE.COUNT at the detection. -/
structure Report where
  cls : FaultClass
  unit : Nat
  sub : Nat := 0
  job : Nat := 16
  page : Nat := 0
  code : Nat := 0
  count : Nat := 0
  deriving DecidableEq, Repr

/-- One temperature reading: the sensor's ID (R421, kind 0 or 5) and what it measures in 1/64 °C, before the trim. -/
structure TempReading where
  sensor : Nat
  val : Int
  deriving DecidableEq, Repr

/-- One sample of a rail (R410): voltage in 0.25 mV, current in 0.1 A, and the average power of the last 10 µs in 0.1 W. -/
structure Reading where
  volts : Nat
  amps : Nat
  power : Nat
  deriving DecidableEq, Repr

/-- The commands of the block, one per row of the opcode table. -/
inductive Instr where
  /-- REGISTER_WRITE (R24): A write to a register that has no row of its own; the refusal checks of R24 and the field access types of R25 apply. -/
  | registerWrite (q : Requester) (addr : Nat) (bytes : Nat) (v : Word)
  /-- COUNTER_READ_CLEAR (R35): A read of an RC counter returns the counter's value and clears it in the same access. -/
  | counterReadClear (q : Requester) (addr : Nat) (bytes : Nat)
  /-- WARM_RESET_REQ (R39): GLB.RESET_REQ with KIND 1 and the right CONFIRM starts a warm reset, which stops the blocks, ends the jobs and takes the optical ports down. -/
  | warmResetReq (q : Requester) (v : Word)
  /-- JOB_RESET_REQ (R36): GLB.RESET_REQ with KIND 2 resets the job-level pages, ends every job and clears the expert gate. -/
  | jobResetReq (q : Requester) (v : Word)
  /-- BLOCK_RESET (R36): A write of 1 to CTRL.BLOCK_RESET starts a block reset of that page. -/
  | blockReset (q : Requester) (page : Nat) (v : Word)
  /-- RESET_DONE (R36): A running reset ends: covered registers hold their reset values and RESET_BUSY falls to 0. -/
  | resetDone (kind : ResetKind) (page : Nat)
  /-- BLOCK_DISABLE (R355): A write of 0 to CTRL.ENABLE sets DRAINING, stops new work and lets accepted work finish. -/
  | blockDisable (q : Requester) (page : Nat) (v : Word)
  /-- BLOCK_ENABLE (R33): A write of 1 to CTRL.ENABLE runs the block again. -/
  | blockEnable (q : Requester) (page : Nat) (v : Word)
  /-- DRAIN_DONE (R355): A disabled block completes its accepted items; ENABLED and DRAINING fall to 0, and a disabled region's job ends ABORTED. -/
  | drainDone (page : Nat)
  /-- DRAIN_TIMEOUT (R355): Draining has not ended within FLT.LIMITS.DRAIN_MS; DRAIN_TIMEOUT is set and draining continues. -/
  | drainTimeout (page : Nat)
  /-- EXPERT_OPEN (R40): A write to CTRL.EXPERT opens the page's expert fields when MATCHED is 1, or closes them. -/
  | expertOpen (q : Requester) (page : Nat) (v : Word)
  /-- ERR_FORCE (R34): A write to ERR_FORCE sets ERR_STATUS bits and reports them as a detection would, without recovery. -/
  | errForce (q : Requester) (page : Nat) (v : Word)
  /-- EXPERT_KEY (R41): A write to GLB.EXPERT_KEY is compared with the expected key, setting MATCHED or counting a failure and renewing the nonce. -/
  | expertKey (q : Requester) (v : Word)
  /-- EXPERT_LOCK (R42): A write of 1 to GLB.EXPERT_LOCK.LOCK sets MATCHED to 0. -/
  | expertLock (q : Requester) (v : Word)
  /-- TBASE_ADJUST (R46): A write to TBASE.ADJUST steps COUNT forward or slews a negative remainder out, or is refused with ADJ_RANGE. -/
  | tbaseAdjust (q : Requester) (v : Word)
  /-- SLEW_DONE (R46): A running negative slew has been absorbed completely and COUNT runs at its normal rate again. -/
  | slewDone
  /-- RATE_TRIM (R417): A write to TBASE.RATE_TRIM sets the time base's rate trim, or is refused with ADJ_RANGE when out of range. -/
  | rateTrim (q : Requester) (v : Word)
  /-- PPS_EDGE (R418): An accepted rising edge of TB_PPS is captured into PPS_CAPTURE and gives a lock-servo measurement. -/
  | ppsEdge
  /-- PPS_MISSING (R418): No TB_PPS edge has arrived for 1.1 s while PPS is the source; PPS_MISSING is set and lock may be lost. -/
  | ppsMissing
  /-- SCRUB_TICK (R80): Each scrub period a tile reads, checks and corrects one SRAM line and 16 vat accumulators. -/
  | scrubTick (r : RegionIx) (tile : Fin 256) (sram : MemErr) (vat : MemErr)
  /-- COMMAND_FETCH (R118): The sequencer's fetch-ahead delivers commands from the stacks into its command buffer, setting FETCH_UE on an uncorrectable error. -/
  | commandFetch (r : RegionIx) (deferred : Bool) (ue : Bool)
  /-- COMMAND_COMPLETE (R125): An issued command completes, releasing scoreboard waits and counting toward FENCE WAIT classes. -/
  | commandComplete (r : RegionIx) (id : Nat)
  /-- GEMM (R121): GEMM multiplies operands fed directly from SRAM into anchored accumulations, paired with its DRAIN. -/
  | gemm (r : RegionIx) (deferred : Bool) (c : Cmd)
  /-- GEMM_T (R121): GEMM_T multiplies with one or both operands taken through the press. -/
  | gemmT (r : RegionIx) (deferred : Bool) (c : Cmd)
  /-- DRAIN (R122): DRAIN empties an accumulator bank through its function into SRAM, the router, the row unit or the vat. -/
  | drain (r : RegionIx) (deferred : Bool) (c : Cmd)
  /-- ROW (R106): ROW runs softmax or a normalisation forward or backward along rows in the row unit. -/
  | row (r : RegionIx) (deferred : Bool) (c : Cmd)
  /-- VCFG (R141): VCFG writes a vat region descriptor and its LAYER, or is refused with VCFG_BUSY or VAT_RANGE. -/
  | vcfg (r : RegionIx) (deferred : Bool) (c : Cmd)
  /-- VDRAIN_HOLD (R207): VDRAIN with FORM HOLD adds a vat region's entries into the W image of a gradient hold area. -/
  | vdrainHold (r : RegionIx) (deferred : Bool) (c : Cmd)
  /-- VDRAIN_CE (R112): VDRAIN with FORM CE hands a vat region, plus any hold, to the CE as a contribution, or writes the hold on a hold step. -/
  | vdrainCe (r : RegionIx) (deferred : Bool) (c : Cmd)
  /-- VDRAIN_CONVERT (R112): VDRAIN with FORM CONVERT converts vat entries into SRAM or through the router. -/
  | vdrainConvert (r : RegionIx) (deferred : Bool) (c : Cmd)
  /-- VCLEAR (R112): VCLEAR zeroes entries of a vat region, and its COUNT when the whole region is cleared. -/
  | vclear (r : RegionIx) (deferred : Bool) (c : Cmd)
  /-- CAVE_PUSH (R194): CAVE_PUSH saves a range of tile SRAM to the cave as one entry. -/
  | cavePush (r : RegionIx) (deferred : Bool) (c : Cmd)
  /-- CAVE_POP (R196): CAVE_POP takes the matching cave record to SRAM or the pending-pop queue, starting a recompute for a dropped record. -/
  | cavePop (r : RegionIx) (deferred : Bool) (c : Cmd)
  /-- WLOAD (R171): WLOAD with SPEC 0 resolves its key slot and epoch and brings weight pieces resident in the tiles. -/
  | wload (r : RegionIx) (deferred : Bool) (c : Cmd)
  /-- WLOAD_SPEC (R185): WLOAD with SPEC 1 prefetches expert weights into the staging area and completes at issue. -/
  | wloadSpec (r : RegionIx) (deferred : Bool) (c : Cmd)
  /-- SEND (R323): SEND moves tile SRAM to a matched RECV post of another region or, with PEER 0xFF, to a peer module. -/
  | send (r : RegionIx) (deferred : Bool) (c : Cmd)
  /-- RECV (R323): RECV posts a receive buffer to its peer region or peer module. -/
  | recv (r : RegionIx) (deferred : Bool) (c : Cmd)
  /-- COLL_RS (R240): COLL with OP RS hands a region's contribution to a reduce-scatter bucket. -/
  | collRs (r : RegionIx) (deferred : Bool) (c : Cmd)
  /-- COLL_AG (R240): COLL with OP AG gathers every member's shard into every position of the bucket. -/
  | collAg (r : RegionIx) (deferred : Bool) (c : Cmd)
  /-- COLL_BCAST (R240): COLL with OP BCAST copies the root's bytes to every member. -/
  | collBcast (r : RegionIx) (deferred : Bool) (c : Cmd)
  /-- COLL_A2A (R240): COLL with OP A2A exchanges parts of a span between every pair of members of one level. -/
  | collA2a (r : RegionIx) (deferred : Bool) (c : Cmd)
  /-- UPD (R215): UPD latches its parameter slots, checks its area and parameters, and is accepted by the update engine. -/
  | upd (r : RegionIx) (deferred : Bool) (c : Cmd)
  /-- PARAM (R142): PARAM writes an immediate or table value into a parameter slot. -/
  | param (r : RegionIx) (deferred : Bool) (c : Cmd)
  /-- EPOCH_BIND (R174): EPOCH with OP BIND resolves an epoch for a model's layer range into the region's binding table. -/
  | epochBind (r : RegionIx) (deferred : Bool) (c : Cmd)
  /-- EPOCH_PUBLISH (R224): EPOCH with OP PUBLISH adds a model's layer range to the job's pending publications. -/
  | epochPublish (r : RegionIx) (deferred : Bool) (c : Cmd)
  /-- FENCE (R130): FENCE makes the region wait for its selected completions and for every participant to reach the same fence. -/
  | fence (r : RegionIx) (deferred : Bool) (c : Cmd)
  /-- FENCE_ARRIVAL (R130): A participant's fence arrival reaches a region on the request channel. -/
  | fenceArrival (r : RegionIx) (peer : Fin 80) (fid : Nat) (setLo : Word) (setHi : Nat)
  /-- FENCE_TIMEOUT (R132): A region has waited at a fence longer than FENCE_TIMEOUT and reports it. -/
  | fenceTimeout (r : RegionIx)
  /-- ANCHOR_CHECK (R133): ANCHOR_CHECK closes an attempt span and puts the sequencer in CHECK. -/
  | anchorCheck (r : RegionIx) (deferred : Bool) (c : Cmd)
  /-- ANCHOR_CHECK_EVAL (R133): Once the span's drains have finished and 32 cycles passed, the flags are read and the check passes, replays or faults. -/
  | anchorCheckEval (r : RegionIx)
  /-- REVERSAL_DONE (R134): The last reversed row has reached the vat; the stream's flags are cleared and the span replays at raised anchors. -/
  | reversalDone (r : RegionIx)
  /-- IDLE_WINDOW (R138): IDLE_WINDOW raises the deferred release point and starts a window of deferred issue. -/
  | idleWindow (r : RegionIx) (deferred : Bool) (c : Cmd)
  /-- WINDOW_END (R139): At a deferred command boundary the window's end conditions hold and main-stream issue resumes. -/
  | windowEnd (r : RegionIx)
  /-- WINDOW_BUDGET_EXPIRY (R139): BUDGET cycles have passed since the window began, allowing the window to end at the next qualifying boundary. -/
  | windowBudgetExpiry (r : RegionIx)
  /-- MARK_OPEN (R135): MARK with KIND OPEN decides or takes the admission of a micro-batch for the whole job. -/
  | markOpen (r : RegionIx) (deferred : Bool) (c : Cmd)
  /-- MARK_CLOSE (R136): MARK with KIND CLOSE records a replay point and updates the job's committed cut. -/
  | markClose (r : RegionIx) (deferred : Bool) (c : Cmd)
  /-- STEP_END (R143): STEP_END runs the remaining deferred work and puts the region in STEP_WAIT. -/
  | stepEnd (r : RegionIx) (deferred : Bool) (c : Cmd)
  /-- STEP_ENDED (R143): Every region of the set has reached STEP_END; LAST values are compared and the step awaits the barrier. -/
  | stepEnded (slot : SlotIx)
  /-- STEP_SYNC_PULSE (R147): A pulse on STEP_SYNC_P/N of END or EXTEND width is applied to every job selecting the pin. -/
  | stepSyncPulse (widthNs : Nat) (gapNs : Nat)
  /-- SYNC_MESSAGE (R148): A SYNC control message on an S-port applies END or EXTEND now, holds it for the next step, or is ignored. -/
  | syncMessage (m : Msg)
  /-- SEQ_RESUME (R128): A write of 1 to SEQ_CTRL.RESUME leaves HALTED after a breakpoint. -/
  | seqResume (q : Requester) (r : RegionIx) (v : Word)
  /-- DOCKET_FETCH (R149): Each fetch period with a free slot the docket unit sends a fetch request on its configured path. -/
  | docketFetch
  /-- DOCKET (R154): An arriving docket answering the outstanding fetch is checked in order and admitted or refused. -/
  | docket (c : CtlMsg)
  /-- EMPTY (R149): An EMPTY answer ends the outstanding fetch. -/
  | empty (c : CtlMsg)
  /-- FETCH_TIMEOUT (R149): No answer has come within 1 s of a fetch; a later answer is discarded. -/
  | fetchTimeout
  /-- FIT_RECHECK (R155): A docket waiting in ADMITTING for teardown resources runs check 3 again when they are freed or FIT_WAIT ends. -/
  | fitRecheck (slot : SlotIx) (waitOver : Bool)
  /-- PROGRAM_LOAD_DONE (R158): The program image load ends; check 4 runs and on a pass the regions are set up and LOADED. -/
  | programLoadDone (slot : SlotIx) (image : List Byte)
  /-- LOAD_TIMEOUT (R156): A program image load has not ended within LOAD_TIMEOUT and fails with LOAD_FAIL. -/
  | loadTimeout (slot : SlotIx)
  /-- KEY_WAIT_TIMEOUT (R161): A job's port stays in AWAIT_KEY for KEY_WAIT and the job ends ABORTED with KEY_TIMEOUT. -/
  | keyWaitTimeout (port : PortIx)
  /-- INSTALL (R163): A job control INSTALL keys the named ports of the job, or is held in the pending table. -/
  | install (c : CtlMsg)
  /-- REVOKE (R163): A job control REVOKE returns the named KEYED ports of the job to AWAIT_KEY. -/
  | revoke (c : CtlMsg)
  /-- CANCEL (R163): A job control CANCEL ends the job ABORTED through the completion arbiter, or answers TOO_LATE. -/
  | cancel (c : CtlMsg)
  /-- INSTALL_PENDING_EXPIRY (R163): A pending INSTALL entry unused for 30 s is dropped. -/
  | installPendingExpiry (entry : Fin 16)
  /-- PORT_QUIESCE_DONE (R164): A quiescing port's replay buffer empties, or 1 ms passes, and the port becomes FENCED and teardown proceeds. -/
  | portQuiesceDone (port : PortIx)
  /-- REPORT_LOST (R166): A report undeliverable for 10 s sets REPORT_LOST and is kept in the slot. -/
  | reportLost (slot : SlotIx)
  /-- WEIGHT_SEGMENT (R178): An arriving weight segment passes the ingress checks, is decrypted and lands in its tile or staging. -/
  | weightSegment (m : Msg)
  /-- WS_ANSWER (R177): A weight server's TYPE 0x52 answer retries NOT_READY or fails the load with NOT_HELD or NO_MODEL. -/
  | wsAnswer (m : Msg)
  /-- NOT_READY_RETRY (R177): 100 µs after NOT_READY the request is sent again. -/
  | notReadyRetry (load : Nat)
  /-- EPOCH_WAIT_TIMEOUT (R175): A load has waited for its epoch longer than EPOCH_WAIT and fails with cause EPOCH_WAIT. -/
  | epochWaitTimeout (load : Nat)
  /-- SEG_TIMEOUT (R180): A load without progress for SEG_TIMEOUT re-requests its missing segments, failing after RETRIES. -/
  | segTimeout (load : Nat)
  /-- LEADER_WAIT_TIMEOUT (R183): A non-leader load with no forwarded segment within LEADER_WAIT reads its missing segments itself. -/
  | leaderWaitTimeout (load : Nat)
  /-- KEY_MISSING_TIMEOUT (R187): A WLOAD or BIND waiting for its model key longer than KEY_WAIT fails with KEY_MISSING. -/
  | keyMissingTimeout (load : Nat)
  /-- CAVE_PUSH_ARRIVAL (R195): A push from a DRAIN or ROW reaches the cave controller and is stored, dropped or faulted. -/
  | cavePushArrival (r : RegionIx)
  /-- RECOMPUTE_DONE (R200): The last command of a recompute sequence completes and the dropped pop issues again from the recompute buffer. -/
  | recomputeDone (r : RegionIx)
  /-- UPD_RUN (R216): A UPD whose bucket result, area initialisation and rotations allow it updates touched rows into W images. -/
  | updRun (upd : Nat)
  /-- EGRESS_DONE (R227): Egress of a published epoch's segments to the weight server ends. -/
  | egressDone (slot : SlotIx) (model : Nat) (epoch : Nat)
  /-- EGRESS_TIMEOUT (R227): A segment not delivered within EGRESS_TIMEOUT sets EGRESS_FAIL. -/
  | egressTimeout (slot : SlotIx) (model : Nat) (epoch : Nat)
  /-- MIRROR_SEG (R232): A holder stores a mirror SEG message into the owner's W image. -/
  | mirrorSeg (m : Msg)
  /-- MIRROR_DONE (R232): A holder answers a DONE with ACK OK, MISSING or FULL. -/
  | mirrorDone (m : Msg)
  /-- MIRROR_ACK (R232): An owner acts on a holder's ACK, resending on MISSING or failing on FULL. -/
  | mirrorAck (m : Msg)
  /-- MIRROR_COMMIT (R232): A holder rotates complete W images into C on a COMMIT. -/
  | mirrorCommit (m : Msg)
  /-- MIRROR_ROLLBACK (R232): A holder restores C from P on a ROLLBACK. -/
  | mirrorRollback (m : Msg)
  /-- RESTORE_REQ (R232): A holder answers a RESTORE_REQ with the image of the step, or NOT_HELD; an owner answers a holder's rebuild request. -/
  | restoreReq (m : Msg)
  /-- RESTORE_END (R233): A restore completes and the area's image 0 is installed with INIT_DONE set. -/
  | restoreEnd (m : Msg)
  /-- MIRROR_TIMEOUT (R232): No ACK within MIRROR_TIMEOUT resends the area, setting MIRROR_FAIL after MIRROR_RETRIES. -/
  | mirrorTimeout (slot : SlotIx) (area : Nat)
  /-- INIT_TIMEOUT (R233): A restore not complete within INIT_TIMEOUT sets INIT_FAIL. -/
  | initTimeout (slot : SlotIx) (area : Nat)
  /-- LEVEL0_COMPLETE (R244): A bucket's level-0 input is complete and the CE sends its VOTE. -/
  | level0Complete (slot : SlotIx) (tag : Nat)
  /-- COLL_VOTE (R244): A VOTE packet is combined by maximum at its combining point or delivers E to the member. -/
  | collVote (m : Msg)
  /-- COLL_DATA (R245): A DATA chunk is checked and added into its level's lanes with OVL and count checks. -/
  | collData (m : Msg)
  /-- COLL_RESULT (R246): A RESULT chunk from the switch is accepted at owner and witness, or dropped as malformed. -/
  | collResult (m : Msg)
  /-- RESULT_READBACK_DONE (R246): The local shard has been read back and handed to the update engine, and its digest formed. -/
  | resultReadbackDone (slot : SlotIx) (tag : Nat)
  /-- COLL_DIGEST (R257): A witness's DIGEST arrives and the owner sets the bucket VOTED or starts re-reduction. -/
  | collDigest (m : Msg)
  /-- COLL_ABORT (R251): An ABORT discards the bucket, ends its COLLs with the cause and reports a program fault. -/
  | collAbort (m : Msg)
  /-- COLL_RESEND (R253): A RESEND makes the sender send the named chunk again unchanged. -/
  | collResend (m : Msg)
  /-- COLL_REDO (R259): A REDO makes every member re-send its retained copy at the new attempt. -/
  | collRedo (m : Msg)
  /-- COLL_MOVE (R240): A MOVE packet delivers movement bytes of AG, BCAST or A2A to the receiving member. -/
  | collMove (m : Msg)
  /-- BARRIER_ENTER (R262): All regions at STEP_END, the update engine ready and every bucket VOTED or HELD, the member sends BARRIER. -/
  | barrierEnter (slot : SlotIx)
  /-- COLL_BARRIER (R263): A combining CE ORs BARRIER payloads and returns OUTCOME when all members have entered. -/
  | collBarrier (m : Msg)
  /-- OUTCOME (R264): An OUTCOME of zeros commits the step; any other OUTCOME replays it naming the saturated layers. -/
  | outcome (m : Msg)
  /-- COLL_ROLLBACK (R265): A ROLLBACK on the commit group rolls back step k and replays it. -/
  | collRollback (m : Msg)
  /-- CHUNK_TIMEOUT (R260): A level-1 owner lacking a member's chunk sends RESEND, reporting the member unresponsive after CHUNK_RETRIES. -/
  | chunkTimeout (slot : SlotIx) (tag : Nat) (rank : Nat)
  /-- RESULT_MISSING_TIMEOUT (R259): A RESULT chunk missing after the retry period starts a re-reduction. -/
  | resultMissingTimeout (slot : SlotIx) (tag : Nat)
  /-- COLL_TIMEOUT (R260): A COLL not complete within COLL_TIMEOUT of issue sets COLL_TIMEOUT and reports it. -/
  | collTimeout (r : RegionIx) (tag : Nat)
  /-- BARRIER_TIMEOUT (R263): No OUTCOME has arrived within BARRIER_TIMEOUT of entering the barrier. -/
  | barrierTimeout (slot : SlotIx)
  /-- HEARTBEAT_SEND (R270): Every HB_PERIOD a member sends HEARTBEAT to the next two live indices. -/
  | heartbeatSend (slot : SlotIx)
  /-- HEARTBEAT (R270): A HEARTBEAT from an expected sender restarts its miss count. -/
  | heartbeat (m : Msg)
  /-- HEARTBEAT_MISS (R271): A sender missing for HB_MISS periods is suspected and SUSPECT is sent. -/
  | heartbeatMiss (slot : SlotIx) (sender : Nat)
  /-- SUSPECT (R274): A SUSPECT reaching the leader confirms a loss, probes the subject or is forwarded. -/
  | suspect (m : Msg)
  /-- PROBE (R274): A member answers a leader's PROBE with PROBE_ACK. -/
  | probe (m : Msg)
  /-- PROBE_ACK (R274): A PROBE_ACK inside PROBE_WAIT dismisses the suspicion. -/
  | probeAck (m : Msg)
  /-- PROBE_WAIT_EXPIRY (R274): PROBE_WAIT passes without PROBE_ACK and the subject is confirmed lost. -/
  | probeWaitExpiry (slot : SlotIx) (subject : Nat)
  /-- LEADER_SILENCE (R273): A suspecter gets no PROPOSE, COMMIT or PROBE in time, suspects its leader and resends to the next. -/
  | leaderSilence (slot : SlotIx)
  /-- PROPOSE (R275): A PROPOSE stops the member's regions, ends the attempt and answers ACCEPT, or ends a lost member's job. -/
  | propose (m : Msg)
  /-- ACCEPT (R276): The leader collects ACCEPTs and sends COMMIT once every live member has accepted. -/
  | accept (m : Msg)
  /-- MEMBER_COMMIT (R276): A membership COMMIT advances GEPOCH, selects the hoop, announces ranks and restarts the step. -/
  | memberCommit (m : Msg)
  /-- ACCEPT_WAIT_EXPIRY (R278): ACCEPT_WAIT passes; silent members are confirmed lost or the leader abandons for lack of quorum. -/
  | acceptWaitExpiry (slot : SlotIx)
  /-- LEAVE (R271): A LEAVE confirms its sender lost at once. -/
  | leave (m : Msg)
  /-- ABANDON (R278): An ABANDON is forwarded once and ends the member's job ABORTED with cause FAULT. -/
  | abandon (m : Msg)
  /-- JOIN (R283): A hot spare's JOIN is checked by the leader and answered with JOIN_ACK. -/
  | join (m : Msg)
  /-- JOIN_ACK (R283): A spare receiving JOIN_ACK waits when ACCEPTED, or ends its job otherwise. -/
  | joinAck (m : Msg)
  /-- SERVE_REQUEST (R289): A serving REQUEST is checked and queued for its model, or answered with REJECT. -/
  | serveRequest (m : Msg)
  /-- SERVE_CLOSE (R288): A CLOSE marks the stream closing; its context frees once no request remains. -/
  | serveClose (m : Msg)
  /-- STREAM_IDLE (R288): A stream with no REQUEST for STREAM_IDLE is closed. -/
  | streamIdle (slot : SlotIx) (sid : Nat)
  /-- QUEUE_WAIT_EXPIRY (R289): A request queued longer than QUEUE_WAIT is removed and answered REJECT TIMEOUT. -/
  | queueWaitExpiry (slot : SlotIx) (reqId : Nat)
  /-- BATCH_WAIT_EXPIRY (R290): The oldest queued request of a model has waited BATCH_WAIT, letting a partial batch form. -/
  | batchWaitExpiry (slot : SlotIx) (model : Nat)
  /-- BATCH_ADMIT (R291): When the batch conditions hold, a batch is formed, binds the current epoch slot and is released into the program. -/
  | batchAdmit (slot : SlotIx)
  /-- BATCH_DONE (R293): All regions reach STEP_END of a batch; responses are sent and the slot's BOUND falls. -/
  | batchDone (slot : SlotIx)
  /-- CACHE_LOAD (R300): CACHE_CMD LOAD sets the target epoch and starts, restarts or queues a load into the free slot. -/
  | cacheLoad (q : Requester) (v : Word)
  /-- CACHE_UNLOAD (R300): CACHE_CMD UNLOAD stops new binds and empties the entry once both slots are unbound. -/
  | cacheUnload (q : Requester) (v : Word)
  /-- CACHE_PIN (R300): CACHE_CMD PIN sets PINNED. -/
  | cachePin (q : Requester) (v : Word)
  /-- CACHE_UNPIN (R300): CACHE_CMD UNPIN clears PINNED. -/
  | cacheUnpin (q : Requester) (v : Word)
  /-- MANIFEST_CHUNK (R297): A TYPE 0x4E manifest answer is checked and stored for a cache load. -/
  | manifestChunk (m : Msg)
  /-- CACHE_RETRY (R301): A FAILED entry retries its load 10 s after the failure. -/
  | cacheRetry (entry : Fin 32)
  /-- USE_DECAY (R295): Every DECAY_S seconds every cache entry's USE is halved. -/
  | useDecay
  /-- OPEN_WRITE (R395): A cellar OPEN_WRITE command allocates blocks and opens a write session. -/
  | openWrite (f : MgtReq)
  /-- ERASE (R395): A cellar ERASE command invalidates an image and frees its blocks. -/
  | erase (f : MgtReq)
  /-- SEAL (R395): A cellar SEAL command checks the written image and commits its header, making it VALID. -/
  | seal (f : MgtReq)
  /-- ABORT (R395): A cellar ABORT command frees the session's blocks and closes it. -/
  | abort (f : MgtReq)
  /-- CELLAR_DATA (R394): A cellar data message appends image bytes to the open session, or is refused OUT_OF_ORDER. -/
  | cellarData (f : MgtReq)
  /-- CELLAR_SESSION_IDLE (R395): A write session with no data for 600 s is closed as by ABORT. -/
  | cellarSessionIdle
  /-- ROUTE_COMMIT (R317): A write of FAB.ROUTE_CTRL.COMMIT starts the route check of the inactive bank when the fabric is quiet. -/
  | routeCommit (q : Requester) (v : Word)
  /-- ROUTE_CHECK_DONE (R316): The route check ends; a passing bank becomes active, a failing one is recorded in ROUTE_RESULT. -/
  | routeCheckDone
  /-- DETOUR_DRAIN_TIMEOUT (R321): Channel 4 has drained on the old table or 20 µs passed; leftovers are discarded and the new detour table installed. -/
  | detourDrainTimeout (discarded : Nat)
  /-- VC_STALL (R326): An output forwards none of a channel's held flits for STALL_US and the stall is reported. -/
  | vcStall (r : RegionIx)
  /-- XFER_POST (R323): A RECV post reaches its peer region and a waiting SEND may match it. -/
  | xferPost (r : RegionIx)
  /-- XFER_ACK (R323): The receiving region acknowledges that every byte has landed and the SEND completes. -/
  | xferAck (r : RegionIx)
  /-- FAULT_REPORT (R327): The fault unit logs a detector's report, fences the unit and starts the class's recovery. -/
  | faultReport (rep : Report)
  /-- SENTINEL_TICK (R331): Each sentinel period every tile runs a fused GEMM check, forcing an idle window if needed. -/
  | sentinelTick (r : RegionIx) (wrong : List Nat)
  /-- BLOCK_HEARTBEAT_MISS (R332): Eight missed heartbeats of a sequencer or module-level block are reported as a REGION or MODULE fault. -/
  | blockHeartbeatMiss (page : Nat)
  /-- RECOVERY_RESUME (R339): Recovery reaches its point: cut resume with reversal or step restart, and the first command issues. -/
  | recoveryResume (slot : SlotIx)
  /-- STRIKE_WINDOW_EXPIRY (R348): Strikes older than STRIKE_WINDOW_S are forgotten. -/
  | strikeWindowExpiry
  /-- FLT_INJECT (R358): An expert write to FLT.INJECT injects a report of the named kind against the named unit. -/
  | fltInject (q : Requester) (v : Word)
  /-- FORCE_DISABLE (R356): An expert write to FLT.FORCE_DISABLE disables a page at once and aborts its items in flight. -/
  | forceDisable (q : Requester) (v : Word)
  /-- ENGINE_FAIL (R359): A buffer error, transmitter fault or PLL unlock fails an optical engine and reports an ENGINE fault. -/
  | engineFail (e : EngineIx) (cause : Nat)
  /-- ENGINE_CFG (R360): A write of OPT.CFG changes an engine's role or split and retrains its ports, or sets CFG_BUSY. -/
  | engineCfg (q : Requester) (e : EngineIx) (v : Word)
  /-- TRAIN_RETRY (R454): A port without light retries training each second in LINK_WAIT, then every 30 s. -/
  | trainRetry (port : PortIx) (light : Bool)
  /-- LINK_TRAINED (R363): A port completes lane lock, deskew, FEC lock and link initialisation and sends IDENT. -/
  | linkTrained (port : PortIx) (credits : List Nat)
  /-- IDENT (R372): An IDENT is checked for role and width and the neighbour recorded; the port becomes UP or FAULTY. -/
  | ident (m : Msg)
  /-- LINK_DOWN (R364): Two in-use lanes lose lock or light for 2 µs and the port leaves UP, discarding replay and egress. -/
  | linkDown (port : PortIx) (lanes : Nat)
  /-- DOWN_FLIT (R364): A partner's DOWN control flit takes the port down. -/
  | downFlit (port : PortIx)
  /-- DATA_FLIT (R365): A received flit is CRC-checked, accepted in order or dropped with a NAK, and its credits and ACK taken. -/
  | dataFlit (port : PortIx) (flit : List Byte)
  /-- NAK (R365): A NAK makes the sender resend from ACK plus one. -/
  | nak (port : PortIx) (ack : Nat)
  /-- REPLAY_TIMEOUT (R365): Unacknowledged flits without ACK progress for REPLAY_TIMEOUT_US are resent, failing the port after REPLAY_MAX. -/
  | replayTimeout (port : PortIx)
  /-- SINK_TIMEOUT (R367): The partner returns no credit within SINK_US and the port goes down and FAULTY. -/
  | sinkTimeout (port : PortIx)
  /-- FAULTY_EXPIRY (R369): A FAULTY port returns to DOWN after 1 s, or becomes DISABLED on its third time in 600 s. -/
  | faultyExpiry (port : PortIx)
  /-- PORT_ENABLE (R369): A write of PORT_CFG.EN disables the port, or re-enables a DISABLED port. -/
  | portEnable (q : Requester) (e : EngineIx) (k : Fin 4) (v : Word)
  /-- SER_CHECK (R376): Each second a lane's symbol error ratio is compared with SER_LIMIT and a bad lane spared. -/
  | serCheck (e : EngineIx) (lane : Fin 18) (symErrs : Nat) (symbols : Nat)
  /-- LMAP (R376): A partner's LMAP request moves a logical lane onto a spare at the next codeword boundary and is acknowledged. -/
  | lmap (e : EngineIx) (fromLane : Fin 18) (toLane : Fin 18)
  /-- LMAP_ACK (R376): An LMAP_ACK completes the spare substitution and records LANE_OUT. -/
  | lmapAck (e : EngineIx) (fromLane : Fin 18) (toLane : Fin 18)
  /-- LMAP_TIMEOUT (R376): No LMAP_ACK within 1 ms takes the port down. -/
  | lmapTimeout (e : EngineIx)
  /-- LANE_OUT_WRITE (R376): A write of 0 to a LANE_OUT bit returns a mapped-out lane to the spares when allowed. -/
  | laneOutWrite (q : Requester) (e : EngineIx) (v : Word)
  /-- SOAK (R377): BERT_CMD SOAK runs a PRBS31 soak on all lanes of an idle engine. -/
  | soak (q : Requester) (e : EngineIx) (v : Word)
  /-- BERT_RUN_NOW (R377): BERT_CMD 2 runs the next interval test at once. -/
  | bertRunNow (q : Requester) (e : EngineIx) (v : Word)
  /-- BERT_ABORT (R377): BERT_CMD 3 aborts the running test. -/
  | bertAbort (q : Requester) (e : EngineIx) (v : Word)
  /-- BERT_INTERVAL (R377): Every INTERVAL_MIN the next lane pair is moved to a spare and tested in service, or skipped. -/
  | bertInterval (e : EngineIx)
  /-- BERT_START (R377): A partner's BERT_START control flit makes the engine generate and check on that lane. -/
  | bertStart (e : EngineIx) (lane : Fin 18)
  /-- BERT_END (R377): A test ends, records its results, raises BERT_DONE and maps out a failing lane. -/
  | bertEnd (e : EngineIx) (errs : List Nat)
  /-- XFER_POST_MSG (R375): An XFER POST from a peer module makes a posted receive available to a SEND. -/
  | xferPostMsg (m : Msg)
  /-- XFER_DATA (R375): An XFER DATA message lands its bytes in the receiving tile. -/
  | xferData (m : Msg)
  /-- XFER_ACK_MSG (R375): An XFER ACK completes the module-to-module SEND. -/
  | xferAckMsg (m : Msg)
  /-- SIZE_ERR (R375): An XFER SIZE_ERR sets SEND_SIZE on both sides. -/
  | sizeErr (m : Msg)
  /-- XFER_TIMEOUT (R375): A SEND or RECV to a peer not complete within XFER_S is a program fault. -/
  | xferTimeout (r : RegionIx) (id : Nat)
  /-- TSYNC_TICK (R419): Every SYNC_MS the module sends TSYNC_REQ on the sync S-port. -/
  | tsyncTick
  /-- TSYNC_RESP (R419): A matching TSYNC_RESP gives the offset and path delay for the servo. -/
  | tsyncResp (port : PortIx) (seq : Nat) (t2 : Nat) (t3 : Nat) (t4 : Nat)
  /-- TSYNC_MISS (R419): No valid TSYNC_RESP within 1 ms; the exchange is discarded and counted. -/
  | tsyncMiss
  /-- STACK_SCRUB_TICK (R388): The stack scrub reads, corrects and remaps lines in ascending offset. -/
  | stackScrubTick (site : SiteIx) (line : Nat) (found : MemErr)
  /-- STACK_FAIL (R389): A site's controller fault, PHY fault, UE limit or exhausted spares fences it as a STACK fault. -/
  | stackFail (site : SiteIx) (cause : Nat)
  /-- STACK_REMAP_DONE (R390): The new site has been zeroed and the map updated, completing the remap. -/
  | stackRemapDone (site : SiteIx)
  /-- ZONE_FRAME (R399): Every 4.48 µs the module sends a frame of zone voltage requests. -/
  | zoneFrame
  /-- GOVERNOR_TICK (R407): Every microsecond each region recomputes its clock ceiling and VID and steps its clock. -/
  | governorTick (volts : List Nat)
  /-- DROOP (R409): A zone voltage below V_MIN′ halves the region's clock. -/
  | droop (r : RegionIx) (mv : Nat)
  /-- DROOP_END (R409): The voltage has held above the recovery level for 100 ns and full clock resumes. -/
  | droopEnd (r : RegionIx)
  /-- POWER_SAMPLE (R411): Every 10 µs a power sample updates the cap and core terms. -/
  | powerSample (zones : List Reading) (rails : List Reading)
  /-- CAP_WRITE (R411): A write of PWR.CAP sets the cap used from the next sample. -/
  | capWrite (q : Requester) (v : Word)
  /-- ALERT_ASSERT (R412): PWR_ALERT_N low sets every region's ALERT term to ALERT_K. -/
  | alertAssert (ns : Nat)
  /-- ALERT_DEASSERT (R412): PWR_ALERT_N rises and the HOLD_US wait starts. -/
  | alertDeassert
  /-- ALERT_HOLD_EXPIRY (R412): HOLD_US after the pin rose, the ALERT term starts to rise. -/
  | alertHoldExpiry
  /-- ALERT_RAMP_TICK (R412): Every 10 µs the ALERT term rises by one code up to 34. -/
  | alertRampTick
  /-- THERMAL_SAMPLE (R413): Every 10 µs temperatures are sampled and throttle, shutdown, stack throttle or trip applied. -/
  | thermalSample (temps : List TempReading)
  /-- READMIT (R414): A THERMAL_OFF region cool for 1 s becomes STANDBY at the next step release or at once. -/
  | readmit (r : RegionIx)
  /-- ZONE_TIMEOUT (R401): A zone not reaching its RUN request within 200 µs sets ZONE_TIMEOUT. -/
  | zoneTimeout (r : RegionIx)
  /-- OVERVOLT (R401): A zone above 0.95 V for 10 µs is handled as a region thermal shutdown. -/
  | overvolt (r : RegionIx)
  /-- RAIL_FAULT (R401): Another rail out of tolerance for 10 µs is a MODULE fault. -/
  | railFault (rail : Fin 7)
  /-- REFCLK_LOSS (R403): REFCLK absent or off frequency raises REFCLK_LOSS and a MODULE fault. -/
  | refclkLoss
  /-- REGION_PLL_UNLOCK (R403): A region PLL loses lock and the region's clock stops. -/
  | regionPllUnlock (r : RegionIx)
  /-- TRIM_WRITE (R423): A write of CAL.TRIM applies user trims, or is refused with TRIM_RANGE. -/
  | trimWrite (q : Requester) (r : RegionIx) (v : Word)
  /-- TSET_WRITE (R420): A write of a telemetry set is accepted, or ignored with TELEM_LOAD if over the rate limit. -/
  | tsetWrite (q : Requester) (set : Fin 16) (word : Fin 16) (v : Word)
  /-- TELEMETRY_RECORD (R420): Each set period a telemetry record is sampled and sent on the management port, or dropped. -/
  | telemetryRecord (set : Fin 16)
  /-- MMC_POWER_LOOP (R430): Every 1 ms the MMC distributes region power budgets within the cap. -/
  | mmcPowerLoop
  /-- RCC_POWER_LOOP (R430): Every 100 µs the RCC writes PT_REQ to meet its budget and temperature target. -/
  | rccPowerLoop (r : RegionIx)
  /-- MPU_TRAP (R425): A component protection violation restarts that component. -/
  | mpuTrap (cpx : Requester)
  /-- RCC_WATCHDOG (R432): An RCC misses heartbeats; its FW term goes to 0 and it restarts. -/
  | rccWatchdog (r : RegionIx) (core : Fin 3)
  /-- RCC_RESTART_DONE (R432): A restarted RCC writes its first PT_REQ and returns to RUNNING. -/
  | rccRestartDone (r : RegionIx)
  /-- MMC_WATCHDOG (R434): The active MMC misses heartbeats and the twin is promoted. -/
  | mmcWatchdog
  /-- MMC_TWIN_READY (R434): The crashed MMC has restarted as the new twin. -/
  | mmcTwinReady
  /-- MGT_LANE_FAULT (R435): The active management lane faults for 1 ms and transmission fails over. -/
  | mgtLaneFault (lane : Fin 2)
  /-- GET_INFO (R438): GET_INFO returns serial, lifecycle, module ID, image and identity key. -/
  | getInfo (f : MgtReq)
  /-- ATTEST (R446): ATTEST returns a signed quote over the nonce. -/
  | attest (f : MgtReq)
  /-- OWNER_BIND (R442): OWNER_BIND fuses the owner key hash once in the module's life. -/
  | ownerBind (f : MgtReq)
  /-- PROVISION_MGT_KEY (R443): PROVISION_MGT_KEY installs the management key after owner verification. -/
  | provisionMgtKey (f : MgtReq)
  /-- IMAGE_PUSH (R428): IMAGE_PUSH delivers firmware image bytes; on the last, the image is authenticated and the MMCs start. -/
  | imagePush (f : MgtReq)
  /-- REG_READ (R438): REG_READ returns the values of the listed registers. -/
  | regRead (f : MgtReq)
  /-- REG_WRITE (R438): REG_WRITE writes the listed registers as management-port accesses. -/
  | regWrite (f : MgtReq)
  /-- KEY_INSTALL_WEIGHT (R445): KEY_INSTALL with TARGET WEIGHT fills or replaces a job's key slot. -/
  | keyInstallWeight (f : MgtReq)
  /-- KEY_INSTALL_CACHE (R445): KEY_INSTALL with TARGET CACHE fills a model cache key slot and creates or updates its entry. -/
  | keyInstallCache (f : MgtReq)
  /-- KEY_INSTALL_MIRROR (R445): KEY_INSTALL with TARGET MIRROR fills the job's mirror key store. -/
  | keyInstallMirror (f : MgtReq)
  /-- KEY_INSTALL_EXPERT (R445): KEY_INSTALL with TARGET EXPERT installs the expert secret. -/
  | keyInstallExpert (f : MgtReq)
  /-- KEY_INSTALL_MGT (R445): KEY_INSTALL with TARGET MGT is refused DENIED. -/
  | keyInstallMgt (f : MgtReq)
  /-- KEY_ERASE (R445): KEY_ERASE erases a weight or cache slot or a mirror key. -/
  | keyErase (f : MgtReq)
  /-- LIFECYCLE_DEBUG (R447): LIFECYCLE to DEBUG with a valid token erases secrets and warm-resets. -/
  | lifecycleDebug (f : MgtReq)
  /-- LIFECYCLE_RETIRED (R447): LIFECYCLE to RETIRED erases secrets and the identity key and warm-resets. -/
  | lifecycleRetired (f : MgtReq)
  /-- NOTIFY_GAP_EXPIRY (R440): The MIN_GAP_US gap ends and a deferred NOTIFY is sent. -/
  | notifyGapExpiry
  /-- POWER_UP (R449): Power-up starts a cold reset and SELFTEST. -/
  | powerUp
  /-- MOD_RESET_ASSERT (R470): MOD_RESET_N low starts a cold reset, stops zone frames and turns off transmitters. -/
  | modResetAssert
  /-- MOD_RESET_RELEASE (R449): MOD_RESET_N release enters SELFTEST. -/
  | modResetRelease
  /-- REGION_BIST_DONE (R452): Region self-test ends; regions pass or stay fenced and the base placement is selected. -/
  | regionBistDone (failCols : List Nat) (failed : List Nat)
  /-- STACK_TRAIN_DONE (R392): Stack training ends and slots and spares are assigned. -/
  | stackTrainDone (passed : List Nat)
  /-- LINK_TRAIN_EXPIRY (R453): LINK_TRAIN ends 10 s after entry and the port table is formed. -/
  | linkTrainExpiry
  /-- HELLO_TICK (R455): In REGISTER the docket unit sends HELLO each period on a chosen path. -/
  | helloTick
  /-- ASSIGN (R457): An ASSIGN for the current HELLO sets the module ID and ends REGISTER. -/
  | assign (c : CtlMsg)
  /-- UPDATE_RESEND (R457): An unacknowledged UPDATE is re-sent every second. -/
  | updateResend
  /-- UPDATE_ACK (R457): An ACK with the UPDATE's CSEQ stops its resends and clears JOB_RESET. -/
  | updateAck (c : CtlMsg)
  /-- SPORT_STAGE_END (R459): SPORT ends 1 ms after the last UP port sent its IDENT with the assigned address. -/
  | sportStageEnd
  /-- TB_LOCK_END (R460): TB_LOCK ends on lock, no source or 5 s, and the module is READY. -/
  | tbLockEnd (timeout : Bool)
  /-- PRESENT_LOSS (R474): PRESENT_N high for 1 ms with reset released is a land-grid MODULE failure. -/
  | presentLoss
  /-- EXTEST_ENTER (R479): Loading EXTEST holds the module in cold reset. -/
  | extestEnter
  /-- EXTEST_LEAVE (R479): Leaving EXTEST runs a cold reset from SELFTEST. -/
  | extestLeave
  /-- LANE_LOCK_LOSS (R376): A single in-use receive lane loses lock and its logical lane is spared by LMAP, or the engine fails when no spare is left. -/
  | laneLockLoss (e : EngineIx) (lane : Fin 18)
  /-- MGT_LANE_UP (R435): A management lane comes up again, so messages that waited while both lanes were down can leave and that lane can carry later failovers. -/
  | mgtLaneUp (lane : Fin 2)
  /-- CLK_PLL_UNLOCK (R403): The fabric, management or time-base carrier PLL loses lock, setting CLK_PLL_UNLOCK and raising a MODULE fault. -/
  | clkPllUnlock (which : Fin 3)
  /-- CORE_CHECK_FAIL (R433): A firmware core's own uncorrectable-error checks fire, so the core fails and the spare takes its role at the next restart. -/
  | coreCheckFail (cpx : Requester) (core : Fin 3)
  /-- LOCKSTEP_MISMATCH (R332): The two lockstep copies of the fault unit disagree and the module fails as a MODULE fault. -/
  | lockstepMismatch
  /-- SELFTEST_DONE (R450): The Boot ROM self-test completes, ending the cold reset bound and entering IMAGE_LOAD. -/
  | selftestDone (ok : Bool)
  /-- UPDATE_GAP_EXPIRY (R457): UPDATE_MIN_MS has passed since the previous UPDATE, so a deferred UPDATE that carries the current port table is sent. -/
  | updateGapExpiry
  /-- CELLAR_LOAD_DONE (R297): A model-cache load from the cellar finishes reading and verifying its sealed image, making the slot READY or failing the load. -/
  | cellarLoadDone (entry : Fin 32)
  /-- BAD_MGT_FRAME (R437): A management frame or mailbox request that no opcode accepts (foreign EtherType or MAC, bad FCS, bad version, tag or SEQ, or an unknown opcode) is dropped or answered with an error status. -/
  | badMgtFrame (fr : MgtFrame)
  /-- BAD_OPCODE (R120): A command whose opcode is not in the opcode table reaches issue and is refused with BAD_OPCODE as a program fault. -/
  | badOpcode (r : RegionIx) (deferred : Bool) (c : Cmd)
  deriving DecidableEq, Repr

end Sys2Proof
end

