-- ==== Sys2Proof/Machine/Arith.lean ====
section
/-! DEFINITION. Block-scaled formats and anchored exact arithmetic (chapter 03, R47–R76) and the binary32 element
functions of the drain and the row unit (R100–R103). Everything here is exact: integers, dyadic numbers and one
rounding at the end. -/

namespace Sys2Proof.Machine

/-- An exact dyadic number m × 2^e: what every finished sum is before its one rounding (R67). -/
structure Dy where
  m : Int
  e : Int
  deriving DecidableEq, Repr

/-- ⌊m × 2^d⌋, the floor toward −∞ (R56). -/
def floorShift (m d : Int) : Int :=
  if 0 ≤ d then m * (2 ^ d.toNat : Nat) else m.fdiv (2 ^ (-d).toNat : Nat)

/-- ⌊log₂ n⌋ + 1 for n > 0, and 0 for 0: the bitlength of R74. -/
def bitLen (n : Nat) : Nat := if n = 0 then 0 else n.log2 + 1

/-- The sum of two dyadic numbers, exact. -/
def dyAdd (a b : Dy) : Dy :=
  let e := min a.e b.e
  ⟨a.m * (2 ^ (a.e - e).toNat : Nat) + b.m * (2 ^ (b.e - e).toNat : Nat), e⟩

/-- The product of two dyadic numbers, exact. -/
def dyMul (a b : Dy) : Dy := ⟨a.m * b.m, a.e + b.e⟩

/-- The negative of a dyadic number. -/
def dyNeg (a : Dy) : Dy := ⟨-a.m, a.e⟩

/-- |a| < |b| or equal: comparison of magnitudes, exact. -/
def dyAbsLe (a b : Dy) : Bool :=
  let e := min a.e b.e
  a.m.natAbs * 2 ^ (a.e - e).toNat ≤ b.m.natAbs * 2 ^ (b.e - e).toNat

/-- a ≤ b, exact. -/
def dyLe (a b : Dy) : Bool := decide ((dyAdd b (dyNeg a)).m ≥ 0)

/-- RNE(n / d) for d > 0: the nearest integer, a tie to the even one (R67). -/
def rneDiv (n : Int) (d : Nat) : Int :=
  let q := n.fdiv d
  let r := (n.fmod d).toNat
  if 2 * r < d then q
  else if d < 2 * r then q + 1
  else if q % 2 = 0 then q else q + 1

/-- RNE(v / 2^s) for a dyadic v (R68). -/
def rneShift (v : Dy) (s : Int) : Int :=
  let d := v.e - s
  if 0 ≤ d then v.m * (2 ^ d.toNat : Nat) else rneDiv v.m (2 ^ (-d).toNat)

/-- A value clamped to lo…hi. -/
def clampInt (lo hi v : Int) : Int := if v < lo then lo else if hi < v then hi else v

/-- A bit string of w bits read as two's complement. -/
def signed (w v : Nat) : Int := if v < 2 ^ (w - 1) then v else (v : Int) - (2 ^ w : Nat)

/-- The low w bits of an integer. -/
def wrap (w : Nat) (v : Int) : Nat := (v % (2 ^ w : Nat)).toNat

/-! ### Element formats (R47–R54) -/

/-- The element formats that two-bit format fields code (R123): 0 BSI8, 1 BSI4, 2 bfloat16; 3 is the Binary32 the row
unit and the update engine hold, which no format field names. -/
inductive Fmt where
  | bsi8
  | bsi4
  | bf16
  | f32
  deriving DecidableEq, Repr

/-- The format a two-bit field codes; 3 is refused with BAD_FIELD (R123). -/
def fmtOf (n : Nat) : Option Fmt :=
  if n = 0 then some .bsi8 else if n = 1 then some .bsi4 else if n = 2 then some .bf16 else none

/-- Elements in a block: 32, or 16 under BS16 (R51); 1 for a floating-point format. -/
def blockElems (f : Fmt) (bs16 : Bool) : Nat :=
  match f with
  | .bsi8 | .bsi4 => if bs16 then 16 else 32
  | .bf16 | .f32 => 1

/-- Bytes in a block (R47, R49, R51), or in one floating-point element. -/
def blockBytes (f : Fmt) (bs16 : Bool) : Nat :=
  match f with
  | .bsi8 => if bs16 then 17 else 33
  | .bsi4 => if bs16 then 9 else 17
  | .bf16 => 2
  | .f32 => 4

/-- Bytes of one stored row of n elements (R54). -/
def rowBytes (f : Fmt) (bs16 : Bool) (n : Nat) : Nat :=
  (n + blockElems f bs16 - 1) / blockElems f bs16 * blockBytes f bs16

/-- Byte k of a list, 0 past its end. -/
def byteAt (b : List Byte) (k : Nat) : Nat := (b.getD k 0).toNat

/-- The little-endian number held in n bytes at offset k. -/
def leAt (b : List Byte) (k : Nat) : Nat → Nat
  | 0 => 0
  | n + 1 => byteAt b k + 256 * leAt b (k + 1) n

/-- The big-endian number held in n bytes at offset k. -/
def beAt (b : List Byte) (k n : Nat) : Nat := (List.range n).foldl (fun a i => a * 256 + byteAt b (k + i)) 0

/-- n little-endian bytes of a number. -/
def leBytes : Nat → Nat → List Byte
  | 0, _ => []
  | n + 1, v => BitVec.ofNat 8 (v % 256) :: leBytes n (v / 256)

/-- n big-endian bytes of a number. -/
def beBytes (n v : Nat) : List Byte := (leBytes n v).reverse

/-- Element i of a BSI8 block as (M, X); the code 0x80 is read as −127 (R48). -/
def bsi8Elem (blk : List Byte) (i : Nat) : Int × Nat :=
  let m := signed 8 (byteAt blk (1 + i))
  (if m = -128 then -127 else m, byteAt blk 0)

/-- Element i of a BSI4 block as (M, X); the code 0x8 is read as −7 (R50). -/
def bsi4Elem (blk : List Byte) (i : Nat) : Int × Nat :=
  let b := byteAt blk (1 + i / 2)
  let m := signed 4 (if i % 2 = 0 then b % 16 else b / 16)
  (if m = -8 then -7 else m, byteAt blk 0)

/-- A bfloat16 value as (M, e), or none for an infinity or a NaN (R52, R57). -/
def bf16Elem (v : Nat) : Option (Int × Nat) :=
  let ef := v / 128 % 256
  let f := v % 128
  if ef = 255 then none
  else
    let m : Int := ((if ef = 0 then f else 128 + f : Nat) : Int)
    some (if v / 32768 % 2 = 1 then -m else m, if ef = 0 then 1 else ef)

/-! ### Binary32 and bfloat16 (R52, R69, R70) -/

/-- What a floating-point code stands for. -/
inductive FVal where
  | fin (v : Dy)
  | inf (neg : Bool)
  | nan
  deriving DecidableEq, Repr

/-- A binary32 code decoded exactly. -/
def f32Val (b : Nat) : FVal :=
  let neg := b / 2 ^ 31 % 2 = 1
  let ef := b / 2 ^ 23 % 256
  let f := b % 2 ^ 23
  if ef = 255 then (if f = 0 then .inf neg else .nan)
  else
    let m : Int := ((if ef = 0 then f else 2 ^ 23 + f : Nat) : Int)
    .fin ⟨if neg then -m else m, Int.ofNat (if ef = 0 then 1 else ef) - 150⟩

/-- A bfloat16 code decoded exactly: the upper half of a binary32 (R52). -/
def bf16Val (b : Nat) : FVal := f32Val (b * 65536)

/-- A rounded floating-point result: its code, and whether the exact magnitude lay beyond the largest finite value. -/
structure FRes where
  bits : Nat
  ovf : Bool
  deriving DecidableEq, Repr

/-- Round the exact |n / d| × 2^e with RNE to precision p with smallest weight 2^emin and exponent field of 8 bits; the
result is the code without its sign (R69). -/
def roundMag (p : Nat) (emin : Int) (n d : Nat) (e : Int) : FRes :=
  if n = 0 ∨ d = 0 then ⟨0, false⟩
  else
    let lg : Int := (n.log2 : Int) - d.log2
    let le : Bool :=
      if 0 ≤ lg then decide (d * 2 ^ lg.toNat ≤ n) else decide (d ≤ n * 2 ^ (-lg).toNat)
    let fl : Int := (if le then lg else lg - 1) + e
    let l : Int := max (fl - (p - 1)) emin
    let s := e - l
    let k : Nat :=
      (if 0 ≤ s then rneDiv ((n * 2 ^ s.toNat : Nat) : Int) d
       else rneDiv (n : Int) (d * 2 ^ (-s).toNat)).toNat
    let bits := k + (l - emin).toNat * 2 ^ (p - 1)
    let top := 255 * 2 ^ (p - 1)
    if bits < top - 1 then ⟨bits, false⟩
    else
      -- the limit is judged on the exact magnitude, before rounding (R100, R218)
      let d' := e - (emin + 253)
      ⟨top - 1, decide (d * (2 ^ p - 1) * 2 ^ (-d').toNat < n * 2 ^ d'.toNat)⟩

/-- Round an exact rational (n / d) × 2^e to binary32 (R69, R72): no −0, no infinity, no NaN. -/
def roundF32 (n : Int) (d : Nat) (e : Int) : FRes :=
  let r := roundMag 24 (-149) n.natAbs d e
  ⟨if n < 0 ∧ r.bits ≠ 0 then 2 ^ 31 + r.bits else r.bits, r.ovf⟩

/-- Round a dyadic number to binary32 (R69). -/
def dyF32 (v : Dy) : FRes := roundF32 v.m 1 v.e

/-- Round a dyadic number to bfloat16 (R69). -/
def dyBf16 (v : Dy) : FRes :=
  let r := roundMag 8 (-133) v.m.natAbs 1 v.e
  ⟨if v.m < 0 ∧ r.bits ≠ 0 then 2 ^ 15 + r.bits else r.bits, r.ovf⟩

/-! ### Conversion into a block (R68, R70, R71) -/

/-- The largest element magnitude c of a block format (R68). -/
def bsiMax (f : Fmt) : Int := match f with | .bsi4 => 7 | _ => 127

/-- The exponent offset of a block format (R68). -/
def bsiOff (f : Fmt) : Int := match f with | .bsi4 => 130 | _ => 134

/-- The largest magnitude of a list, as a dyadic number. -/
def maxAbs (vs : List Dy) : Dy := vs.foldl (fun a v => if dyAbsLe a v then ⟨v.m.natAbs, v.e⟩ else a) ⟨0, 0⟩

/-- The shared exponent of a block of exact values: the smallest X in 0–255 with M_max ≤ c × 2^(X − offset), and whether
none satisfies it (R68). -/
def blockExp (f : Fmt) (vs : List Dy) : Nat × Bool :=
  let mx := maxAbs vs
  if mx.m = 0 then (0, false)
  else match (List.range 256).find? (fun x : Nat => dyAbsLe mx ⟨bsiMax f, Int.ofNat x - bsiOff f⟩) with
    | some x => (x, false)
    | none => (255, true)

/-- One value as R68 and R70 take it: exact, an infinity (larger than any finite value), or a NaN (0). -/
def convIn (v : FVal) : Dy × Bool :=
  match v with
  | .fin v => (v, false)
  | .inf neg => (⟨if neg then -1 else 1, 400⟩, true)
  | .nan => (⟨0, 0⟩, true)

/-- Pack element codes into a block: the exponent byte, then the elements (R47, R49). -/
def packBlock (f : Fmt) (x : Nat) (ms : List Int) : List Byte :=
  match f with
  | .bsi4 =>
    BitVec.ofNat 8 x :: (List.range ((ms.length + 1) / 2)).map fun i =>
      BitVec.ofNat 8 (wrap 4 (ms.getD (2 * i) 0) + 16 * wrap 4 (ms.getD (2 * i + 1) 0))
  | _ => BitVec.ofNat 8 x :: ms.map fun m => BitVec.ofNat 8 (wrap 8 m)

/-- Convert a set of up to 32 (or 16) values into one block of n elements, padding with 0 (R54, R68, R70); the flag is
conversion saturation. -/
def toBlock (f : Fmt) (n : Nat) (vs : List FVal) : List Byte × Bool :=
  let cs := vs.map convIn
  let ds := cs.map (·.1)
  let (x, sat) := blockExp f ds
  let s : Int := (x : Int) - bsiOff f
  let c := bsiMax f
  let ms := ds.map fun v => clampInt (-c) c (rneShift v s)
  (packBlock f x (ms ++ List.replicate (n - ms.length) 0), sat || cs.any (·.2))

/-- Convert one value to a floating-point code of the format (R69, R70); the flag is conversion saturation, which R70
gives for infinities and NaNs. -/
def toFloat (f : Fmt) (v : FVal) : Nat × Bool :=
  match v, f with
  | .fin d, .bf16 => ((dyBf16 d).bits, false)
  | .fin d, _ => ((dyF32 d).bits, false)
  | .inf neg, .bf16 => (if neg then 0xFF7F else 0x7F7F, true)
  | .inf neg, _ => (if neg then 0xFF7FFFFF else 0x7F7FFFFF, true)
  | .nan, _ => (0, true)

/-- Whether R69 limits an exact value on its way to a floating-point format: rounded with RNE, it would exceed the
largest finite value. -/
def floatLimited (f : Fmt) (v : Dy) : Bool :=
  match f with
  | .bf16 => dyAbsLe ⟨2 ^ 9 - 1, 119⟩ v
  | .f32 => dyAbsLe ⟨2 ^ 25 - 1, 103⟩ v
  | _ => false

/-- Split a list into runs of n. -/
def chunksOf {α : Type} (n : Nat) : Nat → List α → List (List α)
  | 0, _ => []
  | fuel + 1, xs => if xs.isEmpty then [] else xs.take n :: chunksOf n fuel (xs.drop n)

/-- Encode one stored row (R54, R68, R69): its bytes, and whether any conversion saturated. -/
def encodeRow (f : Fmt) (bs16 : Bool) (vs : List FVal) : List Byte × Bool :=
  match f with
  | .bf16 | .f32 =>
    vs.foldl (fun a v => let r := toFloat f v; (a.1 ++ leBytes (blockBytes f bs16) r.1, a.2 || r.2)) ([], false)
  | .bsi8 | .bsi4 =>
    (chunksOf (blockElems f bs16) vs.length vs).foldl
      (fun a c => let r := toBlock f (blockElems f bs16) c; (a.1 ++ r.1, a.2 || r.2)) ([], false)

/-- Element i of a stored row, decoded exactly (R48, R50, R52, R70). -/
def rowElem (f : Fmt) (bs16 : Bool) (row : List Byte) (i : Nat) : FVal :=
  let n := blockElems f bs16
  let blk := row.drop (i / n * blockBytes f bs16)
  match f with
  | .bsi8 => let (m, x) := bsi8Elem blk (i % n); .fin ⟨m, (x : Int) - 134⟩
  | .bsi4 => let (m, x) := bsi4Elem blk (i % n); .fin ⟨m, (x : Int) - 130⟩
  | .bf16 => bf16Val (leAt blk 0 2)
  | .f32 => f32Val (leAt blk 0 4)

/-- The first n elements of a stored row. -/
def decodeRow (f : Fmt) (bs16 : Bool) (row : List Byte) (n : Nat) : List FVal :=
  (List.range n).map (rowElem f bs16 row)

/-- sr_bits(seed, step, block, elem) of R71. -/
def srBits (seed step block elem : Nat) : Nat :=
  let x : BitVec 64 := BitVec.ofNat 64 seed ^^^ (BitVec.ofNat 64 (step % 2 ^ 32) <<< 32)
    ^^^ (BitVec.ofNat 64 (block % 2 ^ 27) <<< 5) ^^^ BitVec.ofNat 64 elem
  let x := (x ^^^ (x >>> 30)) * 0xBF58476D1CE4E5B9#64
  let x := (x ^^^ (x >>> 27)) * 0x94D049BB133111EB#64
  ((x ^^^ (x >>> 31)) >>> 48).toNat

/-- A fresh BSI8 block rounded stochastically (R71): the exponent as R68 chooses it, then ⌊v / 2^s + r / 65536⌋. -/
def srBlock (seed step block : Nat) (vs : List Dy) : List Byte × Bool :=
  let (x, sat) := blockExp .bsi8 vs
  let s : Int := (x : Int) - 134
  let ms := vs.zipIdx.map fun (v, i) =>
    let sum := dyAdd ⟨v.m, v.e - s⟩ ⟨srBits seed step block i, -16⟩
    clampInt (-127) 127 (floorShift sum.m sum.e)
  (packBlock .bsi8 x (ms ++ List.replicate (32 - ms.length) 0), sat)

/-! ### Anchored accumulation (R55–R60, R63, R64) -/

/-- One anchored accumulation (R58, R59): its anchor, extended sum, addend count and overflow state. -/
structure Acc where
  anchor : Int := 0
  sum : Int := 0
  count : Nat := 0
  ovf : Bool := false
  deriving DecidableEq, Repr

/-- Add one addend (R59): clamped to 64 bits, counted, discarded past 2^24 addends. -/
def accAdd (a : Acc) (q : Int) : Acc :=
  let c := clampInt (-(2 ^ 63)) (2 ^ 63 - 1) q
  if 16777216 ≤ a.count then { a with ovf := true }
  else { a with sum := a.sum + c, count := a.count + 1, ovf := a.ovf || c != q }

/-- The value the drain reads, and the overflow state at the read (R60). -/
def accRead (a : Acc) : Int × Bool :=
  let s := clampInt (-(2 ^ 63)) (2 ^ 63 - 1) a.sum
  (s, a.ovf || s != a.sum)

/-- One operand element of the array: its integer, its exponent, and its format; none for a non-finite bfloat16. -/
structure Opnd where
  m : Int
  x : Nat
  f : Fmt
  deriving DecidableEq, Repr

/-- Whether R55 lists an operand pair. -/
def pairOk (a b : Fmt) : Bool :=
  match a, b with
  | .bsi8, .bsi8 | .bsi8, .bsi4 | .bsi4, .bsi8 | .bsi4, .bsi4 | .bf16, .bf16 => true
  | _, _ => false

/-- The exponent shift d of R55 for a pair and an anchor. -/
def pairShift (a b : Opnd) (anchor : Int) : Int :=
  let c : Int := match a.f, b.f with
    | .bsi4, .bsi4 => 220
    | .bsi8, .bsi4 | .bsi4, .bsi8 => 224
    | _, _ => 228
  (a.x : Int) + b.x - c - anchor

/-- The addend q = ⌊P × 2^d⌋ of one product (R56). -/
def addend (a b : Opnd) (anchor : Int) : Int := floorShift (a.m * b.m) (pairShift a b anchor)

/-- The vat addend u of an exact value at an effective vat anchor, and whether it was clamped (R63, R64, R110). -/
def vatAddend (v : Dy) (vEff : Int) : Int × Bool :=
  let u := floorShift v.m (v.e - (vEff - 24))
  let c := clampInt (-(2 ^ 24 - 1)) (2 ^ 24 - 1) u
  (c, c != u)

/-- The smallest integer e with every |v| < 2^e; −32768 when every value is 0 (R74). -/
def voteExp (vs : List Dy) : Int :=
  vs.foldl (fun a v => if v.m = 0 then a else max a ((bitLen v.m.natAbs : Int) + v.e)) (-32768)

/-- The lane integer q = ⌊v / 2^L⌋ of R75. -/
def laneInt (v : Dy) (l : Int) : Int := floorShift v.m (v.e - l)

/-- ⌈log₂ n⌉, 0 for n ≤ 1 (R75: H of N01). -/
def ceilLog2 (n : Nat) : Nat := if n ≤ 1 then 0 else (n - 1).log2 + 1

/-- L of R75. -/
def laneScale (e : Int) (h : Nat) : Int := if e = -32768 then 0 else e - 31 + h

/-! ### Binary32 arithmetic (R72, R100) -/

/-- A binary32 result with the flags R100 gives it: CONV_SAT and NONFINITE. -/
structure FOp where
  bits : Nat
  sat : Bool := false
  nonfin : Bool := false
  deriving DecidableEq, Repr

/-- The exact value of a binary32 code; a non-finite input is taken as 0 (R100). -/
def fDy (b : Nat) : Dy := match f32Val b with | .fin v => v | _ => ⟨0, 0⟩

/-- Round an exact rational as a binary32 operation (R72, R100). -/
def fRound (n : Int) (d : Nat) (e : Int) : FOp := let r := roundF32 n d e; ⟨r.bits, r.ovf, false⟩

/-- Binary32 addition. -/
def fAdd (a b : Nat) : FOp := let v := dyAdd (fDy a) (fDy b); fRound v.m 1 v.e

/-- Binary32 negation; there is no −0. -/
def fNeg (a : Nat) : Nat := if a % 2 ^ 31 = 0 then 0 else (a + 2 ^ 31) % 2 ^ 32

/-- Binary32 magnitude. -/
def fAbs (a : Nat) : Nat := a % 2 ^ 31

/-- Binary32 subtraction. -/
def fSub (a b : Nat) : FOp := let v := dyAdd (fDy a) (dyNeg (fDy b)); fRound v.m 1 v.e

/-- Binary32 multiplication. -/
def fMul (a b : Nat) : FOp := let v := dyMul (fDy a) (fDy b); fRound v.m 1 v.e

/-- a · b + c rounded once (R101). -/
def fFma (a b c : Nat) : FOp := let v := dyAdd (dyMul (fDy a) (fDy b)) (fDy c); fRound v.m 1 v.e

/-- Binary32 division; 0 / 0 is invalid (+0), x / 0 the largest finite value of the sign (R100). -/
def fDiv (a b : Nat) : FOp :=
  let x := fDy a
  let y := fDy b
  if y.m = 0 then
    if x.m = 0 then ⟨0, false, true⟩ else ⟨if x.m < 0 then 0xFF7FFFFF else 0x7F7FFFFF, false, true⟩
  else fRound (if y.m < 0 then -x.m else x.m) y.m.natAbs (x.e - y.e)

/-- The integer square root by bisection over `fuel` bits. -/
def isqrt (n : Nat) : Nat → Nat → Nat
  | 0, r => r
  | fuel + 1, r => let t := r + 2 ^ fuel; isqrt n fuel (if t * t ≤ n then t else r)

/-- The correctly rounded binary32 square root; a negative operand is invalid (R100). -/
def fSqrt (a : Nat) : FOp :=
  let v := fDy a
  if v.m < 0 then ⟨0, false, true⟩
  else if v.m = 0 then ⟨0, false, false⟩
  else
    -- scale so that the root has at least 60 bits, then keep one sticky bit for the remainder
    let odd := (v.e % 2).toNat
    let n := v.m.natAbs * 2 ^ (odd + 160)
    let r := isqrt n 128 0
    let sticky := if r * r = n then 0 else 1
    fRound (2 * r + sticky : Nat) 1 ((v.e - odd - 160) / 2 - 1)

/-- Fixed-point precision of the element-function primitives, in bits. Every binary32 result of eˣ, tanh and ln(1 + x)
is decided far inside this precision (DEDUCED, log 8). -/
def fxBits : Nat := 420

/-- eʳ in fixed point for a small r: the Taylor series, terms n, n+1, …. -/
def fxExpSeries (r : Int) : Nat → Nat → Int → Int → Int
  | 0, _, _, acc => acc
  | fuel + 1, n, term, acc =>
    let t := (term * r).fdiv (((n + 1) * 2 ^ fxBits : Nat) : Int)
    fxExpSeries r fuel (n + 1) t (acc + t)

/-- Square a fixed-point number k times. -/
def fxSquare : Nat → Int → Int
  | 0, v => v
  | k + 1, v => fxSquare k ((v * v).fdiv (2 ^ fxBits : Nat))

/-- e^x in fixed point for a dyadic x with |x| < 2^10: halve until small, sum the series, square back. -/
def fxExp (x : Dy) : Int :=
  let r := floorShift x.m (x.e + fxBits - 18)
  fxSquare 18 (fxExpSeries r 60 0 (2 ^ fxBits : Nat) (2 ^ fxBits : Nat))

/-- EXP(x) = RNE(eˣ) in binary32 (R101). -/
def fExp (a : Nat) : FOp :=
  let x := fDy a
  if dyLe ⟨90, 0⟩ x then ⟨0x7F7FFFFF, true, false⟩
  else if dyLe x ⟨-110, 0⟩ then ⟨0, false, false⟩
  else fRound (fxExp x) 1 (-(fxBits : Int))

/-- TANH(x) = RNE(tanh x) in binary32 (R101). -/
def fTanh (a : Nat) : FOp :=
  let x := fDy a
  if x.m = 0 then ⟨0, false, false⟩
  else if dyAbsLe ⟨1, 5⟩ x then ⟨if x.m < 0 then 0xBF800000 else 0x3F800000, false, false⟩
  else if dyAbsLe x ⟨1, -60⟩ then ⟨a, false, false⟩
  else
    let e := fxExp ⟨-2 * x.m.natAbs, x.e⟩
    let one : Int := (2 ^ fxBits : Nat)
    fRound (if x.m < 0 then e - one else one - e) (one + e).toNat 0

/-- The series of atanh(z)/z · z in fixed point: z + z³/3 + z⁵/5 + …. -/
def fxAtanh (z2 : Int) : Nat → Nat → Int → Int → Int
  | 0, _, _, acc => acc
  | fuel + 1, k, p, acc =>
    let p' := (p * z2).fdiv (2 ^ fxBits : Nat)
    fxAtanh z2 fuel (k + 2) p' (acc + p'.fdiv (k + 2))

/-- LOG1P(x) = RNE(ln(1 + x)) in binary32 for x in 0…1, the range R102 uses it on; a negative x is invalid. -/
def fLog1p (a : Nat) : FOp :=
  let x := fDy a
  if x.m < 0 then ⟨0, false, true⟩
  else if x.m = 0 then ⟨0, false, false⟩
  else if dyAbsLe x ⟨1, -60⟩ then ⟨a, false, false⟩
  else
    let xf := floorShift x.m (x.e + fxBits)
    let z := (xf * (2 ^ fxBits : Nat)).fdiv (2 * (2 ^ fxBits : Nat) + xf)
    let z2 := (z * z).fdiv (2 ^ fxBits : Nat)
    fRound (2 * fxAtanh z2 150 1 z z) 1 (-(fxBits : Int))

/-- The binary32 constants of R101: C1 nearest to 0.044715. -/
def constC1 : Nat := (roundF32 44715 1000000 0).bits

/-- C3 nearest to 0.134145. -/
def constC3 : Nat := (roundF32 134145 1000000 0).bits

/-- K2 nearest to 2√(2/π) = 1.5957691216057307117597842397375… -/
def constK2 : Nat := (roundF32 15957691216057307117597842397375 10000000000000000000000000000000 0).bits

/-- The binary32 code of 1. -/
def fOne : Nat := 0x3F800000

/-- Collects the flags of a sequence of binary32 operations. -/
structure FAcc where
  sat : Bool := false
  nonfin : Bool := false
  deriving DecidableEq, Repr

/-- Run one operation, keeping its flags. -/
def fRun (st : FAcc) (r : FOp) : Nat × FAcc := (r.bits, ⟨st.sat || r.sat, st.nonfin || r.nonfin⟩)

/-- sig_parts of R102: (σ(x), σ(−x)). -/
def sigParts (x : Nat) (st : FAcc) : Nat × Nat × FAcc :=
  let (e, st) := fRun st (fExp (fNeg (fAbs x)))
  let (t, st) := fRun st (fAdd fOne e)
  let (p, st) := fRun st (fDiv fOne t)
  let (q, st) := fRun st (fDiv e t)
  if x / 2 ^ 31 % 2 = 0 then (p, q, st) else (q, p, st)

/-- The inner value v of gelu: p = z·z; h = C1·p; g = FMA(h, z, z); v = K2·g. Returns (p, v). -/
def geluInner (z : Nat) (st : FAcc) : Nat × Nat × FAcc :=
  let (p, st) := fRun st (fMul z z)
  let (h, st) := fRun st (fMul constC1 p)
  let (g, st) := fRun st (fFma h z z)
  let (v, st) := fRun st (fMul constK2 g)
  (p, v, st)

/-- f(z) of R102 by FUNC code: 2 GELU, 3 SiLU, 4 sigmoid, 5 tanh, 6 softplus. -/
def elemFn (func z : Nat) (st : FAcc) : Nat × FAcc :=
  match func with
  | 2 =>
    let (_, v, st) := geluInner z st
    let (s, _, st) := sigParts v st
    fRun st (fMul z s)
  | 3 => let (s, _, st) := sigParts z st; fRun st (fMul z s)
  | 4 => let (s, _, st) := sigParts z st; (s, st)
  | 5 => fRun st (fTanh z)
  | 6 =>
    let (e, st) := fRun st (fExp (fNeg (fAbs z)))
    let (l, st) := fRun st (fLog1p e)
    fRun st (fAdd (if z / 2 ^ 31 % 2 = 1 then 0 else z) l)
  | _ => (z, st)

/-- f′(z) of R102 by FUNC code. -/
def elemFnD (func z : Nat) (st : FAcc) : Nat × FAcc :=
  match func with
  | 2 =>
    let (p, v, st) := geluInner z st
    let (s, c, st) := sigParts v st
    let (m, st) := fRun st (fFma constC3 p fOne)
    let (r, st) := fRun st (fMul constK2 m)
    let (w, st) := fRun st (fMul s c)
    let (x, st) := fRun st (fMul z w)
    fRun st (fFma x r s)
  | 3 =>
    let (s, c, st) := sigParts z st
    let (f, st) := fRun st (fFma z c fOne)
    fRun st (fMul s f)
  | 4 =>
    let (e, st) := fRun st (fExp (fNeg (fAbs z)))
    let (t, st) := fRun st (fAdd fOne e)
    let (tt, st) := fRun st (fMul t t)
    fRun st (fDiv e tt)
  | 5 =>
    let (b, st) := fRun st (fMul 0x40000000 (fAbs z))
    let (e, st) := fRun st (fExp (fNeg b))
    let (t, st) := fRun st (fAdd fOne e)
    let (n, st) := fRun st (fMul 0x40800000 e)
    let (tt, st) := fRun st (fMul t t)
    fRun st (fDiv n tt)
  | 6 => let (s, _, st) := sigParts z st; (s, st)
  | _ => (fOne, st)

/-! ### Row functions (R104–R106) -/

/-- The anchor of a row sum: the smallest e with every |t| < 2^e, clamped to −128…127 (R105). -/
def rowAnchor (ts : List Nat) : Int :=
  let e := voteExp (ts.map fDy)
  clampInt (-128) 127 e

/-- The integer row sum at an anchor, as an exact dyadic number (R105). -/
def rowSum (a : Int) (ts : List Nat) : Dy :=
  ⟨ts.foldl (fun s t => s + floorShift (fDy t).m ((fDy t).e + 40 - a)) 0, a - 40⟩

/-- RNE(SUM / n) in binary32 (R105). -/
def meanOf (s : Dy) (n : Nat) : FOp := fRound s.m n s.e

/-- x ≤ y for finite binary32 codes. -/
def fLe (x y : Nat) : Bool := dyLe (fDy x) (fDy y)

/-- The largest element of a row (R105). -/
def fMaxList (xs : List Nat) : Nat :=
  match xs with
  | [] => 0
  | x :: r => r.foldl (fun a y => if fLe a y then y else a) x

/-- One binary32 operation on each element; each element's flags gather on their own. -/
def mapF (fs : List FAcc) (xs : List Nat) (op : Nat → FOp) : List Nat × List FAcc :=
  let l := (xs.zip fs).map fun p => fRun p.2 (op p.1)
  (l.map (·.1), l.map (·.2))

/-- One binary32 operation on each pair of elements; each element's flags gather on their own. -/
def zipF (fs : List FAcc) (xs ys : List Nat) (op : Nat → Nat → FOp) : List Nat × List FAcc :=
  let l := ((xs.zip ys).zip fs).map fun p => fRun p.2 (op p.1.1 p.1.2)
  (l.map (·.1), l.map (·.2))

end Sys2Proof.Machine
end

