-- ==== Sys2Proof/Machine/Crypto.lean ====
section
/-! DEFINITION. The checks and ciphers that the spec names: CRC-64/ECMA-182 (R250), CRC-32C (R253), SHA-256 and SHA-384,
HMAC-SHA-256 (R41, R436), HKDF-SHA-384 and AES-256-GCM (R178, R444), ECDSA and ECDH over P-384 (R153, R428, R444). They
are written from the public standards that the spec cites; the spec's own check values are tests. -/

namespace Sys2Proof.Machine

/-! ### Cyclic redundancy checks -/

/-- One byte of CRC-64/ECMA-182: polynomial 0x42F0E1EBA9EA3693, most significant bit first. -/
def crc64Byte (c : Word) (b : Byte) : Word :=
  (List.range 8).foldl (fun c _ => if c.msb then (c <<< 1) ^^^ 0x42F0E1EBA9EA3693#64 else c <<< 1)
    (c ^^^ (b.zeroExtend 64 <<< 56))

/-- CRC-64/ECMA-182 (R250): initial value 0, no reflection, no final XOR. -/
def crc64 (b : List Byte) : Word := b.foldl crc64Byte 0#64

/-- One byte of a reflected 32-bit CRC with the given reflected polynomial. -/
def crc32Byte (poly c : BitVec 32) (b : Byte) : BitVec 32 :=
  (List.range 8).foldl (fun c _ => if c.getLsbD 0 then (c >>> 1) ^^^ poly else c >>> 1) (c ^^^ b.zeroExtend 32)

/-- CRC-32C (R253): polynomial 0x1EDC6F41 reflected, initial value and final XOR all ones. -/
def crc32c (b : List Byte) : BitVec 32 := ~~~ (b.foldl (crc32Byte 0x82F63B78#32) 0xFFFFFFFF#32)

/-! ### The SHA-2 family -/

/-- The first n primes, by trial division over numbers below a bound. -/
def primesBelow (n : Nat) : List Nat :=
  (List.range n).filter fun p => decide (2 ≤ p) && (List.range p).all fun d => decide (d < 2) || decide (p % d ≠ 0)

/-- The largest r below 2^fuel + r₀ with r^k ≤ n: an integer root by bisection. -/
def iroot (k n : Nat) : Nat → Nat → Nat
  | 0, r => r
  | fuel + 1, r => let t := r + 2 ^ fuel; iroot k n fuel (if t ^ k ≤ n then t else r)

/-- The first w bits of the fractional part of the k-th root of p: how FIPS 180-4 defines the SHA-2 constants. -/
def rootFrac (k w p : Nat) : Nat := iroot k (p * 2 ^ (k * w)) (w + 8) 0 % 2 ^ w

/-- The parameters by which SHA-256 and SHA-512 differ. -/
structure ShaParam where
  w : Nat
  rounds : Nat
  s0 : Nat × Nat × Nat
  s1 : Nat × Nat × Nat
  t0 : Nat × Nat × Nat
  t1 : Nat × Nat × Nat
  k : List Nat

/-- SHA-256. -/
def sha256Param : ShaParam :=
  ⟨32, 64, (2, 13, 22), (6, 11, 25), (7, 18, 3), (17, 19, 10), (primesBelow 312).map (rootFrac 3 32)⟩

/-- SHA-512, of which SHA-384 is a truncation with its own initial values. -/
def sha512Param : ShaParam :=
  ⟨64, 80, (28, 34, 39), (14, 18, 41), (1, 8, 7), (19, 61, 6), (primesBelow 410).map (rootFrac 3 64)⟩

/-- Rotate right in w bits. -/
def rotr (w x n : Nat) : Nat := x / 2 ^ n + x % 2 ^ n * 2 ^ (w - n)

/-- Σ: three rotations XORed. -/
def shaBig (w : Nat) (r : Nat × Nat × Nat) (x : Nat) : Nat := rotr w x r.1 ^^^ rotr w x r.2.1 ^^^ rotr w x r.2.2

/-- σ: two rotations and a shift XORed. -/
def shaSmall (w : Nat) (r : Nat × Nat × Nat) (x : Nat) : Nat := rotr w x r.1 ^^^ rotr w x r.2.1 ^^^ (x / 2 ^ r.2.2)

/-- The message schedule, newest word first. -/
def shaSchedule (p : ShaParam) : Nat → List Nat → List Nat
  | 0, ws => ws
  | fuel + 1, ws =>
    let v := (shaSmall p.w p.t1 (ws.getD 1 0) + ws.getD 6 0 + shaSmall p.w p.t0 (ws.getD 14 0) + ws.getD 15 0) % 2 ^ p.w
    shaSchedule p fuel (v :: ws)

/-- One round on the eight working variables. -/
def shaRound (p : ShaParam) (h : List Nat) (kw : Nat × Nat) : List Nat :=
  match h with
  | [a, b, c, d, e, f, g, hh] =>
    let ch := (e &&& f) ^^^ ((2 ^ p.w - 1 - e) &&& g)
    let t1 := hh + shaBig p.w p.s1 e + ch + kw.1 + kw.2
    let maj := (a &&& b) ^^^ (a &&& c) ^^^ (b &&& c)
    let t2 := shaBig p.w p.s0 a + maj
    [(t1 + t2) % 2 ^ p.w, a, b, c, (d + t1) % 2 ^ p.w, e, f, g]
  | _ => h

/-- One block of the compression function. -/
def shaBlock (p : ShaParam) (h : List Nat) (blk : List Byte) : List Nat :=
  let n := p.w / 8
  let ws := ((List.range 16).map fun i => beAt blk (n * i) n).reverse
  let sched := (shaSchedule p (p.rounds - 16) ws).reverse
  let r := (p.k.zip sched).foldl (shaRound p) h
  (h.zip r).map fun q => (q.1 + q.2) % 2 ^ p.w

/-- The padded message, as FIPS 180-4 lays down. -/
def shaPad (p : ShaParam) (b : List Byte) : List Byte :=
  let blk := 2 * p.w
  let lenBytes := p.w / 4
  let z := (blk - (b.length + 1 + lenBytes) % blk) % blk
  b ++ [0x80#8] ++ List.replicate z 0#8 ++ beBytes lenBytes (8 * b.length)

/-- The hash of a message from initial values. -/
def shaHash (p : ShaParam) (iv : List Nat) (b : List Byte) : List Byte :=
  let m := shaPad p b
  let hs := (chunksOf (2 * p.w) m.length m).foldl (shaBlock p) iv
  hs.flatMap (beBytes (p.w / 8))

/-- SHA-256. -/
def sha256 (b : List Byte) : List Byte :=
  shaHash sha256Param (((primesBelow 20).take 8).map (rootFrac 2 32)) b

/-- SHA-384: SHA-512 from the ninth to sixteenth primes' roots, the first 48 bytes. -/
def sha384 (b : List Byte) : List Byte :=
  (shaHash sha512Param (((primesBelow 54).drop 8).map (rootFrac 2 64)) b).take 48

/-- HMAC over a hash with the given block size (RFC 2104). -/
def hmacWith (hash : List Byte → List Byte) (blk : Nat) (key msg : List Byte) : List Byte :=
  let k0 := if key.length ≤ blk then key else hash key
  let k := k0 ++ List.replicate (blk - k0.length) 0#8
  hash (k.map (· ^^^ 0x5C#8) ++ hash (k.map (· ^^^ 0x36#8) ++ msg))

/-- HMAC-SHA-256. -/
def hmac256 (key msg : List Byte) : List Byte := hmacWith sha256 64 key msg

/-- HMAC-SHA-384. -/
def hmac384 (key msg : List Byte) : List Byte := hmacWith sha384 128 key msg

/-- HKDF-SHA-384 to at most 48 bytes (RFC 5869). -/
def hkdf384 (salt ikm info : List Byte) (n : Nat) : List Byte :=
  (hmac384 (hmac384 salt ikm) (info ++ [1#8])).take n

/-! ### AES-256-GCM -/

/-- Multiply by x in the AES field. -/
def xtime (a : Byte) : Byte := if a.msb then (a <<< 1) ^^^ 0x1B#8 else a <<< 1

/-- Multiply in the AES field. -/
def gmul (a b : Byte) : Byte :=
  ((List.range 8).foldl (fun (st : Byte × Byte) i => (if b.getLsbD i then st.1 ^^^ st.2 else st.1, xtime st.2)) (0#8, a)).1

/-- The inverse in the AES field: a^254. -/
def ginv (a : Byte) : Byte := (List.range 253).foldl (fun p _ => gmul p a) a

/-- One S-box entry: the field inverse and the affine map of FIPS 197. -/
def sboxOf (a : Byte) : Byte :=
  let b := ginv a
  b ^^^ b.rotateLeft 1 ^^^ b.rotateLeft 2 ^^^ b.rotateLeft 3 ^^^ b.rotateLeft 4 ^^^ 0x63#8

/-- The AES S-box. -/
def aesSbox : Array Byte := ((List.range 256).map fun i => sboxOf (BitVec.ofNat 8 i)).toArray

/-- Substitute one byte. -/
def subByte (t : Array Byte) (b : Byte) : Byte := t.getD b.toNat 0#8

/-- XOR of two byte strings, to the shorter length. -/
def xorBytes (a b : List Byte) : List Byte := (a.zip b).map fun p => p.1 ^^^ p.2

/-- Words of the AES-256 key schedule, newest first. -/
def aesExpand (t : Array Byte) : Nat → Nat → Byte → List (List Byte) → List (List Byte)
  | 0, _, _, ws => ws
  | fuel + 1, i, rc, ws =>
    let prev := ws.headD []
    let tmp :=
      if i % 8 = 0 then xorBytes ((prev.drop 1 ++ prev.take 1).map (subByte t)) [rc, 0#8, 0#8, 0#8]
      else if i % 8 = 4 then prev.map (subByte t) else prev
    aesExpand t fuel (i + 1) (if i % 8 = 0 then xtime rc else rc) (xorBytes (ws.getD 7 []) tmp :: ws)

/-- The fifteen round keys of an AES-256 key. -/
def aesKeys (t : Array Byte) (key : List Byte) : List (List Byte) :=
  let ws := (aesExpand t 52 8 1#8 (chunksOf 4 8 key).reverse).reverse
  (chunksOf 4 15 ws).map List.flatten

/-- MixColumns on one column. -/
def mixColumn (c : List Byte) : List Byte :=
  (List.range 4).map fun i =>
    let g := fun k => c.getD ((i + k) % 4) 0#8
    gmul 2#8 (g 0) ^^^ gmul 3#8 (g 1) ^^^ g 2 ^^^ g 3

/-- ShiftRows. -/
def shiftRows (b : List Byte) : List Byte := (List.range 16).map fun i => b.getD ((i + 4 * (i % 4)) % 16) 0#8

/-- The AES-256 block cipher. -/
def aesBlock (t : Array Byte) (rk : List (List Byte)) (b : List Byte) : List Byte :=
  let b0 := xorBytes b (rk.headD [])
  let mid := ((rk.drop 1).take 13).foldl (fun st k =>
    xorBytes ((chunksOf 4 4 (shiftRows (st.map (subByte t)))).flatMap mixColumn) k) b0
  xorBytes (shiftRows (mid.map (subByte t))) (rk.getD 14 [])

/-- Multiply in GF(2^128) as GCM orders its bits. -/
def ghashMul (x y : BitVec 128) : BitVec 128 :=
  ((List.range 128).foldl (fun (st : BitVec 128 × BitVec 128) i =>
    (if x.getLsbD (127 - i) then st.1 ^^^ st.2 else st.1,
     if st.2.getLsbD 0 then (st.2 >>> 1) ^^^ (0xE1#128 <<< 120) else st.2 >>> 1)) (0#128, y)).1

/-- GHASH of a byte string padded to whole blocks. -/
def ghash (h : BitVec 128) (b : List Byte) : BitVec 128 :=
  (chunksOf 16 b.length b).foldl (fun y c => ghashMul (y ^^^ BitVec.ofNat 128 (beAt c 0 16)) h) 0#128

/-- Zero padding to a multiple of 16 bytes. -/
def pad16 (b : List Byte) : List Byte := b ++ List.replicate ((16 - b.length % 16) % 16) 0#8

/-- AES-256-GCM with a 12-byte nonce: decrypt and check the tag. -/
def gcmOpen (key nonce aad ct tag : List Byte) : Option (List Byte) :=
  let t := aesSbox
  let rk := aesKeys t key
  let h := BitVec.ofNat 128 (beAt (aesBlock t rk (List.replicate 16 0#8)) 0 16)
  let blk := fun (i : Nat) => aesBlock t rk (nonce ++ beBytes 4 i)
  let g := ghash h (pad16 aad ++ pad16 ct ++ beBytes 8 (8 * aad.length) ++ beBytes 8 (8 * ct.length))
  if xorBytes (beBytes 16 g.toNat) (blk 1) = tag then
    some ((chunksOf 16 ct.length ct).zipIdx.flatMap fun p => xorBytes p.1 (blk (p.2 + 2)))
  else none

/-- AES-256-GCM with a 12-byte nonce: encrypt, giving ciphertext and tag. -/
def gcmSeal (key nonce aad pt : List Byte) : List Byte × List Byte :=
  let t := aesSbox
  let rk := aesKeys t key
  let h := BitVec.ofNat 128 (beAt (aesBlock t rk (List.replicate 16 0#8)) 0 16)
  let blk := fun (i : Nat) => aesBlock t rk (nonce ++ beBytes 4 i)
  let ct := (chunksOf 16 pt.length pt).zipIdx.flatMap fun p => xorBytes p.1 (blk (p.2 + 2))
  let g := ghash h (pad16 aad ++ pad16 ct ++ beBytes 8 (8 * aad.length) ++ beBytes 8 (8 * ct.length))
  (ct, xorBytes (beBytes 16 g.toNat) (blk 1))

/-! ### P-384 -/

/-- The field prime of P-384. -/
def p384P : Nat := 2 ^ 384 - 2 ^ 128 - 2 ^ 96 + 2 ^ 32 - 1

/-- The order of P-384. -/
def p384N : Nat :=
  0xffffffffffffffffffffffffffffffffffffffffffffffffc7634d81f4372ddf581a0db248b0a77aecec196accc52973

/-- The coefficient b of P-384. -/
def p384B : Nat :=
  0xb3312fa7e23ee7e4988e056be3f82d19181d9c6efe8141120314088f5013875ac656398d8a2ed19d2a85c8edd3ec2aef

/-- The base point of P-384. -/
def p384G : Nat × Nat :=
  (0xaa87ca22be8b05378eb1c71ef320ad746e1d3b628ba79b9859f741e082542a385502f25dbf55296c3a545e3872760ab7,
   0x3617de4a96262c6f5d9e98bf9292dc29f8f41dbd289a147ce9da3113b5f0b8c00a60b1ce1d7e819d7a431d7c90ea0e5f)

/-- Modular power by squaring, over the bits of the exponent. -/
def powMod (m b : Nat) : Nat → Nat → Nat → Nat
  | 0, _, acc => acc
  | fuel + 1, e, acc =>
    powMod m (b * b % m) fuel (e / 2) (if e % 2 = 1 then acc * b % m else acc)

/-- The inverse modulo a prime. -/
def invMod (m a : Nat) : Nat := powMod m (a % m) 384 (m - 2) 1

/-- Subtraction modulo p. -/
def subP (a b : Nat) : Nat := (a + p384P - b % p384P) % p384P

/-- Point addition on P-384; none is the point at infinity. -/
def ecAdd : Option (Nat × Nat) → Option (Nat × Nat) → Option (Nat × Nat)
  | none, q => q
  | p, none => p
  | some (x1, y1), some (x2, y2) =>
    if x1 = x2 ∧ (y1 + y2) % p384P = 0 then none
    else
      let l := if x1 = x2 then (3 * x1 * x1 + p384P - 3) * invMod p384P (2 * y1) % p384P
        else subP y2 y1 * invMod p384P (subP x2 x1) % p384P
      let x3 := subP (l * l) (x1 + x2)
      some (x3, subP (l * subP x1 x3) y1)

/-- Scalar multiplication, over the bits of the scalar. -/
def ecMul : Nat → Nat → Option (Nat × Nat) → Option (Nat × Nat) → Option (Nat × Nat)
  | 0, _, _, acc => acc
  | fuel + 1, k, p, acc => ecMul fuel (k / 2) (ecAdd p p) (if k % 2 = 1 then ecAdd acc p else acc)

/-- k · P. -/
def ecScale (k : Nat) (p : Nat × Nat) : Option (Nat × Nat) := ecMul 384 k (some p) none

/-- Whether a point lies on the curve. -/
def onCurve (p : Nat × Nat) : Bool :=
  decide (p.1 < p384P) && decide (p.2 < p384P) &&
    decide (p.2 * p.2 % p384P = (p.1 * p.1 * p.1 + (p384P - 3) * p.1 + p384B) % p384P)

/-- An uncompressed point of 97 bytes: 0x04, x, y. -/
def parsePoint (b : List Byte) : Option (Nat × Nat) :=
  let p := (beAt b 1 48, beAt b 49 48)
  if b.length = 97 ∧ byteAt b 0 = 4 ∧ onCurve p then some p else none

/-- The uncompressed form of a point. -/
def pointBytes (p : Nat × Nat) : List Byte := 4#8 :: beBytes 48 p.1 ++ beBytes 48 p.2

/-- ECDSA P-384 verification of r then s over a 48-byte digest. -/
def ecdsaVerify (pub : Nat × Nat) (digest sig : List Byte) : Bool :=
  let r := beAt sig 0 48
  let s := beAt sig 48 48
  if sig.length ≠ 96 ∨ r = 0 ∨ s = 0 ∨ p384N ≤ r ∨ p384N ≤ s ∨ !onCurve pub then false
  else
    let w := invMod p384N s
    let u1 := beAt digest 0 48 * w % p384N
    let u2 := r * w % p384N
    match ecAdd (ecScale u1 p384G) (ecScale u2 pub) with
    | some (x, _) => x % p384N == r
    | none => false

/-- ECDSA P-384 signature of a 48-byte digest under a private scalar with nonce k: r then s. -/
def ecdsaSign (d k : Nat) (digest : List Byte) : List Byte :=
  let r := ((ecScale (k % p384N) p384G).getD (0, 0)).1 % p384N
  let s := invMod p384N k * (beAt digest 0 48 + r * d) % p384N
  beBytes 48 r ++ beBytes 48 s

/-- The public key of a private scalar. -/
def publicKey (d : Nat) : Nat × Nat := (ecScale d p384G).getD (0, 0)

/-- The ECDH shared x-coordinate, 48 bytes (R444). -/
def ecdhX (d : Nat) (p : Nat × Nat) : List Byte := beBytes 48 ((ecScale d p).getD (0, 0)).1

end Sys2Proof.Machine
end

