-- ==== Sys2Proof/Config.lean ====
section
/-! DEFINITION. What the implementation fixes and the spec gives no number for: the free values (constants without a
body), and the keys that the Boot ROM and the identity fuses hold. -/

namespace Sys2Proof.Config

/-- The n-th free value drawn: random numbers (R42, R443), and values the spec says are not specified. -/
opaque freeWord : Nat → BitVec 64

/-- The n-th free byte drawn (R251: bytes that an aborted bucket leaves in SRAM). -/
opaque freeByte : Nat → BitVec 8

/-- The n-th free vat value drawn (R111: more than one addend to an entry within one micro-batch). -/
opaque freeVat : Nat → BitVec 32

/-- The P-384 private scalar of the module's identity key (R44, R446); fused per module, never readable. -/
opaque identityKey : Nat

/-- Brearo's firmware signing public key, x then y, held in the Boot ROM (R428). -/
opaque firmwareKey : Nat × Nat

/-- Brearo's lifecycle public key, held in the Boot ROM (R447). -/
opaque lifecycleKey : Nat × Nat

/-- The ECDSA nonce of the n-th signature the module makes (R166, R446 name the form, not the nonce). -/
opaque signNonce : Nat → Nat

/-- The rate adjustment in parts per 10⁹ that the lock servo makes for a measured error in ns (R418 states no amount). -/
opaque servoAdjust : Int → Int

/-- The part of a measured error in ns that the lock servo slews out at once (R418 states no amount). -/
opaque servoPhase : Int → Int

/-- The PT_REQ that region firmware writes for a region, a budget and a temperature (R431: not specified). -/
opaque loopPtReq : Nat → Nat → Nat → BitVec 64

/-- The PT_BUDGET that the module power loop writes for a region and a measured power (R431: not specified). -/
opaque loopBudget : Nat → Nat → BitVec 16

/-- The receive buffer of a port for a transport class, in flits (R366: advertised at link initialisation, size not given). -/
opaque rxBuffer : Nat → Nat

/-- The fixed value of FAB.ATTACH entry e on stepping B1, USING excepted (R322: fixed, values not given). -/
opaque attach : Nat → BitVec 64

/-- One less than the packets for which an endpoint (2 × (170 × Y + X) + EP) holds buffer space (R312 states no number). -/
opaque endpointRoom : Nat → Nat

/-- The byte at a position of the bucket with a tag and STEP that a module sends in an all-to-all for a rank it plays for a lost member
(R268 states none). -/
opaque carriedByte : Nat → Nat → Nat → Nat → BitVec 8

/-- How many corrections beyond the second a cellar block shows before it is moved to spare capacity (R393: "repeated"). -/
opaque retireAfter : Nat → Nat

/-- A voltage in mV in the VOUT_MODE encoding of the device of a PMBus entry (R402: each device's own). -/
opaque voutCode : Nat → Nat → BitVec 16

end Sys2Proof.Config
end

