-- ==== Sys2Proof/Machine/Fields.lean ====
section
/-! DEFINITION. The named fields of the registers: PAGE_REGISTER_FIELD, as the chapters' register tables name them. A
counter is PAGE_C_NAME. -/

namespace Sys2Proof.Machine

/-- A field of a register: the offset of entry 0, bits hi…lo, and the stride between table entries. -/
structure Fld where
  off : Nat
  hi : Nat
  lo : Nat
  stride : Nat
  deriving DecidableEq, Repr

abbrev GLB_STATUS_BOOT_STAGE : Fld := ⟨0x18, 23, 16, 0x0⟩
abbrev SEC_STATUS_SECRET_VALID : Fld := ⟨0x18, 16, 16, 0x0⟩
abbrev GLB_ERR_PAGE_MAP_MAP : Fld := ⟨0x1000, 63, 0, 0x8⟩
abbrev GLB_EVT_PAGE_MAP_MAP : Fld := ⟨0x1040, 63, 0, 0x8⟩
abbrev FAB_ROUTE_BANK0_WORD : Fld := ⟨0x1000, 63, 0, 0x8⟩
abbrev FAB_ROUTE_BANK1_WORD : Fld := ⟨0x3000, 63, 0, 0x8⟩
abbrev MEM_SLOT_SITE_WORD : Fld := ⟨0xa008, 63, 0, 0x8⟩
abbrev MEM_MAP_WORD : Fld := ⟨0xa000, 63, 0, 0x0⟩
abbrev GLB_ERR_STATUS_DEAD_PAGE : Fld := ⟨0x20, 5, 5, 0x0⟩
abbrev GLB_ERR_STATUS_BUSY_WRITE : Fld := ⟨0x20, 4, 4, 0x0⟩
abbrev GLB_ERR_STATUS_EXPERT_DENIED : Fld := ⟨0x20, 3, 3, 0x0⟩
abbrev GLB_ERR_STATUS_PERM_DENIED : Fld := ⟨0x20, 2, 2, 0x0⟩
abbrev GLB_ERR_STATUS_BAD_ACCESS : Fld := ⟨0x20, 1, 1, 0x0⟩
abbrev GLB_ERR_STATUS_UNMAPPED : Fld := ⟨0x20, 0, 0, 0x0⟩
abbrev GLB_MODULE_ID_VALID : Fld := ⟨0x100, 15, 15, 0x0⟩
abbrev GLB_MODULE_ID_ID : Fld := ⟨0x100, 13, 0, 0x0⟩
abbrev GLB_RESET_REQ_CONFIRM : Fld := ⟨0x108, 63, 48, 0x0⟩
abbrev GLB_RESET_REQ_KIND : Fld := ⟨0x108, 1, 0, 0x0⟩
abbrev GLB_RESET_CAUSE_SOURCE : Fld := ⟨0x110, 11, 8, 0x0⟩
abbrev GLB_RESET_CAUSE_KIND : Fld := ⟨0x110, 3, 0, 0x0⟩
abbrev GLB_EXPERT_KEY_KEY : Fld := ⟨0x118, 63, 0, 0x0⟩
abbrev GLB_EXPERT_NONCE_NONCE : Fld := ⟨0x120, 63, 0, 0x0⟩
abbrev GLB_EXPERT_STATUS_FAILS : Fld := ⟨0x128, 11, 8, 0x0⟩
abbrev GLB_EXPERT_STATUS_SECRET_VALID : Fld := ⟨0x128, 2, 2, 0x0⟩
abbrev GLB_EXPERT_STATUS_LOCKED_OUT : Fld := ⟨0x128, 1, 1, 0x0⟩
abbrev GLB_EXPERT_STATUS_MATCHED : Fld := ⟨0x128, 0, 0, 0x0⟩
abbrev GLB_EXPERT_LOCK_LOCK : Fld := ⟨0x130, 0, 0, 0x0⟩
abbrev GLB_ACCESS_ERR_ADDR_VALID : Fld := ⟨0x138, 63, 63, 0x0⟩
abbrev GLB_ACCESS_ERR_ADDR_WRITE : Fld := ⟨0x138, 35, 35, 0x0⟩
abbrev GLB_ACCESS_ERR_ADDR_PATH : Fld := ⟨0x138, 34, 32, 0x0⟩
abbrev GLB_ACCESS_ERR_ADDR_ADDR : Fld := ⟨0x138, 31, 0, 0x0⟩
abbrev GLB_SCRATCH_VALUE : Fld := ⟨0x140, 63, 0, 0x0⟩
abbrev GLB_C_ACCESS_ERR_COUNT : Fld := ⟨0xc00, 63, 0, 0x0⟩
abbrev GLB_C_WARM_RESETS : Fld := ⟨0xc08, 63, 0, 0x0⟩
abbrev GLB_C_JOB_RESETS : Fld := ⟨0xc10, 63, 0, 0x0⟩
abbrev GLB_C_EXPERT_FAILS : Fld := ⟨0xc18, 63, 0, 0x0⟩
abbrev SEC_SERIAL_SERIAL : Fld := ⟨0x100, 63, 0, 0x0⟩
abbrev SEC_LIFECYCLE_STATE : Fld := ⟨0x108, 1, 0, 0x0⟩
abbrev SEC_IDENT_HASH_HASH : Fld := ⟨0x110, 63, 0, 0x8⟩
abbrev SEC_IMAGE_MEASURE_HASH : Fld := ⟨0x140, 63, 0, 0x8⟩
abbrev SEC_ROLLBACK_MIN_VERSION : Fld := ⟨0x170, 15, 0, 0x0⟩
abbrev SEC_ERR_STATUS_UNWRAP_FAIL : Fld := ⟨0x20, 1, 1, 0x0⟩
abbrev SEC_ERR_STATUS_IMAGE_AUTH_FAIL : Fld := ⟨0x20, 0, 0, 0x0⟩
abbrev SEC_C_IMAGE_AUTH_FAILS : Fld := ⟨0xc00, 63, 0, 0x0⟩
abbrev SEC_C_UNWRAP_FAILS : Fld := ⟨0xc08, 63, 0, 0x0⟩
abbrev TBASE_CTRL_PPS_EN : Fld := ⟨0x10, 16, 16, 0x0⟩
abbrev TBASE_STATUS_SOURCE : Fld := ⟨0x18, 19, 18, 0x0⟩
abbrev TBASE_STATUS_SLEWING : Fld := ⟨0x18, 17, 17, 0x0⟩
abbrev TBASE_STATUS_LOCKED : Fld := ⟨0x18, 16, 16, 0x0⟩
abbrev TBASE_COUNT_COUNT : Fld := ⟨0x100, 63, 0, 0x0⟩
abbrev TBASE_PPS_CAPTURE_COUNT_AT_EDGE : Fld := ⟨0x108, 63, 0, 0x0⟩
abbrev TBASE_ADJUST_OFFSET : Fld := ⟨0x110, 47, 0, 0x0⟩
abbrev TBASE_RATE_TRIM_PPB : Fld := ⟨0x118, 23, 0, 0x0⟩
abbrev TBASE_ERR_STATUS_PPS_MISSING : Fld := ⟨0x20, 1, 1, 0x0⟩
abbrev TBASE_ERR_STATUS_ADJ_RANGE : Fld := ⟨0x20, 0, 0, 0x0⟩
abbrev TBASE_C_PPS_EDGES : Fld := ⟨0xc00, 63, 0, 0x0⟩
abbrev TBASE_C_PPS_MISSING_COUNT : Fld := ⟨0xc08, 63, 0, 0x0⟩
abbrev REG_ERR_STATUS_DRAIN_MODE : Fld := ⟨0x20, 23, 23, 0x0⟩
abbrev REG_ERR_STATUS_VAT_OVERCOUNT : Fld := ⟨0x20, 22, 22, 0x0⟩
abbrev REG_ERR_STATUS_VAT_RANGE : Fld := ⟨0x20, 21, 21, 0x0⟩
abbrev REG_ERR_STATUS_DRAIN_CARRY : Fld := ⟨0x20, 20, 20, 0x0⟩
abbrev REG_ERR_STATUS_RESIDUE : Fld := ⟨0x20, 19, 19, 0x0⟩
abbrev REG_ERR_STATUS_PRESS_PARITY : Fld := ⟨0x20, 18, 18, 0x0⟩
abbrev REG_ERR_STATUS_VAT_UE : Fld := ⟨0x20, 17, 17, 0x0⟩
abbrev REG_ERR_STATUS_SRAM_UE : Fld := ⟨0x20, 16, 16, 0x0⟩
abbrev REG_TILE_CTRL_SCRUB_EN : Fld := ⟨0x400, 0, 0, 0x0⟩
abbrev REG_TILE_MAP_SPARE_LOST : Fld := ⟨0x408, 12, 12, 0x0⟩
abbrev REG_TILE_MAP_SHIFTED : Fld := ⟨0x408, 8, 8, 0x0⟩
abbrev REG_TILE_MAP_FAILED_COL : Fld := ⟨0x408, 4, 0, 0x0⟩
abbrev REG_FLAG_SUMMARY_ANCHOR_SAT_TILES : Fld := ⟨0x410, 24, 16, 0x0⟩
abbrev REG_FLAG_SUMMARY_DEF_NONFINITE : Fld := ⟨0x410, 5, 5, 0x0⟩
abbrev REG_FLAG_SUMMARY_DEF_ANCHOR_SAT : Fld := ⟨0x410, 4, 4, 0x0⟩
abbrev REG_FLAG_SUMMARY_VAT_SAT : Fld := ⟨0x410, 3, 3, 0x0⟩
abbrev REG_FLAG_SUMMARY_CONV_SAT : Fld := ⟨0x410, 2, 2, 0x0⟩
abbrev REG_FLAG_SUMMARY_NONFINITE : Fld := ⟨0x410, 1, 1, 0x0⟩
abbrev REG_FLAG_SUMMARY_ANCHOR_SAT : Fld := ⟨0x410, 0, 0, 0x0⟩
abbrev REG_TILE_EXPERT_RESIDUE_DIS : Fld := ⟨0xa00, 16, 16, 0x0⟩
abbrev REG_TILE_EXPERT_SCRUB_PERIOD : Fld := ⟨0xa00, 10, 0, 0x0⟩
abbrev REG_C_SRAM_CE : Fld := ⟨0xd00, 63, 0, 0x0⟩
abbrev REG_C_SRAM_UE_COUNT : Fld := ⟨0xd08, 63, 0, 0x0⟩
abbrev REG_C_VAT_CE : Fld := ⟨0xd10, 63, 0, 0x0⟩
abbrev REG_C_VAT_UE_COUNT : Fld := ⟨0xd18, 63, 0, 0x0⟩
abbrev REG_C_PRESS_PARITY_COUNT : Fld := ⟨0xd20, 63, 0, 0x0⟩
abbrev REG_C_RESIDUE_ERRS : Fld := ⟨0xd28, 63, 0, 0x0⟩
abbrev REG_C_ANCHOR_SAT_EVENTS : Fld := ⟨0xd30, 63, 0, 0x0⟩
abbrev REG_C_NONFINITE_EVENTS : Fld := ⟨0xd38, 63, 0, 0x0⟩
abbrev REG_C_CONV_SAT_EVENTS : Fld := ⟨0xd40, 63, 0, 0x0⟩
abbrev REG_C_VAT_SAT_EVENTS : Fld := ⟨0xd48, 63, 0, 0x0⟩
abbrev REG_C_SCRUB_PASSES : Fld := ⟨0xd50, 63, 0, 0x0⟩
abbrev REG_C_ARRAY_STALL_CYCLES : Fld := ⟨0xd58, 63, 0, 0x0⟩
abbrev REG_VAT_REGION_VALID : Fld := ⟨0x4000, 63, 63, 0x10⟩
abbrev REG_VAT_REGION_V : Fld := ⟨0x4000, 55, 48, 0x10⟩
abbrev REG_VAT_REGION_LENGTH : Fld := ⟨0x4000, 36, 18, 0x10⟩
abbrev REG_VAT_REGION_BASE : Fld := ⟨0x4000, 17, 0, 0x10⟩
abbrev REG_VAT_REGION_RAISE : Fld := ⟨0x4008, 9, 8, 0x10⟩
abbrev REG_VAT_REGION_COUNT : Fld := ⟨0x4008, 7, 0, 0x10⟩
abbrev REG_TILE_FLAGS_PHYS_COL : Fld := ⟨0x5000, 52, 48, 0x8⟩
abbrev REG_TILE_FLAGS_ERR : Fld := ⟨0x5000, 8, 8, 0x8⟩
abbrev REG_TILE_FLAGS_DEF_NONFINITE : Fld := ⟨0x5000, 6, 6, 0x8⟩
abbrev REG_TILE_FLAGS_DEF_ANCHOR_SAT : Fld := ⟨0x5000, 5, 5, 0x8⟩
abbrev REG_TILE_FLAGS_CARRY_PENDING : Fld := ⟨0x5000, 4, 4, 0x8⟩
abbrev REG_TILE_FLAGS_VAT_SAT : Fld := ⟨0x5000, 3, 3, 0x8⟩
abbrev REG_TILE_FLAGS_CONV_SAT : Fld := ⟨0x5000, 2, 2, 0x8⟩
abbrev REG_TILE_FLAGS_NONFINITE : Fld := ⟨0x5000, 1, 1, 0x8⟩
abbrev REG_TILE_FLAGS_ANCHOR_SAT : Fld := ⟨0x5000, 0, 0, 0x8⟩
abbrev REG_ERR_STATUS_POP_MISSING : Fld := ⟨0x20, 15, 15, 0x0⟩
abbrev REG_ERR_STATUS_SEND_SIZE : Fld := ⟨0x20, 14, 14, 0x0⟩
abbrev REG_ERR_STATUS_VCFG_BUSY : Fld := ⟨0x20, 13, 13, 0x0⟩
abbrev REG_ERR_STATUS_FETCH_UE : Fld := ⟨0x20, 12, 12, 0x0⟩
abbrev REG_ERR_STATUS_STREAM_END : Fld := ⟨0x20, 11, 11, 0x0⟩
abbrev REG_ERR_STATUS_MB_ORDER : Fld := ⟨0x20, 10, 10, 0x0⟩
abbrev REG_ERR_STATUS_DEF_ORDER : Fld := ⟨0x20, 9, 9, 0x0⟩
abbrev REG_ERR_STATUS_ANCHOR_FAULT : Fld := ⟨0x20, 8, 8, 0x0⟩
abbrev REG_ERR_STATUS_FENCE_TIMEOUT : Fld := ⟨0x20, 7, 7, 0x0⟩
abbrev REG_ERR_STATUS_FENCE_MISMATCH : Fld := ⟨0x20, 6, 6, 0x0⟩
abbrev REG_ERR_STATUS_PAIR_ORDER : Fld := ⟨0x20, 5, 5, 0x0⟩
abbrev REG_ERR_STATUS_SPAN_OPEN : Fld := ⟨0x20, 4, 4, 0x0⟩
abbrev REG_ERR_STATUS_BAD_PAIR : Fld := ⟨0x20, 3, 3, 0x0⟩
abbrev REG_ERR_STATUS_BAD_FIELD : Fld := ⟨0x20, 2, 2, 0x0⟩
abbrev REG_ERR_STATUS_BAD_OPCODE : Fld := ⟨0x20, 1, 1, 0x0⟩
abbrev REG_ERR_STATUS_LAST_MISMATCH : Fld := ⟨0x20, 0, 0, 0x0⟩
abbrev REG_SEQ_STATUS_PC : Fld := ⟨0x100, 63, 40, 0x0⟩
abbrev REG_SEQ_STATUS_DEF_PC : Fld := ⟨0x100, 39, 24, 0x0⟩
abbrev REG_SEQ_STATUS_LOGICAL : Fld := ⟨0x100, 23, 16, 0x0⟩
abbrev REG_SEQ_STATUS_ATTEMPT : Fld := ⟨0x100, 11, 10, 0x0⟩
abbrev REG_SEQ_STATUS_DEF_SPAN : Fld := ⟨0x100, 9, 9, 0x0⟩
abbrev REG_SEQ_STATUS_SPAN : Fld := ⟨0x100, 8, 8, 0x0⟩
abbrev REG_SEQ_STATUS_STATE : Fld := ⟨0x100, 3, 0, 0x0⟩
abbrev REG_SEQ_BASE_ADDR : Fld := ⟨0x108, 40, 0, 0x0⟩
abbrev REG_DEF_BASE_ADDR : Fld := ⟨0x110, 40, 0, 0x0⟩
abbrev REG_SEQ_LEN_DEF_LEN : Fld := ⟨0x118, 47, 32, 0x0⟩
abbrev REG_SEQ_LEN_MAIN_LEN : Fld := ⟨0x118, 23, 0, 0x0⟩
abbrev REG_STEP_CFG_SYNC_SRC : Fld := ⟨0x120, 25, 24, 0x0⟩
abbrev REG_STEP_CFG_STEP_MB_MAX : Fld := ⟨0x120, 23, 16, 0x0⟩
abbrev REG_STEP_CFG_STEP_MB_MIN : Fld := ⟨0x120, 15, 8, 0x0⟩
abbrev REG_STEP_CFG_STEP_MB : Fld := ⟨0x120, 7, 0, 0x0⟩
abbrev REG_STEP_STATUS_HELD : Fld := ⟨0x128, 36, 35, 0x0⟩
abbrev REG_STEP_STATUS_REPLAY : Fld := ⟨0x128, 34, 34, 0x0⟩
abbrev REG_STEP_STATUS_ENDED : Fld := ⟨0x128, 33, 33, 0x0⟩
abbrev REG_STEP_STATUS_FINAL : Fld := ⟨0x128, 32, 32, 0x0⟩
abbrev REG_STEP_STATUS_OPENED : Fld := ⟨0x128, 31, 24, 0x0⟩
abbrev REG_STEP_STATUS_N_CUR : Fld := ⟨0x128, 23, 16, 0x0⟩
abbrev REG_STEP_STATUS_STEP : Fld := ⟨0x128, 15, 0, 0x0⟩
abbrev REG_STEP_COUNT_COUNT : Fld := ⟨0x130, 31, 0, 0x0⟩
abbrev REG_MARK_STATUS_CUT_PC : Fld := ⟨0x138, 63, 40, 0x0⟩
abbrev REG_MARK_STATUS_VALID : Fld := ⟨0x138, 32, 32, 0x0⟩
abbrev REG_MARK_STATUS_JOB_SEQ : Fld := ⟨0x138, 31, 16, 0x0⟩
abbrev REG_MARK_STATUS_LAST_SEQ : Fld := ⟨0x138, 15, 0, 0x0⟩
abbrev REG_FAULT_INFO_PC : Fld := ⟨0x140, 63, 40, 0x0⟩
abbrev REG_FAULT_INFO_DEFERRED : Fld := ⟨0x140, 39, 39, 0x0⟩
abbrev REG_FAULT_INFO_CODE : Fld := ⟨0x140, 7, 0, 0x0⟩
abbrev REG_SEQ_CTRL_RESUME : Fld := ⟨0x148, 0, 0, 0x0⟩
abbrev REG_SEQ_EXPERT_BREAK_PC : Fld := ⟨0x800, 63, 40, 0x0⟩
abbrev REG_SEQ_EXPERT_BREAK_EN : Fld := ⟨0x800, 17, 17, 0x0⟩
abbrev REG_SEQ_EXPERT_BS16_EN : Fld := ⟨0x800, 16, 16, 0x0⟩
abbrev REG_SEQ_EXPERT_FENCE_TIMEOUT : Fld := ⟨0x800, 15, 0, 0x0⟩
abbrev REG_C_CMD_ISSUED : Fld := ⟨0xc00, 63, 0, 0x0⟩
abbrev REG_C_DEF_ISSUED : Fld := ⟨0xc08, 63, 0, 0x0⟩
abbrev REG_C_MB_SKIPPED : Fld := ⟨0xc10, 63, 0, 0x0⟩
abbrev REG_C_ANCHOR_REPLAYS : Fld := ⟨0xc18, 63, 0, 0x0⟩
abbrev REG_C_ANCHOR_FAULTS : Fld := ⟨0xc20, 63, 0, 0x0⟩
abbrev REG_C_FENCE_WAIT_CYCLES : Fld := ⟨0xc28, 63, 0, 0x0⟩
abbrev REG_C_SCOREBOARD_STALLS : Fld := ⟨0xc30, 63, 0, 0x0⟩
abbrev REG_C_WINDOW_CYCLES : Fld := ⟨0xc38, 63, 0, 0x0⟩
abbrev REG_C_STEP_REPLAYS : Fld := ⟨0xc40, 63, 0, 0x0⟩
abbrev REG_C_SYNC_APPLIED : Fld := ⟨0xc48, 63, 0, 0x0⟩
abbrev REG_C_SYNC_IGNORED : Fld := ⟨0xc50, 63, 0, 0x0⟩
abbrev REG_C_STEPS : Fld := ⟨0xc58, 63, 0, 0x0⟩
abbrev REG_VAT_LAYER_VALID : Fld := ⟨0x1000, 17, 17, 0x8⟩
abbrev REG_VAT_LAYER_SAT : Fld := ⟨0x1000, 16, 16, 0x8⟩
abbrev REG_VAT_LAYER_LAYER : Fld := ⟨0x1000, 15, 0, 0x8⟩
abbrev REG_ADMIT_ADMITTED : Fld := ⟨0x1100, 63, 0, 0x8⟩
abbrev REG_PARAM_SLOT_STEP_LOW : Fld := ⟨0x2000, 63, 32, 0x8⟩
abbrev REG_PARAM_SLOT_VALUE : Fld := ⟨0x2000, 31, 0, 0x8⟩
abbrev DOCK_CTRL_FETCH_EN : Fld := ⟨0x10, 16, 16, 0x0⟩
abbrev DOCK_STATUS_FETCH_OUT : Fld := ⟨0x18, 24, 24, 0x0⟩
abbrev DOCK_STATUS_JOBS : Fld := ⟨0x18, 20, 16, 0x0⟩
abbrev DOCK_ERR_STATUS_REPORT_LOST : Fld := ⟨0x20, 2, 2, 0x0⟩
abbrev DOCK_ERR_STATUS_SIGNER_BAD : Fld := ⟨0x20, 1, 1, 0x0⟩
abbrev DOCK_ERR_STATUS_LOAD_UE : Fld := ⟨0x20, 0, 0, 0x0⟩
abbrev DOCK_EVT_STATUS_ENDED : Fld := ⟨0x38, 2, 2, 0x0⟩
abbrev DOCK_EVT_STATUS_REFUSED : Fld := ⟨0x38, 1, 1, 0x0⟩
abbrev DOCK_EVT_STATUS_ADMITTED : Fld := ⟨0x38, 0, 0, 0x0⟩
abbrev DOCK_FETCH_CFG_PERIOD : Fld := ⟨0x100, 47, 32, 0x0⟩
abbrev DOCK_FETCH_CFG_SPORT : Fld := ⟨0x100, 15, 8, 0x0⟩
abbrev DOCK_FETCH_CFG_SOURCE : Fld := ⟨0x100, 0, 0, 0x0⟩
abbrev DOCK_LIMITS_LOAD_TIMEOUT : Fld := ⟨0x108, 47, 32, 0x0⟩
abbrev DOCK_LIMITS_FIT_WAIT : Fld := ⟨0x108, 31, 16, 0x0⟩
abbrev DOCK_LIMITS_KEY_WAIT : Fld := ⟨0x108, 15, 0, 0x0⟩
abbrev DOCK_FREE_KEY_SLOTS : Fld := ⟨0x110, 56, 50, 0x0⟩
abbrev DOCK_FREE_BUCKETS : Fld := ⟨0x110, 49, 37, 0x0⟩
abbrev DOCK_FREE_STREAM_CTX : Fld := ⟨0x110, 36, 20, 0x0⟩
abbrev DOCK_FREE_STACK_GB : Fld := ⟨0x110, 19, 7, 0x0⟩
abbrev DOCK_FREE_REGIONS : Fld := ⟨0x110, 6, 0, 0x0⟩
abbrev DOCK_LAST_REFUSAL_DOCKET_ID_LOW : Fld := ⟨0x118, 63, 16, 0x0⟩
abbrev DOCK_LAST_REFUSAL_CAUSE : Fld := ⟨0x118, 15, 8, 0x0⟩
abbrev DOCK_LAST_REFUSAL_OUTCOME : Fld := ⟨0x118, 7, 0, 0x0⟩
abbrev DOCK_KEY_SEQ_SEQ : Fld := ⟨0x120, 63, 0, 0x0⟩
abbrev DOCK_C_FETCHES : Fld := ⟨0xc00, 63, 0, 0x0⟩
abbrev DOCK_C_ADMITTED_COUNT : Fld := ⟨0xc08, 63, 0, 0x0⟩
abbrev DOCK_C_REFUSED_SIG : Fld := ⟨0xc10, 63, 0, 0x0⟩
abbrev DOCK_C_REFUSED_KEY : Fld := ⟨0xc18, 63, 0, 0x0⟩
abbrev DOCK_C_REFUSED_FIT : Fld := ⟨0xc20, 63, 0, 0x0⟩
abbrev DOCK_C_REFUSED_IMAGE : Fld := ⟨0xc28, 63, 0, 0x0⟩
abbrev DOCK_C_FIT_WAITS : Fld := ⟨0xc30, 63, 0, 0x0⟩
abbrev DOCK_C_CONTROL_REFUSED : Fld := ⟨0xc38, 63, 0, 0x0⟩
abbrev DOCK_C_KEY_MSG_SKIPPED : Fld := ⟨0xc40, 63, 0, 0x0⟩
abbrev DOCK_C_STALE_DROPS : Fld := ⟨0xc48, 63, 0, 0x0⟩
abbrev DOCK_SIGNER_VALID : Fld := ⟨0x1000, 0, 0, 0x80⟩
abbrev DOCK_SIGNER_X : Fld := ⟨0x1008, 63, 0, 0x80⟩
abbrev DOCK_SIGNER_Y : Fld := ⟨0x1038, 63, 0, 0x80⟩
abbrev DOCK_JOB_JOB_ID : Fld := ⟨0x2000, 63, 32, 0x20⟩
abbrev DOCK_JOB_OUTCOME_CAUSE : Fld := ⟨0x2000, 31, 16, 0x20⟩
abbrev DOCK_JOB_STATE : Fld := ⟨0x2000, 2, 0, 0x20⟩
abbrev DOCK_JOB_DOCKET_ID : Fld := ⟨0x2008, 63, 0, 0x20⟩
abbrev DOCK_JOB_PART_KEY : Fld := ⟨0x2010, 63, 0, 0x20⟩
abbrev DOCK_JOB_T_ADMIT : Fld := ⟨0x2018, 63, 0, 0x20⟩
abbrev DOCK_PORT_STALE_DROPS : Fld := ⟨0x3000, 63, 32, 0x8⟩
abbrev DOCK_PORT_KEY_TAG : Fld := ⟨0x3000, 31, 16, 0x8⟩
abbrev DOCK_PORT_HELD : Fld := ⟨0x3000, 8, 8, 0x8⟩
abbrev DOCK_PORT_SLOT : Fld := ⟨0x3000, 7, 4, 0x8⟩
abbrev DOCK_PORT_STATE : Fld := ⟨0x3000, 1, 0, 0x8⟩
abbrev WSP_STATUS_LOADS_IN_FLIGHT : Fld := ⟨0x18, 40, 24, 0x0⟩
abbrev WSP_STATUS_KEYS_LOADED : Fld := ⟨0x18, 22, 16, 0x0⟩
abbrev WSP_ERR_STATUS_BIND_FULL : Fld := ⟨0x20, 3, 3, 0x0⟩
abbrev WSP_ERR_STATUS_LOAD_FAIL : Fld := ⟨0x20, 2, 2, 0x0⟩
abbrev WSP_ERR_STATUS_HDR_BAD : Fld := ⟨0x20, 1, 1, 0x0⟩
abbrev WSP_ERR_STATUS_TAG_FAIL : Fld := ⟨0x20, 0, 0, 0x0⟩
abbrev WSP_EVT_STATUS_KEY_LOADED : Fld := ⟨0x38, 1, 1, 0x0⟩
abbrev WSP_EVT_STATUS_PUBLISHED : Fld := ⟨0x38, 0, 0, 0x0⟩
abbrev WSP_LIMITS_EPOCH_WAIT : Fld := ⟨0x100, 63, 48, 0x0⟩
abbrev WSP_LIMITS_LEADER_WAIT : Fld := ⟨0x100, 47, 32, 0x0⟩
abbrev WSP_LIMITS_SEG_TIMEOUT : Fld := ⟨0x100, 31, 16, 0x0⟩
abbrev WSP_LIMITS_RETRIES : Fld := ⟨0x100, 3, 0, 0x0⟩
abbrev WSP_STAGE_USED_MB : Fld := ⟨0x108, 63, 32, 0x0⟩
abbrev WSP_STAGE_SIZE_MB : Fld := ⟨0x108, 31, 0, 0x0⟩
abbrev WSP_LAST_FAIL_SID : Fld := ⟨0x110, 63, 48, 0x0⟩
abbrev WSP_LAST_FAIL_SLOT : Fld := ⟨0x110, 47, 44, 0x0⟩
abbrev WSP_LAST_FAIL_CAUSE : Fld := ⟨0x110, 43, 40, 0x0⟩
abbrev WSP_LAST_FAIL_MODEL : Fld := ⟨0x110, 31, 16, 0x0⟩
abbrev WSP_LAST_FAIL_LAYER : Fld := ⟨0x110, 15, 0, 0x0⟩
abbrev WSP_DEPTH_SPEC_DIS : Fld := ⟨0x800, 16, 16, 0x0⟩
abbrev WSP_DEPTH_SPEC_MAX : Fld := ⟨0x800, 11, 8, 0x0⟩
abbrev WSP_DEPTH_RUN_AHEAD : Fld := ⟨0x800, 1, 0, 0x0⟩
abbrev WSP_C_SEGMENTS_IN : Fld := ⟨0xc00, 63, 0, 0x0⟩
abbrev WSP_C_SEGMENTS_OUT : Fld := ⟨0xc08, 63, 0, 0x0⟩
abbrev WSP_C_BYTES_LANDED : Fld := ⟨0xc10, 63, 0, 0x0⟩
abbrev WSP_C_TAG_FAILS : Fld := ⟨0xc18, 63, 0, 0x0⟩
abbrev WSP_C_HDR_DROPS : Fld := ⟨0xc20, 63, 0, 0x0⟩
abbrev WSP_C_DUP_DROPS : Fld := ⟨0xc28, 63, 0, 0x0⟩
abbrev WSP_C_RE_REQUESTS : Fld := ⟨0xc30, 63, 0, 0x0⟩
abbrev WSP_C_LEADER_FALLBACKS : Fld := ⟨0xc38, 63, 0, 0x0⟩
abbrev WSP_C_REBCAST_SEGMENTS : Fld := ⟨0xc40, 63, 0, 0x0⟩
abbrev WSP_C_DEPTH_STALLS : Fld := ⟨0xc48, 63, 0, 0x0⟩
abbrev WSP_C_EPOCH_WAITS : Fld := ⟨0xc50, 63, 0, 0x0⟩
abbrev WSP_C_EXPERT_SKIPS : Fld := ⟨0xc58, 63, 0, 0x0⟩
abbrev WSP_C_SPEC_ISSUED : Fld := ⟨0xc60, 63, 0, 0x0⟩
abbrev WSP_C_SPEC_HITS : Fld := ⟨0xc68, 63, 0, 0x0⟩
abbrev WSP_C_SPEC_SQUASHED : Fld := ⟨0xc70, 63, 0, 0x0⟩
abbrev WSP_C_STAGED_UNSOLICITED : Fld := ⟨0xc78, 63, 0, 0x0⟩
abbrev WSP_C_GEN_RESTARTS : Fld := ⟨0xc80, 63, 0, 0x0⟩
abbrev WSP_C_STAGE_EVICTIONS : Fld := ⟨0xc88, 63, 0, 0x0⟩
abbrev WSP_C_RESIDENT_HITS : Fld := ⟨0xc90, 63, 0, 0x0⟩
abbrev WSP_C_UNBOUND_LOADS : Fld := ⟨0xc98, 63, 0, 0x0⟩
abbrev WSP_KEYSLOT_VALID : Fld := ⟨0x1000, 63, 63, 0x20⟩
abbrev WSP_KEYSLOT_KEY_LOADED : Fld := ⟨0x1000, 62, 62, 0x20⟩
abbrev WSP_KEYSLOT_OWNER : Fld := ⟨0x1000, 60, 56, 0x20⟩
abbrev WSP_KEYSLOT_MODEL : Fld := ⟨0x1000, 15, 0, 0x20⟩
abbrev WSP_KEYSLOT_GEN_OUT : Fld := ⟨0x1008, 39, 32, 0x20⟩
abbrev WSP_KEYSLOT_EPOCH_PUB : Fld := ⟨0x1008, 31, 0, 0x20⟩
abbrev WSP_KEYSLOT_ENDPOINT : Fld := ⟨0x1010, 63, 32, 0x20⟩
abbrev WSP_KEYSLOT_SPORT : Fld := ⟨0x1010, 7, 0, 0x20⟩
abbrev WSP_KEYSLOT_KCV : Fld := ⟨0x1018, 23, 0, 0x20⟩
abbrev WSP_BIND_VALID : Fld := ⟨0x2000, 63, 63, 0x10⟩
abbrev WSP_BIND_MODEL : Fld := ⟨0x2000, 47, 32, 0x10⟩
abbrev WSP_BIND_LAYER_LAST : Fld := ⟨0x2000, 31, 16, 0x10⟩
abbrev WSP_BIND_LAYER_FIRST : Fld := ⟨0x2000, 15, 0, 0x10⟩
abbrev WSP_BIND_EPOCH : Fld := ⟨0x2008, 31, 0, 0x10⟩
abbrev SCT_STATUS_LIVE : Fld := ⟨0x18, 32, 16, 0x0⟩
abbrev SCT_SELECT_SLOT : Fld := ⟨0x100, 19, 16, 0x0⟩
abbrev SCT_SELECT_SID : Fld := ⟨0x100, 15, 0, 0x0⟩
abbrev SCT_ENTRY_LIVE : Fld := ⟨0x108, 63, 63, 0x0⟩
abbrev SCT_ENTRY_KIND : Fld := ⟨0x108, 62, 60, 0x0⟩
abbrev SCT_ENTRY_REGION : Fld := ⟨0x108, 59, 53, 0x0⟩
abbrev SCT_ENTRY_SPEC : Fld := ⟨0x108, 52, 52, 0x0⟩
abbrev SCT_ENTRY_BYTES_DONE : Fld := ⟨0x108, 31, 0, 0x0⟩
abbrev SCT_ENTRY_TIME_T_START : Fld := ⟨0x110, 63, 0, 0x0⟩
abbrev SCT_C_ALLOCS : Fld := ⟨0xc00, 63, 0, 0x0⟩
abbrev SCT_C_CTX_WAITS : Fld := ⟨0xc08, 63, 0, 0x0⟩
abbrev SCT_C_ORPHAN_DROPS : Fld := ⟨0xc10, 63, 0, 0x0⟩
abbrev SCT_JOB_LIMIT : Fld := ⟨0x1000, 47, 32, 0x8⟩
abbrev SCT_JOB_LIVE : Fld := ⟨0x1000, 16, 0, 0x8⟩
abbrev CAVE_STATUS_RECORDS : Fld := ⟨0x18, 47, 28, 0x0⟩
abbrev CAVE_STATUS_HOLD_AREAS : Fld := ⟨0x18, 26, 16, 0x0⟩
abbrev CAVE_ERR_STATUS_HOLD_NONE : Fld := ⟨0x20, 10, 10, 0x0⟩
abbrev CAVE_ERR_STATUS_HOLD_FULL : Fld := ⟨0x20, 9, 9, 0x0⟩
abbrev CAVE_ERR_STATUS_HOLD_SHAPE : Fld := ⟨0x20, 8, 8, 0x0⟩
abbrev CAVE_ERR_STATUS_HOLD_RANGE : Fld := ⟨0x20, 7, 7, 0x0⟩
abbrev CAVE_ERR_STATUS_RECOMP_FAIL : Fld := ⟨0x20, 6, 6, 0x0⟩
abbrev CAVE_ERR_STATUS_RECOMP_SPAN : Fld := ⟨0x20, 5, 5, 0x0⟩
abbrev CAVE_ERR_STATUS_POP_MATCH : Fld := ⟨0x20, 4, 4, 0x0⟩
abbrev CAVE_ERR_STATUS_POP_NONE : Fld := ⟨0x20, 3, 3, 0x0⟩
abbrev CAVE_ERR_STATUS_DIR_FULL : Fld := ⟨0x20, 2, 2, 0x0⟩
abbrev CAVE_ERR_STATUS_OVERFLOW : Fld := ⟨0x20, 1, 1, 0x0⟩
abbrev CAVE_ERR_STATUS_ENTRY_UE : Fld := ⟨0x20, 0, 0, 0x0⟩
abbrev CAVE_EVT_STATUS_DROPPED : Fld := ⟨0x38, 1, 1, 0x0⟩
abbrev CAVE_EVT_STATUS_RECOMPUTED : Fld := ⟨0x38, 0, 0, 0x0⟩
abbrev CAVE_LAST_FAULT_REGION : Fld := ⟨0x100, 63, 57, 0x0⟩
abbrev CAVE_LAST_FAULT_CODE : Fld := ⟨0x100, 56, 53, 0x0⟩
abbrev CAVE_LAST_FAULT_MB : Fld := ⟨0x100, 47, 40, 0x0⟩
abbrev CAVE_LAST_FAULT_SID : Fld := ⟨0x100, 31, 16, 0x0⟩
abbrev CAVE_LAST_FAULT_LAYER : Fld := ⟨0x100, 15, 0, 0x0⟩
abbrev CAVE_C_PUSHES : Fld := ⟨0xc00, 63, 0, 0x0⟩
abbrev CAVE_C_PUSH_BYTES : Fld := ⟨0xc08, 63, 0, 0x0⟩
abbrev CAVE_C_POPS : Fld := ⟨0xc10, 63, 0, 0x0⟩
abbrev CAVE_C_POP_BYTES : Fld := ⟨0xc18, 63, 0, 0x0⟩
abbrev CAVE_C_DROPS : Fld := ⟨0xc20, 63, 0, 0x0⟩
abbrev CAVE_C_RECOMPUTES : Fld := ⟨0xc28, 63, 0, 0x0⟩
abbrev CAVE_C_POP_STALL_NS : Fld := ⟨0xc30, 63, 0, 0x0⟩
abbrev CAVE_C_POLICY_BAD : Fld := ⟨0xc38, 63, 0, 0x0⟩
abbrev CAVE_C_HOLD_WRITES : Fld := ⟨0xc40, 63, 0, 0x0⟩
abbrev CAVE_C_HOLD_SENDS : Fld := ⟨0xc48, 63, 0, 0x0⟩
abbrev CAVE_C_HOLD_ROLLBACKS : Fld := ⟨0xc50, 63, 0, 0x0⟩
abbrev CAVE_C_CAVE_REPLAYS : Fld := ⟨0xc58, 63, 0, 0x0⟩
abbrev CAVE_REGION_VALID : Fld := ⟨0x1000, 63, 63, 0x80⟩
abbrev CAVE_REGION_SLOT : Fld := ⟨0x1000, 59, 56, 0x80⟩
abbrev CAVE_REGION_BASE : Fld := ⟨0x1000, 40, 0, 0x80⟩
abbrev CAVE_REGION_LIMIT : Fld := ⟨0x1008, 40, 0, 0x80⟩
abbrev CAVE_REGION_DROP_LIMIT : Fld := ⟨0x1010, 40, 0, 0x80⟩
abbrev CAVE_REGION_END : Fld := ⟨0x1018, 40, 0, 0x80⟩
abbrev CAVE_REGION_TOP : Fld := ⟨0x1020, 40, 0, 0x80⟩
abbrev CAVE_REGION_STEP_TOP : Fld := ⟨0x1028, 40, 0, 0x80⟩
abbrev CAVE_REGION_PEAK : Fld := ⟨0x1030, 40, 0, 0x80⟩
abbrev CAVE_REGION_POLICY_ADDR : Fld := ⟨0x1038, 40, 0, 0x80⟩
abbrev CAVE_REGION_RECOMP_ACTIVE : Fld := ⟨0x1040, 32, 32, 0x80⟩
abbrev CAVE_REGION_DROPPED_LIVE : Fld := ⟨0x1040, 29, 16, 0x80⟩
abbrev CAVE_REGION_RECORDS : Fld := ⟨0x1040, 13, 0, 0x80⟩
abbrev CAVE_HOLD_VALID : Fld := ⟨0x4000, 63, 63, 0x10⟩
abbrev CAVE_HOLD_C_SEL : Fld := ⟨0x4000, 61, 60, 0x10⟩
abbrev CAVE_HOLD_P_SEL : Fld := ⟨0x4000, 59, 58, 0x10⟩
abbrev CAVE_HOLD_W_WRITTEN : Fld := ⟨0x4000, 57, 57, 0x10⟩
abbrev CAVE_HOLD_C_ZERO : Fld := ⟨0x4000, 56, 56, 0x10⟩
abbrev CAVE_HOLD_P_ZERO : Fld := ⟨0x4000, 55, 55, 0x10⟩
abbrev CAVE_HOLD_W_ZERO : Fld := ⟨0x4000, 54, 54, 0x10⟩
abbrev CAVE_HOLD_P_VALID : Fld := ⟨0x4000, 53, 53, 0x10⟩
abbrev CAVE_HOLD_SLOT : Fld := ⟨0x4000, 51, 48, 0x10⟩
abbrev CAVE_HOLD_HOLD_ADDR : Fld := ⟨0x4000, 40, 0, 0x10⟩
abbrev CAVE_HOLD_V : Fld := ⟨0x4008, 63, 56, 0x10⟩
abbrev CAVE_HOLD_LAST_STEP : Fld := ⟨0x4008, 47, 32, 0x10⟩
abbrev CAVE_HOLD_ENTRIES : Fld := ⟨0x4008, 31, 0, 0x10⟩
abbrev UPD_STATUS_AREAS : Fld := ⟨0x18, 43, 32, 0x0⟩
abbrev UPD_STATUS_QUEUED : Fld := ⟨0x18, 27, 16, 0x0⟩
abbrev UPD_ERR_STATUS_EPOCH_SKEW : Fld := ⟨0x20, 10, 10, 0x0⟩
abbrev UPD_ERR_STATUS_GEN_EXHAUSTED : Fld := ⟨0x20, 9, 9, 0x0⟩
abbrev UPD_ERR_STATUS_MIRROR_FAIL : Fld := ⟨0x20, 8, 8, 0x0⟩
abbrev UPD_ERR_STATUS_EGRESS_FAIL : Fld := ⟨0x20, 7, 7, 0x0⟩
abbrev UPD_ERR_STATUS_INIT_FAIL : Fld := ⟨0x20, 6, 6, 0x0⟩
abbrev UPD_ERR_STATUS_NUMERIC : Fld := ⟨0x20, 5, 5, 0x0⟩
abbrev UPD_ERR_STATUS_BAD_PARAM : Fld := ⟨0x20, 4, 4, 0x0⟩
abbrev UPD_ERR_STATUS_BAD_AREA : Fld := ⟨0x20, 3, 3, 0x0⟩
abbrev UPD_ERR_STATUS_AREA_FULL : Fld := ⟨0x20, 2, 2, 0x0⟩
abbrev UPD_ERR_STATUS_MIRROR_TAG : Fld := ⟨0x20, 1, 1, 0x0⟩
abbrev UPD_ERR_STATUS_STATE_UE : Fld := ⟨0x20, 0, 0, 0x0⟩
abbrev UPD_EVT_STATUS_RESTORED : Fld := ⟨0x38, 3, 3, 0x0⟩
abbrev UPD_EVT_STATUS_ROLLED_BACK : Fld := ⟨0x38, 2, 2, 0x0⟩
abbrev UPD_EVT_STATUS_COMMITTED : Fld := ⟨0x38, 1, 1, 0x0⟩
abbrev UPD_EVT_STATUS_STEP_READY : Fld := ⟨0x38, 0, 0, 0x0⟩
abbrev UPD_LIMITS_INIT_TIMEOUT : Fld := ⟨0x100, 63, 48, 0x0⟩
abbrev UPD_LIMITS_MIRROR_TIMEOUT : Fld := ⟨0x100, 47, 32, 0x0⟩
abbrev UPD_LIMITS_EGRESS_TIMEOUT : Fld := ⟨0x100, 31, 16, 0x0⟩
abbrev UPD_LIMITS_MIRROR_RETRIES : Fld := ⟨0x100, 3, 0, 0x0⟩
abbrev UPD_STALE_SLOTS : Fld := ⟨0x800, 15, 0, 0x0⟩
abbrev UPD_C_UPDS_DONE : Fld := ⟨0xc00, 63, 0, 0x0⟩
abbrev UPD_C_ELEMENTS : Fld := ⟨0xc08, 63, 0, 0x0⟩
abbrev UPD_C_ROWS_UPDATED : Fld := ⟨0xc10, 63, 0, 0x0⟩
abbrev UPD_C_ROWS_SKIPPED : Fld := ⟨0xc18, 63, 0, 0x0⟩
abbrev UPD_C_UPD_SKIPS : Fld := ⟨0xc20, 63, 0, 0x0⟩
abbrev UPD_C_REDOS : Fld := ⟨0xc28, 63, 0, 0x0⟩
abbrev UPD_C_COMMITS : Fld := ⟨0xc30, 63, 0, 0x0⟩
abbrev UPD_C_ROLLBACKS : Fld := ⟨0xc38, 63, 0, 0x0⟩
abbrev UPD_C_PUBLICATIONS : Fld := ⟨0xc40, 63, 0, 0x0⟩
abbrev UPD_C_NUMERIC_SAT : Fld := ⟨0xc48, 63, 0, 0x0⟩
abbrev UPD_C_STALE_WAITS : Fld := ⟨0xc50, 63, 0, 0x0⟩
abbrev UPD_C_MIRROR_BYTES_OUT : Fld := ⟨0xc58, 63, 0, 0x0⟩
abbrev UPD_C_MIRROR_BYTES_IN : Fld := ⟨0xc60, 63, 0, 0x0⟩
abbrev UPD_C_MIRROR_RESENDS : Fld := ⟨0xc68, 63, 0, 0x0⟩
abbrev UPD_C_MIRROR_TAG_FAILS : Fld := ⟨0xc70, 63, 0, 0x0⟩
abbrev UPD_C_RESTORES : Fld := ⟨0xc78, 63, 0, 0x0⟩
abbrev UPD_JOB_VALID : Fld := ⟨0x1000, 63, 63, 0x20⟩
abbrev UPD_JOB_STALE : Fld := ⟨0x1000, 62, 62, 0x20⟩
abbrev UPD_JOB_READY : Fld := ⟨0x1000, 61, 61, 0x20⟩
abbrev UPD_JOB_MSEQ : Fld := ⟨0x1000, 31, 0, 0x20⟩
abbrev UPD_JOB_SR_SEED : Fld := ⟨0x1008, 63, 0, 0x20⟩
abbrev UPD_JOB_BUDDY_KIND : Fld := ⟨0x1010, 57, 56, 0x20⟩
abbrev UPD_JOB_BUDDY_PORT : Fld := ⟨0x1010, 55, 48, 0x20⟩
abbrev UPD_JOB_BUDDY_MODULE : Fld := ⟨0x1010, 45, 32, 0x20⟩
abbrev UPD_JOB_COMMITTED_STEP : Fld := ⟨0x1010, 31, 0, 0x20⟩
abbrev UPD_JOB_BUDDY_ENDPOINT : Fld := ⟨0x1018, 63, 32, 0x20⟩
abbrev UPD_AREA_VALID : Fld := ⟨0x2000, 63, 63, 0x10⟩
abbrev UPD_AREA_INIT_DONE : Fld := ⟨0x2000, 62, 62, 0x10⟩
abbrev UPD_AREA_WROTE : Fld := ⟨0x2000, 61, 61, 0x10⟩
abbrev UPD_AREA_P_VALID : Fld := ⟨0x2000, 60, 60, 0x10⟩
abbrev UPD_AREA_SLOT : Fld := ⟨0x2000, 59, 56, 0x10⟩
abbrev UPD_AREA_RULE : Fld := ⟨0x2000, 50, 48, 0x10⟩
abbrev UPD_AREA_STATE_ADDR : Fld := ⟨0x2000, 40, 0, 0x10⟩
abbrev UPD_AREA_C_EPOCH : Fld := ⟨0x2008, 63, 32, 0x10⟩
abbrev UPD_AREA_ROWS_TOUCHED : Fld := ⟨0x2008, 31, 0, 0x10⟩
abbrev UPD_MIRROR_IN_VALID : Fld := ⟨0xa000, 63, 63, 0x20⟩
abbrev UPD_MIRROR_IN_SLOT : Fld := ⟨0xa000, 59, 56, 0x20⟩
abbrev UPD_MIRROR_IN_OWNER : Fld := ⟨0xa000, 13, 0, 0x20⟩
abbrev UPD_MIRROR_IN_P_STEP : Fld := ⟨0xa008, 63, 32, 0x20⟩
abbrev UPD_MIRROR_IN_C_STEP : Fld := ⟨0xa008, 31, 0, 0x20⟩
abbrev UPD_MIRROR_IN_P_HELD : Fld := ⟨0xa010, 33, 33, 0x20⟩
abbrev UPD_MIRROR_IN_W_COMPLETE : Fld := ⟨0xa010, 32, 32, 0x20⟩
abbrev UPD_MIRROR_IN_W_STEP : Fld := ⟨0xa010, 31, 0, 0x20⟩
abbrev UPD_MIRROR_IN_BYTES_HELD : Fld := ⟨0xa018, 63, 0, 0x20⟩
abbrev CE_STATUS_BUCKETS_LIVE : Fld := ⟨0x18, 44, 32, 0x0⟩
abbrev CE_STATUS_STALLED : Fld := ⟨0x18, 18, 16, 0x0⟩
abbrev CE_ERR_STATUS_SWITCH_PROTO : Fld := ⟨0x20, 11, 11, 0x0⟩
abbrev CE_ERR_STATUS_RETAIN_UE : Fld := ⟨0x20, 10, 10, 0x0⟩
abbrev CE_ERR_STATUS_RESIDUE : Fld := ⟨0x20, 9, 9, 0x0⟩
abbrev CE_ERR_STATUS_BARRIER_TIMEOUT : Fld := ⟨0x20, 8, 8, 0x0⟩
abbrev CE_ERR_STATUS_VOTE_LIMIT : Fld := ⟨0x20, 7, 7, 0x0⟩
abbrev CE_ERR_STATUS_VOTE_FAIL : Fld := ⟨0x20, 6, 6, 0x0⟩
abbrev CE_ERR_STATUS_RETAIN_FULL : Fld := ⟨0x20, 5, 5, 0x0⟩
abbrev CE_ERR_STATUS_BAD_DESC : Fld := ⟨0x20, 4, 4, 0x0⟩
abbrev CE_ERR_STATUS_HEADROOM : Fld := ⟨0x20, 3, 3, 0x0⟩
abbrev CE_ERR_STATUS_COLL_TIMEOUT : Fld := ⟨0x20, 2, 2, 0x0⟩
abbrev CE_ERR_STATUS_MISMATCH : Fld := ⟨0x20, 1, 1, 0x0⟩
abbrev CE_ERR_STATUS_CHUNK_CRC : Fld := ⟨0x20, 0, 0, 0x0⟩
abbrev CE_EVT_STATUS_ROLLBACK : Fld := ⟨0x38, 3, 3, 0x0⟩
abbrev CE_EVT_STATUS_REPLAY_ORDERED : Fld := ⟨0x38, 2, 2, 0x0⟩
abbrev CE_EVT_STATUS_COMMITTED : Fld := ⟨0x38, 1, 1, 0x0⟩
abbrev CE_EVT_STATUS_REREDUCED : Fld := ⟨0x38, 0, 0, 0x0⟩
abbrev CE_LIMITS_COLL_TIMEOUT : Fld := ⟨0x100, 63, 48, 0x0⟩
abbrev CE_LIMITS_BARRIER_TIMEOUT : Fld := ⟨0x100, 47, 32, 0x0⟩
abbrev CE_LIMITS_CHUNK_TIMEOUT : Fld := ⟨0x100, 31, 16, 0x0⟩
abbrev CE_LIMITS_CHUNK_RETRIES : Fld := ⟨0x100, 3, 0, 0x0⟩
abbrev CE_LAST_ABORT_TAG : Fld := ⟨0x108, 63, 44, 0x0⟩
abbrev CE_LAST_ABORT_GEPOCH : Fld := ⟨0x108, 43, 32, 0x0⟩
abbrev CE_LAST_ABORT_STEP : Fld := ⟨0x108, 31, 16, 0x0⟩
abbrev CE_LAST_ABORT_SLOT : Fld := ⟨0x108, 15, 12, 0x0⟩
abbrev CE_LAST_ABORT_CAUSE : Fld := ⟨0x108, 7, 0, 0x0⟩
abbrev CE_TUNE_CHUNK : Fld := ⟨0x800, 1, 0, 0x0⟩
abbrev CE_C_CHUNKS_OUT_L1 : Fld := ⟨0xc00, 63, 0, 0x0⟩
abbrev CE_C_CHUNKS_OUT_L2 : Fld := ⟨0xc08, 63, 0, 0x0⟩
abbrev CE_C_CHUNKS_IN : Fld := ⟨0xc10, 63, 0, 0x0⟩
abbrev CE_C_CRC_ERRS : Fld := ⟨0xc18, 63, 0, 0x0⟩
abbrev CE_C_RESENDS : Fld := ⟨0xc20, 63, 0, 0x0⟩
abbrev CE_C_STALL_NS_L0 : Fld := ⟨0xc28, 63, 0, 0x0⟩
abbrev CE_C_STALL_NS_L1 : Fld := ⟨0xc30, 63, 0, 0x0⟩
abbrev CE_C_STALL_NS_L2 : Fld := ⟨0xc38, 63, 0, 0x0⟩
abbrev CE_C_BUCKETS_DONE : Fld := ⟨0xc40, 63, 0, 0x0⟩
abbrev CE_C_BUCKETS_HELD : Fld := ⟨0xc48, 63, 0, 0x0⟩
abbrev CE_C_BUCKET_WAITS : Fld := ⟨0xc50, 63, 0, 0x0⟩
abbrev CE_C_ABORTS : Fld := ⟨0xc58, 63, 0, 0x0⟩
abbrev CE_C_TIMEOUTS : Fld := ⟨0xc60, 63, 0, 0x0⟩
abbrev CE_C_VOTES : Fld := ⟨0xc68, 63, 0, 0x0⟩
abbrev CE_C_VOTE_FAILS : Fld := ⟨0xc70, 63, 0, 0x0⟩
abbrev CE_C_REREDUCES : Fld := ⟨0xc78, 63, 0, 0x0⟩
abbrev CE_C_COMMITS : Fld := ⟨0xc80, 63, 0, 0x0⟩
abbrev CE_C_REPLAYS_ORDERED : Fld := ⟨0xc88, 63, 0, 0x0⟩
abbrev CE_C_ROLLBACKS : Fld := ⟨0xc90, 63, 0, 0x0⟩
abbrev CE_C_RESIDUE_ERRS : Fld := ⟨0xc98, 63, 0, 0x0⟩
abbrev CE_C_NONFINITE_IN : Fld := ⟨0xca0, 63, 0, 0x0⟩
abbrev CE_JOB_VALID : Fld := ⟨0x1000, 63, 63, 0x20⟩
abbrev CE_JOB_BARRIER : Fld := ⟨0x1000, 62, 60, 0x20⟩
abbrev CE_JOB_COMMIT_GROUP : Fld := ⟨0x1000, 47, 32, 0x20⟩
abbrev CE_JOB_OUTCOME_STEP : Fld := ⟨0x1000, 31, 16, 0x20⟩
abbrev CE_JOB_BUCKETS_OPEN : Fld := ⟨0x1000, 12, 0, 0x20⟩
abbrev CE_JOB_T_ENTER : Fld := ⟨0x1008, 63, 0, 0x20⟩
abbrev CE_JOB_T_OUTCOME : Fld := ⟨0x1010, 63, 0, 0x20⟩
abbrev CE_JOB_RETAIN_BYTES : Fld := ⟨0x1018, 63, 0, 0x20⟩
abbrev CE_BUCKET_VALID : Fld := ⟨0x8000, 63, 63, 0x8⟩
abbrev CE_BUCKET_SLOT : Fld := ⟨0x8000, 62, 59, 0x8⟩
abbrev CE_BUCKET_STATE : Fld := ⟨0x8000, 58, 56, 0x8⟩
abbrev CE_BUCKET_ATTEMPT : Fld := ⟨0x8000, 55, 54, 0x8⟩
abbrev CE_BUCKET_LEVEL : Fld := ⟨0x8000, 53, 52, 0x8⟩
abbrev CE_BUCKET_STEP : Fld := ⟨0x8000, 47, 32, 0x8⟩
abbrev CE_BUCKET_GEPOCH : Fld := ⟨0x8000, 31, 20, 0x8⟩
abbrev CE_BUCKET_TAG : Fld := ⟨0x8000, 19, 0, 0x8⟩
abbrev CELL_STATUS_IMAGES : Fld := ⟨0x18, 40, 32, 0x0⟩
abbrev CELL_STATUS_LOADS_ACTIVE : Fld := ⟨0x18, 21, 16, 0x0⟩
abbrev CELL_ERR_STATUS_BAD_CMD : Fld := ⟨0x20, 5, 5, 0x0⟩
abbrev CELL_ERR_STATUS_RESP_LEN : Fld := ⟨0x20, 4, 4, 0x0⟩
abbrev CELL_ERR_STATUS_CELLAR_UE : Fld := ⟨0x20, 3, 3, 0x0⟩
abbrev CELL_ERR_STATUS_LOAD_FAIL : Fld := ⟨0x20, 2, 2, 0x0⟩
abbrev CELL_ERR_STATUS_SEG_TAG : Fld := ⟨0x20, 1, 1, 0x0⟩
abbrev CELL_ERR_STATUS_IMAGE_BAD : Fld := ⟨0x20, 0, 0, 0x0⟩
abbrev CELL_EVT_STATUS_EPOCH_FREED : Fld := ⟨0x38, 3, 3, 0x0⟩
abbrev CELL_EVT_STATUS_EPOCH_SWITCHED : Fld := ⟨0x38, 2, 2, 0x0⟩
abbrev CELL_EVT_STATUS_EVICTED : Fld := ⟨0x38, 1, 1, 0x0⟩
abbrev CELL_EVT_STATUS_MODEL_READY : Fld := ⟨0x38, 0, 0, 0x0⟩
abbrev CELL_CACHE_CFG_DECAY_S : Fld := ⟨0x100, 63, 48, 0x0⟩
abbrev CELL_CACHE_CFG_SIZE_GB : Fld := ⟨0x100, 10, 0, 0x0⟩
abbrev CELL_CACHE_CMD_EPOCH : Fld := ⟨0x108, 63, 32, 0x0⟩
abbrev CELL_CACHE_CMD_ENTRY : Fld := ⟨0x108, 12, 8, 0x0⟩
abbrev CELL_CACHE_CMD_OP : Fld := ⟨0x108, 2, 0, 0x0⟩
abbrev CELL_LAST_FAIL_EPOCH : Fld := ⟨0x110, 63, 32, 0x0⟩
abbrev CELL_LAST_FAIL_MODEL : Fld := ⟨0x110, 31, 16, 0x0⟩
abbrev CELL_LAST_FAIL_ENTRY : Fld := ⟨0x110, 12, 8, 0x0⟩
abbrev CELL_LAST_FAIL_CAUSE : Fld := ⟨0x110, 3, 0, 0x0⟩
abbrev CELL_C_REQS_IN : Fld := ⟨0xc00, 63, 0, 0x0⟩
abbrev CELL_C_REQS_REJECTED : Fld := ⟨0xc08, 63, 0, 0x0⟩
abbrev CELL_C_REQ_DROPS : Fld := ⟨0xc10, 63, 0, 0x0⟩
abbrev CELL_C_BATCHES : Fld := ⟨0xc18, 63, 0, 0x0⟩
abbrev CELL_C_RESPONSES : Fld := ⟨0xc20, 63, 0, 0x0⟩
abbrev CELL_C_RESP_LOST : Fld := ⟨0xc28, 63, 0, 0x0⟩
abbrev CELL_C_STREAM_TIMEOUTS : Fld := ⟨0xc30, 63, 0, 0x0⟩
abbrev CELL_C_LOADS_WS : Fld := ⟨0xc38, 63, 0, 0x0⟩
abbrev CELL_C_LOADS_CELLAR : Fld := ⟨0xc40, 63, 0, 0x0⟩
abbrev CELL_C_LOAD_FAILS : Fld := ⟨0xc48, 63, 0, 0x0⟩
abbrev CELL_C_LOAD_RESTARTS : Fld := ⟨0xc50, 63, 0, 0x0⟩
abbrev CELL_C_LOADS_IGNORED : Fld := ⟨0xc58, 63, 0, 0x0⟩
abbrev CELL_C_BYTES_LOADED : Fld := ⟨0xc60, 63, 0, 0x0⟩
abbrev CELL_C_EVICTIONS : Fld := ⟨0xc68, 63, 0, 0x0⟩
abbrev CELL_C_EPOCH_SWITCHES : Fld := ⟨0xc70, 63, 0, 0x0⟩
abbrev CELL_C_SPACE_WAITS : Fld := ⟨0xc78, 63, 0, 0x0⟩
abbrev CELL_MODEL_VALID : Fld := ⟨0x1000, 63, 63, 0x40⟩
abbrev CELL_MODEL_STATE : Fld := ⟨0x1000, 62, 60, 0x40⟩
abbrev CELL_MODEL_PINNED : Fld := ⟨0x1000, 59, 59, 0x40⟩
abbrev CELL_MODEL_UNLOADING : Fld := ⟨0x1000, 58, 58, 0x40⟩
abbrev CELL_MODEL_CUR : Fld := ⟨0x1000, 57, 57, 0x40⟩
abbrev CELL_MODEL_SOURCE : Fld := ⟨0x1000, 56, 55, 0x40⟩
abbrev CELL_MODEL_KEYSLOT : Fld := ⟨0x1000, 54, 48, 0x40⟩
abbrev CELL_MODEL_CELLAR_INDEX : Fld := ⟨0x1000, 47, 40, 0x40⟩
abbrev CELL_MODEL_MODEL : Fld := ⟨0x1000, 15, 0, 0x40⟩
abbrev CELL_MODEL_TARGET_EPOCH : Fld := ⟨0x1008, 63, 32, 0x40⟩
abbrev CELL_MODEL_USE : Fld := ⟨0x1008, 31, 0, 0x40⟩
abbrev CELL_MODEL_LAST_USE : Fld := ⟨0x1010, 63, 0, 0x40⟩
abbrev CELL_MODEL_SSTATE : Fld := ⟨0x1018, 63, 62, 0x40⟩
abbrev CELL_MODEL_UNITS : Fld := ⟨0x1018, 51, 41, 0x40⟩
abbrev CELL_MODEL_BOUND : Fld := ⟨0x1018, 40, 32, 0x40⟩
abbrev CELL_MODEL_EPOCH : Fld := ⟨0x1018, 31, 0, 0x40⟩
abbrev CELL_MODEL_TENANT : Fld := ⟨0x1028, 63, 0, 0x40⟩
abbrev CELL_IMAGE_VALID : Fld := ⟨0x2000, 63, 63, 0x10⟩
abbrev CELL_IMAGE_KIND : Fld := ⟨0x2000, 56, 56, 0x10⟩
abbrev CELL_IMAGE_MODEL : Fld := ⟨0x2000, 47, 32, 0x10⟩
abbrev CELL_IMAGE_EPOCH : Fld := ⟨0x2000, 31, 0, 0x10⟩
abbrev CELL_IMAGE_BYTES : Fld := ⟨0x2008, 63, 0, 0x10⟩
abbrev CELL_SERVE_VALID : Fld := ⟨0x3000, 63, 63, 0x10⟩
abbrev CELL_SERVE_IN_BATCH : Fld := ⟨0x3000, 62, 62, 0x10⟩
abbrev CELL_SERVE_QUEUED : Fld := ⟨0x3000, 44, 32, 0x10⟩
abbrev CELL_SERVE_BATCH_SEQ : Fld := ⟨0x3000, 31, 0, 0x10⟩
abbrev CELL_SERVE_MODEL : Fld := ⟨0x3008, 63, 48, 0x10⟩
abbrev CELL_SERVE_EPOCH : Fld := ⟨0x3008, 31, 0, 0x10⟩
abbrev FAB_STATUS_BYPASSED : Fld := ⟨0x18, 30, 24, 0x0⟩
abbrev FAB_STATUS_DETOUR_BUSY : Fld := ⟨0x18, 19, 19, 0x0⟩
abbrev FAB_STATUS_CHECK : Fld := ⟨0x18, 18, 17, 0x0⟩
abbrev FAB_STATUS_ACTIVE_BANK : Fld := ⟨0x18, 16, 16, 0x0⟩
abbrev FAB_ERR_STATUS_UNREACHABLE : Fld := ⟨0x20, 6, 6, 0x0⟩
abbrev FAB_ERR_STATUS_ISOLATED : Fld := ⟨0x20, 5, 5, 0x0⟩
abbrev FAB_ERR_STATUS_ROUTE_BUSY : Fld := ⟨0x20, 4, 4, 0x0⟩
abbrev FAB_ERR_STATUS_ROUTE_CHECK_FAIL : Fld := ⟨0x20, 3, 3, 0x0⟩
abbrev FAB_ERR_STATUS_VC_STALL : Fld := ⟨0x20, 2, 2, 0x0⟩
abbrev FAB_ERR_STATUS_ROUTER_FAULT : Fld := ⟨0x20, 1, 1, 0x0⟩
abbrev FAB_ERR_STATUS_LINK_UE : Fld := ⟨0x20, 0, 0, 0x0⟩
abbrev FAB_EVT_STATUS_ROUTE_COMMITTED : Fld := ⟨0x38, 1, 1, 0x0⟩
abbrev FAB_EVT_STATUS_DETOUR_UPDATED : Fld := ⟨0x38, 0, 0, 0x0⟩
abbrev FAB_ROUTE_CTRL_COMMIT : Fld := ⟨0x100, 0, 0, 0x0⟩
abbrev FAB_ROUTE_RESULT_KIND : Fld := ⟨0x108, 63, 56, 0x0⟩
abbrev FAB_ROUTE_RESULT_SRC : Fld := ⟨0x108, 55, 48, 0x0⟩
abbrev FAB_ROUTE_RESULT_DST : Fld := ⟨0x108, 47, 40, 0x0⟩
abbrev FAB_LIMITS_STALL_US : Fld := ⟨0x110, 15, 0, 0x0⟩
abbrev FAB_BYPASS_REGIONS : Fld := ⟨0x118, 63, 0, 0x8⟩
abbrev FAB_QUANTA_DET : Fld := ⟨0x800, 39, 32, 0x0⟩
abbrev FAB_QUANTA_WST : Fld := ⟨0x800, 31, 24, 0x0⟩
abbrev FAB_QUANTA_COLL : Fld := ⟨0x800, 23, 16, 0x0⟩
abbrev FAB_QUANTA_RSP : Fld := ⟨0x800, 15, 8, 0x0⟩
abbrev FAB_QUANTA_REQ : Fld := ⟨0x800, 7, 0, 0x0⟩
abbrev FAB_C_LINK_CE : Fld := ⟨0xc00, 63, 0, 0x0⟩
abbrev FAB_C_LINK_UE_COUNT : Fld := ⟨0xc08, 63, 0, 0x0⟩
abbrev FAB_C_XJOB_DROPS : Fld := ⟨0xc10, 63, 0, 0x0⟩
abbrev FAB_C_INACTIVE_DROPS : Fld := ⟨0xc18, 63, 0, 0x0⟩
abbrev FAB_C_BYPASS_DISCARDS : Fld := ⟨0xc20, 63, 0, 0x0⟩
abbrev FAB_C_UNREACH_DROPS : Fld := ⟨0xc28, 63, 0, 0x0⟩
abbrev FAB_C_DETOUR_PACKETS : Fld := ⟨0xc30, 63, 0, 0x0⟩
abbrev FAB_C_DETOUR_UPDATES : Fld := ⟨0xc38, 63, 0, 0x0⟩
abbrev FAB_C_ROUTE_CHECKS : Fld := ⟨0xc40, 63, 0, 0x0⟩
abbrev FAB_C_VC_STALLS : Fld := ⟨0xc48, 63, 0, 0x0⟩
abbrev FAB_C_POST_WAIT_NS : Fld := ⟨0xc50, 63, 0, 0x0⟩
abbrev FAB_DETOUR_EXIT : Fld := ⟨0x5000, 2, 0, 0x8⟩
abbrev FAB_ATTACH_KIND : Fld := ⟨0x7000, 63, 56, 0x8⟩
abbrev FAB_ATTACH_INDEX : Fld := ⟨0x7000, 55, 48, 0x8⟩
abbrev FAB_ATTACH_WIDTH : Fld := ⟨0x7000, 47, 44, 0x8⟩
abbrev FAB_ATTACH_USING : Fld := ⟨0x7000, 41, 40, 0x8⟩
abbrev FAB_ATTACH_Y_S : Fld := ⟨0x7000, 39, 32, 0x8⟩
abbrev FAB_ATTACH_X_S : Fld := ⟨0x7000, 31, 24, 0x8⟩
abbrev FAB_ATTACH_Y_P : Fld := ⟨0x7000, 23, 16, 0x8⟩
abbrev FAB_ATTACH_X_P : Fld := ⟨0x7000, 15, 8, 0x8⟩
abbrev FLT_CTRL_ESCALATE : Fld := ⟨0x10, 16, 16, 0x0⟩
abbrev FLT_STATUS_JOBS_RECOVERING : Fld := ⟨0x18, 28, 24, 0x0⟩
abbrev FLT_STATUS_MODULE_FAILED : Fld := ⟨0x18, 16, 16, 0x0⟩
abbrev FLT_ERR_STATUS_HOLD_DISCARD : Fld := ⟨0x20, 6, 6, 0x0⟩
abbrev FLT_ERR_STATUS_DRAIN_TIMEOUT : Fld := ⟨0x20, 5, 5, 0x0⟩
abbrev FLT_ERR_STATUS_MODULE_FAULT : Fld := ⟨0x20, 4, 4, 0x0⟩
abbrev FLT_ERR_STATUS_CORRUPTION : Fld := ⟨0x20, 3, 3, 0x0⟩
abbrev FLT_ERR_STATUS_NO_HOOP : Fld := ⟨0x20, 2, 2, 0x0⟩
abbrev FLT_ERR_STATUS_HEARTBEAT : Fld := ⟨0x20, 1, 1, 0x0⟩
abbrev FLT_ERR_STATUS_SENTINEL : Fld := ⟨0x20, 0, 0, 0x0⟩
abbrev FLT_EVT_STATUS_ROLLBACK_SENT : Fld := ⟨0x38, 3, 3, 0x0⟩
abbrev FLT_EVT_STATUS_RECOVERED : Fld := ⟨0x38, 2, 2, 0x0⟩
abbrev FLT_EVT_STATUS_FENCED : Fld := ⟨0x38, 1, 1, 0x0⟩
abbrev FLT_EVT_STATUS_LOGGED : Fld := ⟨0x38, 0, 0, 0x0⟩
abbrev FLT_LIMITS_DRAIN_MS : Fld := ⟨0x100, 63, 48, 0x0⟩
abbrev FLT_LIMITS_SENTINEL_US : Fld := ⟨0x100, 47, 32, 0x0⟩
abbrev FLT_LIMITS_STRIKE_WINDOW_S : Fld := ⟨0x100, 31, 16, 0x0⟩
abbrev FLT_LIMITS_STRIKE_LIMIT : Fld := ⟨0x100, 7, 0, 0x0⟩
abbrev FLT_LAST_FAULT_PAGE : Fld := ⟨0x108, 63, 48, 0x0⟩
abbrev FLT_LAST_FAULT_CLASS : Fld := ⟨0x108, 47, 44, 0x0⟩
abbrev FLT_LAST_FAULT_CODE : Fld := ⟨0x108, 43, 36, 0x0⟩
abbrev FLT_LAST_FAULT_SLOT : Fld := ⟨0x108, 35, 32, 0x0⟩
abbrev FLT_LOG_HEAD_NEXT : Fld := ⟨0x110, 7, 0, 0x0⟩
abbrev FLT_INJECT_CONFIRM : Fld := ⟨0x800, 63, 48, 0x0⟩
abbrev FLT_INJECT_KIND : Fld := ⟨0x800, 19, 16, 0x0⟩
abbrev FLT_INJECT_TARGET : Fld := ⟨0x800, 15, 0, 0x0⟩
abbrev FLT_FORCE_DISABLE_CONFIRM : Fld := ⟨0x808, 63, 48, 0x0⟩
abbrev FLT_FORCE_DISABLE_PAGE : Fld := ⟨0x808, 15, 0, 0x0⟩
abbrev FLT_C_REPORTS : Fld := ⟨0xc00, 63, 0, 0x0⟩
abbrev FLT_C_TILE_FAULTS : Fld := ⟨0xc08, 63, 0, 0x0⟩
abbrev FLT_C_REGION_FAULTS : Fld := ⟨0xc10, 63, 0, 0x0⟩
abbrev FLT_C_STACK_FAULTS : Fld := ⟨0xc18, 63, 0, 0x0⟩
abbrev FLT_C_ENGINE_FAULTS : Fld := ⟨0xc20, 63, 0, 0x0⟩
abbrev FLT_C_JOB_FAULTS : Fld := ⟨0xc28, 63, 0, 0x0⟩
abbrev FLT_C_RECOVERIES_CUT : Fld := ⟨0xc30, 63, 0, 0x0⟩
abbrev FLT_C_RECOVERIES_STEP : Fld := ⟨0xc38, 63, 0, 0x0⟩
abbrev FLT_C_SENTINEL_FORCED : Fld := ⟨0xc40, 63, 0, 0x0⟩
abbrev FLT_C_REPLAY_COMPARES : Fld := ⟨0xc48, 63, 0, 0x0⟩
abbrev FLT_C_REPLAY_MISMATCHES : Fld := ⟨0xc50, 63, 0, 0x0⟩
abbrev FLT_C_HOLD_DISCARDS : Fld := ⟨0xc58, 63, 0, 0x0⟩
abbrev FLT_C_INJECTIONS : Fld := ⟨0xc60, 63, 0, 0x0⟩
abbrev FLT_C_FORCED_ABORTS : Fld := ⟨0xc68, 63, 0, 0x0⟩
abbrev FLT_C_TOO_LATE_COUNT : Fld := ⟨0xc70, 63, 0, 0x0⟩
abbrev FLT_LOG_VALID : Fld := ⟨0x1000, 63, 63, 0x10⟩
abbrev FLT_LOG_PAGE : Fld := ⟨0x1000, 62, 48, 0x10⟩
abbrev FLT_LOG_CLASS : Fld := ⟨0x1000, 47, 44, 0x10⟩
abbrev FLT_LOG_CODE : Fld := ⟨0x1000, 43, 36, 0x10⟩
abbrev FLT_LOG_SLOT : Fld := ⟨0x1000, 35, 32, 0x10⟩
abbrev FLT_LOG_ACTION : Fld := ⟨0x1000, 31, 28, 0x10⟩
abbrev FLT_LOG_TIME : Fld := ⟨0x1008, 63, 0, 0x10⟩
abbrev PLC_STATUS_ACTIVE : Fld := ⟨0x18, 30, 24, 0x0⟩
abbrev PLC_STATUS_STANDBY : Fld := ⟨0x18, 18, 16, 0x0⟩
abbrev PLC_ERR_STATUS_NO_STANDBY : Fld := ⟨0x20, 0, 0, 0x0⟩
abbrev PLC_EVT_STATUS_JOINED : Fld := ⟨0x38, 2, 2, 0x0⟩
abbrev PLC_EVT_STATUS_REFORMED : Fld := ⟨0x38, 1, 1, 0x0⟩
abbrev PLC_EVT_STATUS_HOOP_SELECTED : Fld := ⟨0x38, 0, 0, 0x0⟩
abbrev PLC_PAIR_SLOTS : Fld := ⟨0x800, 15, 0, 0x0⟩
abbrev PLC_C_HB_MISSES : Fld := ⟨0xc00, 63, 0, 0x0⟩
abbrev PLC_C_SUSPECTS_SENT : Fld := ⟨0xc08, 63, 0, 0x0⟩
abbrev PLC_C_SUSPECTS_DISMISSED : Fld := ⟨0xc10, 63, 0, 0x0⟩
abbrev PLC_C_CONFIRMS : Fld := ⟨0xc18, 63, 0, 0x0⟩
abbrev PLC_C_REFORMS : Fld := ⟨0xc20, 63, 0, 0x0⟩
abbrev PLC_C_ABANDONS : Fld := ⟨0xc28, 63, 0, 0x0⟩
abbrev PLC_C_JOINS : Fld := ⟨0xc30, 63, 0, 0x0⟩
abbrev PLC_C_STALE_EPOCH_DROPS : Fld := ⟨0xc38, 63, 0, 0x0⟩
abbrev PLC_C_MEMBER_MSG_DROPS : Fld := ⟨0xc40, 63, 0, 0x0⟩
abbrev PLC_C_HOOP_SELECTS : Fld := ⟨0xc48, 63, 0, 0x0⟩
abbrev PLC_C_SUBSTITUTIONS : Fld := ⟨0xc50, 63, 0, 0x0⟩
abbrev PLC_C_PAIR_CHECKS : Fld := ⟨0xc58, 63, 0, 0x0⟩
abbrev PLC_C_PAIR_MISMATCHES : Fld := ⟨0xc60, 63, 0, 0x0⟩
abbrev PLC_REGION_STATE : Fld := ⟨0x1000, 63, 61, 0x8⟩
abbrev PLC_REGION_HELD : Fld := ⟨0x1000, 60, 60, 0x8⟩
abbrev PLC_REGION_SLOT : Fld := ⟨0x1000, 59, 56, 0x8⟩
abbrev PLC_REGION_LOGICAL : Fld := ⟨0x1000, 55, 48, 0x8⟩
abbrev PLC_REGION_TWIN : Fld := ⟨0x1000, 47, 40, 0x8⟩
abbrev PLC_REGION_STRIKES : Fld := ⟨0x1000, 39, 32, 0x8⟩
abbrev PLC_JOB_VALID : Fld := ⟨0x2000, 63, 63, 0x40⟩
abbrev PLC_JOB_MSTATE : Fld := ⟨0x2000, 62, 60, 0x40⟩
abbrev PLC_JOB_PAIRED : Fld := ⟨0x2000, 59, 59, 0x40⟩
abbrev PLC_JOB_RECOVERING : Fld := ⟨0x2000, 58, 58, 0x40⟩
abbrev PLC_JOB_POINT : Fld := ⟨0x2000, 57, 56, 0x40⟩
abbrev PLC_JOB_GEPOCH : Fld := ⟨0x2000, 43, 32, 0x40⟩
abbrev PLC_JOB_LEADER : Fld := ⟨0x2000, 15, 0, 0x40⟩
abbrev PLC_JOB_LOST_B : Fld := ⟨0x2008, 63, 48, 0x40⟩
abbrev PLC_JOB_LOST_A : Fld := ⟨0x2008, 47, 32, 0x40⟩
abbrev PLC_JOB_CARRIED : Fld := ⟨0x2008, 15, 0, 0x40⟩
abbrev PLC_JOB_HOOP_VALID : Fld := ⟨0x2010, 63, 63, 0x40⟩
abbrev PLC_JOB_HOOP : Fld := ⟨0x2010, 47, 32, 0x40⟩
abbrev PLC_JOB_REGION_KEY : Fld := ⟨0x2010, 23, 16, 0x40⟩
abbrev PLC_JOB_STACK_KEY : Fld := ⟨0x2010, 15, 8, 0x40⟩
abbrev PLC_JOB_ENGINE_KEY : Fld := ⟨0x2010, 7, 0, 0x40⟩
abbrev PLC_JOB_T_FAULT : Fld := ⟨0x2018, 63, 0, 0x40⟩
abbrev PLC_JOB_T_RESUME : Fld := ⟨0x2020, 63, 0, 0x40⟩
abbrev OPT_STATUS_RX_SPARES_LEFT : Fld := ⟨0x18, 25, 24, 0x0⟩
abbrev OPT_STATUS_TX_SPARES_LEFT : Fld := ⟨0x18, 23, 22, 0x0⟩
abbrev OPT_STATUS_PLL_LOCKED : Fld := ⟨0x18, 21, 21, 0x0⟩
abbrev OPT_STATUS_UP : Fld := ⟨0x18, 19, 16, 0x0⟩
abbrev OPT_ERR_STATUS_XFER_TIMEOUT : Fld := ⟨0x20, 9, 9, 0x0⟩
abbrev OPT_ERR_STATUS_CFG_BUSY : Fld := ⟨0x20, 8, 8, 0x0⟩
abbrev OPT_ERR_STATUS_IDENT_MISMATCH : Fld := ⟨0x20, 7, 7, 0x0⟩
abbrev OPT_ERR_STATUS_REPLAY_LIMIT : Fld := ⟨0x20, 6, 6, 0x0⟩
abbrev OPT_ERR_STATUS_CREDIT_VIOLATION : Fld := ⟨0x20, 5, 5, 0x0⟩
abbrev OPT_ERR_STATUS_SINK_TIMEOUT : Fld := ⟨0x20, 4, 4, 0x0⟩
abbrev OPT_ERR_STATUS_LANES_EXHAUSTED : Fld := ⟨0x20, 3, 3, 0x0⟩
abbrev OPT_ERR_STATUS_ENG_UE : Fld := ⟨0x20, 2, 2, 0x0⟩
abbrev OPT_ERR_STATUS_TX_FAULT : Fld := ⟨0x20, 1, 1, 0x0⟩
abbrev OPT_ERR_STATUS_PLL_UNLOCK : Fld := ⟨0x20, 0, 0, 0x0⟩
abbrev OPT_EVT_STATUS_LANE_OUT : Fld := ⟨0x38, 3, 3, 0x0⟩
abbrev OPT_EVT_STATUS_BERT_DONE : Fld := ⟨0x38, 2, 2, 0x0⟩
abbrev OPT_EVT_STATUS_LINK_DOWN : Fld := ⟨0x38, 1, 1, 0x0⟩
abbrev OPT_EVT_STATUS_LINK_UP : Fld := ⟨0x38, 0, 0, 0x0⟩
abbrev OPT_CFG_SPLIT : Fld := ⟨0x100, 9, 8, 0x0⟩
abbrev OPT_CFG_ROLE : Fld := ⟨0x100, 1, 0, 0x0⟩
abbrev OPT_LIMITS_SINK_US : Fld := ⟨0x108, 63, 48, 0x0⟩
abbrev OPT_LIMITS_REPLAY_TIMEOUT_US : Fld := ⟨0x108, 47, 32, 0x0⟩
abbrev OPT_LIMITS_REPLAY_MAX : Fld := ⟨0x108, 31, 24, 0x0⟩
abbrev OPT_LIMITS_SER_LIMIT : Fld := ⟨0x108, 19, 0, 0x0⟩
abbrev OPT_LIMITS2_XFER_S : Fld := ⟨0x110, 11, 0, 0x0⟩
abbrev OPT_BERT_INTERVAL_MIN : Fld := ⟨0x118, 63, 48, 0x0⟩
abbrev OPT_BERT_SOAK_MIN : Fld := ⟨0x118, 47, 40, 0x0⟩
abbrev OPT_BERT_BER_LIMIT : Fld := ⟨0x118, 39, 16, 0x0⟩
abbrev OPT_BERT_CMD_CMD : Fld := ⟨0x120, 1, 0, 0x0⟩
abbrev OPT_LANE_OUT_RX : Fld := ⟨0x128, 49, 32, 0x0⟩
abbrev OPT_LANE_OUT_TX : Fld := ⟨0x128, 17, 0, 0x0⟩
abbrev OPT_PORT_CFG_EN : Fld := ⟨0x130, 16, 16, 0x8⟩
abbrev OPT_PORT_CFG_LOCK : Fld := ⟨0x130, 8, 8, 0x8⟩
abbrev OPT_PORT_CFG_IN_BOND : Fld := ⟨0x130, 7, 7, 0x8⟩
abbrev OPT_PORT_CFG_BOND : Fld := ⟨0x130, 4, 0, 0x8⟩
abbrev OPT_LINK_EXPERT_AUTO_RETURN : Fld := ⟨0x800, 0, 0, 0x0⟩
abbrev OPT_C_FLITS_TX : Fld := ⟨0xc00, 63, 0, 0x0⟩
abbrev OPT_C_FLITS_RX : Fld := ⟨0xc08, 63, 0, 0x0⟩
abbrev OPT_C_CRC_ERRS : Fld := ⟨0xc10, 63, 0, 0x0⟩
abbrev OPT_C_NAKS_SENT : Fld := ⟨0xc18, 63, 0, 0x0⟩
abbrev OPT_C_REPLAYS : Fld := ⟨0xc20, 63, 0, 0x0⟩
abbrev OPT_C_FEC_CORRECTED : Fld := ⟨0xc28, 63, 0, 0x0⟩
abbrev OPT_C_FEC_UNCORRECTED : Fld := ⟨0xc30, 63, 0, 0x0⟩
abbrev OPT_C_CREDIT_STALL_NS : Fld := ⟨0xc38, 63, 0, 0x0⟩
abbrev OPT_C_CREDIT_VIOLS : Fld := ⟨0xc40, 63, 0, 0x0⟩
abbrev OPT_C_MALFORMED_DROPS : Fld := ⟨0xc48, 63, 0, 0x0⟩
abbrev OPT_C_MISADDR_DROPS : Fld := ⟨0xc50, 63, 0, 0x0⟩
abbrev OPT_C_EGRESS_DISCARDS : Fld := ⟨0xc58, 63, 0, 0x0⟩
abbrev OPT_C_LINK_DOWNS : Fld := ⟨0xc60, 63, 0, 0x0⟩
abbrev OPT_C_LANE_SPARES : Fld := ⟨0xc68, 63, 0, 0x0⟩
abbrev OPT_C_BERT_RUNS : Fld := ⟨0xc70, 63, 0, 0x0⟩
abbrev OPT_C_BERT_SKIPPED : Fld := ⟨0xc78, 63, 0, 0x0⟩
abbrev OPT_PORT_LSTATE : Fld := ⟨0x1000, 63, 61, 0x20⟩
abbrev OPT_PORT_WIDTH : Fld := ⟨0x1000, 60, 56, 0x20⟩
abbrev OPT_PORT_NKIND : Fld := ⟨0x1000, 55, 54, 0x20⟩
abbrev OPT_PORT_FAULTY_COUNT : Fld := ⟨0x1000, 53, 52, 0x20⟩
abbrev OPT_PORT_NSERIAL : Fld := ⟨0x1008, 63, 0, 0x20⟩
abbrev OPT_PORT_NADDR : Fld := ⟨0x1010, 63, 32, 0x20⟩
abbrev OPT_PORT_NPORT : Fld := ⟨0x1010, 15, 0, 0x20⟩
abbrev OPT_PORT_T_UP : Fld := ⟨0x1018, 63, 0, 0x20⟩
abbrev OPT_LANE_TX_STATE : Fld := ⟨0x1100, 63, 62, 0x20⟩
abbrev OPT_LANE_RX_STATE : Fld := ⟨0x1100, 61, 60, 0x20⟩
abbrev OPT_LANE_TX_LOGICAL : Fld := ⟨0x1100, 59, 55, 0x20⟩
abbrev OPT_LANE_RX_LOGICAL : Fld := ⟨0x1100, 54, 50, 0x20⟩
abbrev OPT_LANE_RX_FROM : Fld := ⟨0x1100, 49, 45, 0x20⟩
abbrev OPT_LANE_LAST_BITS : Fld := ⟨0x1108, 63, 0, 0x20⟩
abbrev OPT_LANE_LAST_ERRORS : Fld := ⟨0x1110, 63, 0, 0x20⟩
abbrev OPT_LANE_LAST_TIME : Fld := ⟨0x1118, 63, 0, 0x20⟩
abbrev MEM_CTRL_SCRUB_EN : Fld := ⟨0x10, 16, 16, 0x0⟩
abbrev MEM_STATUS_STATE : Fld := ⟨0x18, 23, 22, 0x0⟩
abbrev MEM_STATUS_SLOT : Fld := ⟨0x18, 20, 16, 0x0⟩
abbrev MEM_ERR_STATUS_RANGE : Fld := ⟨0x20, 5, 5, 0x0⟩
abbrev MEM_ERR_STATUS_TRAIN_FAIL : Fld := ⟨0x20, 4, 4, 0x0⟩
abbrev MEM_ERR_STATUS_LINES_EXHAUSTED : Fld := ⟨0x20, 3, 3, 0x0⟩
abbrev MEM_ERR_STATUS_UE_LIMIT : Fld := ⟨0x20, 2, 2, 0x0⟩
abbrev MEM_ERR_STATUS_PHY_FAULT : Fld := ⟨0x20, 1, 1, 0x0⟩
abbrev MEM_ERR_STATUS_CTRL_FAULT : Fld := ⟨0x20, 0, 0, 0x0⟩
abbrev MEM_EVT_STATUS_SCRUB_PASS : Fld := ⟨0x38, 2, 2, 0x0⟩
abbrev MEM_EVT_STATUS_LINE_REMAPPED : Fld := ⟨0x38, 1, 1, 0x0⟩
abbrev MEM_EVT_STATUS_REMAPPED : Fld := ⟨0x38, 0, 0, 0x0⟩
abbrev MEM_SCRUB_CFG_PASS_H : Fld := ⟨0x100, 7, 0, 0x0⟩
abbrev MEM_LIMITS_UE_LIMIT : Fld := ⟨0x108, 15, 0, 0x0⟩
abbrev MEM_LINES_USED : Fld := ⟨0x110, 12, 0, 0x0⟩
abbrev MEM_C_BYTES_READ : Fld := ⟨0xc00, 63, 0, 0x0⟩
abbrev MEM_C_BYTES_WRITTEN : Fld := ⟨0xc08, 63, 0, 0x0⟩
abbrev MEM_C_CE : Fld := ⟨0xc10, 63, 0, 0x0⟩
abbrev MEM_C_UE : Fld := ⟨0xc18, 63, 0, 0x0⟩
abbrev MEM_C_SCRUB_CE : Fld := ⟨0xc20, 63, 0, 0x0⟩
abbrev MEM_C_SCRUB_UE : Fld := ⟨0xc28, 63, 0, 0x0⟩
abbrev MEM_C_LINES_REMAPPED : Fld := ⟨0xc30, 63, 0, 0x0⟩
abbrev MEM_C_SCRUB_PASSES : Fld := ⟨0xc38, 63, 0, 0x0⟩
abbrev MEM_LINE_VALID : Fld := ⟨0x1000, 63, 63, 0x8⟩
abbrev MEM_LINE_POISON : Fld := ⟨0x1000, 62, 62, 0x8⟩
abbrev MEM_LINE_LINE : Fld := ⟨0x1000, 29, 0, 0x8⟩
abbrev MEM_MAP_N : Fld := ⟨0xa000, 63, 59, 0x0⟩
abbrev MEM_MAP_CAP_GB : Fld := ⟨0xa000, 58, 48, 0x0⟩
abbrev MEM_MAP_CACHE_BASE_GB : Fld := ⟨0xa000, 42, 32, 0x0⟩
abbrev MEM_MAP_STAGE_BASE_GB : Fld := ⟨0xa000, 26, 16, 0x0⟩
abbrev MEM_CELLAR_FREE_BLOCKS : Fld := ⟨0xa020, 63, 51, 0x0⟩
abbrev MEM_CELLAR_SESSION : Fld := ⟨0xa020, 50, 49, 0x0⟩
abbrev MEM_CELLAR_INDEX : Fld := ⟨0xa020, 47, 40, 0x0⟩
abbrev MEM_CELLAR_SESSION_BYTES : Fld := ⟨0xa028, 63, 0, 0x0⟩
abbrev MEM_CELLAR_CELLAR_CE : Fld := ⟨0xa030, 63, 0, 0x0⟩
abbrev MEM_CELLAR_CELLAR_UE_COUNT : Fld := ⟨0xa038, 63, 0, 0x0⟩
abbrev MEM_CELLAR_BLOCKS_RETIRED : Fld := ⟨0xa040, 63, 0, 0x0⟩
abbrev MEM_CELLAR_SESSIONS : Fld := ⟨0xa048, 63, 0, 0x0⟩
abbrev MEM_EXTENT_VALID : Fld := ⟨0xb000, 63, 63, 0x8⟩
abbrev MEM_EXTENT_START_GB : Fld := ⟨0xb000, 42, 32, 0x8⟩
abbrev MEM_EXTENT_LEN_GB : Fld := ⟨0xb000, 26, 16, 0x8⟩
abbrev MEM_EXTENT_BASE_GB : Fld := ⟨0xb000, 10, 0, 0x8⟩
abbrev REG_ERR_STATUS_OVERVOLT : Fld := ⟨0x20, 28, 28, 0x0⟩
abbrev REG_ERR_STATUS_PLL_UNLOCK : Fld := ⟨0x20, 27, 27, 0x0⟩
abbrev REG_ERR_STATUS_ZONE_TIMEOUT : Fld := ⟨0x20, 26, 26, 0x0⟩
abbrev REG_ERR_STATUS_SENSOR_FAIL : Fld := ⟨0x20, 25, 25, 0x0⟩
abbrev REG_ERR_STATUS_THERM_SHUTDOWN : Fld := ⟨0x20, 24, 24, 0x0⟩
abbrev REG_PT_REQ_CLK_K : Fld := ⟨0x600, 21, 16, 0x0⟩
abbrev REG_PT_REQ_VID : Fld := ⟨0x600, 7, 0, 0x0⟩
abbrev REG_PT_BUDGET_BUDGET_DW : Fld := ⟨0x608, 15, 0, 0x0⟩
abbrev REG_PT_STATUS_VID_SENT : Fld := ⟨0x610, 63, 56, 0x0⟩
abbrev REG_PT_STATUS_ZMODE : Fld := ⟨0x610, 55, 54, 0x0⟩
abbrev REG_PT_STATUS_K_RUN : Fld := ⟨0x610, 53, 48, 0x0⟩
abbrev REG_PT_STATUS_K_CEIL : Fld := ⟨0x610, 45, 40, 0x0⟩
abbrev REG_PT_STATUS_LIMITER : Fld := ⟨0x610, 38, 32, 0x0⟩
abbrev REG_PT_STATUS_V_MEAS : Fld := ⟨0x610, 31, 16, 0x0⟩
abbrev REG_PT_STATUS_I_MEAS : Fld := ⟨0x610, 15, 0, 0x0⟩
abbrev REG_PT_TEMP_T_MAX : Fld := ⟨0x618, 63, 48, 0x0⟩
abbrev REG_PT_TEMP_K_THERM : Fld := ⟨0x618, 21, 16, 0x0⟩
abbrev REG_PT_TEMP_SENSOR_OK : Fld := ⟨0x618, 15, 0, 0x0⟩
abbrev REG_PT_EXPERT_GUARD : Fld := ⟨0xb00, 7, 0, 0x0⟩
abbrev REG_C_THROTTLE_EVENTS : Fld := ⟨0xe00, 63, 0, 0x0⟩
abbrev REG_C_DROOP_EVENTS : Fld := ⟨0xe08, 63, 0, 0x0⟩
abbrev REG_C_CLOCK_CHANGES : Fld := ⟨0xe10, 63, 0, 0x0⟩
abbrev REG_C_ZONE_TIMEOUTS : Fld := ⟨0xe18, 63, 0, 0x0⟩
abbrev REG_C_ENERGY_MJ : Fld := ⟨0xe20, 63, 0, 0x0⟩
abbrev REG_SENSOR_VALID : Fld := ⟨0x8000, 63, 63, 0x8⟩
abbrev REG_SENSOR_TEMP : Fld := ⟨0x8000, 15, 0, 0x8⟩
abbrev PWR_STATUS_K_CORE : Fld := ⟨0x18, 37, 32, 0x0⟩
abbrev PWR_STATUS_K_CAP : Fld := ⟨0x18, 29, 24, 0x0⟩
abbrev PWR_STATUS_CAP_UNREACHABLE : Fld := ⟨0x18, 18, 18, 0x0⟩
abbrev PWR_STATUS_CAP_LIMITING : Fld := ⟨0x18, 17, 17, 0x0⟩
abbrev PWR_STATUS_ALERT_ACTIVE : Fld := ⟨0x18, 16, 16, 0x0⟩
abbrev PWR_ERR_STATUS_PMBUS_ERR : Fld := ⟨0x20, 4, 4, 0x0⟩
abbrev PWR_ERR_STATUS_RAIL_FAULT : Fld := ⟨0x20, 3, 3, 0x0⟩
abbrev PWR_ERR_STATUS_REFCLK_LOSS : Fld := ⟨0x20, 2, 2, 0x0⟩
abbrev PWR_ERR_STATUS_CLK_PLL_UNLOCK : Fld := ⟨0x20, 1, 1, 0x0⟩
abbrev PWR_ERR_STATUS_CAP_EXCEEDED : Fld := ⟨0x20, 0, 0, 0x0⟩
abbrev PWR_EVT_STATUS_ALERT_RELEASED : Fld := ⟨0x38, 2, 2, 0x0⟩
abbrev PWR_EVT_STATUS_ALERT_ASSERTED : Fld := ⟨0x38, 1, 1, 0x0⟩
abbrev PWR_EVT_STATUS_CAP_APPLIED : Fld := ⟨0x38, 0, 0, 0x0⟩
abbrev PWR_CAP_CAP_DW : Fld := ⟨0x100, 15, 0, 0x0⟩
abbrev PWR_ALERT_CFG_HOLD_US : Fld := ⟨0x108, 31, 16, 0x0⟩
abbrev PWR_ALERT_CFG_ALERT_K : Fld := ⟨0x108, 5, 0, 0x0⟩
abbrev PWR_MEAS_TOTAL_W : Fld := ⟨0x110, 63, 48, 0x0⟩
abbrev PWR_MEAS_CORE_W : Fld := ⟨0x110, 47, 32, 0x0⟩
abbrev PWR_MEAS_AVG100_W : Fld := ⟨0x110, 31, 16, 0x0⟩
abbrev PWR_ENERGY_J : Fld := ⟨0x118, 63, 0, 0x0⟩
abbrev PWR_C_ALERTS : Fld := ⟨0xc00, 63, 0, 0x0⟩
abbrev PWR_C_CAP_STEPS : Fld := ⟨0xc08, 63, 0, 0x0⟩
abbrev PWR_C_PMBUS_ERRS : Fld := ⟨0xc10, 63, 0, 0x0⟩
abbrev PWR_C_MONITOR_MISMATCH : Fld := ⟨0xc18, 63, 0, 0x0⟩
abbrev PWR_RAIL_V_MEAS : Fld := ⟨0x1000, 63, 48, 0x8⟩
abbrev PWR_RAIL_I_MEAS : Fld := ⟨0x1000, 47, 32, 0x8⟩
abbrev PWR_RAIL_OK : Fld := ⟨0x1000, 0, 0, 0x8⟩
abbrev PWR_PMBUS_VALID : Fld := ⟨0x2000, 16, 16, 0x8⟩
abbrev PWR_PMBUS_ADDR : Fld := ⟨0x2000, 14, 8, 0x8⟩
abbrev PWR_PMBUS_PAGE : Fld := ⟨0x2000, 7, 0, 0x8⟩
abbrev THM_STATUS_T_MAX : Fld := ⟨0x18, 31, 16, 0x0⟩
abbrev THM_ERR_STATUS_TELEM_LOAD : Fld := ⟨0x20, 2, 2, 0x0⟩
abbrev THM_ERR_STATUS_MODULE_TRIP : Fld := ⟨0x20, 1, 1, 0x0⟩
abbrev THM_ERR_STATUS_SENSOR_FAIL : Fld := ⟨0x20, 0, 0, 0x0⟩
abbrev THM_EVT_STATUS_REGION_READMIT : Fld := ⟨0x38, 1, 1, 0x0⟩
abbrev THM_EVT_STATUS_REGION_THERMAL_OFF : Fld := ⟨0x38, 0, 0, 0x0⟩
abbrev THM_LIMITS_READMIT_C : Fld := ⟨0x100, 15, 8, 0x0⟩
abbrev THM_LIMITS_TARGET_C : Fld := ⟨0x100, 7, 0, 0x0⟩
abbrev THM_C_REGION_SHUTDOWNS : Fld := ⟨0xc00, 63, 0, 0x0⟩
abbrev THM_C_READMITS : Fld := ⟨0xc08, 63, 0, 0x0⟩
abbrev THM_C_SENSOR_FAILS : Fld := ⟨0xc10, 63, 0, 0x0⟩
abbrev THM_C_STACK_THROTTLES : Fld := ⟨0xc18, 63, 0, 0x0⟩
abbrev THM_C_TELEM_RECORDS : Fld := ⟨0xc20, 63, 0, 0x0⟩
abbrev THM_C_TELEM_OVERRUNS : Fld := ⟨0xc28, 63, 0, 0x0⟩
abbrev THM_TSET_EN : Fld := ⟨0x1000, 63, 63, 0x80⟩
abbrev THM_TSET_PERIOD_US : Fld := ⟨0x1000, 55, 32, 0x80⟩
abbrev THM_TSET_COUNT : Fld := ⟨0x1000, 5, 0, 0x80⟩
abbrev THM_TSET_IDS : Fld := ⟨0x1008, 63, 0, 0x80⟩
abbrev THM_OTHER_VALID : Fld := ⟨0x2000, 63, 63, 0x8⟩
abbrev THM_OTHER_TEMP : Fld := ⟨0x2000, 15, 0, 0x8⟩
abbrev CAL_ERR_STATUS_TB_AHEAD : Fld := ⟨0x20, 1, 1, 0x0⟩
abbrev CAL_ERR_STATUS_TRIM_RANGE : Fld := ⟨0x20, 0, 0, 0x0⟩
abbrev CAL_LIMITS_VMAX_VID : Fld := ⟨0x100, 63, 56, 0x0⟩
abbrev CAL_LIMITS_THROTTLE_C : Fld := ⟨0x100, 55, 48, 0x0⟩
abbrev CAL_LIMITS_SHUTDOWN_C : Fld := ⟨0x100, 47, 40, 0x0⟩
abbrev CAL_LIMITS_TRIP_C : Fld := ⟨0x100, 39, 32, 0x0⟩
abbrev CAL_LIMITS_CORE_MAX_DW : Fld := ⟨0x100, 31, 16, 0x0⟩
abbrev CAL_TB_CFG_SRC_SEL : Fld := ⟨0x108, 25, 24, 0x0⟩
abbrev CAL_TB_CFG_SYNC_MS : Fld := ⟨0x108, 23, 16, 0x0⟩
abbrev CAL_TB_CFG_SPORT : Fld := ⟨0x108, 15, 8, 0x0⟩
abbrev CAL_TB_STAT_OFFSET_NS : Fld := ⟨0x110, 63, 32, 0x0⟩
abbrev CAL_TB_STAT_RATE_PPB : Fld := ⟨0x110, 31, 0, 0x0⟩
abbrev CAL_TB_DELAY_PATH_NS : Fld := ⟨0x118, 31, 0, 0x0⟩
abbrev CAL_C_TB_SYNCS : Fld := ⟨0xc00, 63, 0, 0x0⟩
abbrev CAL_C_TB_SYNC_MISSES : Fld := ⟨0xc08, 63, 0, 0x0⟩
abbrev CAL_C_TB_STEPS : Fld := ⟨0xc10, 63, 0, 0x0⟩
abbrev CAL_C_TB_LOSSES : Fld := ⟨0xc18, 63, 0, 0x0⟩
abbrev CAL_VF_VIDS : Fld := ⟨0x1000, 63, 0, 0x10⟩
abbrev CAL_VF_RET_VID : Fld := ⟨0x1008, 15, 8, 0x10⟩
abbrev CAL_VF_FMAX_K : Fld := ⟨0x1008, 5, 0, 0x10⟩
abbrev CAL_TRIM_IGAIN : Fld := ⟨0x2000, 23, 16, 0x8⟩
abbrev CAL_TRIM_TOFF : Fld := ⟨0x2000, 15, 8, 0x8⟩
abbrev CAL_TRIM_VOFF : Fld := ⟨0x2000, 7, 0, 0x8⟩
abbrev MGT_STATUS_KEY_VALID : Fld := ⟨0x18, 19, 19, 0x0⟩
abbrev MGT_STATUS_ACTIVE_LANE : Fld := ⟨0x18, 18, 18, 0x0⟩
abbrev MGT_STATUS_LANE1_UP : Fld := ⟨0x18, 17, 17, 0x0⟩
abbrev MGT_STATUS_LANE0_UP : Fld := ⟨0x18, 16, 16, 0x0⟩
abbrev MGT_ERR_STATUS_LANES_DOWN : Fld := ⟨0x20, 1, 1, 0x0⟩
abbrev MGT_ERR_STATUS_PROV_FAIL : Fld := ⟨0x20, 0, 0, 0x0⟩
abbrev MGT_EVT_STATUS_LIFECYCLE_CHANGED : Fld := ⟨0x38, 2, 2, 0x0⟩
abbrev MGT_EVT_STATUS_KEY_PROVISIONED : Fld := ⟨0x38, 1, 1, 0x0⟩
abbrev MGT_EVT_STATUS_FAILOVER : Fld := ⟨0x38, 0, 0, 0x0⟩
abbrev MGT_NET_ETHERTYPE : Fld := ⟨0x100, 63, 48, 0x0⟩
abbrev MGT_NET_MAC : Fld := ⟨0x100, 47, 0, 0x0⟩
abbrev MGT_RACK_MAC_MAC : Fld := ⟨0x108, 47, 0, 0x0⟩
abbrev MGT_CLUSTER_MAC_MAC : Fld := ⟨0x110, 47, 0, 0x0⟩
abbrev MGT_NOTIFY_CFG_EN : Fld := ⟨0x118, 16, 16, 0x0⟩
abbrev MGT_NOTIFY_CFG_MIN_GAP_US : Fld := ⟨0x118, 15, 0, 0x0⟩
abbrev MGT_PROV_NONCE_NONCE : Fld := ⟨0x120, 63, 0, 0x0⟩
abbrev MGT_OWNER_HASH_HASH : Fld := ⟨0x128, 63, 0, 0x8⟩
abbrev MGT_OWNER_BOUND : Fld := ⟨0x158, 0, 0, 0x0⟩
abbrev MGT_C_FRAMES_IN : Fld := ⟨0xc00, 63, 0, 0x0⟩
abbrev MGT_C_FRAMES_OUT : Fld := ⟨0xc08, 63, 0, 0x0⟩
abbrev MGT_C_FCS_ERRS : Fld := ⟨0xc10, 63, 0, 0x0⟩
abbrev MGT_C_FOREIGN_DROPS : Fld := ⟨0xc18, 63, 0, 0x0⟩
abbrev MGT_C_FAILOVERS : Fld := ⟨0xc20, 63, 0, 0x0⟩
abbrev MGT_C_NOTIFY_SENT : Fld := ⟨0xc28, 63, 0, 0x0⟩
abbrev MBX_STATUS_PAIRS_BUSY : Fld := ⟨0x18, 21, 16, 0x0⟩
abbrev MBX_ERR_STATUS_BAD_VERSION : Fld := ⟨0x20, 3, 3, 0x0⟩
abbrev MBX_ERR_STATUS_SEQ_FAIL : Fld := ⟨0x20, 2, 2, 0x0⟩
abbrev MBX_ERR_STATUS_HMAC_FAIL : Fld := ⟨0x20, 1, 1, 0x0⟩
abbrev MBX_ERR_STATUS_LENGTH : Fld := ⟨0x20, 0, 0, 0x0⟩
abbrev MBX_C_REQUESTS : Fld := ⟨0xc00, 63, 0, 0x0⟩
abbrev MBX_C_RESPONSES : Fld := ⟨0xc08, 63, 0, 0x0⟩
abbrev MBX_C_HMAC_FAILS : Fld := ⟨0xc10, 63, 0, 0x0⟩
abbrev MBX_C_SEQ_FAILS : Fld := ⟨0xc18, 63, 0, 0x0⟩
abbrev MBX_C_VERSION_FAILS : Fld := ⟨0xc20, 63, 0, 0x0⟩
abbrev MBX_C_BUSY_ANSWERS : Fld := ⟨0xc28, 63, 0, 0x0⟩
abbrev MBX_C_MODULE_REQUESTS : Fld := ⟨0xc30, 63, 0, 0x0⟩
abbrev MBX_PAIR_BUSY : Fld := ⟨0x1000, 63, 63, 0x10⟩
abbrev MBX_PAIR_ROLE : Fld := ⟨0x1000, 61, 60, 0x10⟩
abbrev MBX_PAIR_LAST_OPCODE : Fld := ⟨0x1000, 39, 32, 0x10⟩
abbrev MBX_PAIR_LAST_STATUS : Fld := ⟨0x1000, 7, 0, 0x10⟩
abbrev MBX_PAIR_SEQ_OUT : Fld := ⟨0x1008, 63, 32, 0x10⟩
abbrev MBX_PAIR_LAST_SEQ_IN : Fld := ⟨0x1008, 31, 0, 0x10⟩
abbrev FWC_STATUS_MMC_FAILED : Fld := ⟨0x18, 18, 18, 0x0⟩
abbrev FWC_STATUS_TWIN_READY : Fld := ⟨0x18, 17, 17, 0x0⟩
abbrev FWC_STATUS_MMC_ACTIVE : Fld := ⟨0x18, 16, 16, 0x0⟩
abbrev FWC_ERR_STATUS_MPU_VIOLATION : Fld := ⟨0x20, 4, 4, 0x0⟩
abbrev FWC_ERR_STATUS_RCC_FAILED : Fld := ⟨0x20, 3, 3, 0x0⟩
abbrev FWC_ERR_STATUS_RCC_CRASH : Fld := ⟨0x20, 2, 2, 0x0⟩
abbrev FWC_ERR_STATUS_MMC_CRASH : Fld := ⟨0x20, 1, 1, 0x0⟩
abbrev FWC_ERR_STATUS_CORE_FAIL : Fld := ⟨0x20, 0, 0, 0x0⟩
abbrev FWC_EVT_STATUS_MMC_FAILOVER : Fld := ⟨0x38, 1, 1, 0x0⟩
abbrev FWC_EVT_STATUS_RCC_RESTARTED : Fld := ⟨0x38, 0, 0, 0x0⟩
abbrev FWC_WDOG_MMC_WDOG_US : Fld := ⟨0x100, 47, 32, 0x0⟩
abbrev FWC_WDOG_RCC_WDOG_US : Fld := ⟨0x100, 15, 0, 0x0⟩
abbrev FWC_IMAGE_SEC_VERSION : Fld := ⟨0x108, 63, 48, 0x0⟩
abbrev FWC_IMAGE_RELEASE : Fld := ⟨0x108, 31, 0, 0x0⟩
abbrev FWC_C_RCC_CRASHES : Fld := ⟨0xc00, 63, 0, 0x0⟩
abbrev FWC_C_RCC_RESTARTS : Fld := ⟨0xc08, 63, 0, 0x0⟩
abbrev FWC_C_RCC_SPARE_SWAPS : Fld := ⟨0xc10, 63, 0, 0x0⟩
abbrev FWC_C_MMC_FAILOVERS : Fld := ⟨0xc18, 63, 0, 0x0⟩
abbrev FWC_C_MPU_VIOLATIONS : Fld := ⟨0xc20, 63, 0, 0x0⟩
abbrev FWC_RCC_STATE : Fld := ⟨0x1000, 63, 61, 0x8⟩
abbrev FWC_RCC_SPARE_USED : Fld := ⟨0x1000, 60, 60, 0x8⟩
abbrev FWC_RCC_CORES_OK : Fld := ⟨0x1000, 59, 57, 0x8⟩
abbrev FWC_RCC_LAST_CAUSE : Fld := ⟨0x1000, 47, 40, 0x8⟩
abbrev FWC_RCC_CRASHES_60S : Fld := ⟨0x1000, 39, 32, 0x8⟩
abbrev FWC_RCC_RESTARTS : Fld := ⟨0x1000, 31, 0, 0x8⟩

end Sys2Proof.Machine
end

