-- ==== Sys2Proof/Machine/RegTable.lean ====
section
/-! DEFINITION. The register tables of every page (R23–R37 and the register tables of the chapters): for each register
its offset, the stride and count of a table, and its fields with access type and reset form. -/

namespace Sys2Proof.Machine

/-- The access types of R25. -/
inductive Access where
  | rw
  | ro
  | w1c
  | w1s
  | rc
  | wo
  deriving DecidableEq, Repr

/-- The forms of the Reset column (R37); the number beside fuse and boot is the value that State.reset holds. -/
inductive ResetForm where
  | num (v : Nat)
  | fuse (v : Nat)
  | cold (v : Nat)
  | boot (v : Nat)
  | random
  deriving DecidableEq, Repr

/-- One field: bits hi…lo, access type, reset form. -/
structure FieldDef where
  hi : Nat
  lo : Nat
  acc : Access
  rst : ResetForm
  deriving DecidableEq, Repr

/-- One register or table of registers: the offset of entry 0, the stride between entries, their count, the fields. -/
structure RegDef where
  off : Nat
  stride : Nat
  count : Nat
  fields : List FieldDef
  deriving DecidableEq, Repr

/-- The registers of the GLB page, part 1. -/
def regsGLB0 : List RegDef := [
  ⟨0x0, 0x0, 1, [⟨63, 48, .ro, .num 0⟩, ⟨47, 32, .ro, .num 0⟩, ⟨31, 16, .ro, .num 1⟩, ⟨15, 0, .ro, .num 0x4231⟩]⟩,  -- ID
  ⟨0x8, 0x0, 1, []⟩,  -- CAP
  ⟨0x10, 0x0, 1, [⟨1, 1, .rw, .num 0⟩, ⟨0, 0, .ro, .num 1⟩]⟩,  -- CTRL
  ⟨0x18, 0x0, 1, [⟨23, 16, .ro, .boot 1⟩, ⟨4, 4, .ro, .num 0⟩, ⟨3, 3, .ro, .num 0⟩, ⟨2, 2, .ro, .num 0⟩, ⟨1, 1, .ro, .num 0⟩, ⟨0, 0, .ro, .num 1⟩]⟩,  -- STATUS
  ⟨0x20, 0x0, 1, [⟨63, 63, .w1c, .num 0⟩, ⟨5, 5, .w1c, .num 0⟩, ⟨4, 4, .w1c, .num 0⟩, ⟨3, 3, .w1c, .num 0⟩, ⟨2, 2, .w1c, .num 0⟩, ⟨1, 1, .w1c, .num 0⟩, ⟨0, 0, .w1c, .num 0⟩]⟩,  -- ERR_STATUS
  ⟨0x28, 0x0, 1, [⟨63, 63, .rw, .num 0⟩, ⟨5, 0, .rw, .num 0⟩]⟩,  -- ERR_MASK
  ⟨0x30, 0x0, 1, [⟨63, 0, .wo, .num 0⟩]⟩,  -- ERR_FORCE
  ⟨0x38, 0x0, 1, []⟩,  -- EVT_STATUS
  ⟨0x100, 0x0, 1, [⟨15, 15, .rw, .cold 0⟩, ⟨13, 0, .rw, .cold 0⟩]⟩,  -- MODULE_ID
  ⟨0x108, 0x0, 1, [⟨63, 48, .wo, .num 0⟩, ⟨1, 0, .wo, .num 0⟩]⟩,  -- RESET_REQ
  ⟨0x110, 0x0, 1, [⟨11, 8, .ro, .boot 0⟩, ⟨3, 0, .ro, .boot 0⟩]⟩,  -- RESET_CAUSE
  ⟨0x118, 0x0, 1, [⟨63, 0, .wo, .num 0⟩]⟩,  -- EXPERT_KEY
  ⟨0x120, 0x0, 1, [⟨63, 0, .ro, .random⟩]⟩,  -- EXPERT_NONCE
  ⟨0x128, 0x0, 1, [⟨11, 8, .ro, .num 0⟩, ⟨2, 2, .ro, .boot 0⟩, ⟨1, 1, .ro, .num 0⟩, ⟨0, 0, .ro, .num 0⟩]⟩,  -- EXPERT_STATUS
  ⟨0x130, 0x0, 1, [⟨0, 0, .w1s, .num 0⟩]⟩,  -- EXPERT_LOCK
  ⟨0x138, 0x0, 1, [⟨63, 63, .w1c, .num 0⟩, ⟨35, 35, .ro, .num 0⟩, ⟨34, 32, .ro, .num 0⟩, ⟨31, 0, .ro, .num 0⟩]⟩,  -- ACCESS_ERR_ADDR
  ⟨0x140, 0x0, 1, [⟨63, 0, .rw, .num 0⟩]⟩,  -- SCRATCH
  ⟨0xc00, 0x0, 1, [⟨63, 0, .rc, .num 0⟩]⟩,  -- ACCESS_ERR_COUNT
  ⟨0xc08, 0x0, 1, [⟨63, 0, .ro, .cold 0⟩]⟩,  -- WARM_RESETS
  ⟨0xc10, 0x0, 1, [⟨63, 0, .ro, .cold 0⟩]⟩,  -- JOB_RESETS
  ⟨0xc18, 0x0, 1, [⟨63, 0, .ro, .cold 0⟩]⟩,  -- EXPERT_FAILS
  ⟨0x1000, 0x8, 6, [⟨63, 0, .ro, .num 0⟩]⟩,  -- ERR_PAGE_MAP
  ⟨0x1040, 0x8, 6, [⟨63, 0, .ro, .num 0⟩]⟩]  -- EVT_PAGE_MAP

/-- The registers of the GLB page. -/
def regsGLB : List RegDef := regsGLB0

/-- The registers of the SEC page, part 1. -/
def regsSEC0 : List RegDef := [
  ⟨0x0, 0x0, 1, [⟨63, 48, .ro, .num 1⟩, ⟨47, 32, .ro, .num 0⟩, ⟨31, 16, .ro, .num 1⟩, ⟨15, 0, .ro, .num 0x4231⟩]⟩,  -- ID
  ⟨0x8, 0x0, 1, []⟩,  -- CAP
  ⟨0x10, 0x0, 1, [⟨1, 1, .rw, .num 0⟩, ⟨0, 0, .ro, .num 1⟩]⟩,  -- CTRL
  ⟨0x18, 0x0, 1, [⟨16, 16, .ro, .boot 0⟩, ⟨4, 4, .ro, .num 0⟩, ⟨3, 3, .ro, .num 0⟩, ⟨2, 2, .ro, .num 0⟩, ⟨1, 1, .ro, .num 0⟩, ⟨0, 0, .ro, .num 1⟩]⟩,  -- STATUS
  ⟨0x20, 0x0, 1, [⟨63, 63, .w1c, .num 0⟩, ⟨1, 1, .w1c, .num 0⟩, ⟨0, 0, .w1c, .num 0⟩]⟩,  -- ERR_STATUS
  ⟨0x28, 0x0, 1, [⟨63, 63, .rw, .num 0⟩, ⟨1, 0, .rw, .num 0⟩]⟩,  -- ERR_MASK
  ⟨0x30, 0x0, 1, [⟨63, 0, .wo, .num 0⟩]⟩,  -- ERR_FORCE
  ⟨0x38, 0x0, 1, []⟩,  -- EVT_STATUS
  ⟨0x100, 0x0, 1, [⟨63, 0, .ro, .fuse 0⟩]⟩,  -- SERIAL
  ⟨0x108, 0x0, 1, [⟨1, 0, .ro, .fuse 1⟩]⟩,  -- LIFECYCLE
  ⟨0x110, 0x8, 6, [⟨63, 0, .ro, .fuse 0⟩]⟩,  -- IDENT_HASH
  ⟨0x140, 0x8, 6, [⟨63, 0, .ro, .boot 0⟩]⟩,  -- IMAGE_MEASURE
  ⟨0x170, 0x0, 1, [⟨15, 0, .ro, .fuse 0⟩]⟩,  -- ROLLBACK
  ⟨0xc00, 0x0, 1, [⟨63, 0, .ro, .cold 0⟩]⟩,  -- IMAGE_AUTH_FAILS
  ⟨0xc08, 0x0, 1, [⟨63, 0, .ro, .cold 0⟩]⟩]  -- UNWRAP_FAILS

/-- The registers of the SEC page. -/
def regsSEC : List RegDef := regsSEC0

/-- The registers of the MGT page, part 1. -/
def regsMGT0 : List RegDef := [
  ⟨0x0, 0x0, 1, [⟨63, 48, .ro, .num 2⟩, ⟨47, 32, .ro, .num 0⟩, ⟨31, 16, .ro, .num 1⟩, ⟨15, 0, .ro, .num 0x4231⟩]⟩,  -- ID
  ⟨0x8, 0x0, 1, []⟩,  -- CAP
  ⟨0x10, 0x0, 1, [⟨2, 2, .w1s, .num 0⟩, ⟨1, 1, .rw, .num 0⟩, ⟨0, 0, .ro, .num 1⟩]⟩,  -- CTRL
  ⟨0x18, 0x0, 1, [⟨19, 19, .ro, .cold 0⟩, ⟨18, 18, .ro, .cold 0⟩, ⟨17, 17, .ro, .num 0⟩, ⟨16, 16, .ro, .num 0⟩, ⟨4, 4, .ro, .num 0⟩, ⟨3, 3, .ro, .num 0⟩, ⟨2, 2, .ro, .num 0⟩, ⟨1, 1, .ro, .num 0⟩, ⟨0, 0, .ro, .num 1⟩]⟩,  -- STATUS
  ⟨0x20, 0x0, 1, [⟨63, 63, .w1c, .num 0⟩, ⟨1, 1, .w1c, .num 0⟩, ⟨0, 0, .w1c, .num 0⟩]⟩,  -- ERR_STATUS
  ⟨0x28, 0x0, 1, [⟨63, 63, .rw, .num 0⟩, ⟨1, 0, .rw, .num 0⟩]⟩,  -- ERR_MASK
  ⟨0x30, 0x0, 1, [⟨63, 0, .wo, .num 0⟩]⟩,  -- ERR_FORCE
  ⟨0x38, 0x0, 1, [⟨2, 2, .w1c, .num 0⟩, ⟨1, 1, .w1c, .num 0⟩, ⟨0, 0, .w1c, .num 0⟩]⟩,  -- EVT_STATUS
  ⟨0x100, 0x0, 1, [⟨63, 48, .rw, .cold 0x88b5⟩, ⟨47, 0, .rw, .cold 0x2b500000000⟩]⟩,  -- NET
  ⟨0x108, 0x0, 1, [⟨47, 0, .rw, .cold 0⟩]⟩,  -- RACK_MAC
  ⟨0x110, 0x0, 1, [⟨47, 0, .rw, .cold 0⟩]⟩,  -- CLUSTER_MAC
  ⟨0x118, 0x0, 1, [⟨16, 16, .rw, .num 1⟩, ⟨15, 0, .rw, .num 0x64⟩]⟩,  -- NOTIFY_CFG
  ⟨0x120, 0x0, 1, [⟨63, 0, .ro, .random⟩]⟩,  -- PROV_NONCE
  ⟨0x128, 0x8, 6, [⟨63, 0, .ro, .fuse 0⟩]⟩,  -- OWNER_HASH
  ⟨0x158, 0x0, 1, [⟨0, 0, .ro, .fuse 0⟩]⟩,  -- OWNER
  ⟨0xc00, 0x0, 1, [⟨63, 0, .rc, .num 0⟩]⟩,  -- FRAMES_IN
  ⟨0xc08, 0x0, 1, [⟨63, 0, .rc, .num 0⟩]⟩,  -- FRAMES_OUT
  ⟨0xc10, 0x0, 1, [⟨63, 0, .rc, .num 0⟩]⟩,  -- FCS_ERRS
  ⟨0xc18, 0x0, 1, [⟨63, 0, .rc, .num 0⟩]⟩,  -- FOREIGN_DROPS
  ⟨0xc20, 0x0, 1, [⟨63, 0, .rc, .num 0⟩]⟩,  -- FAILOVERS
  ⟨0xc28, 0x0, 1, [⟨63, 0, .rc, .num 0⟩]⟩]  -- NOTIFY_SENT

/-- The registers of the MGT page. -/
def regsMGT : List RegDef := regsMGT0

/-- The registers of the MBX page, part 1. -/
def regsMBX0 : List RegDef := [
  ⟨0x0, 0x0, 1, [⟨63, 48, .ro, .num 3⟩, ⟨47, 32, .ro, .num 0⟩, ⟨31, 16, .ro, .num 1⟩, ⟨15, 0, .ro, .num 0x4231⟩]⟩,  -- ID
  ⟨0x8, 0x0, 1, []⟩,  -- CAP
  ⟨0x10, 0x0, 1, [⟨2, 2, .w1s, .num 0⟩, ⟨1, 1, .rw, .num 0⟩, ⟨0, 0, .ro, .num 1⟩]⟩,  -- CTRL
  ⟨0x18, 0x0, 1, [⟨21, 16, .ro, .num 0⟩, ⟨4, 4, .ro, .num 0⟩, ⟨3, 3, .ro, .num 0⟩, ⟨2, 2, .ro, .num 0⟩, ⟨1, 1, .ro, .num 0⟩, ⟨0, 0, .ro, .num 1⟩]⟩,  -- STATUS
  ⟨0x20, 0x0, 1, [⟨63, 63, .w1c, .num 0⟩, ⟨3, 3, .w1c, .num 0⟩, ⟨2, 2, .w1c, .num 0⟩, ⟨1, 1, .w1c, .num 0⟩, ⟨0, 0, .w1c, .num 0⟩]⟩,  -- ERR_STATUS
  ⟨0x28, 0x0, 1, [⟨63, 63, .rw, .num 0⟩, ⟨3, 0, .rw, .num 0⟩]⟩,  -- ERR_MASK
  ⟨0x30, 0x0, 1, [⟨63, 0, .wo, .num 0⟩]⟩,  -- ERR_FORCE
  ⟨0x38, 0x0, 1, []⟩,  -- EVT_STATUS
  ⟨0xc00, 0x0, 1, [⟨63, 0, .rc, .num 0⟩]⟩,  -- REQUESTS
  ⟨0xc08, 0x0, 1, [⟨63, 0, .rc, .num 0⟩]⟩,  -- RESPONSES
  ⟨0xc10, 0x0, 1, [⟨63, 0, .rc, .num 0⟩]⟩,  -- HMAC_FAILS
  ⟨0xc18, 0x0, 1, [⟨63, 0, .rc, .num 0⟩]⟩,  -- SEQ_FAILS
  ⟨0xc20, 0x0, 1, [⟨63, 0, .rc, .num 0⟩]⟩,  -- VERSION_FAILS
  ⟨0xc28, 0x0, 1, [⟨63, 0, .rc, .num 0⟩]⟩,  -- BUSY_ANSWERS
  ⟨0xc30, 0x0, 1, [⟨63, 0, .rc, .num 0⟩]⟩,  -- MODULE_REQUESTS
  ⟨0x1000, 0x10, 32, [⟨63, 63, .ro, .num 0⟩, ⟨61, 60, .ro, .num 0⟩, ⟨39, 32, .ro, .num 0⟩, ⟨7, 0, .ro, .num 0⟩]⟩,  -- PAIR.w0
  ⟨0x1008, 0x10, 32, [⟨63, 32, .ro, .num 1⟩, ⟨31, 0, .ro, .cold 0⟩]⟩]  -- PAIR.w1

/-- The registers of the MBX page. -/
def regsMBX : List RegDef := regsMBX0

/-- The registers of the TBASE page, part 1. -/
def regsTBASE0 : List RegDef := [
  ⟨0x0, 0x0, 1, [⟨63, 48, .ro, .num 4⟩, ⟨47, 32, .ro, .num 0⟩, ⟨31, 16, .ro, .num 1⟩, ⟨15, 0, .ro, .num 0x4231⟩]⟩,  -- ID
  ⟨0x8, 0x0, 1, []⟩,  -- CAP
  ⟨0x10, 0x0, 1, [⟨16, 16, .rw, .cold 0⟩, ⟨1, 1, .rw, .num 0⟩, ⟨0, 0, .ro, .num 1⟩]⟩,  -- CTRL
  ⟨0x18, 0x0, 1, [⟨19, 18, .ro, .cold 0⟩, ⟨17, 17, .ro, .num 0⟩, ⟨16, 16, .ro, .cold 0⟩, ⟨4, 4, .ro, .num 0⟩, ⟨3, 3, .ro, .num 0⟩, ⟨2, 2, .ro, .num 0⟩, ⟨1, 1, .ro, .num 0⟩, ⟨0, 0, .ro, .num 1⟩]⟩,  -- STATUS
  ⟨0x20, 0x0, 1, [⟨63, 63, .w1c, .num 0⟩, ⟨1, 1, .w1c, .num 0⟩, ⟨0, 0, .w1c, .num 0⟩]⟩,  -- ERR_STATUS
  ⟨0x28, 0x0, 1, [⟨63, 63, .rw, .num 0⟩, ⟨1, 0, .rw, .num 0⟩]⟩,  -- ERR_MASK
  ⟨0x30, 0x0, 1, [⟨63, 0, .wo, .num 0⟩]⟩,  -- ERR_FORCE
  ⟨0x38, 0x0, 1, []⟩,  -- EVT_STATUS
  ⟨0x100, 0x0, 1, [⟨63, 0, .ro, .cold 0⟩]⟩,  -- COUNT
  ⟨0x108, 0x0, 1, [⟨63, 0, .ro, .cold 0⟩]⟩,  -- PPS_CAPTURE
  ⟨0x110, 0x0, 1, [⟨47, 0, .wo, .num 0⟩]⟩,  -- ADJUST
  ⟨0x118, 0x0, 1, [⟨23, 0, .rw, .cold 0⟩]⟩,  -- RATE_TRIM
  ⟨0xc00, 0x0, 1, [⟨63, 0, .ro, .cold 0⟩]⟩,  -- PPS_EDGES
  ⟨0xc08, 0x0, 1, [⟨63, 0, .rc, .num 0⟩]⟩]  -- PPS_MISSING_COUNT

/-- The registers of the TBASE page. -/
def regsTBASE : List RegDef := regsTBASE0

/-- The registers of the PWR page, part 1. -/
def regsPWR0 : List RegDef := [
  ⟨0x0, 0x0, 1, [⟨63, 48, .ro, .num 5⟩, ⟨47, 32, .ro, .num 0⟩, ⟨31, 16, .ro, .num 1⟩, ⟨15, 0, .ro, .num 0x4231⟩]⟩,  -- ID
  ⟨0x8, 0x0, 1, []⟩,  -- CAP
  ⟨0x10, 0x0, 1, [⟨2, 2, .w1s, .num 0⟩, ⟨1, 1, .rw, .num 0⟩, ⟨0, 0, .ro, .num 1⟩]⟩,  -- CTRL
  ⟨0x18, 0x0, 1, [⟨37, 32, .ro, .num 0x22⟩, ⟨29, 24, .ro, .num 0x22⟩, ⟨18, 18, .ro, .num 0⟩, ⟨17, 17, .ro, .num 0⟩, ⟨16, 16, .ro, .num 0⟩, ⟨4, 4, .ro, .num 0⟩, ⟨3, 3, .ro, .num 0⟩, ⟨2, 2, .ro, .num 0⟩, ⟨1, 1, .ro, .num 0⟩, ⟨0, 0, .ro, .num 1⟩]⟩,  -- STATUS
  ⟨0x20, 0x0, 1, [⟨63, 63, .w1c, .num 0⟩, ⟨4, 4, .w1c, .num 0⟩, ⟨3, 3, .w1c, .num 0⟩, ⟨2, 2, .w1c, .num 0⟩, ⟨1, 1, .w1c, .num 0⟩, ⟨0, 0, .w1c, .num 0⟩]⟩,  -- ERR_STATUS
  ⟨0x28, 0x0, 1, [⟨63, 63, .rw, .num 0⟩, ⟨4, 0, .rw, .num 0⟩]⟩,  -- ERR_MASK
  ⟨0x30, 0x0, 1, [⟨63, 0, .wo, .num 0⟩]⟩,  -- ERR_FORCE
  ⟨0x38, 0x0, 1, [⟨2, 2, .w1c, .num 0⟩, ⟨1, 1, .w1c, .num 0⟩, ⟨0, 0, .w1c, .num 0⟩]⟩,  -- EVT_STATUS
  ⟨0x100, 0x0, 1, [⟨15, 0, .rw, .cold 0⟩]⟩,  -- CAP
  ⟨0x108, 0x0, 1, [⟨31, 16, .rw, .num 0x3e8⟩, ⟨5, 0, .rw, .num 0⟩]⟩,  -- ALERT_CFG
  ⟨0x110, 0x0, 1, [⟨63, 48, .ro, .num 0⟩, ⟨47, 32, .ro, .num 0⟩, ⟨31, 16, .ro, .num 0⟩]⟩,  -- MEAS
  ⟨0x118, 0x0, 1, [⟨63, 0, .ro, .cold 0⟩]⟩,  -- ENERGY
  ⟨0xc00, 0x0, 1, [⟨63, 0, .rc, .num 0⟩]⟩,  -- ALERTS
  ⟨0xc08, 0x0, 1, [⟨63, 0, .rc, .num 0⟩]⟩,  -- CAP_STEPS
  ⟨0xc10, 0x0, 1, [⟨63, 0, .rc, .num 0⟩]⟩,  -- PMBUS_ERRS
  ⟨0xc18, 0x0, 1, [⟨63, 0, .rc, .num 0⟩]⟩,  -- MONITOR_MISMATCH
  ⟨0x1000, 0x8, 7, [⟨63, 48, .ro, .num 0⟩, ⟨47, 32, .ro, .num 0⟩, ⟨0, 0, .ro, .num 0⟩]⟩,  -- RAIL
  ⟨0x2000, 0x8, 91, [⟨16, 16, .rw, .cold 0⟩, ⟨14, 8, .rw, .cold 0⟩, ⟨7, 0, .rw, .cold 0⟩]⟩]  -- PMBUS

/-- The registers of the PWR page. -/
def regsPWR : List RegDef := regsPWR0

/-- The registers of the THM page, part 1. -/
def regsTHM0 : List RegDef := [
  ⟨0x0, 0x0, 1, [⟨63, 48, .ro, .num 6⟩, ⟨47, 32, .ro, .num 0⟩, ⟨31, 16, .ro, .num 1⟩, ⟨15, 0, .ro, .num 0x4231⟩]⟩,  -- ID
  ⟨0x8, 0x0, 1, []⟩,  -- CAP
  ⟨0x10, 0x0, 1, [⟨2, 2, .w1s, .num 0⟩, ⟨1, 1, .rw, .num 0⟩, ⟨0, 0, .ro, .num 1⟩]⟩,  -- CTRL
  ⟨0x18, 0x0, 1, [⟨31, 16, .ro, .num 0⟩, ⟨4, 4, .ro, .num 0⟩, ⟨3, 3, .ro, .num 0⟩, ⟨2, 2, .ro, .num 0⟩, ⟨1, 1, .ro, .num 0⟩, ⟨0, 0, .ro, .num 1⟩]⟩,  -- STATUS
  ⟨0x20, 0x0, 1, [⟨63, 63, .w1c, .num 0⟩, ⟨2, 2, .w1c, .num 0⟩, ⟨1, 1, .w1c, .num 0⟩, ⟨0, 0, .w1c, .num 0⟩]⟩,  -- ERR_STATUS
  ⟨0x28, 0x0, 1, [⟨63, 63, .rw, .num 0⟩, ⟨2, 0, .rw, .num 0⟩]⟩,  -- ERR_MASK
  ⟨0x30, 0x0, 1, [⟨63, 0, .wo, .num 0⟩]⟩,  -- ERR_FORCE
  ⟨0x38, 0x0, 1, [⟨1, 1, .w1c, .num 0⟩, ⟨0, 0, .w1c, .num 0⟩]⟩,  -- EVT_STATUS
  ⟨0x100, 0x0, 1, [⟨15, 8, .rw, .num 0x55⟩, ⟨7, 0, .rw, .num 0x5f⟩]⟩,  -- LIMITS
  ⟨0xc00, 0x0, 1, [⟨63, 0, .rc, .num 0⟩]⟩,  -- REGION_SHUTDOWNS
  ⟨0xc08, 0x0, 1, [⟨63, 0, .rc, .num 0⟩]⟩,  -- READMITS
  ⟨0xc10, 0x0, 1, [⟨63, 0, .rc, .num 0⟩]⟩,  -- SENSOR_FAILS
  ⟨0xc18, 0x0, 1, [⟨63, 0, .rc, .num 0⟩]⟩,  -- STACK_THROTTLES
  ⟨0xc20, 0x0, 1, [⟨63, 0, .rc, .num 0⟩]⟩,  -- TELEM_RECORDS
  ⟨0xc28, 0x0, 1, [⟨63, 0, .rc, .num 0⟩]⟩,  -- TELEM_OVERRUNS
  ⟨0x1000, 0x80, 16, [⟨63, 63, .rw, .num 0⟩, ⟨55, 32, .rw, .num 0x3e8⟩, ⟨5, 0, .rw, .num 0⟩]⟩,  -- TSET.w0
  ⟨0x1008, 0x80, 16, [⟨63, 0, .rw, .num 0⟩]⟩,  -- TSET.w1
  ⟨0x1010, 0x80, 16, [⟨63, 0, .rw, .num 0⟩]⟩,  -- TSET.w2
  ⟨0x1018, 0x80, 16, [⟨63, 0, .rw, .num 0⟩]⟩,  -- TSET.w3
  ⟨0x1020, 0x80, 16, [⟨63, 0, .rw, .num 0⟩]⟩,  -- TSET.w4
  ⟨0x1028, 0x80, 16, [⟨63, 0, .rw, .num 0⟩]⟩,  -- TSET.w5
  ⟨0x1030, 0x80, 16, [⟨63, 0, .rw, .num 0⟩]⟩,  -- TSET.w6
  ⟨0x1038, 0x80, 16, [⟨63, 0, .rw, .num 0⟩]⟩,  -- TSET.w7
  ⟨0x1040, 0x80, 16, [⟨63, 0, .rw, .num 0⟩]⟩,  -- TSET.w8
  ⟨0x1048, 0x80, 16, [⟨63, 0, .rw, .num 0⟩]⟩,  -- TSET.w9
  ⟨0x1050, 0x80, 16, [⟨63, 0, .rw, .num 0⟩]⟩,  -- TSET.w10
  ⟨0x1058, 0x80, 16, [⟨63, 0, .rw, .num 0⟩]⟩,  -- TSET.w11
  ⟨0x1060, 0x80, 16, [⟨63, 0, .rw, .num 0⟩]⟩,  -- TSET.w12
  ⟨0x1068, 0x80, 16, [⟨63, 0, .rw, .num 0⟩]⟩,  -- TSET.w13
  ⟨0x1070, 0x80, 16, [⟨63, 0, .rw, .num 0⟩]⟩]  -- TSET.w14

/-- The registers of the THM page, part 2. -/
def regsTHM1 : List RegDef := [
  ⟨0x1078, 0x80, 16, [⟨63, 0, .rw, .num 0⟩]⟩,  -- TSET.w15
  ⟨0x2000, 0x8, 108, [⟨63, 63, .ro, .num 1⟩, ⟨15, 0, .ro, .num 0⟩]⟩]  -- OTHER

/-- The registers of the THM page. -/
def regsTHM : List RegDef := regsTHM0 ++ regsTHM1

/-- The registers of the FWC page, part 1. -/
def regsFWC0 : List RegDef := [
  ⟨0x0, 0x0, 1, [⟨63, 48, .ro, .num 7⟩, ⟨47, 32, .ro, .num 0⟩, ⟨31, 16, .ro, .num 1⟩, ⟨15, 0, .ro, .num 0x4231⟩]⟩,  -- ID
  ⟨0x8, 0x0, 1, []⟩,  -- CAP
  ⟨0x10, 0x0, 1, [⟨2, 2, .w1s, .num 0⟩, ⟨1, 1, .rw, .num 0⟩, ⟨0, 0, .ro, .num 1⟩]⟩,  -- CTRL
  ⟨0x18, 0x0, 1, [⟨18, 18, .ro, .num 0⟩, ⟨17, 17, .ro, .num 0⟩, ⟨16, 16, .ro, .boot 0⟩, ⟨4, 4, .ro, .num 0⟩, ⟨3, 3, .ro, .num 0⟩, ⟨2, 2, .ro, .num 0⟩, ⟨1, 1, .ro, .num 0⟩, ⟨0, 0, .ro, .num 1⟩]⟩,  -- STATUS
  ⟨0x20, 0x0, 1, [⟨63, 63, .w1c, .num 0⟩, ⟨4, 4, .w1c, .num 0⟩, ⟨3, 3, .w1c, .num 0⟩, ⟨2, 2, .w1c, .num 0⟩, ⟨1, 1, .w1c, .num 0⟩, ⟨0, 0, .w1c, .num 0⟩]⟩,  -- ERR_STATUS
  ⟨0x28, 0x0, 1, [⟨63, 63, .rw, .num 0⟩, ⟨4, 0, .rw, .num 0⟩]⟩,  -- ERR_MASK
  ⟨0x30, 0x0, 1, [⟨63, 0, .wo, .num 0⟩]⟩,  -- ERR_FORCE
  ⟨0x38, 0x0, 1, [⟨1, 1, .w1c, .num 0⟩, ⟨0, 0, .w1c, .num 0⟩]⟩,  -- EVT_STATUS
  ⟨0x100, 0x0, 1, [⟨47, 32, .rw, .num 0x3e8⟩, ⟨15, 0, .rw, .num 0xc8⟩]⟩,  -- WDOG
  ⟨0x108, 0x0, 1, [⟨63, 48, .ro, .boot 0⟩, ⟨31, 0, .ro, .boot 0⟩]⟩,  -- IMAGE
  ⟨0xc00, 0x0, 1, [⟨63, 0, .rc, .num 0⟩]⟩,  -- RCC_CRASHES
  ⟨0xc08, 0x0, 1, [⟨63, 0, .rc, .num 0⟩]⟩,  -- RCC_RESTARTS
  ⟨0xc10, 0x0, 1, [⟨63, 0, .rc, .num 0⟩]⟩,  -- RCC_SPARE_SWAPS
  ⟨0xc18, 0x0, 1, [⟨63, 0, .rc, .num 0⟩]⟩,  -- MMC_FAILOVERS
  ⟨0xc20, 0x0, 1, [⟨63, 0, .rc, .num 0⟩]⟩,  -- MPU_VIOLATIONS
  ⟨0x1000, 0x8, 84, [⟨63, 61, .ro, .boot 0⟩, ⟨60, 60, .ro, .num 0⟩, ⟨59, 57, .ro, .num 7⟩, ⟨47, 40, .ro, .num 0⟩, ⟨39, 32, .ro, .num 0⟩, ⟨31, 0, .ro, .cold 0⟩]⟩]  -- RCC

/-- The registers of the FWC page. -/
def regsFWC : List RegDef := regsFWC0

/-- The registers of the DOCK page, part 1. -/
def regsDOCK0 : List RegDef := [
  ⟨0x0, 0x0, 1, [⟨63, 48, .ro, .num 8⟩, ⟨47, 32, .ro, .num 0⟩, ⟨31, 16, .ro, .num 1⟩, ⟨15, 0, .ro, .num 0x4231⟩]⟩,  -- ID
  ⟨0x8, 0x0, 1, []⟩,  -- CAP
  ⟨0x10, 0x0, 1, [⟨16, 16, .rw, .num 0⟩, ⟨2, 2, .w1s, .num 0⟩, ⟨1, 1, .rw, .num 0⟩, ⟨0, 0, .rw, .num 1⟩]⟩,  -- CTRL
  ⟨0x18, 0x0, 1, [⟨24, 24, .ro, .num 0⟩, ⟨20, 16, .ro, .num 0⟩, ⟨4, 4, .ro, .num 0⟩, ⟨3, 3, .ro, .num 0⟩, ⟨2, 2, .ro, .num 0⟩, ⟨1, 1, .ro, .num 0⟩, ⟨0, 0, .ro, .num 1⟩]⟩,  -- STATUS
  ⟨0x20, 0x0, 1, [⟨63, 63, .w1c, .num 0⟩, ⟨2, 2, .w1c, .num 0⟩, ⟨1, 1, .w1c, .num 0⟩, ⟨0, 0, .w1c, .num 0⟩]⟩,  -- ERR_STATUS
  ⟨0x28, 0x0, 1, [⟨63, 63, .rw, .num 0⟩, ⟨2, 0, .rw, .num 0⟩]⟩,  -- ERR_MASK
  ⟨0x30, 0x0, 1, [⟨63, 0, .wo, .num 0⟩]⟩,  -- ERR_FORCE
  ⟨0x38, 0x0, 1, [⟨2, 2, .w1c, .num 0⟩, ⟨1, 1, .w1c, .num 0⟩, ⟨0, 0, .w1c, .num 0⟩]⟩,  -- EVT_STATUS
  ⟨0x100, 0x0, 1, [⟨47, 32, .rw, .num 0x64⟩, ⟨15, 8, .rw, .num 0⟩, ⟨0, 0, .rw, .num 0⟩]⟩,  -- FETCH_CFG
  ⟨0x108, 0x0, 1, [⟨47, 32, .rw, .num 0x1e⟩, ⟨31, 16, .rw, .num 0x7d0⟩, ⟨15, 0, .rw, .num 0x3c⟩]⟩,  -- LIMITS
  ⟨0x110, 0x0, 1, [⟨56, 50, .ro, .num 0x40⟩, ⟨49, 37, .ro, .num 0x1000⟩, ⟨36, 20, .ro, .num 0x10000⟩, ⟨19, 7, .ro, .boot 0⟩, ⟨6, 0, .ro, .boot 0⟩]⟩,  -- FREE
  ⟨0x118, 0x0, 1, [⟨63, 16, .ro, .num 0⟩, ⟨15, 8, .ro, .num 0⟩, ⟨7, 0, .ro, .num 0⟩]⟩,  -- LAST_REFUSAL
  ⟨0x120, 0x0, 1, [⟨63, 0, .ro, .cold 0⟩]⟩,  -- KEY_SEQ
  ⟨0xc00, 0x0, 1, [⟨63, 0, .rc, .num 0⟩]⟩,  -- FETCHES
  ⟨0xc08, 0x0, 1, [⟨63, 0, .rc, .num 0⟩]⟩,  -- ADMITTED_COUNT
  ⟨0xc10, 0x0, 1, [⟨63, 0, .rc, .num 0⟩]⟩,  -- REFUSED_SIG
  ⟨0xc18, 0x0, 1, [⟨63, 0, .rc, .num 0⟩]⟩,  -- REFUSED_KEY
  ⟨0xc20, 0x0, 1, [⟨63, 0, .rc, .num 0⟩]⟩,  -- REFUSED_FIT
  ⟨0xc28, 0x0, 1, [⟨63, 0, .rc, .num 0⟩]⟩,  -- REFUSED_IMAGE
  ⟨0xc30, 0x0, 1, [⟨63, 0, .rc, .num 0⟩]⟩,  -- FIT_WAITS
  ⟨0xc38, 0x0, 1, [⟨63, 0, .rc, .num 0⟩]⟩,  -- CONTROL_REFUSED
  ⟨0xc40, 0x0, 1, [⟨63, 0, .rc, .num 0⟩]⟩,  -- KEY_MSG_SKIPPED
  ⟨0xc48, 0x0, 1, [⟨63, 0, .rc, .num 0⟩]⟩,  -- STALE_DROPS
  ⟨0x1000, 0x80, 4, [⟨0, 0, .rw, .cold 0⟩]⟩,  -- SIGNER.w0
  ⟨0x1008, 0x80, 4, [⟨63, 0, .rw, .cold 0⟩]⟩,  -- SIGNER.w1
  ⟨0x1010, 0x80, 4, [⟨63, 0, .rw, .cold 0⟩]⟩,  -- SIGNER.w2
  ⟨0x1018, 0x80, 4, [⟨63, 0, .rw, .cold 0⟩]⟩,  -- SIGNER.w3
  ⟨0x1020, 0x80, 4, [⟨63, 0, .rw, .cold 0⟩]⟩,  -- SIGNER.w4
  ⟨0x1028, 0x80, 4, [⟨63, 0, .rw, .cold 0⟩]⟩,  -- SIGNER.w5
  ⟨0x1030, 0x80, 4, [⟨63, 0, .rw, .cold 0⟩]⟩]  -- SIGNER.w6

/-- The registers of the DOCK page, part 2. -/
def regsDOCK1 : List RegDef := [
  ⟨0x1038, 0x80, 4, [⟨63, 0, .rw, .cold 0⟩]⟩,  -- SIGNER.w7
  ⟨0x1040, 0x80, 4, [⟨63, 0, .rw, .cold 0⟩]⟩,  -- SIGNER.w8
  ⟨0x1048, 0x80, 4, [⟨63, 0, .rw, .cold 0⟩]⟩,  -- SIGNER.w9
  ⟨0x1050, 0x80, 4, [⟨63, 0, .rw, .cold 0⟩]⟩,  -- SIGNER.w10
  ⟨0x1058, 0x80, 4, [⟨63, 0, .rw, .cold 0⟩]⟩,  -- SIGNER.w11
  ⟨0x1060, 0x80, 4, [⟨63, 0, .rw, .cold 0⟩]⟩,  -- SIGNER.w12
  ⟨0x2000, 0x20, 16, [⟨63, 32, .ro, .num 0⟩, ⟨31, 16, .ro, .num 0⟩, ⟨2, 0, .ro, .num 0⟩]⟩,  -- JOB.w0
  ⟨0x2008, 0x20, 16, [⟨63, 0, .ro, .num 0⟩]⟩,  -- JOB.w1
  ⟨0x2010, 0x20, 16, [⟨63, 0, .ro, .num 0⟩]⟩,  -- JOB.w2
  ⟨0x2018, 0x20, 16, [⟨63, 0, .ro, .num 0⟩]⟩,  -- JOB.w3
  ⟨0x3000, 0x8, 256, [⟨63, 32, .ro, .num 0⟩, ⟨31, 16, .ro, .num 0⟩, ⟨8, 8, .ro, .num 0⟩, ⟨7, 4, .ro, .num 0⟩, ⟨1, 0, .ro, .num 0⟩]⟩]  -- PORT

/-- The registers of the DOCK page. -/
def regsDOCK : List RegDef := regsDOCK0 ++ regsDOCK1

/-- The registers of the SCT page, part 1. -/
def regsSCT0 : List RegDef := [
  ⟨0x0, 0x0, 1, [⟨63, 48, .ro, .num 9⟩, ⟨47, 32, .ro, .num 0⟩, ⟨31, 16, .ro, .num 1⟩, ⟨15, 0, .ro, .num 0x4231⟩]⟩,  -- ID
  ⟨0x8, 0x0, 1, []⟩,  -- CAP
  ⟨0x10, 0x0, 1, [⟨2, 2, .w1s, .num 0⟩, ⟨1, 1, .rw, .num 0⟩, ⟨0, 0, .rw, .num 1⟩]⟩,  -- CTRL
  ⟨0x18, 0x0, 1, [⟨32, 16, .ro, .num 0⟩, ⟨4, 4, .ro, .num 0⟩, ⟨3, 3, .ro, .num 0⟩, ⟨2, 2, .ro, .num 0⟩, ⟨1, 1, .ro, .num 0⟩, ⟨0, 0, .ro, .num 1⟩]⟩,  -- STATUS
  ⟨0x20, 0x0, 1, [⟨63, 63, .w1c, .num 0⟩]⟩,  -- ERR_STATUS
  ⟨0x28, 0x0, 1, [⟨63, 63, .rw, .num 0⟩]⟩,  -- ERR_MASK
  ⟨0x30, 0x0, 1, [⟨63, 0, .wo, .num 0⟩]⟩,  -- ERR_FORCE
  ⟨0x38, 0x0, 1, []⟩,  -- EVT_STATUS
  ⟨0x100, 0x0, 1, [⟨19, 16, .rw, .num 0⟩, ⟨15, 0, .rw, .num 0⟩]⟩,  -- SELECT
  ⟨0x108, 0x0, 1, [⟨63, 63, .ro, .num 0⟩, ⟨62, 60, .ro, .num 0⟩, ⟨59, 53, .ro, .num 0⟩, ⟨52, 52, .ro, .num 0⟩, ⟨31, 0, .ro, .num 0⟩]⟩,  -- ENTRY
  ⟨0x110, 0x0, 1, [⟨63, 0, .ro, .num 0⟩]⟩,  -- ENTRY_TIME
  ⟨0xc00, 0x0, 1, [⟨63, 0, .rc, .num 0⟩]⟩,  -- ALLOCS
  ⟨0xc08, 0x0, 1, [⟨63, 0, .rc, .num 0⟩]⟩,  -- CTX_WAITS
  ⟨0xc10, 0x0, 1, [⟨63, 0, .rc, .num 0⟩]⟩,  -- ORPHAN_DROPS
  ⟨0x1000, 0x8, 16, [⟨47, 32, .ro, .num 0⟩, ⟨16, 0, .ro, .num 0⟩]⟩]  -- JOB

/-- The registers of the SCT page. -/
def regsSCT : List RegDef := regsSCT0

/-- The registers of the CE page, part 1. -/
def regsCE0 : List RegDef := [
  ⟨0x0, 0x0, 1, [⟨63, 48, .ro, .num 0xa⟩, ⟨47, 32, .ro, .num 0⟩, ⟨31, 16, .ro, .num 1⟩, ⟨15, 0, .ro, .num 0x4231⟩]⟩,  -- ID
  ⟨0x8, 0x0, 1, []⟩,  -- CAP
  ⟨0x10, 0x0, 1, [⟨2, 2, .w1s, .num 0⟩, ⟨1, 1, .rw, .num 0⟩, ⟨0, 0, .rw, .num 1⟩]⟩,  -- CTRL
  ⟨0x18, 0x0, 1, [⟨44, 32, .ro, .num 0⟩, ⟨18, 16, .ro, .num 0⟩, ⟨4, 4, .ro, .num 0⟩, ⟨3, 3, .ro, .num 0⟩, ⟨2, 2, .ro, .num 0⟩, ⟨1, 1, .ro, .num 0⟩, ⟨0, 0, .ro, .num 1⟩]⟩,  -- STATUS
  ⟨0x20, 0x0, 1, [⟨63, 63, .w1c, .num 0⟩, ⟨11, 11, .w1c, .num 0⟩, ⟨10, 10, .w1c, .num 0⟩, ⟨9, 9, .w1c, .num 0⟩, ⟨8, 8, .w1c, .num 0⟩, ⟨7, 7, .w1c, .num 0⟩, ⟨6, 6, .w1c, .num 0⟩, ⟨5, 5, .w1c, .num 0⟩, ⟨4, 4, .w1c, .num 0⟩, ⟨3, 3, .w1c, .num 0⟩, ⟨2, 2, .w1c, .num 0⟩, ⟨1, 1, .w1c, .num 0⟩, ⟨0, 0, .w1c, .num 0⟩]⟩,  -- ERR_STATUS
  ⟨0x28, 0x0, 1, [⟨63, 63, .rw, .num 0⟩, ⟨11, 0, .rw, .num 0⟩]⟩,  -- ERR_MASK
  ⟨0x30, 0x0, 1, [⟨63, 0, .wo, .num 0⟩]⟩,  -- ERR_FORCE
  ⟨0x38, 0x0, 1, [⟨3, 3, .w1c, .num 0⟩, ⟨2, 2, .w1c, .num 0⟩, ⟨1, 1, .w1c, .num 0⟩, ⟨0, 0, .w1c, .num 0⟩]⟩,  -- EVT_STATUS
  ⟨0x100, 0x0, 1, [⟨63, 48, .rw, .num 0x2710⟩, ⟨47, 32, .rw, .num 0x7d0⟩, ⟨31, 16, .rw, .num 0x1f4⟩, ⟨3, 0, .rw, .num 3⟩]⟩,  -- LIMITS
  ⟨0x108, 0x0, 1, [⟨63, 44, .ro, .num 0⟩, ⟨43, 32, .ro, .num 0⟩, ⟨31, 16, .ro, .num 0⟩, ⟨15, 12, .ro, .num 0⟩, ⟨7, 0, .ro, .num 0⟩]⟩,  -- LAST_ABORT
  ⟨0x800, 0x0, 1, [⟨1, 0, .rw, .num 0⟩]⟩,  -- TUNE
  ⟨0xc00, 0x0, 1, [⟨63, 0, .rc, .num 0⟩]⟩,  -- CHUNKS_OUT_L1
  ⟨0xc08, 0x0, 1, [⟨63, 0, .rc, .num 0⟩]⟩,  -- CHUNKS_OUT_L2
  ⟨0xc10, 0x0, 1, [⟨63, 0, .rc, .num 0⟩]⟩,  -- CHUNKS_IN
  ⟨0xc18, 0x0, 1, [⟨63, 0, .rc, .num 0⟩]⟩,  -- CRC_ERRS
  ⟨0xc20, 0x0, 1, [⟨63, 0, .rc, .num 0⟩]⟩,  -- RESENDS
  ⟨0xc28, 0x0, 1, [⟨63, 0, .rc, .num 0⟩]⟩,  -- STALL_NS_L0
  ⟨0xc30, 0x0, 1, [⟨63, 0, .rc, .num 0⟩]⟩,  -- STALL_NS_L1
  ⟨0xc38, 0x0, 1, [⟨63, 0, .rc, .num 0⟩]⟩,  -- STALL_NS_L2
  ⟨0xc40, 0x0, 1, [⟨63, 0, .rc, .num 0⟩]⟩,  -- BUCKETS_DONE
  ⟨0xc48, 0x0, 1, [⟨63, 0, .rc, .num 0⟩]⟩,  -- BUCKETS_HELD
  ⟨0xc50, 0x0, 1, [⟨63, 0, .rc, .num 0⟩]⟩,  -- BUCKET_WAITS
  ⟨0xc58, 0x0, 1, [⟨63, 0, .rc, .num 0⟩]⟩,  -- ABORTS
  ⟨0xc60, 0x0, 1, [⟨63, 0, .rc, .num 0⟩]⟩,  -- TIMEOUTS
  ⟨0xc68, 0x0, 1, [⟨63, 0, .rc, .num 0⟩]⟩,  -- VOTES
  ⟨0xc70, 0x0, 1, [⟨63, 0, .rc, .num 0⟩]⟩,  -- VOTE_FAILS
  ⟨0xc78, 0x0, 1, [⟨63, 0, .rc, .num 0⟩]⟩,  -- REREDUCES
  ⟨0xc80, 0x0, 1, [⟨63, 0, .rc, .num 0⟩]⟩,  -- COMMITS
  ⟨0xc88, 0x0, 1, [⟨63, 0, .rc, .num 0⟩]⟩,  -- REPLAYS_ORDERED
  ⟨0xc90, 0x0, 1, [⟨63, 0, .rc, .num 0⟩]⟩]  -- ROLLBACKS

/-- The registers of the CE page, part 2. -/
def regsCE1 : List RegDef := [
  ⟨0xc98, 0x0, 1, [⟨63, 0, .rc, .num 0⟩]⟩,  -- RESIDUE_ERRS
  ⟨0xca0, 0x0, 1, [⟨63, 0, .rc, .num 0⟩]⟩,  -- NONFINITE_IN
  ⟨0x1000, 0x20, 16, [⟨63, 63, .ro, .num 0⟩, ⟨62, 60, .ro, .num 0⟩, ⟨47, 32, .ro, .num 0⟩, ⟨31, 16, .ro, .num 0⟩, ⟨12, 0, .ro, .num 0⟩]⟩,  -- JOB.w0
  ⟨0x1008, 0x20, 16, [⟨63, 0, .ro, .num 0⟩]⟩,  -- JOB.w1
  ⟨0x1010, 0x20, 16, [⟨63, 0, .ro, .num 0⟩]⟩,  -- JOB.w2
  ⟨0x1018, 0x20, 16, [⟨63, 0, .ro, .num 0⟩]⟩,  -- JOB.w3
  ⟨0x8000, 0x8, 4096, [⟨63, 63, .ro, .num 0⟩, ⟨62, 59, .ro, .num 0⟩, ⟨58, 56, .ro, .num 0⟩, ⟨55, 54, .ro, .num 0⟩, ⟨53, 52, .ro, .num 0⟩, ⟨47, 32, .ro, .num 0⟩, ⟨31, 20, .ro, .num 0⟩, ⟨19, 0, .ro, .num 0⟩]⟩]  -- BUCKET

/-- The registers of the CE page. -/
def regsCE : List RegDef := regsCE0 ++ regsCE1

/-- The registers of the UPD page, part 1. -/
def regsUPD0 : List RegDef := [
  ⟨0x0, 0x0, 1, [⟨63, 48, .ro, .num 0xb⟩, ⟨47, 32, .ro, .num 0⟩, ⟨31, 16, .ro, .num 1⟩, ⟨15, 0, .ro, .num 0x4231⟩]⟩,  -- ID
  ⟨0x8, 0x0, 1, []⟩,  -- CAP
  ⟨0x10, 0x0, 1, [⟨2, 2, .w1s, .num 0⟩, ⟨1, 1, .rw, .num 0⟩, ⟨0, 0, .rw, .num 1⟩]⟩,  -- CTRL
  ⟨0x18, 0x0, 1, [⟨43, 32, .ro, .num 0⟩, ⟨27, 16, .ro, .num 0⟩, ⟨4, 4, .ro, .num 0⟩, ⟨3, 3, .ro, .num 0⟩, ⟨2, 2, .ro, .num 0⟩, ⟨1, 1, .ro, .num 0⟩, ⟨0, 0, .ro, .num 1⟩]⟩,  -- STATUS
  ⟨0x20, 0x0, 1, [⟨63, 63, .w1c, .num 0⟩, ⟨10, 10, .w1c, .num 0⟩, ⟨9, 9, .w1c, .num 0⟩, ⟨8, 8, .w1c, .num 0⟩, ⟨7, 7, .w1c, .num 0⟩, ⟨6, 6, .w1c, .num 0⟩, ⟨5, 5, .w1c, .num 0⟩, ⟨4, 4, .w1c, .num 0⟩, ⟨3, 3, .w1c, .num 0⟩, ⟨2, 2, .w1c, .num 0⟩, ⟨1, 1, .w1c, .num 0⟩, ⟨0, 0, .w1c, .num 0⟩]⟩,  -- ERR_STATUS
  ⟨0x28, 0x0, 1, [⟨63, 63, .rw, .num 0⟩, ⟨10, 0, .rw, .num 0⟩]⟩,  -- ERR_MASK
  ⟨0x30, 0x0, 1, [⟨63, 0, .wo, .num 0⟩]⟩,  -- ERR_FORCE
  ⟨0x38, 0x0, 1, [⟨3, 3, .w1c, .num 0⟩, ⟨2, 2, .w1c, .num 0⟩, ⟨1, 1, .w1c, .num 0⟩, ⟨0, 0, .w1c, .num 0⟩]⟩,  -- EVT_STATUS
  ⟨0x100, 0x0, 1, [⟨63, 48, .rw, .num 0x3c⟩, ⟨47, 32, .rw, .num 0x1f4⟩, ⟨31, 16, .rw, .num 0x7d0⟩, ⟨3, 0, .rw, .num 3⟩]⟩,  -- LIMITS
  ⟨0x800, 0x0, 1, [⟨15, 0, .rw, .num 0⟩]⟩,  -- STALE
  ⟨0xc00, 0x0, 1, [⟨63, 0, .rc, .num 0⟩]⟩,  -- UPDS_DONE
  ⟨0xc08, 0x0, 1, [⟨63, 0, .rc, .num 0⟩]⟩,  -- ELEMENTS
  ⟨0xc10, 0x0, 1, [⟨63, 0, .rc, .num 0⟩]⟩,  -- ROWS_UPDATED
  ⟨0xc18, 0x0, 1, [⟨63, 0, .rc, .num 0⟩]⟩,  -- ROWS_SKIPPED
  ⟨0xc20, 0x0, 1, [⟨63, 0, .rc, .num 0⟩]⟩,  -- UPD_SKIPS
  ⟨0xc28, 0x0, 1, [⟨63, 0, .rc, .num 0⟩]⟩,  -- REDOS
  ⟨0xc30, 0x0, 1, [⟨63, 0, .rc, .num 0⟩]⟩,  -- COMMITS
  ⟨0xc38, 0x0, 1, [⟨63, 0, .rc, .num 0⟩]⟩,  -- ROLLBACKS
  ⟨0xc40, 0x0, 1, [⟨63, 0, .rc, .num 0⟩]⟩,  -- PUBLICATIONS
  ⟨0xc48, 0x0, 1, [⟨63, 0, .rc, .num 0⟩]⟩,  -- NUMERIC_SAT
  ⟨0xc50, 0x0, 1, [⟨63, 0, .rc, .num 0⟩]⟩,  -- STALE_WAITS
  ⟨0xc58, 0x0, 1, [⟨63, 0, .rc, .num 0⟩]⟩,  -- MIRROR_BYTES_OUT
  ⟨0xc60, 0x0, 1, [⟨63, 0, .rc, .num 0⟩]⟩,  -- MIRROR_BYTES_IN
  ⟨0xc68, 0x0, 1, [⟨63, 0, .rc, .num 0⟩]⟩,  -- MIRROR_RESENDS
  ⟨0xc70, 0x0, 1, [⟨63, 0, .rc, .num 0⟩]⟩,  -- MIRROR_TAG_FAILS
  ⟨0xc78, 0x0, 1, [⟨63, 0, .rc, .num 0⟩]⟩,  -- RESTORES
  ⟨0x1000, 0x20, 16, [⟨63, 63, .ro, .num 0⟩, ⟨62, 62, .ro, .num 0⟩, ⟨61, 61, .ro, .num 0⟩, ⟨31, 0, .ro, .num 0⟩]⟩,  -- JOB.w0
  ⟨0x1008, 0x20, 16, [⟨63, 0, .ro, .num 0⟩]⟩,  -- JOB.w1
  ⟨0x1010, 0x20, 16, [⟨57, 56, .ro, .num 0⟩, ⟨55, 48, .ro, .num 0⟩, ⟨45, 32, .ro, .num 0⟩, ⟨31, 0, .ro, .num 0⟩]⟩,  -- JOB.w2
  ⟨0x1018, 0x20, 16, [⟨63, 32, .ro, .num 0⟩]⟩]  -- JOB.w3

/-- The registers of the UPD page, part 2. -/
def regsUPD1 : List RegDef := [
  ⟨0x2000, 0x10, 2048, [⟨63, 63, .ro, .num 0⟩, ⟨62, 62, .ro, .num 0⟩, ⟨61, 61, .ro, .num 0⟩, ⟨60, 60, .ro, .num 0⟩, ⟨59, 56, .ro, .num 0⟩, ⟨50, 48, .ro, .num 0⟩, ⟨40, 0, .ro, .num 0⟩]⟩,  -- AREA.w0
  ⟨0x2008, 0x10, 2048, [⟨63, 32, .ro, .num 0⟩, ⟨31, 0, .ro, .num 0⟩]⟩,  -- AREA.w1
  ⟨0xa000, 0x20, 4, [⟨63, 63, .ro, .num 0⟩, ⟨59, 56, .ro, .num 0⟩, ⟨13, 0, .ro, .num 0⟩]⟩,  -- MIRROR_IN.w0
  ⟨0xa008, 0x20, 4, [⟨63, 32, .ro, .num 0⟩, ⟨31, 0, .ro, .num 0⟩]⟩,  -- MIRROR_IN.w1
  ⟨0xa010, 0x20, 4, [⟨33, 33, .ro, .num 0⟩, ⟨32, 32, .ro, .num 0⟩, ⟨31, 0, .ro, .num 0⟩]⟩,  -- MIRROR_IN.w2
  ⟨0xa018, 0x20, 4, [⟨63, 0, .ro, .num 0⟩]⟩]  -- MIRROR_IN.w3

/-- The registers of the UPD page. -/
def regsUPD : List RegDef := regsUPD0 ++ regsUPD1

/-- The registers of the WSP page, part 1. -/
def regsWSP0 : List RegDef := [
  ⟨0x0, 0x0, 1, [⟨63, 48, .ro, .num 0xc⟩, ⟨47, 32, .ro, .num 0⟩, ⟨31, 16, .ro, .num 1⟩, ⟨15, 0, .ro, .num 0x4231⟩]⟩,  -- ID
  ⟨0x8, 0x0, 1, []⟩,  -- CAP
  ⟨0x10, 0x0, 1, [⟨2, 2, .w1s, .num 0⟩, ⟨1, 1, .rw, .num 0⟩, ⟨0, 0, .rw, .num 1⟩]⟩,  -- CTRL
  ⟨0x18, 0x0, 1, [⟨40, 24, .ro, .num 0⟩, ⟨22, 16, .ro, .num 0⟩, ⟨4, 4, .ro, .num 0⟩, ⟨3, 3, .ro, .num 0⟩, ⟨2, 2, .ro, .num 0⟩, ⟨1, 1, .ro, .num 0⟩, ⟨0, 0, .ro, .num 1⟩]⟩,  -- STATUS
  ⟨0x20, 0x0, 1, [⟨63, 63, .w1c, .num 0⟩, ⟨3, 3, .w1c, .num 0⟩, ⟨2, 2, .w1c, .num 0⟩, ⟨1, 1, .w1c, .num 0⟩, ⟨0, 0, .w1c, .num 0⟩]⟩,  -- ERR_STATUS
  ⟨0x28, 0x0, 1, [⟨63, 63, .rw, .num 0⟩, ⟨3, 0, .rw, .num 0⟩]⟩,  -- ERR_MASK
  ⟨0x30, 0x0, 1, [⟨63, 0, .wo, .num 0⟩]⟩,  -- ERR_FORCE
  ⟨0x38, 0x0, 1, [⟨1, 1, .w1c, .num 0⟩, ⟨0, 0, .w1c, .num 0⟩]⟩,  -- EVT_STATUS
  ⟨0x100, 0x0, 1, [⟨63, 48, .rw, .num 0x1388⟩, ⟨47, 32, .rw, .num 0x7d0⟩, ⟨31, 16, .rw, .num 0xc8⟩, ⟨3, 0, .rw, .num 3⟩]⟩,  -- LIMITS
  ⟨0x108, 0x0, 1, [⟨63, 32, .ro, .num 0⟩, ⟨31, 0, .ro, .boot 0⟩]⟩,  -- STAGE
  ⟨0x110, 0x0, 1, [⟨63, 48, .ro, .num 0⟩, ⟨47, 44, .ro, .num 0⟩, ⟨43, 40, .ro, .num 0⟩, ⟨31, 16, .ro, .num 0⟩, ⟨15, 0, .ro, .num 0⟩]⟩,  -- LAST_FAIL
  ⟨0x800, 0x0, 1, [⟨16, 16, .rw, .num 0⟩, ⟨11, 8, .rw, .num 8⟩, ⟨1, 0, .rw, .num 3⟩]⟩,  -- DEPTH
  ⟨0xc00, 0x0, 1, [⟨63, 0, .rc, .num 0⟩]⟩,  -- SEGMENTS_IN
  ⟨0xc08, 0x0, 1, [⟨63, 0, .rc, .num 0⟩]⟩,  -- SEGMENTS_OUT
  ⟨0xc10, 0x0, 1, [⟨63, 0, .rc, .num 0⟩]⟩,  -- BYTES_LANDED
  ⟨0xc18, 0x0, 1, [⟨63, 0, .rc, .num 0⟩]⟩,  -- TAG_FAILS
  ⟨0xc20, 0x0, 1, [⟨63, 0, .rc, .num 0⟩]⟩,  -- HDR_DROPS
  ⟨0xc28, 0x0, 1, [⟨63, 0, .rc, .num 0⟩]⟩,  -- DUP_DROPS
  ⟨0xc30, 0x0, 1, [⟨63, 0, .rc, .num 0⟩]⟩,  -- RE_REQUESTS
  ⟨0xc38, 0x0, 1, [⟨63, 0, .rc, .num 0⟩]⟩,  -- LEADER_FALLBACKS
  ⟨0xc40, 0x0, 1, [⟨63, 0, .rc, .num 0⟩]⟩,  -- REBCAST_SEGMENTS
  ⟨0xc48, 0x0, 1, [⟨63, 0, .rc, .num 0⟩]⟩,  -- DEPTH_STALLS
  ⟨0xc50, 0x0, 1, [⟨63, 0, .rc, .num 0⟩]⟩,  -- EPOCH_WAITS
  ⟨0xc58, 0x0, 1, [⟨63, 0, .rc, .num 0⟩]⟩,  -- EXPERT_SKIPS
  ⟨0xc60, 0x0, 1, [⟨63, 0, .rc, .num 0⟩]⟩,  -- SPEC_ISSUED
  ⟨0xc68, 0x0, 1, [⟨63, 0, .rc, .num 0⟩]⟩,  -- SPEC_HITS
  ⟨0xc70, 0x0, 1, [⟨63, 0, .rc, .num 0⟩]⟩,  -- SPEC_SQUASHED
  ⟨0xc78, 0x0, 1, [⟨63, 0, .rc, .num 0⟩]⟩,  -- STAGED_UNSOLICITED
  ⟨0xc80, 0x0, 1, [⟨63, 0, .rc, .num 0⟩]⟩,  -- GEN_RESTARTS
  ⟨0xc88, 0x0, 1, [⟨63, 0, .rc, .num 0⟩]⟩]  -- STAGE_EVICTIONS

/-- The registers of the WSP page, part 2. -/
def regsWSP1 : List RegDef := [
  ⟨0xc90, 0x0, 1, [⟨63, 0, .rc, .num 0⟩]⟩,  -- RESIDENT_HITS
  ⟨0xc98, 0x0, 1, [⟨63, 0, .rc, .num 0⟩]⟩,  -- UNBOUND_LOADS
  ⟨0x1000, 0x20, 64, [⟨63, 63, .ro, .num 0⟩, ⟨62, 62, .ro, .num 0⟩, ⟨60, 56, .ro, .num 0⟩, ⟨15, 0, .ro, .num 0⟩]⟩,  -- KEYSLOT.w0
  ⟨0x1008, 0x20, 64, [⟨39, 32, .ro, .num 0⟩, ⟨31, 0, .ro, .num 0⟩]⟩,  -- KEYSLOT.w1
  ⟨0x1010, 0x20, 64, [⟨63, 32, .ro, .num 0⟩, ⟨7, 0, .ro, .num 0⟩]⟩,  -- KEYSLOT.w2
  ⟨0x1018, 0x20, 64, [⟨23, 0, .ro, .num 0⟩]⟩,  -- KEYSLOT.w3
  ⟨0x2000, 0x10, 1344, [⟨63, 63, .ro, .num 0⟩, ⟨47, 32, .ro, .num 0⟩, ⟨31, 16, .ro, .num 0⟩, ⟨15, 0, .ro, .num 0⟩]⟩,  -- BIND.w0
  ⟨0x2008, 0x10, 1344, [⟨31, 0, .ro, .num 0⟩]⟩]  -- BIND.w1

/-- The registers of the WSP page. -/
def regsWSP : List RegDef := regsWSP0 ++ regsWSP1

/-- The registers of the CAVE page, part 1. -/
def regsCAVE0 : List RegDef := [
  ⟨0x0, 0x0, 1, [⟨63, 48, .ro, .num 0xd⟩, ⟨47, 32, .ro, .num 0⟩, ⟨31, 16, .ro, .num 1⟩, ⟨15, 0, .ro, .num 0x4231⟩]⟩,  -- ID
  ⟨0x8, 0x0, 1, []⟩,  -- CAP
  ⟨0x10, 0x0, 1, [⟨2, 2, .w1s, .num 0⟩, ⟨1, 1, .rw, .num 0⟩, ⟨0, 0, .rw, .num 1⟩]⟩,  -- CTRL
  ⟨0x18, 0x0, 1, [⟨47, 28, .ro, .num 0⟩, ⟨26, 16, .ro, .num 0⟩, ⟨4, 4, .ro, .num 0⟩, ⟨3, 3, .ro, .num 0⟩, ⟨2, 2, .ro, .num 0⟩, ⟨1, 1, .ro, .num 0⟩, ⟨0, 0, .ro, .num 1⟩]⟩,  -- STATUS
  ⟨0x20, 0x0, 1, [⟨63, 63, .w1c, .num 0⟩, ⟨10, 10, .w1c, .num 0⟩, ⟨9, 9, .w1c, .num 0⟩, ⟨8, 8, .w1c, .num 0⟩, ⟨7, 7, .w1c, .num 0⟩, ⟨6, 6, .w1c, .num 0⟩, ⟨5, 5, .w1c, .num 0⟩, ⟨4, 4, .w1c, .num 0⟩, ⟨3, 3, .w1c, .num 0⟩, ⟨2, 2, .w1c, .num 0⟩, ⟨1, 1, .w1c, .num 0⟩, ⟨0, 0, .w1c, .num 0⟩]⟩,  -- ERR_STATUS
  ⟨0x28, 0x0, 1, [⟨63, 63, .rw, .num 0⟩, ⟨10, 0, .rw, .num 0⟩]⟩,  -- ERR_MASK
  ⟨0x30, 0x0, 1, [⟨63, 0, .wo, .num 0⟩]⟩,  -- ERR_FORCE
  ⟨0x38, 0x0, 1, [⟨1, 1, .w1c, .num 0⟩, ⟨0, 0, .w1c, .num 0⟩]⟩,  -- EVT_STATUS
  ⟨0x100, 0x0, 1, [⟨63, 57, .ro, .num 0⟩, ⟨56, 53, .ro, .num 0⟩, ⟨47, 40, .ro, .num 0⟩, ⟨31, 16, .ro, .num 0⟩, ⟨15, 0, .ro, .num 0⟩]⟩,  -- LAST_FAULT
  ⟨0xc00, 0x0, 1, [⟨63, 0, .rc, .num 0⟩]⟩,  -- PUSHES
  ⟨0xc08, 0x0, 1, [⟨63, 0, .rc, .num 0⟩]⟩,  -- PUSH_BYTES
  ⟨0xc10, 0x0, 1, [⟨63, 0, .rc, .num 0⟩]⟩,  -- POPS
  ⟨0xc18, 0x0, 1, [⟨63, 0, .rc, .num 0⟩]⟩,  -- POP_BYTES
  ⟨0xc20, 0x0, 1, [⟨63, 0, .rc, .num 0⟩]⟩,  -- DROPS
  ⟨0xc28, 0x0, 1, [⟨63, 0, .rc, .num 0⟩]⟩,  -- RECOMPUTES
  ⟨0xc30, 0x0, 1, [⟨63, 0, .rc, .num 0⟩]⟩,  -- POP_STALL_NS
  ⟨0xc38, 0x0, 1, [⟨63, 0, .rc, .num 0⟩]⟩,  -- POLICY_BAD
  ⟨0xc40, 0x0, 1, [⟨63, 0, .rc, .num 0⟩]⟩,  -- HOLD_WRITES
  ⟨0xc48, 0x0, 1, [⟨63, 0, .rc, .num 0⟩]⟩,  -- HOLD_SENDS
  ⟨0xc50, 0x0, 1, [⟨63, 0, .rc, .num 0⟩]⟩,  -- HOLD_ROLLBACKS
  ⟨0xc58, 0x0, 1, [⟨63, 0, .rc, .num 0⟩]⟩,  -- CAVE_REPLAYS
  ⟨0x1000, 0x80, 84, [⟨63, 63, .ro, .num 0⟩, ⟨59, 56, .ro, .num 0⟩, ⟨40, 0, .ro, .num 0⟩]⟩,  -- REGION.w0
  ⟨0x1008, 0x80, 84, [⟨40, 0, .ro, .num 0⟩]⟩,  -- REGION.w1
  ⟨0x1010, 0x80, 84, [⟨40, 0, .ro, .num 0⟩]⟩,  -- REGION.w2
  ⟨0x1018, 0x80, 84, [⟨40, 0, .ro, .num 0⟩]⟩,  -- REGION.w3
  ⟨0x1020, 0x80, 84, [⟨40, 0, .ro, .num 0⟩]⟩,  -- REGION.w4
  ⟨0x1028, 0x80, 84, [⟨40, 0, .ro, .num 0⟩]⟩,  -- REGION.w5
  ⟨0x1030, 0x80, 84, [⟨40, 0, .ro, .num 0⟩]⟩,  -- REGION.w6
  ⟨0x1038, 0x80, 84, [⟨40, 0, .ro, .num 0⟩]⟩,  -- REGION.w7
  ⟨0x1040, 0x80, 84, [⟨32, 32, .ro, .num 0⟩, ⟨29, 16, .ro, .num 0⟩, ⟨13, 0, .ro, .num 0⟩]⟩]  -- REGION.w8

/-- The registers of the CAVE page, part 2. -/
def regsCAVE1 : List RegDef := [
  ⟨0x1048, 0x80, 84, []⟩,  -- REGION.w9
  ⟨0x1050, 0x80, 84, []⟩,  -- REGION.w10
  ⟨0x1058, 0x80, 84, []⟩,  -- REGION.w11
  ⟨0x1060, 0x80, 84, []⟩,  -- REGION.w12
  ⟨0x1068, 0x80, 84, []⟩,  -- REGION.w13
  ⟨0x1070, 0x80, 84, []⟩,  -- REGION.w14
  ⟨0x1078, 0x80, 84, []⟩,  -- REGION.w15
  ⟨0x4000, 0x10, 1024, [⟨63, 63, .ro, .num 0⟩, ⟨61, 60, .ro, .num 0⟩, ⟨59, 58, .ro, .num 0⟩, ⟨57, 57, .ro, .num 0⟩, ⟨56, 56, .ro, .num 0⟩, ⟨55, 55, .ro, .num 0⟩, ⟨54, 54, .ro, .num 0⟩, ⟨53, 53, .ro, .num 0⟩, ⟨51, 48, .ro, .num 0⟩, ⟨40, 0, .ro, .num 0⟩]⟩,  -- HOLD.w0
  ⟨0x4008, 0x10, 1024, [⟨63, 56, .ro, .num 0⟩, ⟨47, 32, .ro, .num 0⟩, ⟨31, 0, .ro, .num 0⟩]⟩]  -- HOLD.w1

/-- The registers of the CAVE page. -/
def regsCAVE : List RegDef := regsCAVE0 ++ regsCAVE1

/-- The registers of the FAB page, part 1. -/
def regsFAB0 : List RegDef := [
  ⟨0x0, 0x0, 1, [⟨63, 48, .ro, .num 0xe⟩, ⟨47, 32, .ro, .num 0⟩, ⟨31, 16, .ro, .num 1⟩, ⟨15, 0, .ro, .num 0x4231⟩]⟩,  -- ID
  ⟨0x8, 0x0, 1, []⟩,  -- CAP
  ⟨0x10, 0x0, 1, [⟨2, 2, .w1s, .num 0⟩, ⟨1, 1, .rw, .num 0⟩, ⟨0, 0, .ro, .num 1⟩]⟩,  -- CTRL
  ⟨0x18, 0x0, 1, [⟨30, 24, .ro, .boot 0⟩, ⟨19, 19, .ro, .num 0⟩, ⟨18, 17, .ro, .num 0⟩, ⟨16, 16, .ro, .cold 0⟩, ⟨4, 4, .ro, .num 0⟩, ⟨3, 3, .ro, .num 0⟩, ⟨2, 2, .ro, .num 0⟩, ⟨1, 1, .ro, .num 0⟩, ⟨0, 0, .ro, .num 1⟩]⟩,  -- STATUS
  ⟨0x20, 0x0, 1, [⟨63, 63, .w1c, .num 0⟩, ⟨6, 6, .w1c, .num 0⟩, ⟨5, 5, .w1c, .num 0⟩, ⟨4, 4, .w1c, .num 0⟩, ⟨3, 3, .w1c, .num 0⟩, ⟨2, 2, .w1c, .num 0⟩, ⟨1, 1, .w1c, .num 0⟩, ⟨0, 0, .w1c, .num 0⟩]⟩,  -- ERR_STATUS
  ⟨0x28, 0x0, 1, [⟨63, 63, .rw, .num 0⟩, ⟨6, 0, .rw, .num 0⟩]⟩,  -- ERR_MASK
  ⟨0x30, 0x0, 1, [⟨63, 0, .wo, .num 0⟩]⟩,  -- ERR_FORCE
  ⟨0x38, 0x0, 1, [⟨1, 1, .w1c, .num 0⟩, ⟨0, 0, .w1c, .num 0⟩]⟩,  -- EVT_STATUS
  ⟨0x100, 0x0, 1, [⟨0, 0, .w1s, .num 0⟩]⟩,  -- ROUTE_CTRL
  ⟨0x108, 0x0, 1, [⟨63, 56, .ro, .num 0⟩, ⟨55, 48, .ro, .num 0⟩, ⟨47, 40, .ro, .num 0⟩]⟩,  -- ROUTE_RESULT
  ⟨0x110, 0x0, 1, [⟨15, 0, .rw, .num 0xc8⟩]⟩,  -- LIMITS
  ⟨0x118, 0x8, 2, [⟨63, 0, .ro, .boot 0⟩]⟩,  -- BYPASS
  ⟨0x800, 0x0, 1, [⟨39, 32, .rw, .num 8⟩, ⟨31, 24, .rw, .num 0x10⟩, ⟨23, 16, .rw, .num 8⟩, ⟨15, 8, .rw, .num 4⟩, ⟨7, 0, .rw, .num 4⟩]⟩,  -- QUANTA
  ⟨0xc00, 0x0, 1, [⟨63, 0, .rc, .num 0⟩]⟩,  -- LINK_CE
  ⟨0xc08, 0x0, 1, [⟨63, 0, .rc, .num 0⟩]⟩,  -- LINK_UE_COUNT
  ⟨0xc10, 0x0, 1, [⟨63, 0, .rc, .num 0⟩]⟩,  -- XJOB_DROPS
  ⟨0xc18, 0x0, 1, [⟨63, 0, .rc, .num 0⟩]⟩,  -- INACTIVE_DROPS
  ⟨0xc20, 0x0, 1, [⟨63, 0, .rc, .num 0⟩]⟩,  -- BYPASS_DISCARDS
  ⟨0xc28, 0x0, 1, [⟨63, 0, .rc, .num 0⟩]⟩,  -- UNREACH_DROPS
  ⟨0xc30, 0x0, 1, [⟨63, 0, .rc, .num 0⟩]⟩,  -- DETOUR_PACKETS
  ⟨0xc38, 0x0, 1, [⟨63, 0, .rc, .num 0⟩]⟩,  -- DETOUR_UPDATES
  ⟨0xc40, 0x0, 1, [⟨63, 0, .rc, .num 0⟩]⟩,  -- ROUTE_CHECKS
  ⟨0xc48, 0x0, 1, [⟨63, 0, .rc, .num 0⟩]⟩,  -- VC_STALLS
  ⟨0xc50, 0x0, 1, [⟨63, 0, .rc, .num 0⟩]⟩,  -- POST_WAIT_NS
  ⟨0x1000, 0x8, 882, [⟨61, 56, .rw, .boot 0⟩, ⟨53, 48, .rw, .boot 0⟩, ⟨45, 40, .rw, .boot 0⟩, ⟨37, 32, .rw, .boot 0⟩, ⟨29, 24, .rw, .boot 0⟩, ⟨21, 16, .rw, .boot 0⟩, ⟨13, 8, .rw, .boot 0⟩, ⟨5, 0, .rw, .boot 0⟩]⟩,  -- ROUTE_BANK0
  ⟨0x3000, 0x8, 882, [⟨61, 56, .rw, .cold 0⟩, ⟨53, 48, .rw, .cold 0⟩, ⟨45, 40, .rw, .cold 0⟩, ⟨37, 32, .rw, .cold 0⟩, ⟨29, 24, .rw, .cold 0⟩, ⟨21, 16, .rw, .cold 0⟩, ⟨13, 8, .rw, .cold 0⟩, ⟨5, 0, .rw, .cold 0⟩]⟩,  -- ROUTE_BANK1
  ⟨0x5000, 0x8, 882, [⟨2, 0, .ro, .boot 0⟩]⟩,  -- DETOUR
  ⟨0x7000, 0x8, 128, [⟨63, 56, .ro, .boot 0⟩, ⟨55, 48, .ro, .boot 0⟩, ⟨47, 44, .ro, .boot 0⟩, ⟨41, 40, .ro, .boot 0⟩, ⟨39, 32, .ro, .boot 0⟩, ⟨31, 24, .ro, .boot 0⟩, ⟨23, 16, .ro, .boot 0⟩, ⟨15, 8, .ro, .boot 0⟩]⟩]  -- ATTACH

/-- The registers of the FAB page. -/
def regsFAB : List RegDef := regsFAB0

/-- The registers of the FLT page, part 1. -/
def regsFLT0 : List RegDef := [
  ⟨0x0, 0x0, 1, [⟨63, 48, .ro, .num 0xf⟩, ⟨47, 32, .ro, .num 0⟩, ⟨31, 16, .ro, .num 1⟩, ⟨15, 0, .ro, .num 0x4231⟩]⟩,  -- ID
  ⟨0x8, 0x0, 1, []⟩,  -- CAP
  ⟨0x10, 0x0, 1, [⟨16, 16, .rw, .cold 0⟩, ⟨2, 2, .w1s, .num 0⟩, ⟨1, 1, .rw, .num 0⟩, ⟨0, 0, .ro, .num 1⟩]⟩,  -- CTRL
  ⟨0x18, 0x0, 1, [⟨28, 24, .ro, .num 0⟩, ⟨16, 16, .ro, .num 0⟩, ⟨4, 4, .ro, .num 0⟩, ⟨3, 3, .ro, .num 0⟩, ⟨2, 2, .ro, .num 0⟩, ⟨1, 1, .ro, .num 0⟩, ⟨0, 0, .ro, .num 1⟩]⟩,  -- STATUS
  ⟨0x20, 0x0, 1, [⟨63, 63, .w1c, .num 0⟩, ⟨6, 6, .w1c, .num 0⟩, ⟨5, 5, .w1c, .num 0⟩, ⟨4, 4, .w1c, .num 0⟩, ⟨3, 3, .w1c, .num 0⟩, ⟨2, 2, .w1c, .num 0⟩, ⟨1, 1, .w1c, .num 0⟩, ⟨0, 0, .w1c, .num 0⟩]⟩,  -- ERR_STATUS
  ⟨0x28, 0x0, 1, [⟨63, 63, .rw, .num 0⟩, ⟨6, 0, .rw, .num 0⟩]⟩,  -- ERR_MASK
  ⟨0x30, 0x0, 1, [⟨63, 0, .wo, .num 0⟩]⟩,  -- ERR_FORCE
  ⟨0x38, 0x0, 1, [⟨3, 3, .w1c, .num 0⟩, ⟨2, 2, .w1c, .num 0⟩, ⟨1, 1, .w1c, .num 0⟩, ⟨0, 0, .w1c, .num 0⟩]⟩,  -- EVT_STATUS
  ⟨0x100, 0x0, 1, [⟨63, 48, .rw, .num 0x3e8⟩, ⟨47, 32, .rw, .num 0x3e8⟩, ⟨31, 16, .rw, .num 0xe10⟩, ⟨7, 0, .rw, .num 3⟩]⟩,  -- LIMITS
  ⟨0x108, 0x0, 1, [⟨63, 48, .ro, .num 0⟩, ⟨47, 44, .ro, .num 0⟩, ⟨43, 36, .ro, .num 0⟩, ⟨35, 32, .ro, .num 0⟩]⟩,  -- LAST_FAULT
  ⟨0x110, 0x0, 1, [⟨7, 0, .ro, .cold 0⟩]⟩,  -- LOG_HEAD
  ⟨0x800, 0x0, 1, [⟨63, 48, .wo, .num 0⟩, ⟨19, 16, .wo, .num 0⟩, ⟨15, 0, .wo, .num 0⟩]⟩,  -- INJECT
  ⟨0x808, 0x0, 1, [⟨63, 48, .wo, .num 0⟩, ⟨15, 0, .wo, .num 0⟩]⟩,  -- FORCE_DISABLE
  ⟨0xc00, 0x0, 1, [⟨63, 0, .rc, .num 0⟩]⟩,  -- REPORTS
  ⟨0xc08, 0x0, 1, [⟨63, 0, .rc, .num 0⟩]⟩,  -- TILE_FAULTS
  ⟨0xc10, 0x0, 1, [⟨63, 0, .rc, .num 0⟩]⟩,  -- REGION_FAULTS
  ⟨0xc18, 0x0, 1, [⟨63, 0, .rc, .num 0⟩]⟩,  -- STACK_FAULTS
  ⟨0xc20, 0x0, 1, [⟨63, 0, .rc, .num 0⟩]⟩,  -- ENGINE_FAULTS
  ⟨0xc28, 0x0, 1, [⟨63, 0, .rc, .num 0⟩]⟩,  -- JOB_FAULTS
  ⟨0xc30, 0x0, 1, [⟨63, 0, .rc, .num 0⟩]⟩,  -- RECOVERIES_CUT
  ⟨0xc38, 0x0, 1, [⟨63, 0, .rc, .num 0⟩]⟩,  -- RECOVERIES_STEP
  ⟨0xc40, 0x0, 1, [⟨63, 0, .rc, .num 0⟩]⟩,  -- SENTINEL_FORCED
  ⟨0xc48, 0x0, 1, [⟨63, 0, .rc, .num 0⟩]⟩,  -- REPLAY_COMPARES
  ⟨0xc50, 0x0, 1, [⟨63, 0, .rc, .num 0⟩]⟩,  -- REPLAY_MISMATCHES
  ⟨0xc58, 0x0, 1, [⟨63, 0, .rc, .num 0⟩]⟩,  -- HOLD_DISCARDS
  ⟨0xc60, 0x0, 1, [⟨63, 0, .rc, .num 0⟩]⟩,  -- INJECTIONS
  ⟨0xc68, 0x0, 1, [⟨63, 0, .rc, .num 0⟩]⟩,  -- FORCED_ABORTS
  ⟨0xc70, 0x0, 1, [⟨63, 0, .rc, .num 0⟩]⟩,  -- TOO_LATE_COUNT
  ⟨0x1000, 0x10, 256, [⟨63, 63, .ro, .cold 0⟩, ⟨62, 48, .ro, .cold 0⟩, ⟨47, 44, .ro, .cold 0⟩, ⟨43, 36, .ro, .cold 0⟩, ⟨35, 32, .ro, .cold 0⟩, ⟨31, 28, .ro, .cold 0⟩]⟩,  -- LOG.w0
  ⟨0x1008, 0x10, 256, [⟨63, 0, .ro, .cold 0⟩]⟩]  -- LOG.w1

/-- The registers of the FLT page. -/
def regsFLT : List RegDef := regsFLT0

/-- The registers of the PLC page, part 1. -/
def regsPLC0 : List RegDef := [
  ⟨0x0, 0x0, 1, [⟨63, 48, .ro, .num 0x10⟩, ⟨47, 32, .ro, .num 0⟩, ⟨31, 16, .ro, .num 1⟩, ⟨15, 0, .ro, .num 0x4231⟩]⟩,  -- ID
  ⟨0x8, 0x0, 1, []⟩,  -- CAP
  ⟨0x10, 0x0, 1, [⟨2, 2, .w1s, .num 0⟩, ⟨1, 1, .rw, .num 0⟩, ⟨0, 0, .ro, .num 1⟩]⟩,  -- CTRL
  ⟨0x18, 0x0, 1, [⟨30, 24, .ro, .boot 0⟩, ⟨18, 16, .ro, .boot 0⟩, ⟨4, 4, .ro, .num 0⟩, ⟨3, 3, .ro, .num 0⟩, ⟨2, 2, .ro, .num 0⟩, ⟨1, 1, .ro, .num 0⟩, ⟨0, 0, .ro, .num 1⟩]⟩,  -- STATUS
  ⟨0x20, 0x0, 1, [⟨63, 63, .w1c, .num 0⟩, ⟨0, 0, .w1c, .num 0⟩]⟩,  -- ERR_STATUS
  ⟨0x28, 0x0, 1, [⟨63, 63, .rw, .num 0⟩, ⟨0, 0, .rw, .num 0⟩]⟩,  -- ERR_MASK
  ⟨0x30, 0x0, 1, [⟨63, 0, .wo, .num 0⟩]⟩,  -- ERR_FORCE
  ⟨0x38, 0x0, 1, [⟨2, 2, .w1c, .num 0⟩, ⟨1, 1, .w1c, .num 0⟩, ⟨0, 0, .w1c, .num 0⟩]⟩,  -- EVT_STATUS
  ⟨0x800, 0x0, 1, [⟨15, 0, .rw, .num 0⟩]⟩,  -- PAIR
  ⟨0xc00, 0x0, 1, [⟨63, 0, .rc, .num 0⟩]⟩,  -- HB_MISSES
  ⟨0xc08, 0x0, 1, [⟨63, 0, .rc, .num 0⟩]⟩,  -- SUSPECTS_SENT
  ⟨0xc10, 0x0, 1, [⟨63, 0, .rc, .num 0⟩]⟩,  -- SUSPECTS_DISMISSED
  ⟨0xc18, 0x0, 1, [⟨63, 0, .rc, .num 0⟩]⟩,  -- CONFIRMS
  ⟨0xc20, 0x0, 1, [⟨63, 0, .rc, .num 0⟩]⟩,  -- REFORMS
  ⟨0xc28, 0x0, 1, [⟨63, 0, .rc, .num 0⟩]⟩,  -- ABANDONS
  ⟨0xc30, 0x0, 1, [⟨63, 0, .rc, .num 0⟩]⟩,  -- JOINS
  ⟨0xc38, 0x0, 1, [⟨63, 0, .rc, .num 0⟩]⟩,  -- STALE_EPOCH_DROPS
  ⟨0xc40, 0x0, 1, [⟨63, 0, .rc, .num 0⟩]⟩,  -- MEMBER_MSG_DROPS
  ⟨0xc48, 0x0, 1, [⟨63, 0, .rc, .num 0⟩]⟩,  -- HOOP_SELECTS
  ⟨0xc50, 0x0, 1, [⟨63, 0, .rc, .num 0⟩]⟩,  -- SUBSTITUTIONS
  ⟨0xc58, 0x0, 1, [⟨63, 0, .rc, .num 0⟩]⟩,  -- PAIR_CHECKS
  ⟨0xc60, 0x0, 1, [⟨63, 0, .rc, .num 0⟩]⟩,  -- PAIR_MISMATCHES
  ⟨0x1000, 0x8, 84, [⟨63, 61, .ro, .boot 3⟩, ⟨60, 60, .ro, .num 0⟩, ⟨59, 56, .ro, .num 0⟩, ⟨55, 48, .ro, .num 0xff⟩, ⟨47, 40, .ro, .num 0xff⟩, ⟨39, 32, .ro, .cold 0⟩]⟩,  -- REGION
  ⟨0x2000, 0x40, 16, [⟨63, 63, .ro, .num 0⟩, ⟨62, 60, .ro, .num 0⟩, ⟨59, 59, .ro, .num 0⟩, ⟨58, 58, .ro, .num 0⟩, ⟨57, 56, .ro, .num 0⟩, ⟨43, 32, .ro, .num 0⟩, ⟨15, 0, .ro, .num 0⟩]⟩,  -- JOB.w0
  ⟨0x2008, 0x40, 16, [⟨63, 48, .ro, .num 0xffff⟩, ⟨47, 32, .ro, .num 0xffff⟩, ⟨15, 0, .ro, .num 0xffff⟩]⟩,  -- JOB.w1
  ⟨0x2010, 0x40, 16, [⟨63, 63, .ro, .num 0⟩, ⟨47, 32, .ro, .num 0⟩, ⟨23, 16, .ro, .num 0xff⟩, ⟨15, 8, .ro, .num 0xff⟩, ⟨7, 0, .ro, .num 0xff⟩]⟩,  -- JOB.w2
  ⟨0x2018, 0x40, 16, [⟨63, 0, .ro, .num 0⟩]⟩,  -- JOB.w3
  ⟨0x2020, 0x40, 16, [⟨63, 0, .ro, .num 0⟩]⟩,  -- JOB.w4
  ⟨0x2028, 0x40, 16, []⟩,  -- JOB.w5
  ⟨0x2030, 0x40, 16, []⟩]  -- JOB.w6

/-- The registers of the PLC page, part 2. -/
def regsPLC1 : List RegDef := [
  ⟨0x2038, 0x40, 16, []⟩]  -- JOB.w7

/-- The registers of the PLC page. -/
def regsPLC : List RegDef := regsPLC0 ++ regsPLC1

/-- The registers of the CAL page, part 1. -/
def regsCAL0 : List RegDef := [
  ⟨0x0, 0x0, 1, [⟨63, 48, .ro, .num 0x11⟩, ⟨47, 32, .ro, .num 0⟩, ⟨31, 16, .ro, .num 1⟩, ⟨15, 0, .ro, .num 0x4231⟩]⟩,  -- ID
  ⟨0x8, 0x0, 1, []⟩,  -- CAP
  ⟨0x10, 0x0, 1, [⟨2, 2, .w1s, .num 0⟩, ⟨1, 1, .rw, .num 0⟩, ⟨0, 0, .ro, .num 1⟩]⟩,  -- CTRL
  ⟨0x18, 0x0, 1, [⟨4, 4, .ro, .num 0⟩, ⟨3, 3, .ro, .num 0⟩, ⟨2, 2, .ro, .num 0⟩, ⟨1, 1, .ro, .num 0⟩, ⟨0, 0, .ro, .num 1⟩]⟩,  -- STATUS
  ⟨0x20, 0x0, 1, [⟨63, 63, .w1c, .num 0⟩, ⟨1, 1, .w1c, .num 0⟩, ⟨0, 0, .w1c, .num 0⟩]⟩,  -- ERR_STATUS
  ⟨0x28, 0x0, 1, [⟨63, 63, .rw, .num 0⟩, ⟨1, 0, .rw, .num 0⟩]⟩,  -- ERR_MASK
  ⟨0x30, 0x0, 1, [⟨63, 0, .wo, .num 0⟩]⟩,  -- ERR_FORCE
  ⟨0x38, 0x0, 1, []⟩,  -- EVT_STATUS
  ⟨0x100, 0x0, 1, [⟨63, 56, .ro, .fuse 0xd0⟩, ⟨55, 48, .ro, .fuse 0x69⟩, ⟨47, 40, .ro, .fuse 0x73⟩, ⟨39, 32, .ro, .fuse 0x7d⟩, ⟨31, 16, .ro, .fuse 0x1068⟩]⟩,  -- LIMITS
  ⟨0x108, 0x0, 1, [⟨25, 24, .rw, .cold 0⟩, ⟨23, 16, .rw, .cold 0x7d⟩, ⟨15, 8, .rw, .cold 0⟩]⟩,  -- TB_CFG
  ⟨0x110, 0x0, 1, [⟨63, 32, .ro, .num 0⟩, ⟨31, 0, .ro, .cold 0⟩]⟩,  -- TB_STAT
  ⟨0x118, 0x0, 1, [⟨31, 0, .ro, .num 0⟩]⟩,  -- TB_DELAY
  ⟨0xc00, 0x0, 1, [⟨63, 0, .rc, .num 0⟩]⟩,  -- TB_SYNCS
  ⟨0xc08, 0x0, 1, [⟨63, 0, .rc, .num 0⟩]⟩,  -- TB_SYNC_MISSES
  ⟨0xc10, 0x0, 1, [⟨63, 0, .rc, .num 0⟩]⟩,  -- TB_STEPS
  ⟨0xc18, 0x0, 1, [⟨63, 0, .rc, .num 0⟩]⟩,  -- TB_LOSSES
  ⟨0x1000, 0x10, 84, [⟨63, 0, .ro, .fuse 0xae9e8c7c6e625850⟩]⟩,  -- VF.w0
  ⟨0x1008, 0x10, 84, [⟨15, 8, .ro, .fuse 0x14⟩, ⟨5, 0, .ro, .fuse 0x22⟩]⟩,  -- VF.w1
  ⟨0x2000, 0x8, 84, [⟨23, 16, .rw, .cold 0⟩, ⟨15, 8, .rw, .cold 0⟩, ⟨7, 0, .rw, .cold 0⟩]⟩]  -- TRIM

/-- The registers of the CAL page. -/
def regsCAL : List RegDef := regsCAL0

/-- The registers of the CELL page, part 1. -/
def regsCELL0 : List RegDef := [
  ⟨0x0, 0x0, 1, [⟨63, 48, .ro, .num 0x12⟩, ⟨47, 32, .ro, .num 0⟩, ⟨31, 16, .ro, .num 1⟩, ⟨15, 0, .ro, .num 0x4231⟩]⟩,  -- ID
  ⟨0x8, 0x0, 1, []⟩,  -- CAP
  ⟨0x10, 0x0, 1, [⟨2, 2, .w1s, .num 0⟩, ⟨1, 1, .rw, .num 0⟩, ⟨0, 0, .rw, .num 1⟩]⟩,  -- CTRL
  ⟨0x18, 0x0, 1, [⟨40, 32, .ro, .boot 0⟩, ⟨21, 16, .ro, .num 0⟩, ⟨4, 4, .ro, .num 0⟩, ⟨3, 3, .ro, .num 0⟩, ⟨2, 2, .ro, .num 0⟩, ⟨1, 1, .ro, .num 0⟩, ⟨0, 0, .ro, .num 1⟩]⟩,  -- STATUS
  ⟨0x20, 0x0, 1, [⟨63, 63, .w1c, .num 0⟩, ⟨5, 5, .w1c, .num 0⟩, ⟨4, 4, .w1c, .num 0⟩, ⟨3, 3, .w1c, .num 0⟩, ⟨2, 2, .w1c, .num 0⟩, ⟨1, 1, .w1c, .num 0⟩, ⟨0, 0, .w1c, .num 0⟩]⟩,  -- ERR_STATUS
  ⟨0x28, 0x0, 1, [⟨63, 63, .rw, .num 0⟩, ⟨5, 0, .rw, .num 0⟩]⟩,  -- ERR_MASK
  ⟨0x30, 0x0, 1, [⟨63, 0, .wo, .num 0⟩]⟩,  -- ERR_FORCE
  ⟨0x38, 0x0, 1, [⟨3, 3, .w1c, .num 0⟩, ⟨2, 2, .w1c, .num 0⟩, ⟨1, 1, .w1c, .num 0⟩, ⟨0, 0, .w1c, .num 0⟩]⟩,  -- EVT_STATUS
  ⟨0x100, 0x0, 1, [⟨63, 48, .rw, .num 0x258⟩, ⟨10, 0, .rw, .cold 0⟩]⟩,  -- CACHE_CFG
  ⟨0x108, 0x0, 1, [⟨63, 32, .wo, .num 0⟩, ⟨12, 8, .wo, .num 0⟩, ⟨2, 0, .wo, .num 0⟩]⟩,  -- CACHE_CMD
  ⟨0x110, 0x0, 1, [⟨63, 32, .ro, .num 0⟩, ⟨31, 16, .ro, .num 0⟩, ⟨12, 8, .ro, .num 0⟩, ⟨3, 0, .ro, .num 0⟩]⟩,  -- LAST_FAIL
  ⟨0xc00, 0x0, 1, [⟨63, 0, .rc, .num 0⟩]⟩,  -- REQS_IN
  ⟨0xc08, 0x0, 1, [⟨63, 0, .rc, .num 0⟩]⟩,  -- REQS_REJECTED
  ⟨0xc10, 0x0, 1, [⟨63, 0, .rc, .num 0⟩]⟩,  -- REQ_DROPS
  ⟨0xc18, 0x0, 1, [⟨63, 0, .rc, .num 0⟩]⟩,  -- BATCHES
  ⟨0xc20, 0x0, 1, [⟨63, 0, .rc, .num 0⟩]⟩,  -- RESPONSES
  ⟨0xc28, 0x0, 1, [⟨63, 0, .rc, .num 0⟩]⟩,  -- RESP_LOST
  ⟨0xc30, 0x0, 1, [⟨63, 0, .rc, .num 0⟩]⟩,  -- STREAM_TIMEOUTS
  ⟨0xc38, 0x0, 1, [⟨63, 0, .rc, .num 0⟩]⟩,  -- LOADS_WS
  ⟨0xc40, 0x0, 1, [⟨63, 0, .rc, .num 0⟩]⟩,  -- LOADS_CELLAR
  ⟨0xc48, 0x0, 1, [⟨63, 0, .rc, .num 0⟩]⟩,  -- LOAD_FAILS
  ⟨0xc50, 0x0, 1, [⟨63, 0, .rc, .num 0⟩]⟩,  -- LOAD_RESTARTS
  ⟨0xc58, 0x0, 1, [⟨63, 0, .rc, .num 0⟩]⟩,  -- LOADS_IGNORED
  ⟨0xc60, 0x0, 1, [⟨63, 0, .rc, .num 0⟩]⟩,  -- BYTES_LOADED
  ⟨0xc68, 0x0, 1, [⟨63, 0, .rc, .num 0⟩]⟩,  -- EVICTIONS
  ⟨0xc70, 0x0, 1, [⟨63, 0, .rc, .num 0⟩]⟩,  -- EPOCH_SWITCHES
  ⟨0xc78, 0x0, 1, [⟨63, 0, .rc, .num 0⟩]⟩,  -- SPACE_WAITS
  ⟨0x1000, 0x40, 32, [⟨63, 63, .ro, .num 0⟩, ⟨62, 60, .ro, .num 0⟩, ⟨59, 59, .ro, .num 0⟩, ⟨58, 58, .ro, .num 0⟩, ⟨57, 57, .ro, .num 0⟩, ⟨56, 55, .ro, .num 0⟩, ⟨54, 48, .ro, .num 0⟩, ⟨47, 40, .ro, .num 0⟩, ⟨15, 0, .ro, .num 0⟩]⟩,  -- MODEL.w0
  ⟨0x1008, 0x40, 32, [⟨63, 32, .ro, .num 0⟩, ⟨31, 0, .ro, .num 0⟩]⟩,  -- MODEL.w1
  ⟨0x1010, 0x40, 32, [⟨63, 0, .ro, .num 0⟩]⟩]  -- MODEL.w2

/-- The registers of the CELL page, part 2. -/
def regsCELL1 : List RegDef := [
  ⟨0x1018, 0x40, 32, [⟨63, 62, .ro, .num 0⟩, ⟨51, 41, .ro, .num 0⟩, ⟨40, 32, .ro, .num 0⟩, ⟨31, 0, .ro, .num 0⟩]⟩,  -- MODEL.w3
  ⟨0x1020, 0x40, 32, [⟨63, 62, .ro, .num 0⟩, ⟨51, 41, .ro, .num 0⟩, ⟨40, 32, .ro, .num 0⟩, ⟨31, 0, .ro, .num 0⟩]⟩,  -- MODEL.w4
  ⟨0x1028, 0x40, 32, [⟨63, 0, .ro, .num 0⟩]⟩,  -- MODEL.w5
  ⟨0x1030, 0x40, 32, []⟩,  -- MODEL.w6
  ⟨0x1038, 0x40, 32, []⟩,  -- MODEL.w7
  ⟨0x2000, 0x10, 256, [⟨63, 63, .ro, .boot 0⟩, ⟨56, 56, .ro, .boot 0⟩, ⟨47, 32, .ro, .boot 0⟩, ⟨31, 0, .ro, .boot 0⟩]⟩,  -- IMAGE.w0
  ⟨0x2008, 0x10, 256, [⟨63, 0, .ro, .boot 0⟩]⟩,  -- IMAGE.w1
  ⟨0x3000, 0x10, 16, [⟨63, 63, .ro, .num 0⟩, ⟨62, 62, .ro, .num 0⟩, ⟨44, 32, .ro, .num 0⟩, ⟨31, 0, .ro, .num 0⟩]⟩,  -- SERVE.w0
  ⟨0x3008, 0x10, 16, [⟨63, 48, .ro, .num 0⟩, ⟨31, 0, .ro, .num 0⟩]⟩]  -- SERVE.w1

/-- The registers of the CELL page. -/
def regsCELL : List RegDef := regsCELL0 ++ regsCELL1

/-- The registers of the MEM page, part 1. -/
def regsMEM0 : List RegDef := [
  ⟨0x0, 0x0, 1, [⟨63, 48, .ro, .num 0x20⟩, ⟨47, 32, .ro, .num 0⟩, ⟨31, 16, .ro, .num 1⟩, ⟨15, 0, .ro, .num 0x4231⟩]⟩,  -- ID
  ⟨0x8, 0x0, 1, []⟩,  -- CAP
  ⟨0x10, 0x0, 1, [⟨16, 16, .rw, .num 1⟩, ⟨2, 2, .w1s, .num 0⟩, ⟨1, 1, .rw, .num 0⟩, ⟨0, 0, .ro, .num 1⟩]⟩,  -- CTRL
  ⟨0x18, 0x0, 1, [⟨23, 22, .ro, .boot 3⟩, ⟨20, 16, .ro, .boot 0x1f⟩, ⟨4, 4, .ro, .num 0⟩, ⟨3, 3, .ro, .num 0⟩, ⟨2, 2, .ro, .num 0⟩, ⟨1, 1, .ro, .num 0⟩, ⟨0, 0, .ro, .num 1⟩]⟩,  -- STATUS
  ⟨0x20, 0x0, 1, [⟨63, 63, .w1c, .num 0⟩, ⟨5, 5, .w1c, .num 0⟩, ⟨4, 4, .w1c, .num 0⟩, ⟨3, 3, .w1c, .num 0⟩, ⟨2, 2, .w1c, .num 0⟩, ⟨1, 1, .w1c, .num 0⟩, ⟨0, 0, .w1c, .num 0⟩]⟩,  -- ERR_STATUS
  ⟨0x28, 0x0, 1, [⟨63, 63, .rw, .num 0⟩, ⟨5, 0, .rw, .num 0⟩]⟩,  -- ERR_MASK
  ⟨0x30, 0x0, 1, [⟨63, 0, .wo, .num 0⟩]⟩,  -- ERR_FORCE
  ⟨0x38, 0x0, 1, [⟨2, 2, .w1c, .num 0⟩, ⟨1, 1, .w1c, .num 0⟩, ⟨0, 0, .w1c, .num 0⟩]⟩,  -- EVT_STATUS
  ⟨0x100, 0x0, 1, [⟨7, 0, .rw, .num 0x18⟩]⟩,  -- SCRUB_CFG
  ⟨0x108, 0x0, 1, [⟨15, 0, .rw, .num 0x10⟩]⟩,  -- LIMITS
  ⟨0x110, 0x0, 1, [⟨12, 0, .ro, .num 0⟩]⟩,  -- LINES
  ⟨0xc00, 0x0, 1, [⟨63, 0, .rc, .num 0⟩]⟩,  -- BYTES_READ
  ⟨0xc08, 0x0, 1, [⟨63, 0, .rc, .num 0⟩]⟩,  -- BYTES_WRITTEN
  ⟨0xc10, 0x0, 1, [⟨63, 0, .rc, .num 0⟩]⟩,  -- CE
  ⟨0xc18, 0x0, 1, [⟨63, 0, .rc, .num 0⟩]⟩,  -- UE
  ⟨0xc20, 0x0, 1, [⟨63, 0, .rc, .num 0⟩]⟩,  -- SCRUB_CE
  ⟨0xc28, 0x0, 1, [⟨63, 0, .rc, .num 0⟩]⟩,  -- SCRUB_UE
  ⟨0xc30, 0x0, 1, [⟨63, 0, .rc, .num 0⟩]⟩,  -- LINES_REMAPPED
  ⟨0xc38, 0x0, 1, [⟨63, 0, .rc, .num 0⟩]⟩,  -- SCRUB_PASSES
  ⟨0x1000, 0x8, 4096, [⟨63, 63, .ro, .num 0⟩, ⟨62, 62, .ro, .num 0⟩, ⟨29, 0, .ro, .num 0⟩]⟩,  -- LINE
  ⟨0xa000, 0x0, 1, [⟨63, 59, .ro, .boot 0⟩, ⟨58, 48, .ro, .boot 0⟩, ⟨42, 32, .ro, .boot 0⟩, ⟨26, 16, .ro, .boot 0⟩]⟩,  -- MAP
  ⟨0xa008, 0x8, 3, [⟨63, 0, .ro, .boot 0⟩]⟩,  -- SLOT_SITE
  ⟨0xa020, 0x0, 1, [⟨63, 51, .ro, .boot 0⟩, ⟨50, 49, .ro, .num 0⟩, ⟨47, 40, .ro, .num 0⟩]⟩,  -- CELLAR
  ⟨0xa028, 0x0, 1, [⟨63, 0, .ro, .num 0⟩]⟩,  -- SESSION_BYTES
  ⟨0xa030, 0x0, 1, [⟨63, 0, .ro, .cold 0⟩]⟩,  -- CELLAR_CE
  ⟨0xa038, 0x0, 1, [⟨63, 0, .ro, .cold 0⟩]⟩,  -- CELLAR_UE_COUNT
  ⟨0xa040, 0x0, 1, [⟨63, 0, .ro, .cold 0⟩]⟩,  -- BLOCKS_RETIRED
  ⟨0xa048, 0x0, 1, [⟨63, 0, .ro, .cold 0⟩]⟩,  -- SESSIONS
  ⟨0xb000, 0x8, 512, [⟨63, 63, .ro, .num 0⟩, ⟨42, 32, .ro, .num 0⟩, ⟨26, 16, .ro, .num 0⟩, ⟨10, 0, .ro, .num 0⟩]⟩]  -- EXTENT

/-- The registers of the MEM page. -/
def regsMEM : List RegDef := regsMEM0

/-- The registers of the OPT page, part 1. -/
def regsOPT0 : List RegDef := [
  ⟨0x0, 0x0, 1, [⟨63, 48, .ro, .num 0x40⟩, ⟨47, 32, .ro, .num 0⟩, ⟨31, 16, .ro, .num 1⟩, ⟨15, 0, .ro, .num 0x4231⟩]⟩,  -- ID
  ⟨0x8, 0x0, 1, []⟩,  -- CAP
  ⟨0x10, 0x0, 1, [⟨2, 2, .w1s, .num 0⟩, ⟨1, 1, .rw, .num 0⟩, ⟨0, 0, .rw, .num 1⟩]⟩,  -- CTRL
  ⟨0x18, 0x0, 1, [⟨25, 24, .ro, .boot 2⟩, ⟨23, 22, .ro, .boot 2⟩, ⟨21, 21, .ro, .num 0⟩, ⟨19, 16, .ro, .num 0⟩, ⟨4, 4, .ro, .num 0⟩, ⟨3, 3, .ro, .num 0⟩, ⟨2, 2, .ro, .num 0⟩, ⟨1, 1, .ro, .num 0⟩, ⟨0, 0, .ro, .num 1⟩]⟩,  -- STATUS
  ⟨0x20, 0x0, 1, [⟨63, 63, .w1c, .num 0⟩, ⟨9, 9, .w1c, .num 0⟩, ⟨8, 8, .w1c, .num 0⟩, ⟨7, 7, .w1c, .num 0⟩, ⟨6, 6, .w1c, .num 0⟩, ⟨5, 5, .w1c, .num 0⟩, ⟨4, 4, .w1c, .num 0⟩, ⟨3, 3, .w1c, .num 0⟩, ⟨2, 2, .w1c, .num 0⟩, ⟨1, 1, .w1c, .num 0⟩, ⟨0, 0, .w1c, .num 0⟩]⟩,  -- ERR_STATUS
  ⟨0x28, 0x0, 1, [⟨63, 63, .rw, .num 0⟩, ⟨9, 0, .rw, .num 0⟩]⟩,  -- ERR_MASK
  ⟨0x30, 0x0, 1, [⟨63, 0, .wo, .num 0⟩]⟩,  -- ERR_FORCE
  ⟨0x38, 0x0, 1, [⟨3, 3, .w1c, .num 0⟩, ⟨2, 2, .w1c, .num 0⟩, ⟨1, 1, .w1c, .num 0⟩, ⟨0, 0, .w1c, .num 0⟩]⟩,  -- EVT_STATUS
  ⟨0x100, 0x0, 1, [⟨9, 8, .rw, .cold 0⟩, ⟨1, 0, .rw, .cold 0⟩]⟩,  -- CFG
  ⟨0x108, 0x0, 1, [⟨63, 48, .rw, .num 0x3e8⟩, ⟨47, 32, .rw, .num 0xa⟩, ⟨31, 24, .rw, .num 8⟩, ⟨19, 0, .rw, .num 0x186a0⟩]⟩,  -- LIMITS
  ⟨0x110, 0x0, 1, [⟨11, 0, .rw, .num 0xa⟩]⟩,  -- LIMITS2
  ⟨0x118, 0x0, 1, [⟨63, 48, .rw, .num 0x3c⟩, ⟨47, 40, .rw, .num 0xa⟩, ⟨39, 16, .rw, .num 0x4e20⟩]⟩,  -- BERT
  ⟨0x120, 0x0, 1, [⟨1, 0, .wo, .num 0⟩]⟩,  -- BERT_CMD
  ⟨0x128, 0x0, 1, [⟨49, 32, .rw, .cold 0⟩, ⟨17, 0, .rw, .cold 0⟩]⟩,  -- LANE_OUT
  ⟨0x130, 0x8, 4, [⟨16, 16, .rw, .num 1⟩, ⟨8, 8, .rw, .cold 0⟩, ⟨7, 7, .rw, .cold 0⟩, ⟨4, 0, .rw, .cold 0⟩]⟩,  -- PORT_CFG
  ⟨0x800, 0x0, 1, [⟨0, 0, .rw, .num 0⟩]⟩,  -- LINK_EXPERT
  ⟨0xc00, 0x0, 1, [⟨63, 0, .rc, .num 0⟩]⟩,  -- FLITS_TX
  ⟨0xc08, 0x0, 1, [⟨63, 0, .rc, .num 0⟩]⟩,  -- FLITS_RX
  ⟨0xc10, 0x0, 1, [⟨63, 0, .rc, .num 0⟩]⟩,  -- CRC_ERRS
  ⟨0xc18, 0x0, 1, [⟨63, 0, .rc, .num 0⟩]⟩,  -- NAKS_SENT
  ⟨0xc20, 0x0, 1, [⟨63, 0, .rc, .num 0⟩]⟩,  -- REPLAYS
  ⟨0xc28, 0x0, 1, [⟨63, 0, .rc, .num 0⟩]⟩,  -- FEC_CORRECTED
  ⟨0xc30, 0x0, 1, [⟨63, 0, .rc, .num 0⟩]⟩,  -- FEC_UNCORRECTED
  ⟨0xc38, 0x0, 1, [⟨63, 0, .rc, .num 0⟩]⟩,  -- CREDIT_STALL_NS
  ⟨0xc40, 0x0, 1, [⟨63, 0, .rc, .num 0⟩]⟩,  -- CREDIT_VIOLS
  ⟨0xc48, 0x0, 1, [⟨63, 0, .rc, .num 0⟩]⟩,  -- MALFORMED_DROPS
  ⟨0xc50, 0x0, 1, [⟨63, 0, .rc, .num 0⟩]⟩,  -- MISADDR_DROPS
  ⟨0xc58, 0x0, 1, [⟨63, 0, .rc, .num 0⟩]⟩,  -- EGRESS_DISCARDS
  ⟨0xc60, 0x0, 1, [⟨63, 0, .rc, .num 0⟩]⟩,  -- LINK_DOWNS
  ⟨0xc68, 0x0, 1, [⟨63, 0, .rc, .num 0⟩]⟩]  -- LANE_SPARES

/-- The registers of the OPT page, part 2. -/
def regsOPT1 : List RegDef := [
  ⟨0xc70, 0x0, 1, [⟨63, 0, .rc, .num 0⟩]⟩,  -- BERT_RUNS
  ⟨0xc78, 0x0, 1, [⟨63, 0, .rc, .num 0⟩]⟩,  -- BERT_SKIPPED
  ⟨0x1000, 0x20, 4, [⟨63, 61, .ro, .num 0⟩, ⟨60, 56, .ro, .num 0⟩, ⟨55, 54, .ro, .num 0⟩, ⟨53, 52, .ro, .num 0⟩]⟩,  -- PORT.w0
  ⟨0x1008, 0x20, 4, [⟨63, 0, .ro, .num 0⟩]⟩,  -- PORT.w1
  ⟨0x1010, 0x20, 4, [⟨63, 32, .ro, .num 0⟩, ⟨15, 0, .ro, .num 0⟩]⟩,  -- PORT.w2
  ⟨0x1018, 0x20, 4, [⟨63, 0, .ro, .num 0⟩]⟩,  -- PORT.w3
  ⟨0x1100, 0x20, 18, [⟨63, 62, .ro, .boot 0⟩, ⟨61, 60, .ro, .boot 0⟩, ⟨59, 55, .ro, .boot 0⟩, ⟨54, 50, .ro, .boot 0⟩, ⟨49, 45, .ro, .boot 0⟩]⟩,  -- LANE.w0
  ⟨0x1108, 0x20, 18, [⟨63, 0, .ro, .num 0⟩]⟩,  -- LANE.w1
  ⟨0x1110, 0x20, 18, [⟨63, 0, .ro, .num 0⟩]⟩,  -- LANE.w2
  ⟨0x1118, 0x20, 18, [⟨63, 0, .ro, .num 0⟩]⟩]  -- LANE.w3

/-- The registers of the OPT page. -/
def regsOPT : List RegDef := regsOPT0 ++ regsOPT1

/-- The registers of the REG page, part 1. -/
def regsREG0 : List RegDef := [
  ⟨0x0, 0x0, 1, [⟨63, 48, .ro, .num 0x100⟩, ⟨47, 32, .ro, .num 0⟩, ⟨31, 16, .ro, .num 1⟩, ⟨15, 0, .ro, .num 0x4231⟩]⟩,  -- ID
  ⟨0x8, 0x0, 1, []⟩,  -- CAP
  ⟨0x10, 0x0, 1, [⟨2, 2, .w1s, .num 0⟩, ⟨1, 1, .rw, .num 0⟩, ⟨0, 0, .rw, .num 1⟩]⟩,  -- CTRL
  ⟨0x18, 0x0, 1, [⟨4, 4, .ro, .num 0⟩, ⟨3, 3, .ro, .num 0⟩, ⟨2, 2, .ro, .num 0⟩, ⟨1, 1, .ro, .num 0⟩, ⟨0, 0, .ro, .num 1⟩]⟩,  -- STATUS
  ⟨0x20, 0x0, 1, [⟨63, 63, .w1c, .num 0⟩, ⟨28, 28, .w1c, .num 0⟩, ⟨27, 27, .w1c, .num 0⟩, ⟨26, 26, .w1c, .num 0⟩, ⟨25, 25, .w1c, .num 0⟩, ⟨24, 24, .w1c, .num 0⟩, ⟨23, 23, .w1c, .num 0⟩, ⟨22, 22, .w1c, .num 0⟩, ⟨21, 21, .w1c, .num 0⟩, ⟨20, 20, .w1c, .num 0⟩, ⟨19, 19, .w1c, .num 0⟩, ⟨18, 18, .w1c, .num 0⟩, ⟨17, 17, .w1c, .num 0⟩, ⟨16, 16, .w1c, .num 0⟩, ⟨15, 15, .w1c, .num 0⟩, ⟨14, 14, .w1c, .num 0⟩, ⟨13, 13, .w1c, .num 0⟩, ⟨12, 12, .w1c, .num 0⟩, ⟨11, 11, .w1c, .num 0⟩, ⟨10, 10, .w1c, .num 0⟩, ⟨9, 9, .w1c, .num 0⟩, ⟨8, 8, .w1c, .num 0⟩, ⟨7, 7, .w1c, .num 0⟩, ⟨6, 6, .w1c, .num 0⟩, ⟨5, 5, .w1c, .num 0⟩, ⟨4, 4, .w1c, .num 0⟩, ⟨3, 3, .w1c, .num 0⟩, ⟨2, 2, .w1c, .num 0⟩, ⟨1, 1, .w1c, .num 0⟩, ⟨0, 0, .w1c, .num 0⟩]⟩,  -- ERR_STATUS
  ⟨0x28, 0x0, 1, [⟨63, 63, .rw, .num 0⟩, ⟨28, 0, .rw, .num 0⟩]⟩,  -- ERR_MASK
  ⟨0x30, 0x0, 1, [⟨63, 0, .wo, .num 0⟩]⟩,  -- ERR_FORCE
  ⟨0x38, 0x0, 1, []⟩,  -- EVT_STATUS
  ⟨0x100, 0x0, 1, [⟨63, 40, .ro, .num 0⟩, ⟨39, 24, .ro, .num 0⟩, ⟨23, 16, .ro, .num 0xff⟩, ⟨11, 10, .ro, .num 0⟩, ⟨9, 9, .ro, .num 0⟩, ⟨8, 8, .ro, .num 0⟩, ⟨3, 0, .ro, .num 0⟩]⟩,  -- SEQ_STATUS
  ⟨0x108, 0x0, 1, [⟨40, 0, .ro, .num 0⟩]⟩,  -- SEQ_BASE
  ⟨0x110, 0x0, 1, [⟨40, 0, .ro, .num 0⟩]⟩,  -- DEF_BASE
  ⟨0x118, 0x0, 1, [⟨47, 32, .ro, .num 0⟩, ⟨23, 0, .ro, .num 0⟩]⟩,  -- SEQ_LEN
  ⟨0x120, 0x0, 1, [⟨25, 24, .ro, .num 0⟩, ⟨23, 16, .ro, .num 0⟩, ⟨15, 8, .ro, .num 0⟩, ⟨7, 0, .ro, .num 0⟩]⟩,  -- STEP_CFG
  ⟨0x128, 0x0, 1, [⟨36, 35, .ro, .num 0⟩, ⟨34, 34, .ro, .num 0⟩, ⟨33, 33, .ro, .num 0⟩, ⟨32, 32, .ro, .num 0⟩, ⟨31, 24, .ro, .num 0⟩, ⟨23, 16, .ro, .num 0⟩, ⟨15, 0, .ro, .num 0⟩]⟩,  -- STEP_STATUS
  ⟨0x130, 0x0, 1, [⟨31, 0, .ro, .num 0⟩]⟩,  -- STEP_COUNT
  ⟨0x138, 0x0, 1, [⟨63, 40, .ro, .num 0⟩, ⟨32, 32, .ro, .num 0⟩, ⟨31, 16, .ro, .num 0⟩, ⟨15, 0, .ro, .num 0⟩]⟩,  -- MARK_STATUS
  ⟨0x140, 0x0, 1, [⟨63, 40, .ro, .num 0⟩, ⟨39, 39, .ro, .num 0⟩, ⟨7, 0, .ro, .num 0⟩]⟩,  -- FAULT_INFO
  ⟨0x148, 0x0, 1, [⟨0, 0, .w1s, .num 0⟩]⟩,  -- SEQ_CTRL
  ⟨0x400, 0x0, 1, [⟨0, 0, .rw, .num 1⟩]⟩,  -- TILE_CTRL
  ⟨0x408, 0x0, 1, [⟨12, 12, .ro, .boot 0⟩, ⟨8, 8, .ro, .boot 0⟩, ⟨4, 0, .ro, .boot 0x1f⟩]⟩,  -- TILE_MAP
  ⟨0x410, 0x0, 1, [⟨24, 16, .ro, .num 0⟩, ⟨5, 5, .ro, .num 0⟩, ⟨4, 4, .ro, .num 0⟩, ⟨3, 3, .ro, .num 0⟩, ⟨2, 2, .ro, .num 0⟩, ⟨1, 1, .ro, .num 0⟩, ⟨0, 0, .ro, .num 0⟩]⟩,  -- FLAG_SUMMARY
  ⟨0x600, 0x0, 1, [⟨21, 16, .rw, .num 0⟩, ⟨7, 0, .rw, .num 0x50⟩]⟩,  -- PT_REQ
  ⟨0x608, 0x0, 1, [⟨15, 0, .rw, .num 0⟩]⟩,  -- PT_BUDGET
  ⟨0x610, 0x0, 1, [⟨63, 56, .ro, .boot 0⟩, ⟨55, 54, .ro, .boot 0⟩, ⟨53, 48, .ro, .num 0⟩, ⟨45, 40, .ro, .num 0⟩, ⟨38, 32, .ro, .num 0⟩, ⟨31, 16, .ro, .num 0⟩, ⟨15, 0, .ro, .num 0⟩]⟩,  -- PT_STATUS
  ⟨0x618, 0x0, 1, [⟨63, 48, .ro, .num 0⟩, ⟨21, 16, .ro, .num 0x22⟩, ⟨15, 0, .ro, .num 0xffff⟩]⟩,  -- PT_TEMP
  ⟨0x800, 0x0, 1, [⟨63, 40, .rw, .num 0⟩, ⟨17, 17, .rw, .num 0⟩, ⟨16, 16, .rw, .num 0⟩, ⟨15, 0, .rw, .num 0x3e8⟩]⟩,  -- SEQ_EXPERT
  ⟨0xa00, 0x0, 1, [⟨16, 16, .rw, .num 0⟩, ⟨10, 0, .rw, .num 0x20⟩]⟩,  -- TILE_EXPERT
  ⟨0xb00, 0x0, 1, [⟨7, 0, .rw, .num 4⟩]⟩,  -- PT_EXPERT
  ⟨0xc00, 0x0, 1, [⟨63, 0, .rc, .num 0⟩]⟩,  -- CMD_ISSUED
  ⟨0xc08, 0x0, 1, [⟨63, 0, .rc, .num 0⟩]⟩]  -- DEF_ISSUED

/-- The registers of the REG page, part 2. -/
def regsREG1 : List RegDef := [
  ⟨0xc10, 0x0, 1, [⟨63, 0, .rc, .num 0⟩]⟩,  -- MB_SKIPPED
  ⟨0xc18, 0x0, 1, [⟨63, 0, .rc, .num 0⟩]⟩,  -- ANCHOR_REPLAYS
  ⟨0xc20, 0x0, 1, [⟨63, 0, .rc, .num 0⟩]⟩,  -- ANCHOR_FAULTS
  ⟨0xc28, 0x0, 1, [⟨63, 0, .rc, .num 0⟩]⟩,  -- FENCE_WAIT_CYCLES
  ⟨0xc30, 0x0, 1, [⟨63, 0, .rc, .num 0⟩]⟩,  -- SCOREBOARD_STALLS
  ⟨0xc38, 0x0, 1, [⟨63, 0, .rc, .num 0⟩]⟩,  -- WINDOW_CYCLES
  ⟨0xc40, 0x0, 1, [⟨63, 0, .rc, .num 0⟩]⟩,  -- STEP_REPLAYS
  ⟨0xc48, 0x0, 1, [⟨63, 0, .rc, .num 0⟩]⟩,  -- SYNC_APPLIED
  ⟨0xc50, 0x0, 1, [⟨63, 0, .rc, .num 0⟩]⟩,  -- SYNC_IGNORED
  ⟨0xc58, 0x0, 1, [⟨63, 0, .rc, .num 0⟩]⟩,  -- STEPS
  ⟨0xd00, 0x0, 1, [⟨63, 0, .rc, .num 0⟩]⟩,  -- SRAM_CE
  ⟨0xd08, 0x0, 1, [⟨63, 0, .rc, .num 0⟩]⟩,  -- SRAM_UE_COUNT
  ⟨0xd10, 0x0, 1, [⟨63, 0, .rc, .num 0⟩]⟩,  -- VAT_CE
  ⟨0xd18, 0x0, 1, [⟨63, 0, .rc, .num 0⟩]⟩,  -- VAT_UE_COUNT
  ⟨0xd20, 0x0, 1, [⟨63, 0, .rc, .num 0⟩]⟩,  -- PRESS_PARITY_COUNT
  ⟨0xd28, 0x0, 1, [⟨63, 0, .rc, .num 0⟩]⟩,  -- RESIDUE_ERRS
  ⟨0xd30, 0x0, 1, [⟨63, 0, .rc, .num 0⟩]⟩,  -- ANCHOR_SAT_EVENTS
  ⟨0xd38, 0x0, 1, [⟨63, 0, .rc, .num 0⟩]⟩,  -- NONFINITE_EVENTS
  ⟨0xd40, 0x0, 1, [⟨63, 0, .rc, .num 0⟩]⟩,  -- CONV_SAT_EVENTS
  ⟨0xd48, 0x0, 1, [⟨63, 0, .rc, .num 0⟩]⟩,  -- VAT_SAT_EVENTS
  ⟨0xd50, 0x0, 1, [⟨63, 0, .rc, .num 0⟩]⟩,  -- SCRUB_PASSES
  ⟨0xd58, 0x0, 1, [⟨63, 0, .rc, .num 0⟩]⟩,  -- ARRAY_STALL_CYCLES
  ⟨0xe00, 0x0, 1, [⟨63, 0, .rc, .num 0⟩]⟩,  -- THROTTLE_EVENTS
  ⟨0xe08, 0x0, 1, [⟨63, 0, .rc, .num 0⟩]⟩,  -- DROOP_EVENTS
  ⟨0xe10, 0x0, 1, [⟨63, 0, .rc, .num 0⟩]⟩,  -- CLOCK_CHANGES
  ⟨0xe18, 0x0, 1, [⟨63, 0, .rc, .num 0⟩]⟩,  -- ZONE_TIMEOUTS
  ⟨0xe20, 0x0, 1, [⟨63, 0, .ro, .cold 0⟩]⟩,  -- ENERGY_MJ
  ⟨0x1000, 0x8, 16, [⟨17, 17, .ro, .num 0⟩, ⟨16, 16, .ro, .num 0⟩, ⟨15, 0, .ro, .num 0⟩]⟩,  -- VAT_LAYER
  ⟨0x1100, 0x8, 2, [⟨63, 0, .ro, .num 0⟩]⟩,  -- ADMIT
  ⟨0x2000, 0x8, 256, [⟨63, 32, .ro, .num 0⟩, ⟨31, 0, .ro, .num 0⟩]⟩]  -- PARAM_SLOT

/-- The registers of the REG page, part 3. -/
def regsREG2 : List RegDef := [
  ⟨0x4000, 0x10, 16, [⟨63, 63, .ro, .num 0⟩, ⟨55, 48, .ro, .num 0⟩, ⟨36, 18, .ro, .num 0⟩, ⟨17, 0, .ro, .num 0⟩]⟩,  -- VAT_REGION.w0
  ⟨0x4008, 0x10, 16, [⟨9, 8, .ro, .num 0⟩, ⟨7, 0, .ro, .num 0⟩]⟩,  -- VAT_REGION.w1
  ⟨0x5000, 0x8, 256, [⟨52, 48, .ro, .boot 0⟩, ⟨8, 8, .w1c, .num 0⟩, ⟨6, 6, .ro, .num 0⟩, ⟨5, 5, .ro, .num 0⟩, ⟨4, 4, .ro, .num 0⟩, ⟨3, 3, .ro, .num 0⟩, ⟨2, 2, .ro, .num 0⟩, ⟨1, 1, .ro, .num 0⟩, ⟨0, 0, .ro, .num 0⟩]⟩,  -- TILE_FLAGS
  ⟨0x8000, 0x8, 16, [⟨63, 63, .ro, .num 1⟩, ⟨15, 0, .ro, .num 0⟩]⟩]  -- SENSOR

/-- The registers of the REG page. -/
def regsREG : List RegDef := regsREG0 ++ regsREG1 ++ regsREG2

/-- The first page index of a kind of page, and its instances (R30). -/
abbrev pGLB : Nat := 0x000
abbrev pSEC : Nat := 0x001
abbrev pMGT : Nat := 0x002
abbrev pMBX : Nat := 0x003
abbrev pTBASE : Nat := 0x004
abbrev pPWR : Nat := 0x005
abbrev pTHM : Nat := 0x006
abbrev pFWC : Nat := 0x007
abbrev pDOCK : Nat := 0x008
abbrev pSCT : Nat := 0x009
abbrev pCE : Nat := 0x00A
abbrev pUPD : Nat := 0x00B
abbrev pWSP : Nat := 0x00C
abbrev pCAVE : Nat := 0x00D
abbrev pFAB : Nat := 0x00E
abbrev pFLT : Nat := 0x00F
abbrev pPLC : Nat := 0x010
abbrev pCAL : Nat := 0x011
abbrev pCELL : Nat := 0x012
abbrev pMEM : Nat := 0x020
abbrev pOPT : Nat := 0x040
abbrev pREG : Nat := 0x100

/-- Every assigned page index (R30). -/
def allPages : List Nat := List.range 19 ++ (List.range 26).map (pMEM + ·) ++ (List.range 64).map (pOPT + ·)
  ++ (List.range 84).map (pREG + ·)

/-- Whether a page index is assigned (R30). -/
def pageAssigned (p : Nat) : Bool :=
  p < 19 || (pMEM ≤ p && p < pMEM + 26) || (pOPT ≤ p && p < pOPT + 64) || (pREG ≤ p && p < pREG + 84)

/-- The block type of a page: its own index, or the first index of its range (R30). -/
def pageKind (p : Nat) : Nat :=
  if pREG ≤ p then pREG else if pOPT ≤ p then pOPT else if pMEM ≤ p then pMEM else p

/-- The registers that a page defines. -/
def pageRegs (p : Nat) : List RegDef :=
  match pageKind p with
  | 0x000 => regsGLB
  | 0x001 => regsSEC
  | 0x002 => regsMGT
  | 0x003 => regsMBX
  | 0x004 => regsTBASE
  | 0x005 => regsPWR
  | 0x006 => regsTHM
  | 0x007 => regsFWC
  | 0x008 => regsDOCK
  | 0x009 => regsSCT
  | 0x00A => regsCE
  | 0x00B => regsUPD
  | 0x00C => regsWSP
  | 0x00D => regsCAVE
  | 0x00E => regsFAB
  | 0x00F => regsFLT
  | 0x010 => regsPLC
  | 0x011 => regsCAL
  | 0x012 => regsCELL
  | 0x020 => regsMEM
  | 0x040 => regsOPT
  | _ => regsREG

/-- The entry of a register table that an offset names. -/
def RegDef.holds (d : RegDef) (off : Nat) : Bool :=
  d.off ≤ off && (if d.stride = 0 then off == d.off else (off - d.off) % d.stride == 0 && (off - d.off) / d.stride < d.count)

/-- The register defined at an offset of a page, if any. -/
def regDefAt (p off : Nat) : Option RegDef := (pageRegs p).find? (·.holds off)

/-- The value of a reset form that the cold reset leaves. -/
def ResetForm.value : ResetForm → Nat
  | .num v | .fuse v | .cold v | .boot v => v
  | .random => 0

/-- CAP of a page: HAS_EXPERT, HAS_TABLES, NUM_COUNTERS; no chapter defines a BLOCK_CAP bit (R33). -/
def capOf (p : Nat) : Nat :=
  let rs := pageRegs p
  let ex := rs.any fun d => 0x800 ≤ d.off && d.off < 0xC00
  let tb := rs.any fun d => 0x1000 ≤ d.off
  let nc := (rs.filter fun d => 0xC00 ≤ d.off && d.off < 0x1000).length
  (if ex then 2 ^ 63 else 0) + (if tb then 2 ^ 62 else 0) + nc * 2 ^ 48

/-- The role of an optical engine at cold reset (R360): 0 W, 1 S, 2 SPARE. -/
def coldRole (e : Nat) : Nat := if e % 4 = 1 then 1 else if e % 8 = 7 then 2 else 0

/-- The lane map word of physical lane l at cold reset (R362): TX and RX state, logical lanes, RX_FROM. -/
def coldLane (l : Nat) : Nat :=
  let st := if l < 16 then 0 else 1
  let lg := if l < 16 then l else 31
  st * 2 ^ 62 + st * 2 ^ 60 + lg * 2 ^ 55 + lg * 2 ^ 50 + l * 2 ^ 45

/-- What an address of the register space holds after a cold reset: the Reset column of its register (R37), with the
values that depend on the instance: ID (R30), CAP (R33), OPT.CFG (R360), OPT.LANE (R362), MBX.PAIR's ROLE, and PHYS_COL, which boot sets, as without a shift (R19). -/
def regInit (addr : Nat) : Word :=
  let p := addr / 65536
  let off := addr % 65536
  match regDefAt p off with
  | none => 0#64
  | some d =>
    let base := d.fields.foldl (fun a f => a + f.rst.value * 2 ^ f.lo) 0
    let i := (off - d.off) / 8
    let k := pageKind p
    BitVec.ofNat 64 (
      if off = 0 then base + (p - k) * 2 ^ 32
      else if off = 8 then capOf p
      else if k = pOPT && off = 0x100 then coldRole (p - pOPT)
      else if k = pOPT && d.off = 0x1100 then coldLane (i / 4)
      else if k = pREG && d.off = 0x5000 then i % 16 * 2 ^ 48
      else if k = pMBX && d.off = 0x1000 then
        (let q := i / 2; (if q = 28 then 1 else if q = 30 then 2 else if q = 31 then 3 else 0) * 2 ^ 60)
      else base)

end Sys2Proof.Machine
end

