-- ==== Sys2Proof/Machine/State.lean ====
section
/-! DEFINITION. The state of the block as plain data, the reasons a step can stop, and State.reset. The register space of
chapter 02 is ONE sparse table (`regs`): every register of every page, with an unlisted address reading as its value
after a cold reset (`regInit`). What the manual gives the machine beside its registers is held in the records below. -/

namespace Sys2Proof.Machine

/-- Why a step stops with a fault. No command of this block ends in a fault on any path: errors are register bits,
reports and refusals that the spec describes, and the machine goes on. -/
inductive Fault where
  /-- Raised by nothing in this model; kept so that a claim can say that no fault occurs. Safe. -/
  | stuck
  deriving DecidableEq, Repr

/-- Why a command is refused. -/
inductive Refusal where
  /-- The command has no meaning in the model yet. Raised by an arm of exec alone. Safe. -/
  | notModelled (mnemonic : String)
  deriving DecidableEq, Repr

/-- What the module sends or drives: a log in order, oldest first (the model's own record of its interfaces). -/
inductive Output where
  /-- The value a register read returned to its requester (R25). -/
  | readData (q : Requester) (addr : Nat) (v : Word)
  /-- A mailbox message: opcode, flags, status, pair, SEQ, ARG, TAG, payload (R436). -/
  | mgt (opcode flags status pair seq : Nat) (arg : Word) (tag payload : List Byte)
  /-- A transport message sent on a port: class, key, destination, source, BOND_SEQ when bonded, payload (R370). -/
  | msg (port cls : Nat) (key : Word) (dst src : Nat) (bond : Option Nat) (body : List Byte)
  /-- A link control flit sent by an engine or port: kind and operands (R363–R377). -/
  | ctl (port kind a b : Nat)
  /-- A zone request frame: the 84 slots (R399). -/
  | zoneFrame (slots : List Nat)
  /-- A pin driven: THERM_TRIP_N low (0) or released (1); ZREQ lines idle (2) (R470, R472). -/
  | pin (which level : Nat)
  /-- A PMBus command to device entry i: command × 2^32 + the value written; VOUT_MODE is read (R402). -/
  | pmbus (entry : Nat) (v : Word)
  /-- An on-wafer packet to another region: kind (1 fence arrival, 2 post, 3 payload acknowledged), from, to, tag. -/
  | wafer (kind src dst tag : Nat)
  deriving DecidableEq, Repr

/-! ### Tiles and the region sequencer (chapters 04, 05) -/

/-- A finished or running accumulation of a GEMM: tile, output row and column, and its register (R84). -/
structure OutAcc where
  tile : Nat
  m : Nat
  n : Nat
  acc : Acc
  deriving DecidableEq, Repr

/-- One change that a span made to a vat entry, kept for its reversal (R114): the addend, and the micro-batch marks that
the entry held before. -/
structure VatAdd where
  tile : Nat
  entry : Nat
  delta : Int
  mbBefore : Nat
  deriving DecidableEq, Repr

/-- An attempt span of one stream (R133): whether it is open, the index of its first command, its attempt, the highest
anchor a command of it gave, what it added to the vat, the vat regions it added to, and the restore sequence that ran when it
opened. -/
structure Span where
  opened : Bool := false
  first : Nat := 0
  attempt : Nat := 0
  maxAnchor : Int := -128
  vatLog : List VatAdd := []
  vregs : List Nat := []
  restore : Option (Nat × Nat) := none
  deriving DecidableEq, Repr

/-- A GEMM that waits for its DRAIN, or a held bank (R124). -/
structure PendGemm where
  rect : Nat
  deferred : Bool
  held : Bool
  mRows : Nat
  nCols : Nat
  accs : List OutAcc
  deriving DecidableEq, Repr

/-- One of the 14 slots of a tile's press (R88–R91): its descriptor, which is the operand, the sub-block's place (in units of
48 stored rows and columns) and the stored extent it was cut from, and its 48 × 48 entries of 16 bits, row by row (a slot never
filled lists none). -/
structure PressSlot where
  isB : Bool := false
  row : Nat := 0
  col : Nat := 0
  rows : Nat := 0
  cols : Nat := 0
  entries : List Nat := []
  deriving DecidableEq, Repr

/-- A command that has issued and not completed (R125, R131): the classes it still holds open (bit n is FENCE bit 16 + n),
its stream, the vat region it works on, the SID whose context it holds, and the SRAM ranges it reads and writes, as (first byte, past-the-end byte). -/
structure Outst where
  id : Nat
  cls : Nat
  deferred : Bool
  vreg : Option Nat
  sid : Option Nat
  reads : List (Nat × Nat)
  writes : List (Nat × Nat)
  deriving DecidableEq, Repr

/-- A cut recorded at a CLOSE mark (R136), with what the region must find again there: the OPEN marks it had issued, the
vat changes, the digest position, the COUNT of each vat region and the id of its next command; and, for R338, whether since then a vat accumulate
has issued in the region and a VDRAIN, VCLEAR, COLL, UPD or EPOCH. -/
structure Cut where
  seq : Nat
  pc : Nat
  defPc : Nat
  release : Nat
  restorePc : Nat
  restoreLen : Nat
  opens : List Nat
  vatLen : Nat
  digests : Nat
  counts : List Nat
  nextId : Nat
  vat : Bool := false
  dirty : Bool := false
  deriving DecidableEq, Repr

/-- A fence a region waits at (R130): FENCE_ID, participants, WAIT bits, whether condition 1 is met,
and the state to go back to. -/
structure FenceAt where
  fid : Nat
  parts : Nat
  wait : Nat
  met : Bool
  back : Nat
  deriving DecidableEq, Repr

/-- A fence arrival received from a participant (R130). -/
structure Arrival where
  peer : Nat
  fid : Nat
  parts : Nat
  deriving DecidableEq, Repr

/-- An idle window (R138, R139): UNTIL, whether BUDGET has passed, whether a command waits for it under R140 or R205. -/
structure Window where
  untilPc : Nat
  budgetOver : Bool
  deriving DecidableEq, Repr

/-- The internal state of a region's sequencer and tiles that no register shows: the command buffer (R118), the spans of
the two streams (R133), the indices whose fetch failed (R118), the GEMM waiting for its DRAIN (R124), commands in flight (R125), fences
(R130), the window (R138) with DEF_RELEASE, the cuts and OPEN marks of the step (R135, R136), a running restore sequence
as (stop index, index to go on at) (R137), the vat changes since the step's start (R137), the results handed to the row
unit (R94), where the last two steps
began, with their N and the RAISE of their vat regions, newest first (R223, R229), and the digests of R346. -/
structure Seq where
  buffer : List (Bool × Nat × Cmd) := []
  failed : List (Bool × Nat) := []
  main : Span := {}
  dfr : Span := {}
  pend : Option PendGemm := none
  outst : List Outst := []
  nextId : Nat := 0
  fenceAt : Option FenceAt := none
  arrivals : List Arrival := []
  window : Option Window := none
  defRelease : Nat := 0
  cuts : List Cut := []
  opens : List Nat := []
  restore : Option (Nat × Nat) := none
  stepPc : Nat := 0
  nextPc : Nat := 0
  prevs : List (Nat × Nat × List Nat) := []
  lastFlag : Bool := false
  collWait : Bool := false
  checkDef : Bool := false
  checkFrom : Nat := 2
  breakSkip : Bool := false
  vatLog : List VatAdd := []
  rowIn : List (Nat × List Byte) := []
  digestSeg : Word := 0#64
  digestStep : Word := 0#64
  segDigests : List Word := []
  oldDigests : List Word := []
  deriving DecidableEq, Repr

/-- The storage of a region's tiles: SRAM bytes keyed tile × 2^21 + address (R77), vat entries keyed tile × 2^18 + entry
(R109), the micro-batches of the step attempt that have added to an entry, as a mask (R111), the press slots keyed 14 × tile +
slot (R88), and each tile's scrub position (R80). -/
structure TileMem where
  sram : Tab Byte := []
  vat : Tab (BitVec 32) := []
  vatMb : Tab Nat := []
  press : Tab PressSlot := []
  scrub : Tab Nat := []
  deriving DecidableEq, Repr

/-! ### The cave (chapter 08) -/

/-- A cave directory record (R194): key, kind (0 RAW, 1 Z, 2 ROW), format, rectangle, bytes per tile, address, size, and
state (0 LIVE, 1 POPPED, 2 DROPPED). The rest is the journal of R199: whether a pop read it from the recompute buffer, the
number of CLOSE marks passed when this step pushed it, that number and the state before when this step popped it, whether a span still open pushed or popped it, and how many steps have been released since its push (R229). -/
structure CaveRec where
  layer : Nat
  mb : Nat
  sid : Nat
  kind : Nat
  fmt : Nat
  bs16 : Bool
  rect : Nat
  bytes : Nat
  addr : Nat := 0
  size : Nat := 0
  state : Nat := 0
  fromDrop : Bool := false
  pushAt : Option Nat := none
  popAt : Option (Nat × Nat) := none
  pushSpan : Bool := false
  popSpan : Bool := false
  steps : Nat := 0
  deriving DecidableEq, Repr

/-- A push on its way to the cave controller: the record it would make, each tile's bytes in ascending tile number, and
where its command stood (R194, R195). -/
structure CavePush where
  entry : CaveRec
  data : List (List Byte)
  recomp : Bool
  deferred : Bool
  pc : Nat
  outId : Nat
  deriving DecidableEq, Repr

/-- A pop that waits for its consumer (R197): SID, the record's format and kind, and each tile's bytes. -/
structure PendPop where
  sid : Nat
  fmt : Nat
  bs16 : Bool
  bytes : Nat
  data : List (Nat × List Byte)
  inSpan : Bool
  deriving DecidableEq, Repr

/-- A running recompute (R200, R201): the stream and index of the pop, its command, the index of the next command and of
the end of the sequence, the pop's micro-batch, the record that was DROPPED, and whether the matching push has come. -/
structure Recomp where
  deferred : Bool
  popPc : Nat
  pc : Nat
  stop : Nat
  mb : Nat
  recIdx : Nat
  pushed : Bool
  cmd : Cmd
  deriving DecidableEq, Repr

/-- The cave of one logical region, held under the region that plays it (R490): the directory in push order, pushes on
their way, pending pops, a running recompute, and the key of the entry in the recompute buffer (R203). -/
structure Cave where
  recs : List CaveRec := []
  pushes : List CavePush := []
  pops : List PendPop := []
  recomp : Option Recomp := none
  bufKey : Option (Nat × Nat × Nat) := none
  deriving DecidableEq, Repr

/-! ### Stream contexts and weight streaming (chapter 07) -/

/-- A live stream context (R190): job slot, SID, kind (1 WEIGHT, 2 CAVE, 3 XFER, 4 SERVE, 5 CACHE_LOAD), region, whether
speculative, bytes moved, TBASE.COUNT at its allocation, and the commands that hold it. -/
structure Ctx where
  slot : Nat
  sid : Nat
  kind : Nat
  region : Nat
  spec : Bool
  bytes : Nat
  t0 : Nat
  cmds : Nat
  deriving DecidableEq, Repr

/-- A weight object (R168). -/
structure WObj where
  model : Nat
  layer : Nat
  expert : Nat
  epoch : Nat
  deriving DecidableEq, Repr

/-- A load in flight (R171–R186): its id, job slot, region and logical region, object, what it covers, its stream context
and the command that issued it (none for a speculative fetch), whether it leads, whether it waits for its key or its epoch,
whether it reads from the weight server itself, the generation and positions (tile, segment) landed so far, re-requests
without progress, whether a NOT_READY has come, and whether no binding covered it at its issue. A speculative fetch keeps its plaintext in the staging area. -/
structure Load where
  id : Nat
  slot : Nat
  region : Nat
  lregion : Nat
  obj : WObj
  dst : Nat
  bytes : Nat
  rect : Nat
  sid : Nat
  outId : Option Nat
  lead : Bool
  spec : Bool
  keyWait : Bool := false
  epochWait : Bool := false
  reads : Bool
  gen : Option Nat := none
  landed : List (Nat × Nat) := []
  tries : Nat := 0
  notReady : Bool := false
  unbound : Bool := false
  deriving DecidableEq, Repr

/-- One staged segment: tile, segment index, generation, plaintext. -/
structure StagedSeg where
  tile : Nat
  seg : Nat
  gen : Nat
  data : List Byte
  deriving DecidableEq, Repr

/-- An object in the staging area (R183, R185, R186), oldest first in its list. -/
structure Staged where
  slot : Nat
  lregion : Nat
  obj : WObj
  used : Bool
  segs : List StagedSeg
  deriving DecidableEq, Repr

/-- A residency entry (R173). -/
structure Resident where
  obj : WObj
  dst : Nat
  bytes : Nat
  rect : Nat
  deriving DecidableEq, Repr

/-- A BIND that waits for its model's key (R174, R187): the binding it will make. -/
structure BindWait where
  slot : Nat
  region : Nat
  model : Nat
  first : Nat
  last : Nat
  next : Bool
  pc : Nat
  deriving DecidableEq, Repr

/-- A WLOAD with SPEC = 1 that waits for its model's key (R187): its timer's id, its region, and the model, layer, experts, SID,
BYTES and RECT that it names. -/
structure SpecWait where
  id : Nat
  slot : Nat
  region : Nat
  model : Nat
  layer : Nat
  expert : Nat
  sid : Nat
  bytes : Nat
  rect : Nat
  deriving DecidableEq, Repr

/-- The weight streaming state. -/
structure Wsp where
  keys : Tab (List Byte) := []
  loads : List Load := []
  nextLoad : Nat := 0
  resident : Tab (List Resident) := []
  staged : List Staged := []
  masks : Tab Nat := []
  binds : List BindWait := []
  specs : List SpecWait := []
  deriving DecidableEq, Repr


/-! ### Transport (chapter 15) -/

/-- A transport message on its way out of a port: class, key, addresses, its BOND_SEQ when it is bonded, payload (R370). -/
structure QMsg where
  cls : Nat
  key : Word
  dst : Nat
  src : Nat
  bond : Option Nat
  body : List Byte
  deriving DecidableEq, Repr

/-- The link layer of one port (R363–R369): whether link initialisation is done; DATA flits sent and acknowledged since
then; the replay buffer as (index past the message's last flit, message); resends in a row; the next SEQ expected, and
whether its gap has been NAKed; the partner's credits by class; the egress queue; the times of credit violations and of
entries into FAULTY; the message arriving now: its class, its flits and bytes so far. -/
structure Link where
  ready : Bool := false
  sent : Nat := 0
  acked : Nat := 0
  replay : List (Nat × QMsg) := []
  tries : Nat := 0
  rxNext : Nat := 0
  nakSent : Bool := false
  credits : List Nat := []
  queue : List QMsg := []
  viols : List Nat := []
  faulty : List Nat := []
  inCls : Nat := 0
  inFlits : Nat := 0
  inBytes : List Byte := []
  deriving DecidableEq, Repr

/-- One class of one bond (R374): the next BOND_SEQ to send and to deliver, the messages held out of order, and whose turn
it is to send. -/
structure BondSt where
  tx : Nat := 0
  rx : Nat := 0
  held : List Msg := []
  turn : Nat := 0
  deriving DecidableEq, Repr

/-- An optical engine's lanes (R376, R377): substitutions asked for as (from, to) physical receive lanes, a running test
(whether a soak, the lane under test, the spare that stands in for it), the next lane of the rotation, and whether the partner has moved the transmit lane under test. -/
structure EngineSt where
  lmaps : List (Nat × Nat) := []
  test : Option (Bool × Nat × Option Nat) := none
  next : Nat := 0
  txMoved : Bool := false
  deriving DecidableEq, Repr

/-! ### Jobs (chapter 06) -/

/-- What the docket unit keeps for a job slot beside DOCK.JOB: the docket and its path, whether it waits under R155,
whether the outcome is fixed and when, whether every port is FENCED, the report not yet delivered, whether a LOAD fault
came in this step attempt (R330), whether it waits for the egress of its last step (R357), the T of a held SYNC message (R148), and whether the report was
given up (R166). -/
structure Job where
  docket : List Byte := []
  path : CtlPath := .mgmt
  fitWait : Bool := false
  fixed : Bool := false
  tEnd : Nat := 0
  report : List Byte := []
  loadFault : Bool := false
  lastDone : Bool := false
  heldT : Nat := 0
  lost : Bool := false
  deriving DecidableEq, Repr

/-- A pending INSTALL (R163). -/
structure PendInstall where
  job : Nat
  key : Nat
  ports : Nat
  deriving DecidableEq, Repr

/-- The docket unit: dockets that wait behind one in ADMITTING, the outstanding fetch as its path and its SEQ or CSEQ, the
DOCKET_IDs of R154, the revocation list of R165, the reports of slots in use again, which wait for their path (slot, path,
report) (R166), the pending INSTALL table (entry number, entry), oldest first, and whether
the module power loop has made the PMBus setup (R430). -/
structure DockSt where
  behind : List (CtlPath × List Byte) := []
  fetch : Option (CtlPath × Nat) := none
  ids : List Nat := []
  revoked : List Nat := []
  reports : List (Nat × CtlPath × List Byte) := []
  installs : List (Nat × PendInstall) := []
  pmbusDone : Bool := false
  deriving DecidableEq, Repr

/-! ### Boot, registration and the management port (chapters 18, 19) -/

/-- Boot and registration (R427–R460): LINK_WAIT and UPDATE_MIN_MS, the next CSEQ, the current HELLO as its path and its
SEQ or CSEQ, the UPDATE not yet acknowledged (CSEQ, body, whether it carried JOB_RESET), whether an UPDATE waits for
UPDATE_MIN_MS and whether that gap runs, the JOB_RESET flag, the port records last sent, the firmware image under push
and the verified copy, whether MOD_RESET_N is low, and whether EXTEST is the current
instruction. -/
structure Boot where
  linkWait : Nat := 600
  updateMin : Nat := 100
  cseq : Nat := 0
  hello : Option (CtlPath × Nat) := none
  update : Option (CtlPath × Nat × List Byte × Bool) := none
  updateDue : Bool := false
  updateGap : Bool := false
  jobReset : Bool := false
  ports : List Byte := []
  pushed : List Byte := []
  image : List Byte := []
  pinLow : Bool := false
  extest : Bool := false
  deriving DecidableEq, Repr

/-- Whether a firmware core is well, and when it last crashed (R433, R434): an RCC's recent crashes as (time, core), the
core that failed, and of the MMCs the ones that stay out. -/
structure FwSt where
  crashes : List (Nat × Nat × Nat) := []
  swap : List (Nat × Nat) := []
  mmcOut : List Nat := []
  deriving DecidableEq, Repr


/-! ### Groups (chapter 11) -/

/-- A proposal that this member makes as leader (R275): target epoch, lost set, SEQ, whether a join and its member and
module, and the ACCEPTs of this SEQ as (from, COMMITTED_STEP, attached OUTCOME as (step, payload)). -/
structure Proposal where
  target : Nat
  lost : List Nat
  seq : Nat
  join : Option (Nat × Nat)
  accepts : List (Nat × Nat × Option (Nat × List Byte))
  deriving DecidableEq, Repr

/-- A job's membership (R269–R285) beside PLC.JOB: when each sender was last heard, the SUSPECTs sent as (subject, cause)
and seen as (subject, from) in this GEPOCH, probes outstanding, members confirmed lost and not yet in a committed lost set,
whether every live member is being probed for a stall, the next SEQ, the proposal made, the proposer accepted as
(target, proposer, whether a join, its member), a pending join as (member, module), the module IDs that joins have
written into the membership list, the SUSPECTs sent that nothing has answered yet (R273), and whether this spare has joined
(R284). -/
structure Grp where
  heard : Tab Nat := []
  sent : List (Nat × Nat) := []
  seen : List (Nat × Nat) := []
  probes : List (Nat × Nat) := []
  confirmed : List Nat := []
  stall : Bool := false
  seqNo : Nat := 1
  prop : Option Proposal := none
  accepted : Option (Nat × Nat × Option Nat) := none
  joinPend : Option (Nat × Nat) := none
  replaced : List (Nat × Nat) := []
  silent : List (Nat × Nat) := []
  joined : Bool := false
  deriving DecidableEq, Repr


/-! ### The update engine and its mirrors (chapter 09) -/

/-- A UPD accepted and not completed (R215, R216): its region and the id it issued under, its area entry, the values of
its parameter slots, its bucket's tag and STEP, STEP_COUNT of the step being updated, its index in the stream, and whether it
has been counted as waiting under R229. -/
structure UpdCmd where
  id : Nat
  region : Nat
  outId : Nat
  area : Nat
  params : List Nat
  tag : Nat
  step : Nat
  count : Nat
  ix : Nat := 0
  waited : Bool := false
  deriving DecidableEq, Repr

/-- An area's W images on their way to the buddy (R230–R232): area index, STEP, MSEQ, the messages as sent, resends made,
and whether the holder has acknowledged them. No messages stand here while the job has no mirror key: they leave when it comes. -/
structure MirrorOut where
  area : Nat
  step : Nat
  mseq : Nat
  msgs : List (List Byte)
  tries : Nat
  acked : Bool
  deriving DecidableEq, Repr

/-- One mirror image that this module holds (R232): owner, area, which image it is (0 W, 1 C, 2 P), STEP, MSEQ, its
segments as plaintext, and whether it is complete. -/
structure HeldImg where
  owner : Nat
  area : Nat
  kind : Nat
  step : Nat
  mseq : Nat
  segs : List (Nat × List Byte)
  complete : Bool
  deriving DecidableEq, Repr

/-- An area being restored from a mirror (R233): its entry, owner and owner's area index, STEP asked for, and the segments
received, and the address of the holder asked. -/
structure Restore where
  entry : Nat
  owner : Nat
  area : Nat
  step : Nat
  segs : List (Nat × List Byte)
  dst : Nat := 0
  deriving DecidableEq, Repr

/-- A job's part of the update engine beside UPD.JOB and UPD.AREA: UPDs accepted, UPDs of the attempt that have run,
area entries as (entry, index in the area
table), pending publications as (STEP_COUNT, model, first layer, last layer), publications due at the next release under the
staleness option with the models that WROTE, the highest epoch published per model, egress under way and begun as (model,
epoch), the models published by the last commit, the mirror key, mirrors out, images held, owners being rebuilt, restores,
the next id, whether an egress failed,
whether the next mirror streams every row (R282), and the buckets whose areas wait to be updated again after a failed vote,
as (tag, STEP) (R222). -/
structure UpdJob where
  queue : List UpdCmd := []
  ran : List UpdCmd := []
  entries : List (Nat × Nat) := []
  pubs : List (Nat × Nat × Nat × Nat) := []
  due : List (Nat × Nat × Nat) := []
  dueWrote : List Nat := []
  top : List (Nat × Nat) := []
  egress : List (Nat × Nat) := []
  begun : List (Nat × Nat) := []
  lastPub : List Nat := []
  mirrorKey : List Byte := []
  out : List MirrorOut := []
  held : List HeldImg := []
  rebuild : List (Nat × Nat) := []
  restores : List Restore := []
  holdSeq : Nat := 0
  nextId : Nat := 0
  egressFail : Bool := false
  fullMirror : Bool := false
  redo : List (Nat × Nat) := []
  deriving DecidableEq, Repr

/-! ### The collective engine (chapter 10) -/

/-- A chunk of a level (R247): level, owning part's rank, index in the part, the rank it came from, its lanes (integers, or
bytes for the other OPs), the micro-batch count and OVL. -/
structure Chunk where
  level : Nat
  part : Nat
  chunk : Nat
  src : Nat
  lanes : List Int
  nb : Nat
  ovl : Nat
  deriving DecidableEq, Repr

/-- A COLL that a region has issued for a bucket: its id there, its ADDR, and whether it has completed (R239). -/
structure CollAt where
  region : Nat
  outId : Nat
  addr : Nat
  deriving DecidableEq, Repr

/-- A bucket in flight (R236): its entry, tag, STEP, GEPOCH and CHUNK setting, its descriptor, the contributions as
(element, value) lists (R238), the COLLs, the local micro-batch count, whether the level-0 input is complete, votes received
as (level, rank, exponent, count), votes combined as (level, exponent, count), chunks received, results held (own and witnessed), chunks
sent, digests as (level, part, digest, whether the witness or sender formed it), re-reduction attempt, whether the local
result has been handed over, how it stands (0 in flight, 1 VOTED, 2 HELD, 3 ABORTED), and whether a step restart kept it
(R341). -/
structure Bucket where
  entry : Nat
  tag : Nat
  step : Nat
  gepoch : Nat
  tune : Nat
  desc : List Byte
  contribs : List (List (Nat × Dy)) := []
  colls : List CollAt := []
  count : Nat := 0
  level0 : Bool := false
  votes : List (Nat × Nat × Int × Nat) := []
  exps : List (Nat × Int × Nat) := []
  data : List Chunk := []
  results : List Chunk := []
  sent : List Chunk := []
  digests : List (Nat × Nat × Word × Bool) := []
  attempt : Nat := 0
  handed : Bool := false
  done : Nat := 0
  kept : Bool := false
  deriving DecidableEq, Repr

/-- The held counts of a thinned bucket (R243): C, and P and W where they are valid. -/
structure HeldCount where
  tag : Nat
  c : Nat := 0
  p : Option Nat := none
  w : Option Nat := none
  deriving DecidableEq, Repr

/-- A job's part of the collective engine beside CE.JOB: its buckets, the held counts, packets of buckets not open yet, the
barrier payloads received as (STEP, level, rank, payload), whether it has entered the barrier, the saturated layers of a step that
is released and not committed as (STEP, payload) (R229), the last OUTCOME as (step, payload),
level-1 members asked again as (tag, rank, times), the hold areas that a step restart kept (R341), an OUTCOME that came
while this module restarts the step as (step, payload), the buckets in the order in which their level-0 inputs were complete as
(tag, STEP) (R248), and the levels that a full queue holds (R249). -/
structure CeJob where
  buckets : List Bucket := []
  counts : List HeldCount := []
  early : List (List Byte) := []
  barrier : List (Nat × Nat × Nat × List Byte) := []
  entered : Bool := false
  satSaved : Option (Nat × List Byte) := none
  outcome : Option (Nat × List Byte) := none
  resends : List (Nat × Nat × Nat) := []
  heldKept : List Nat := []
  due : Option (Nat × List Byte) := none
  line : List (Nat × Nat) := []
  held : List Nat := []
  deriving DecidableEq, Repr


/-! ### Serving (chapter 12) -/

/-- A stream of a serve job (R288): SID, its port and partner, the SEQ it expects, whether it is closing. -/
structure SrvStream where
  sid : Nat
  port : Nat
  src : Nat
  next : Nat := 0
  closing : Bool := false
  deriving DecidableEq, Repr

/-- A request queued or in a batch (R289): its number, model, stream, port, partner, SEQ and payload, and whether it has
waited BATCH_WAIT. -/
structure SrvReq where
  id : Nat
  model : Nat
  sid : Nat
  port : Nat
  src : Nat
  seq : Nat
  payload : List Byte
  waited : Bool := false
  deriving DecidableEq, Repr

/-- The batch admitted (R291): its model, the cache entry and which of its two slots it binds, its requests. -/
structure SrvBatch where
  model : Nat
  entry : Nat
  slot : Nat
  reqs : List SrvReq
  deriving DecidableEq, Repr

/-- A serve job (R288–R293): its streams, the requests queued in arrival order, the next request's number, the batch in the
program, and whether a first batch has been admitted. -/
structure SrvJob where
  streams : List SrvStream := []
  queue : List SrvReq := []
  nextId : Nat := 0
  batch : Option SrvBatch := none
  begun : Bool := false
  deriving DecidableEq, Repr

/-! ### The model cache (chapter 12) -/

/-- A manifest entry (R303): layer, expert, logical region, first and last logical tile, bytes of each piece, and the offset
of its segment records in units of 4,096 bytes. -/
structure MfEntry where
  layer : Nat
  expert : Nat
  lregion : Nat
  first : Nat
  last : Nat
  bytes : Nat
  segOff : Nat
  deriving DecidableEq, Repr

/-- One piece in an epoch slot (R297): which of the entry's two slots, its manifest position and its plaintext. -/
structure CachePiece where
  slot : Nat
  layer : Nat
  expert : Nat
  lregion : Nat
  tile : Nat
  data : List Byte
  deriving DecidableEq, Repr

/-- One segment landed by a cache load: manifest entry, tile, segment index, generation, plaintext. -/
structure CacheSeg where
  entry : Nat
  tile : Nat
  seg : Nat
  gen : Nat
  data : List Byte
  deriving DecidableEq, Repr

/-- A cache load in progress (R297): its epoch, slot and source (0 weight server, 1 cellar), the carrier job's slot and the
S-port it asks on next, the manifest's length and chunks (offset, content), the manifest once complete, whether it has its
units, the segments landed, re-requests without progress, whether a NOT_READY has come, and the SID of its context. -/
structure CacheLoad where
  epoch : Nat
  slot : Nat
  source : Nat
  carrier : Option Nat := none
  total : Option Nat := none
  chunks : List (Nat × List Byte) := []
  manifest : Option (List MfEntry) := none
  placed : Bool := false
  segs : List CacheSeg := []
  tries : Nat := 0
  turn : Nat := 0
  notReady : Bool := false
  sid : Nat := 0
  deriving DecidableEq, Repr

/-- What an entry of the model cache holds beside CELL.MODEL (R295–R301): its load, the epoch of a LOAD that waits for the
other slot to drain, the pieces of its slots, the slots whose pieces met an uncorrectable stack line, and whether its key is to
be erased once its UNLOAD takes effect. -/
structure CacheEnt where
  load : Option CacheLoad := none
  waiting : Option Nat := none
  pieces : List CachePiece := []
  bad : List Nat := []
  erase : Bool := false
  deriving DecidableEq, Repr

/-! ### The cellar (chapters 12, 16) -/

/-- The open write session (R394): its index, BYTES, and the bytes written. -/
structure CellSession where
  index : Nat
  bytes : Nat
  data : List Byte := []
  deriving DecidableEq, Repr

/-- The cellar (R302, R393): its sealed images as (index, bytes) in ascending index and the indices of those that an
uncorrectable page spoilt, which no reset touches, and the open
session. -/
structure Cellar where
  images : List (Nat × List Byte) := []
  bad : List Nat := []
  corr : List Nat := []
  session : Option CellSession := none
  deriving DecidableEq, Repr


/-! ### Transfers between regions and modules (chapters 13, 15) -/

/-- A post of a RECV (R323): the region that posted it, its command's id and index there, the region it was posted to, TAG,
ADDR, BYTES, RECT and SID, and whether it has reached that region. -/
structure Post where
  dst : Nat
  outId : Nat
  ix : Nat
  src : Nat
  tag : Nat
  addr : Nat
  bytes : Nat
  rect : Nat
  sid : Nat
  here : Bool
  deriving DecidableEq, Repr

/-- A SEND to a region, or the rows of a router drain, on their way (R323, R324): the region, its command's id and index, the
region named as PEER (none for a drain), TAG, ADDR, BYTES, RECT and SID, the drained rows by tile, and whether every byte has
landed. -/
structure Sending where
  src : Nat
  outId : Nat
  ix : Nat
  dst : Option Nat
  tag : Nat
  addr : Nat
  bytes : Nat
  rect : Nat
  sid : Nat
  data : List (Nat × List Byte)
  landed : Bool
  deriving DecidableEq, Repr

/-- One end of a transfer to or from a peer module (R375): the region, its command's id and index, the port, MODULE, LREGION,
TAG, ADDR, BYTES, RECT and SID; of a SEND whether its DATA has gone, of a RECV the (tile, OFFSET, length) that have landed. -/
structure Xfer where
  region : Nat
  outId : Nat
  ix : Nat
  port : Nat
  module : Nat
  lregion : Nat
  tag : Nat
  addr : Nat
  bytes : Nat
  rect : Nat
  sid : Nat
  sent : Bool := false
  landed : List (Nat × Nat × Nat) := []
  deriving DecidableEq, Repr

/-- A POST received from a peer module (R375). -/
structure XPost where
  slot : Nat
  module : Nat
  lregion : Nat
  tag : Nat
  bytes : Nat
  rect : Nat
  deriving DecidableEq, Repr

/-- The transfers under way: posts and sends between regions in order, and sends, receives and received posts of transfers
between modules in order. -/
structure Fab where
  posts : List Post := []
  sends : List Sending := []
  xsends : List Xfer := []
  xrecvs : List Xfer := []
  xposts : List XPost := []
  deriving DecidableEq, Repr

/-- An end of a packet: a tile by its region and logical number, or an attached unit by its KIND and INDEX (R322). -/
inductive Place where
  | tile (region tile : Nat)
  | unit (kind index : Nat)
  deriving DecidableEq, Repr

/-- A packet that its sender has handed to the fabric and that waits for an endpoint credit (R312): its ends, class channel,
payload bytes and JOB. -/
structure Offer where
  src : Place
  dst : Place
  vc : Nat
  bytes : Nat
  job : Nat
  deriving DecidableEq, Repr

/-- A packet in the fabric: the fields of its route word (R307); then what the routers follow it by: its number, the flits
injected, the leg of R314 that its head is on, the regions its head has entered and its tail not left, and the endpoint whose
credit it uses or, on the response channel, gives back (R312), and the EP of the endpoint that sent it. -/
structure Packet where
  id : Nat
  dstX : Nat
  dstY : Nat
  srcX : Nat
  srcY : Nat
  vc : Nat
  detour : Bool := false
  cls : Nat
  mid : Nat
  flits : Nat
  job : Nat
  ep : Nat
  sent : Nat := 0
  leg : Nat := 0
  trail : List Nat := []
  uses : Option Nat := none
  gives : Option Nat := none
  srcEp : Nat := 0
  deriving DecidableEq, Repr

/-- A flit in an input buffer: its packet, its number in the packet, the cycle in which it arrived. -/
structure Flit where
  pkt : Nat
  ix : Nat
  at_ : Nat
  deriving DecidableEq, Repr

/-- A router output (R309, R310): for each channel the packet it has granted with the input buffer it comes from, the input
buffer last served, and the deficit in flits; the channel whose turn it is, and whether its quantum is still to be added. -/
structure OutSt where
  grants : List (Nat × Nat × Nat) := []
  last : Tab Nat := []
  deficit : Tab Nat := []
  turn : Nat := 0
  fresh : Bool := true
  deriving DecidableEq, Repr

/-- The fabric's traffic: packets waiting to enter, packets inside; the input buffers, keyed 25 × (170 × Y + X) + 5 × side +
channel with side 4 for the tile's own endpoint; the credits in use toward each of them and those on their way back, as (cycle,
buffer) (R309); the outputs, keyed 5 × (170 × Y + X) + side; the credits in use of each endpoint, keyed 2 × (170 × Y + X) + EP
(R312); the cycle, and the number of the next packet. -/
structure Net where
  queue : List Offer := []
  packets : List Packet := []
  bufs : Tab (List Flit) := []
  used : Tab Nat := []
  returns : List (Nat × Nat) := []
  outs : Tab OutSt := []
  held : Tab Nat := []
  now : Nat := 0
  next : Nat := 0
  deriving DecidableEq, Repr

/-! ### The fault unit (chapter 14) -/

/-- What the fault and placement units keep beside FLT and PLC: strikes as (reference time, region) (R348), the pair
differences rolled back as (job slot, SEQ) (R351), the job slots whose program image must be read again (R343), the areas to
restore at a job's resume as (job slot, area entry), the sites that a stack fault has taken out of a slot and that wait for
their remap as (site, slot served) (R390), the uncorrectable lines as (reference time, site) (R389), and the cache loads to
restart at a remap as (entry, epoch) (R390). -/
structure FltSt where
  strikes : List (Nat × Nat) := []
  pairBad : List (Nat × Nat) := []
  reload : List Nat := []
  restore : List (Nat × Nat) := []
  remaps : List (Nat × Nat) := []
  ues : List (Nat × Nat) := []
  recache : List (Nat × Nat) := []
  lines : List (Nat × Nat) := []
  deriving DecidableEq, Repr


/-! ### Power, thermal and the time base's servo (chapter 17) -/

/-- What the power, thermal and time-base hardware keeps beside its registers: the ALERT term, whether the pin is low and
whether HOLD_US runs (R412); for K_cap and K_core the samples in a row at or below 98 % of the limit since the last rise
(R411); whether a write of CAP waits for its sample; the last ten total samples (R410); energies below one unit; for each
region the samples in a row below THROTTLE_C − 2 °C (R413), and for each sensor its last raw reading and the samples that
repeat it (R415); stacks at half rate, the module trip (R413), regions whose clock runs at half frequency (R409) or has
stopped (R403); THERMAL_OFF regions that have been cool for 1 s (R414); measurements in a row within 50 ns (R418), the outstanding sync request as (SEQ, t1), its next SEQ and the
misses in a row (R419). -/
structure PowerSt where
  alert : Nat := 34
  alertLow : Bool := false
  alertHold : Bool := false
  capGood : Nat := 0
  coreGood : Nat := 0
  capNew : Bool := false
  totals : List Nat := []
  energy : Nat := 0
  zoneEnergy : Tab Nat := []
  cool : Tab Nat := []
  raw : Tab Int := []
  same : Tab Nat := []
  stackHot : List Nat := []
  tripped : Bool := false
  droop : List Nat := []
  clockOff : List Nat := []
  cooled : List Nat := []
  near : Nat := 0
  sync : Option (Nat × Nat) := none
  syncSeq : Nat := 0
  syncMiss : Nat := 0
  deriving DecidableEq, Repr


/-! ### The whole state -/

/-- Deferred notification state (R440): whether the MIN_GAP_US gap is running, and whether a NOTIFY waits for its end. -/
structure NotifySt where
  gap : Bool := false
  deferred : Bool := false
  cause : Nat := 0
  deriving DecidableEq, Repr

/-- The time base (R45, R46): COUNT, the slew still to be absorbed in ns, and reference time in ns since power-up. -/
structure TimeBase where
  count : Nat := 0
  slew : Nat := 0
  slewFrac : Nat := 0
  rateFrac : Int := 0
  ref : Nat := 0
  deriving DecidableEq, Repr

/-- The state of the block. -/
structure State where
  /-- The register space (R23): sparse, an unlisted address reads as `regInit`. -/
  regs : Tab Word := []
  /-- The stacks' data space (R379–R382): module byte addresses; an unlisted byte reads 0. -/
  mem : List Host.Cell := []
  /-- STATUS and ERR_STATUS of a dead page as they stood when its unit was fenced (R31). -/
  dead : Tab (Word × Word) := []
  /-- The resets in progress, with the page of a block reset (R36, R38). -/
  resets : List (ResetKind × Nat) := []
  /-- The time base. -/
  tb : TimeBase := {}
  /-- How many free values have been drawn: the model's own field, read and advanced by every draw. -/
  free : Nat := 0
  /-- The notification gap. -/
  notify : NotifySt := {}
  /-- The expert secret (R41). -/
  expertSecret : List Byte := []
  /-- Reports that detectors have made and the fault unit has not yet taken (R327), oldest first. -/
  reports : List Report := []
  /-- Each region's sequencer. -/
  seqs : Tab Seq := []
  /-- Each region's tile storage. -/
  tiles : Tab TileMem := []
  /-- Each region's cave, by the region that plays its logical region. -/
  caves : Tab Cave := []
  /-- The live stream contexts (R190). -/
  ctxs : List Ctx := []
  /-- Weight streaming (chapter 07). -/
  wsp : Wsp := {}
  /-- The link layer of each port (R363–R369). -/
  links : Tab Link := []
  /-- The bonds, keyed 8 × bond + class (R374). -/
  bonds : Tab BondSt := []
  /-- The lanes of each engine (R376, R377). -/
  engines : Tab EngineSt := []
  /-- Messages for which no port qualifies, as (job slot, message), oldest first (R374). -/
  unrouted : List (Nat × QMsg) := []
  /-- Each job slot (R159). -/
  jobs : Tab Job := []
  /-- The docket unit (chapter 06). -/
  dock : DockSt := {}
  /-- The regions whose FUSED_OFF fuse is blown at the factory (R14, R16); fixed for the part. -/
  fused : List Nat := []
  /-- Boot and registration (chapter 19). -/
  boot : Boot := {}
  /-- The firmware cores (R432–R434). -/
  fw : FwSt := {}
  /-- The management key (R443); empty when none is installed. -/
  mgtKey : List Byte := []
  /-- Management messages that wait while both lanes are down (R435). -/
  mgtWait : List Output := []
  /-- The membership of each job slot (chapter 11). -/
  grps : Tab Grp := []
  /-- The update engine, by job slot (chapter 09). -/
  upds : Tab UpdJob := []
  /-- The collective engine, by job slot (chapter 10). -/
  ces : Tab CeJob := []
  /-- The serving of each job slot (chapter 12). -/
  srvs : Tab SrvJob := []
  /-- The entries of the model cache. -/
  caches : Tab CacheEnt := []
  /-- The cellar. -/
  cellar : Cellar := {}
  /-- Transfers between regions and modules (R323, R375). -/
  fab : Fab := {}
  /-- The packets in the fabric (R307–R320). -/
  net : Net := {}
  /-- The fault and placement units (chapter 14). -/
  flt : FltSt := {}
  /-- Power, thermal and the time-base servo (chapter 17). -/
  power : PowerSt := {}
  /-- What the module has sent and driven, oldest first: the model's own record. -/
  out : List Output := []
  /-- The commands that are waiting, first in, first out. -/
  pending : List Instr := []
  deriving DecidableEq, Repr

/-- The machine right after a cold reset, in SELFTEST (R449): every register at its reset value, nothing in memory, no
command waiting. -/
def State.reset : State := {}

end Sys2Proof.Machine
end

