-- ==== Sys2Proof/Machine/Ops.lean ====
section
/-! DEFINITION. The named operations over the state: sparse tables, registers and their fields, error and event bits with
the notification they cause (R34, R43, R440), counters (R35), stack memory (R380), tile memory, free values, outputs. -/

namespace Sys2Proof.Machine

/-! ### Sparse tables -/

/-- What a sparse table holds at a key; `d` gives what an unlisted key reads as. -/
def tabGet {α : Type} (d : Nat → α) : Tab α → Nat → α
  | [], k => d k
  | (k', v) :: r, k => if k = k' then v else tabGet d r k

/-- A table without a key. -/
def tabDrop {α : Type} (t : Tab α) (k : Nat) : Tab α := t.filter fun e => e.1 != k

/-- Write a key of a sparse table, keeping its canonical form. -/
def tabSet {α : Type} [DecidableEq α] (d : Nat → α) : Tab α → Nat → α → Tab α
  | [], k, v => if v = d k then [] else [(k, v)]
  | (k', v') :: r, k, v =>
    if k = k' then (if v = d k then tabDrop r k else (k, v) :: r)
    else if k < k' then (if v = d k then (k', v') :: tabDrop r k else (k, v) :: (k', v') :: r)
    else (k', v') :: tabSet d r k v

/-- Whether every key of a table lies above a bound, the keys rise strictly and no entry equals its default. -/
def tabWfFrom {α : Type} [DecidableEq α] (d : Nat → α) : Nat → Tab α → Bool
  | _, [] => true
  | b, (k, v) :: r => decide (b ≤ k) && decide (v ≠ d k) && tabWfFrom d (k + 1) r

/-- The canonical form of a sparse table. -/
def tabWf {α : Type} [DecidableEq α] (d : Nat → α) (t : Tab α) : Bool := tabWfFrom d 0 t

/-! ### Bits -/

/-- Bits hi…lo of a number. -/
def bits (v hi lo : Nat) : Nat := v / 2 ^ lo % 2 ^ (hi + 1 - lo)

/-- A number with bits hi…lo replaced. -/
def putBits (v hi lo x : Nat) : Nat := v - bits v hi lo * 2 ^ lo + x % 2 ^ (hi + 1 - lo) * 2 ^ lo

/-- Bit n of a number. -/
def bit (v n : Nat) : Bool := v / 2 ^ n % 2 == 1

/-- 1 for true. -/
def b2n (b : Bool) : Nat := if b then 1 else 0

/-- The numbers whose bits are 1 in a w-bit mask. -/
def maskList (w v : Nat) : List Nat := (List.range w).filter (bit v)

/-- The mask with the given bits. -/
def maskOf (l : List Nat) : Nat := l.eraseDups.foldl (fun a n => a + 2 ^ n) 0

/-! ### Registers -/

/-- The address of a register: page index and offset (R23). -/
def regAddr (page off : Nat) : Nat := page * 65536 + off

/-- What a register holds. -/
def State.getReg (s : State) (addr : Nat) : Word := tabGet regInit s.regs addr

/-- Set a register whole. -/
def State.setReg (s : State) (addr : Nat) (v : Word) : State := { s with regs := tabSet regInit s.regs addr v }

/-- The offset of a field's register in entry i of its table. -/
def Fld.atIx (f : Fld) (i : Nat) : Nat := f.off + f.stride * i

/-- Field f of entry i on a page. -/
def State.rd (s : State) (page : Nat) (f : Fld) (i : Nat := 0) : Nat :=
  bits (s.getReg (regAddr page (f.atIx i))).toNat f.hi f.lo

/-- Set field f of entry i on a page. -/
def State.wr (s : State) (page : Nat) (f : Fld) (v : Nat) (i : Nat := 0) : State :=
  let a := regAddr page (f.atIx i)
  s.setReg a (BitVec.ofNat 64 (putBits (s.getReg a).toNat f.hi f.lo v))

/-- Set several fields of entry i on a page. -/
def State.wrs (s : State) (page : Nat) (l : List (Fld × Nat)) (i : Nat := 0) : State :=
  l.foldl (fun s p => s.wr page p.1 p.2 i) s

/-- Clear `n` registers from an offset of a page to 0. -/
def State.clearRegs (s : State) (page off n : Nat) : State :=
  (List.range n).foldl (fun s k => s.setReg (regAddr page (off + 8 * k)) 0#64) s

/-- Put `n` registers from an offset of a page back to their reset values. -/
def State.initRegs (s : State) (page off n : Nat) : State :=
  (List.range n).foldl (fun s k => s.setReg (regAddr page (off + 8 * k)) (regInit (regAddr page (off + 8 * k)))) s

/-- Advance a counter by n; it saturates and never wraps (R35). -/
def State.bump (s : State) (page : Nat) (f : Fld) (n : Nat := 1) : State :=
  s.wr page f (min (s.rd page f + n) (2 ^ 64 - 1))

/-- Append an output. -/
def State.emit (s : State) (o : Output) : State := { s with out := s.out ++ [o] }

/-- Draw a free value: nothing constrains it. -/
def State.draw (s : State) : Word × State := (Config.freeWord s.free, { s with free := s.free + 1 })

/-- n free bytes. -/
def State.drawBytes (s : State) (n : Nat) : List Byte × State :=
  ((List.range n).map fun k => Config.freeByte (s.free + k), { s with free := s.free + n })

/-! ### Errors, events and the page maps (R34, R43) -/

/-- STATUS.ERR_PENDING of a page: an unmasked ERR_STATUS bit is 1. -/
def State.errPending (s : State) (page : Nat) : Bool :=
  decide ((s.getReg (regAddr page 0x20) &&& ~~~ s.getReg (regAddr page 0x28)) ≠ 0#64)

/-- Whether a page is marked in GLB.EVT_PAGE_MAP. -/
def State.evtPending (s : State) (page : Nat) : Bool := decide (s.getReg (regAddr page 0x38) ≠ 0#64)

/-- GLB.ERR_PAGE_MAP word w (R43). -/
def State.errMap (s : State) (w : Nat) : Nat :=
  maskOf (((allPages.filter fun p => p / 64 == w).filter s.errPending).map (· % 64))

/-- GLB.EVT_PAGE_MAP word w (R43). -/
def State.evtMap (s : State) (w : Nat) : Nat :=
  maskOf (((allPages.filter fun p => p / 64 == w).filter s.evtPending).map (· % 64))

/-- The next SEQ of a module-originated request on a pair, which it then advances (R436, R438). -/
def State.nextSeq (s : State) (pair : Nat) : Nat × State :=
  let q := s.rd pMBX MBX_PAIR_SEQ_OUT pair
  (q, s.wr pMBX MBX_PAIR_SEQ_OUT ((q + 1) % 2 ^ 32) pair)

/-- Header bytes 0–19 of a mailbox message (R436). -/
def mgtHeader (major minor opcode flags len status pair seq : Nat) (arg : Word) : List Byte :=
  leBytes 1 major ++ leBytes 1 minor ++ leBytes 1 opcode ++ leBytes 1 flags ++ leBytes 2 len ++ leBytes 1 status
    ++ leBytes 1 pair ++ leBytes 4 seq ++ leBytes 8 arg.toNat

/-- The TAG of a message under the management key; zeros while there is none (R436, R437). -/
def State.mgtTag (s : State) (hdr payload : List Byte) : List Byte :=
  if s.mgtKey.isEmpty then List.replicate 12 0#8 else (hmac256 s.mgtKey (hdr ++ payload)).take 12

/-- A mailbox message that the module sends, with its TAG. -/
def State.mgtOut (s : State) (opcode flags status pair seq : Nat) (arg : Word) (payload : List Byte) : Output :=
  .mgt opcode flags status pair seq arg
    (s.mgtTag (mgtHeader 2 3 opcode flags payload.length status pair seq arg) payload) payload

/-- Whether MOD_RESET_N or EXTEST holds the module in cold reset (R470, R479). -/
def State.heldReset (s : State) : Bool := s.boot.pinLow || s.boot.extest

/-- Whether a management lane is up (R435). -/
def State.mgtUp (s : State) : Bool := s.rd pMGT MGT_STATUS_LANE0_UP == 1 || s.rd pMGT MGT_STATUS_LANE1_UP == 1

/-- Send a module-originated request: MODULE_ORIGIN set (R436); it waits at the port while both lanes are down (R435). -/
def State.sendMgt (s : State) (opcode pair : Nat) (payload : List Byte) : State :=
  let (q, s) := s.nextSeq pair
  let o := s.mgtOut opcode 2 0 pair q 0#64 payload
  let s := s.bump pMBX MBX_C_MODULE_REQUESTS
  if s.mgtUp then (s.emit o).bump pMGT MGT_C_FRAMES_OUT else { s with mgtWait := s.mgtWait ++ [o] }

/-- The 112-byte payload of NOTIFY (R440). -/
def State.notifyBody (s : State) (cause : Nat) : List Byte :=
  leBytes 8 s.tb.count ++ leBytes 8 cause ++ (List.range 6).flatMap (fun w => leBytes 8 (s.errMap w))
    ++ (List.range 6).flatMap (fun w => leBytes 8 (s.evtMap w))

/-- Send a NOTIFY now, or leave it to the end of the running gap (R440). -/
def State.sendNotify (s : State) (cause : Nat) : State :=
  if s.rd pMGT MGT_NOTIFY_CFG_EN = 0 then s
  else if s.notify.gap then { s with notify := { s.notify with deferred := true, cause := cause } }
  else
    let s := (s.sendMgt 0x51 31 (s.notifyBody cause)).bump pMGT MGT_C_NOTIFY_SENT
    { s with notify := { gap := true } }

/-- Set bits of ERR_STATUS; a page map bit that rises sends NOTIFY (R34, R440). -/
def State.raiseErrBits (s : State) (page : Nat) (m : Word) : State :=
  let was := s.errPending page
  let a := regAddr page 0x20
  let s := s.setReg a (s.getReg a ||| m)
  if !was && s.errPending page then s.sendNotify 0 else s

/-- Set the ERR_STATUS bit that a field names. -/
def State.raiseErr (s : State) (page : Nat) (f : Fld) : State := s.raiseErrBits page (1#64 <<< f.lo)

/-- Set the EVT_STATUS bit that a field names; a page map bit that rises sends NOTIFY (R34, R440). -/
def State.raiseEvt (s : State) (page : Nat) (f : Fld) : State :=
  let was := s.evtPending page
  let a := regAddr page 0x38
  let s := s.setReg a (s.getReg a ||| (1#64 <<< f.lo))
  if was then s else s.sendNotify 0

/-- Hand a detector's report to the fault unit (R327). -/
def State.report (s : State) (r : Report) : State := { s with reports := s.reports ++ [r] }

/-! ### Stack memory (R380, R382) -/

/-- What an unlisted byte of the stacks reads as: data space is zeroed before a site serves a slot (DESIGN CHOICE, log 4). -/
def memInit (_ : Nat) : Byte := 0#8

/-- One byte of stack memory at a module address. -/
def State.memByte (s : State) (a : Nat) : Byte := tabGet memInit s.mem a

/-- Write one byte of stack memory. -/
def State.setMemByte (s : State) (a : Nat) (v : Byte) : State := { s with mem := tabSet memInit s.mem a v }

/-- n bytes of stack memory from an address. -/
def State.memRead (s : State) (a n : Nat) : List Byte := (List.range n).map fun k => s.memByte (a + k)

/-- Write bytes to stack memory from an address. -/
def State.memWrite (s : State) (a : Nat) (b : List Byte) : State :=
  b.zipIdx.foldl (fun s p => s.setMemByte (a + p.2) p.1) s

/-- The canonical form of stack memory. -/
def Memory.wf (m : List Host.Cell) : Bool := tabWf memInit m

/-- A little-endian number of n bytes in stack memory. -/
def State.memNat (s : State) (a n : Nat) : Nat := leAt (s.memRead a n) 0 n

/-! ### Records by index -/

/-- The sequencer record of a region. -/
def State.seq (s : State) (r : Nat) : Seq := tabGet (fun _ => {}) s.seqs r

/-- Replace a region's sequencer record. -/
def State.setSeq (s : State) (r : Nat) (q : Seq) : State := { s with seqs := tabSet (fun _ => ({} : Seq)) s.seqs r q }

/-- The tile storage of a region. -/
def State.tileMem (s : State) (r : Nat) : TileMem := tabGet (fun _ => {}) s.tiles r

/-- Replace a region's tile storage. -/
def State.setTileMem (s : State) (r : Nat) (t : TileMem) : State := { s with tiles := tabSet (fun _ => ({} : TileMem)) s.tiles r t }

/-- The cave of a region. -/
def State.cave (s : State) (r : Nat) : Cave := tabGet (fun _ => {}) s.caves r

/-- Replace a region's cave. -/
def State.setCave (s : State) (r : Nat) (c : Cave) : State := { s with caves := tabSet (fun _ => ({} : Cave)) s.caves r c }

/-- The docket unit's record of a job slot. -/
def State.job (s : State) (j : Nat) : Job := tabGet (fun _ => {}) s.jobs j

/-- Replace a job slot's record. -/
def State.setJob (s : State) (j : Nat) (v : Job) : State := { s with jobs := tabSet (fun _ => ({} : Job)) s.jobs j v }

/-- The link layer of a port. -/
def State.link (s : State) (p : Nat) : Link := tabGet (fun _ => {}) s.links p

/-- Replace the link layer of a port. -/
def State.setLink (s : State) (p : Nat) (v : Link) : State := { s with links := tabSet (fun _ => ({} : Link)) s.links p v }

/-- One class of a bond, keyed 8 × bond + class. -/
def State.bond (s : State) (k : Nat) : BondSt := tabGet (fun _ => {}) s.bonds k

/-- Replace one class of a bond. -/
def State.setBond (s : State) (k : Nat) (v : BondSt) : State := { s with bonds := tabSet (fun _ => ({} : BondSt)) s.bonds k v }

/-- The lanes of an engine. -/
def State.eng (s : State) (e : Nat) : EngineSt := tabGet (fun _ => {}) s.engines e

/-- Replace the lanes of an engine. -/
def State.setEng (s : State) (e : Nat) (v : EngineSt) : State := { s with engines := tabSet (fun _ => ({} : EngineSt)) s.engines e v }

/-- A job slot's part of the update engine. -/
def State.upd (s : State) (j : Nat) : UpdJob := tabGet (fun _ => {}) s.upds j

/-- Replace a job slot's part of the update engine. -/
def State.setUpd (s : State) (j : Nat) (v : UpdJob) : State := { s with upds := tabSet (fun _ => ({} : UpdJob)) s.upds j v }

/-- A job slot's part of the collective engine. -/
def State.ce (s : State) (j : Nat) : CeJob := tabGet (fun _ => {}) s.ces j

/-- Replace a job slot's part of the collective engine. -/
def State.setCe (s : State) (j : Nat) (v : CeJob) : State := { s with ces := tabSet (fun _ => ({} : CeJob)) s.ces j v }

/-- The serving of a job slot. -/
def State.srv (s : State) (j : Nat) : SrvJob := tabGet (fun _ => {}) s.srvs j

/-- Replace the serving of a job slot. -/
def State.setSrv (s : State) (j : Nat) (v : SrvJob) : State := { s with srvs := tabSet (fun _ => ({} : SrvJob)) s.srvs j v }

/-- An entry of the model cache. -/
def State.cacheEnt (s : State) (e : Nat) : CacheEnt := tabGet (fun _ => {}) s.caches e

/-- Replace an entry of the model cache. -/
def State.setCacheEnt (s : State) (e : Nat) (v : CacheEnt) : State := { s with caches := tabSet (fun _ => ({} : CacheEnt)) s.caches e v }

/-! ### Tile SRAM and vat (R77, R109) -/

/-- Bytes of one tile's SRAM (R77). -/
def sramSize : Nat := 0x200000

/-- Entries of one tile's vat (R109). -/
def vatSize : Nat := 262144

/-- n bytes of a tile's SRAM. -/
def State.sramRead (s : State) (r tile a n : Nat) : List Byte :=
  let t := (s.tileMem r).sram
  (List.range n).map fun k => tabGet (fun _ => 0#8) t (tile * sramSize + a + k)

/-- Write bytes to a tile's SRAM. -/
def State.sramWrite (s : State) (r tile a : Nat) (b : List Byte) : State :=
  let t := s.tileMem r
  let m := b.zipIdx.foldl (fun m p => tabSet (fun _ => 0#8) m (tile * sramSize + a + p.2) p.1) t.sram
  s.setTileMem r { t with sram := m }

/-- One vat entry as an integer (R63). -/
def State.vatEntry (s : State) (r tile e : Nat) : Int :=
  (tabGet (fun _ => 0#32) (s.tileMem r).vat (tile * vatSize + e)).toInt

/-- Write one vat entry. -/
def State.setVat (s : State) (r tile e : Nat) (v : Int) : State :=
  let t := s.tileMem r
  s.setTileMem r { t with vat := tabSet (fun _ => 0#32) t.vat (tile * vatSize + e) (BitVec.ofInt 32 v) }

/-- Replace the marks of an entry: bit m stands for micro-batch m, bit 255 for the commands of the whole step (R111). -/
def State.setVatMb (s : State) (r tile e v : Nat) : State :=
  let t := s.tileMem r
  s.setTileMem r { t with vatMb := tabSet (fun _ => 0) t.vatMb (tile * vatSize + e) v }

/-- The tiles of a RECT, in ascending logical tile number 16y + x (R18, R121). -/
def rectTiles (rect : Nat) : List Nat :=
  let x0 := bits rect 3 0
  let y0 := bits rect 7 4
  let x1 := bits rect 11 8
  let y1 := bits rect 15 12
  (List.range 256).filter fun t =>
    decide (x0 ≤ t % 16) && decide (t % 16 ≤ x1) && decide (y0 ≤ t / 16) && decide (t / 16 ≤ y1)

/-- Zero every tile of a region: SRAM, vat, accumulators, press and carry (R81). -/
def State.zeroTiles (s : State) (r : Nat) : State :=
  let q := s.seq r
  (s.setTileMem r {}).setSeq r { q with pend := none, rowIn := [] }

/-! ### Common registers (R33) -/

/-- CTRL.ENABLE, CTRL.EXPERT. -/
abbrev cEnable : Fld := ⟨0x10, 0, 0, 0⟩
abbrev cExpert : Fld := ⟨0x10, 1, 1, 0⟩

/-- STATUS.ENABLED, DRAINING, RESET_BUSY. -/
abbrev cEnabled : Fld := ⟨0x18, 0, 0, 0⟩
abbrev cDraining : Fld := ⟨0x18, 1, 1, 0⟩
abbrev cResetBusy : Fld := ⟨0x18, 2, 2, 0⟩

/-- Whether a block takes new work: CTRL.ENABLE is 1 (R355). -/
def State.on (s : State) (page : Nat) : Bool := s.rd page cEnable == 1

/-- A signed field read. -/
def sgn (w v : Nat) : Int := signed w v

/-! ### The answer of a command -/

/-- The answer of a command that writes no stack memory: memory and the queue stay as they were. -/
def keep (s t : State) : Host.Outcome State Fault Refusal := .next { t with mem := s.mem, pending := s.pending }

/-- Stack memory listed in canonical form. What is in that form already, as everything is that the operations write, stays
as it is. -/
def Memory.canon (m : List Host.Cell) : List Host.Cell :=
  if Memory.wf m then m else m.foldr (fun c t => tabSet memInit t c.1 c.2) []

/-- The answer of a command that may write stack memory: the queue stays as it was. -/
def keepQ (s t : State) : Host.Outcome State Fault Refusal :=
  .next { t with mem := Memory.canon t.mem, pending := s.pending }

/-! ### Which job a region works for -/

/-- The page of a region. -/
def regPage (r : Nat) : Nat := pREG + r

/-- The job slot that holds a region, if any (PLC.REGION). -/
def State.slotOf (s : State) (r : Nat) : Option Nat :=
  if s.rd pPLC PLC_REGION_HELD r = 1 then some (s.rd pPLC PLC_REGION_SLOT r) else none

/-- The logical region a region plays (REGnn.SEQ_STATUS.LOGICAL); 255 when none. -/
def State.logical (s : State) (r : Nat) : Nat := s.rd (regPage r) REG_SEQ_STATUS_LOGICAL

/-- The regions that a job slot holds and that play a logical region, in ascending region index. -/
def State.regionsOf (s : State) (slot : Nat) : List Nat :=
  (List.range 84).filter fun r => s.slotOf r == some slot && decide (s.logical r ≠ 255)

/-- The region that plays a logical region of a job slot. -/
def State.playing (s : State) (slot l : Nat) : Option Nat :=
  (s.regionsOf slot).find? fun r => s.logical r == l

/-- Every region that a job slot holds. -/
def State.heldBy (s : State) (slot : Nat) : List Nat := (List.range 84).filter fun r => s.slotOf r == some slot

/-- STATE of a region (R13): 0 ACTIVE, 1 STANDBY, 2 THERMAL_OFF, 3 FENCED, 4 FUSED_OFF. -/
def State.regionState (s : State) (r : Nat) : Nat := s.rd pPLC PLC_REGION_STATE r

/-- The port registers live on the engine's page: engine p / 4, sub-port p mod 4 (R152). -/
def portPage (p : Nat) : Nat := pOPT + p / 4

end Sys2Proof.Machine
end

