-- ==== Sys2Proof/Machine/Flags.lean ====
section
/-! DEFINITION. The sticky flags of the tiles (R92, R93), program faults (R129, R211), vat addends (R109–R115) and the
replay digests (R346): every flag computation that the commands of a region share. -/

namespace Sys2Proof.Machine

/-! ### Tile flags (R92, R93) -/

/-- ANCHOR_SAT and NONFINITE of a stream (R92). -/
def fAnchorSat (d : Bool) : Fld := if d then REG_TILE_FLAGS_DEF_ANCHOR_SAT else REG_TILE_FLAGS_ANCHOR_SAT
def fNonfinite (d : Bool) : Fld := if d then REG_TILE_FLAGS_DEF_NONFINITE else REG_TILE_FLAGS_NONFINITE

/-- Set a tile's flag; its counter advances with the transition from 0 to 1 (R93). -/
def State.setFlag (s : State) (r t : Nat) (f cnt : Fld) : State :=
  if s.rd (regPage r) f t = 1 then s else (s.wr (regPage r) f 1 t).bump (regPage r) cnt

def State.setAnchorSat (s : State) (r : Nat) (d : Bool) (t : Nat) : State := s.setFlag r t (fAnchorSat d) REG_C_ANCHOR_SAT_EVENTS
def State.setNonfinite (s : State) (r : Nat) (d : Bool) (t : Nat) : State := s.setFlag r t (fNonfinite d) REG_C_NONFINITE_EVENTS
def State.setConvSat (s : State) (r t : Nat) : State := s.setFlag r t REG_TILE_FLAGS_CONV_SAT REG_C_CONV_SAT_EVENTS

/-- VAT_SAT of a tile, with VAT_LAYER.SAT of the vat region (R92). -/
def State.setVatSat (s : State) (r t vreg : Nat) : State :=
  (s.setFlag r t REG_TILE_FLAGS_VAT_SAT REG_C_VAT_SAT_EVENTS).wr (regPage r) REG_VAT_LAYER_SAT 1 vreg

/-- Run an action only when a condition holds. -/
def State.iff (s : State) (b : Bool) (f : State → State) : State := if b then f s else s

/-- The flags that a run of binary32 operations set (R100). -/
def State.setFAcc (s : State) (r : Nat) (d : Bool) (t : Nat) (a : FAcc) : State :=
  (s.iff a.sat (·.setConvSat r t)).iff a.nonfin (·.setNonfinite r d t)

/-- The tiles of a region whose TILE_FLAGS entry is listed: every tile with a flag set is among them. -/
def State.flaggedTiles (s : State) (r : Nat) : List Nat :=
  (s.regs.filter fun p => regAddr (regPage r) 0x5000 ≤ p.1 && p.1 < regAddr (regPage r) 0x5800).map
    fun p => (p.1 - regAddr (regPage r) 0x5000) / 8

/-- The tiles whose flag is 1. -/
def State.flagTiles (s : State) (r : Nat) (f : Fld) : List Nat :=
  (s.flaggedTiles r).filter fun t => s.rd (regPage r) f t == 1

/-- The OR of a flag over the tiles: a bit of FLAG_SUMMARY (R93). -/
def State.anyFlag (s : State) (r : Nat) (f : Fld) : Bool := !(s.flagTiles r f).isEmpty

/-- Clear a flag in every tile. -/
def State.clearFlag (s : State) (r : Nat) (f : Fld) : State :=
  (s.flagTiles r f).foldl (fun s t => s.wr (regPage r) f 0 t) s

/-- REGnn.FLAG_SUMMARY as it reads (R93). -/
def State.flagSummary (s : State) (r : Nat) : Nat :=
  (s.flagTiles r REG_TILE_FLAGS_ANCHOR_SAT).length * 2 ^ 16
    + b2n (s.anyFlag r REG_TILE_FLAGS_DEF_NONFINITE) * 32 + b2n (s.anyFlag r REG_TILE_FLAGS_DEF_ANCHOR_SAT) * 16
    + b2n (s.anyFlag r REG_TILE_FLAGS_VAT_SAT) * 8 + b2n (s.anyFlag r REG_TILE_FLAGS_CONV_SAT) * 4
    + b2n (s.anyFlag r REG_TILE_FLAGS_NONFINITE) * 2 + b2n (s.anyFlag r REG_TILE_FLAGS_ANCHOR_SAT)

/-! ### Faults of a region -/

/-- The job slot of a region in a report; 16 for none. -/
def State.jobOf (s : State) (r : Nat) : Nat := (s.slotOf r).getD 16

/-- Report a fault of a class on a page (R327). -/
def State.reportOn (s : State) (cls : FaultClass) (unit page : Nat) (f : Fld) (job : Nat := 16) (sub : Nat := 0) : State :=
  s.report { cls := cls, unit := unit, sub := sub, job := job, page := page, code := f.lo, count := s.tb.count }

/-- A tile fault: the ERR_STATUS bit, TILE_FLAGS.ERR and the TILE report (R79). -/
def State.tileFault (s : State) (r t : Nat) (f : Fld) : State :=
  ((s.raiseErr (regPage r) f).wr (regPage r) REG_TILE_FLAGS_ERR 1 t).reportOn .tile r (regPage r) f (s.jobOf r) t

/-- REGnn.SEQ_STATUS.STATE (R127). -/
def State.seqState (s : State) (r : Nat) : Nat := s.rd (regPage r) REG_SEQ_STATUS_STATE

/-- Change REGnn.SEQ_STATUS.STATE. -/
def State.setSeqState (s : State) (r v : Nat) : State := s.wr (regPage r) REG_SEQ_STATUS_STATE v

/-- Stop a region at a command: FAULT_INFO and HALTED (R129). -/
def State.haltAt (s : State) (r : Nat) (d : Bool) (ix code : Nat) : State :=
  (s.wrs (regPage r) [(REG_FAULT_INFO_PC, ix), (REG_FAULT_INFO_DEFERRED, b2n d), (REG_FAULT_INFO_CODE, code)]).setSeqState r 10

/-- A program fault of a region's command: the ERR_STATUS bit, FAULT_INFO, HALTED and the PROGRAM report (R129). -/
def State.progFault (s : State) (r : Nat) (d : Bool) (ix : Nat) (f : Fld) : State :=
  ((s.haltAt r d ix f.lo).raiseErr (regPage r) f).reportOn .program r (regPage r) f (s.jobOf r)

/-- A program fault of the cave controller: LAST_FAULT as well (R211). FAULT_INFO.CODE holds the CAVE bit's number
(DEDUCED, log 12). -/
def State.caveFault (s : State) (r : Nat) (d : Bool) (ix : Nat) (f : Fld) (mb sid layer : Nat) : State :=
  let s := s.wrs pCAVE [(CAVE_LAST_FAULT_REGION, r), (CAVE_LAST_FAULT_CODE, f.lo), (CAVE_LAST_FAULT_MB, mb),
    (CAVE_LAST_FAULT_SID, sid), (CAVE_LAST_FAULT_LAYER, layer)]
  ((s.haltAt r d ix f.lo).raiseErr pCAVE f).reportOn .program r pCAVE f (s.jobOf r)

/-- ENTRY_UE: an uncorrectable line under a cave entry, a recompute buffer (`sub` 0) or a hold image (`sub` 1), reported as a
failure of the stack (R211; log 155). -/
def State.entryUe (s : State) (slot site sub : Nat) : State :=
  (s.raiseErr pCAVE CAVE_ERR_STATUS_ENTRY_UE).reportOn .stack site pCAVE CAVE_ERR_STATUS_ENTRY_UE slot sub

/-- An anchor fault: ANCHOR_FAULT, its counter, RECOVER and the ANCHOR report (R133). -/
def State.anchorFault (s : State) (r : Nat) (d : Bool) (ix : Nat) : State :=
  let s := (s.haltAt r d ix REG_ERR_STATUS_ANCHOR_FAULT.lo).setSeqState r 9
  ((s.raiseErr (regPage r) REG_ERR_STATUS_ANCHOR_FAULT).bump (regPage r) REG_C_ANCHOR_FAULTS).reportOn .anchor r
    (regPage r) REG_ERR_STATUS_ANCHOR_FAULT (s.jobOf r)

/-! ### Where a command stands -/

/-- Where a command that has issued stands: region, stream, index, and the micro-batch it counts for (R119, R201). -/
structure At where
  r : Nat
  d : Bool
  ix : Nat
  mb : Nat
  inRec : Bool
  deriving DecidableEq, Repr

/-- The span of a stream. -/
def Seq.span (q : Seq) (d : Bool) : Span := if d then q.dfr else q.main

/-- Replace the span of a stream. -/
def Seq.setSpan (q : Seq) (d : Bool) (p : Span) : Seq := if d then { q with dfr := p } else { q with main := p }

/-! ### Digests (R346) -/

/-- Add the record of one row to a region's digests; the rows of a recompute sequence form none (DEDUCED, log 13). -/
def State.addDigest (s : State) (a : At) (tile row : Nat) (b : List Byte) : State :=
  if a.inRec then s
  else
    let rec8 := leBytes 1 (b2n a.d) ++ leBytes 3 a.ix ++ leBytes 1 tile ++ leBytes 1 row ++ leBytes 1 a.mb ++ leBytes 1 0
    let h := crc64 (rec8 ++ b)
    let q := s.seq a.r
    s.setSeq a.r { q with digestStep := q.digestStep + h, digestSeg := if a.d then q.digestSeg else q.digestSeg + h }

/-! ### Vat addends (R109–R111, R114, R115) -/

/-- One addend on its way to the vat: tile, entry, value, and whether its accumulation had overflowed. -/
structure VatIn where
  tile : Nat
  entry : Nat
  val : Dy
  ovf : Bool
  deriving DecidableEq, Repr

/-- V + 8 × RAISE of a vat region (R109). -/
def State.vatAnchor (s : State) (r vreg : Nat) : Int :=
  sgn 8 (s.rd (regPage r) REG_VAT_REGION_V vreg) + 8 * (s.rd (regPage r) REG_VAT_REGION_RAISE vreg : Int)

/-- Whether entry e lies in vat region vreg while it is valid (R110). -/
def State.vatInside (s : State) (r vreg e : Nat) : Bool :=
  let b := s.rd (regPage r) REG_VAT_REGION_BASE vreg
  s.rd (regPage r) REG_VAT_REGION_VALID vreg == 1 && decide (b ≤ e)
    && decide (e < b + s.rd (regPage r) REG_VAT_REGION_LENGTH vreg)

/-- Add one addend: u of R110 added or subtracted (R64). A second addend of one micro-batch leaves a free value, whatever other
micro-batches added between the two (R111); an entry cleared since, or the next step attempt, takes the micro-batch afresh
(DEDUCED, log 156). -/
def State.vatAdd1 (s : State) (a : At) (vreg : Nat) (neg : Bool) (x : VatIn) : State × Int :=
  let (u, clamped) := vatAddend x.val (s.vatAnchor a.r vreg)
  let s := s.iff (clamped && !x.ovf) (·.setVatSat a.r x.tile vreg)
  let u := if neg then -u else u
  let k := x.tile * vatSize + x.entry
  let before := tabGet (fun _ => 0) (s.tileMem a.r).vatMb k
  let s :=
    if before.testBit a.mb then
      { s with free := s.free + 1 }.setVat a.r x.tile x.entry (Config.freeVat s.free).toInt
    else s.setVat a.r x.tile x.entry (s.vatEntry a.r x.tile x.entry + u)
  let s := s.setVatMb a.r x.tile x.entry (Nat.lor before (2 ^ a.mb))
  let q := s.seq a.r
  let p := q.span a.d
  (s.setSeq a.r (q.setSpan a.d { p with vatLog := ⟨x.tile, x.entry, u, before⟩ :: p.vatLog }), u)

/-- TILE_FLAGS.ERR of the tiles that raised a bit of ERR_STATUS [23:16] (R116). -/
def State.tileErrs (s : State) (r : Nat) (ts : List Nat) : State :=
  ts.foldl (fun s t => s.wr (regPage r) REG_TILE_FLAGS_ERR 1 t) s

/-- Accumulate addends, in rows of one digest record each: a region at COUNT 128 discards them with VAT_OVERCOUNT, an entry
outside the region sets VAT_RANGE (R110, R111); either is a program fault, reported once, with ERR of the tiles that raised it
(R116). -/
def State.vatAccumulate (s : State) (a : At) (vreg : Nat) (neg : Bool) (rows : List (Nat × Nat × List VatIn)) : State :=
  if s.rd (regPage a.r) REG_VAT_REGION_COUNT vreg = 128 && s.rd (regPage a.r) REG_VAT_REGION_VALID vreg == 1 then
    (s.progFault a.r a.d a.ix REG_ERR_STATUS_VAT_OVERCOUNT).tileErrs a.r (rows.map (·.1))
  else
    let bad := (rows.filter fun p => p.2.2.any fun x => !s.vatInside a.r vreg x.entry).map (·.1)
    let q := s.seq a.r
    let p := q.span a.d
    let q := { q with cuts := q.cuts.map fun (k : Cut) => { k with vat := true } }
    let s := s.setSeq a.r (q.setSpan a.d { p with vregs := if p.vregs.contains vreg then p.vregs else vreg :: p.vregs })
    let s := rows.foldl (fun s p =>
      let (s, us) := (p.2.2.filter fun x => s.vatInside a.r vreg x.entry).foldl
        (fun (su : State × List Byte) x => let (s, u) := su.1.vatAdd1 a vreg neg x; (s, su.2 ++ leBytes 4 (wrap 32 u))) (s, [])
      s.iff (!us.isEmpty) (·.addDigest a p.1 p.2.1 us)) s
    if bad.isEmpty then s else (s.progFault a.r a.d a.ix REG_ERR_STATUS_VAT_RANGE).tileErrs a.r bad

/-- Subtract logged addends again, newest first, and put back the micro-batch marks (R114, R134). -/
def State.vatReverse (s : State) (r : Nat) (l : List VatAdd) : State :=
  l.foldl (fun s x => (s.setVat r x.tile x.entry (s.vatEntry r x.tile x.entry - x.delta)).setVatMb r x.tile x.entry x.mbBefore) s

end Sys2Proof.Machine
end

