-- ==== Sys2Proof/Machine/Packets.lean ====
section
/-! DEFINITION. The packets of the wafer fabric: the region grid, route words (R307), virtual channels (R308), credits, input
buffers and wormhole grants (R309), arbitration (R310), endpoints (R312, R313), the legs of a route (R314), the switch to the
detour channel (R318) and movement on it (R320). One idle nanosecond is one fabric cycle. The packets that the model sends are
those of the fabric's own transfers, of fences and of weight segments and CE contributions; what a packet's data does is the
effect of the command that sends or delivers it (DESIGN CHOICE, log 173). -/

namespace Sys2Proof.Machine

/-! ### The region grid (R12) -/

/-- The position (column, row) of a region index. -/
def regionPos (i : Nat) : Nat × Nat :=
  if i < 12 then (2 + i % 6, i / 6)
  else if i < 72 then ((i - 12) % 10, 2 + (i - 12) / 10)
  else (2 + (i - 72) % 6, 8 + (i - 72) / 6)

/-- Whether a position holds a region. -/
def posPresent (c r : Nat) : Bool :=
  decide (c < 10) && decide (r < 10) && !((c < 2 || c ≥ 8) && (r < 2 || r ≥ 8))

/-- The region index at a position. -/
def regionAt (c r : Nat) : Option Nat :=
  if !posPresent c r then none
  else some (if r < 2 then 6 * r + c - 2 else if r < 8 then 12 + 10 * (r - 2) + c else 72 + 6 * (r - 8) + c - 2)

/-- The neighbour of a region at side 0 N, 1 E, 2 S, 3 W. -/
def neighbour (i side : Nat) : Option Nat :=
  let (c, r) := regionPos i
  match side with
  | 0 => if r = 0 then none else regionAt c (r - 1)
  | 1 => regionAt (c + 1) r
  | 2 => regionAt c (r + 1)
  | _ => if c = 0 then none else regionAt (c - 1) r

/-! ### Routes, bypassed regions, attachments (R314, R318, R322) -/

/-- Entry 84s + d of a route bank. -/
def State.routeEntry (s : State) (bank e : Nat) : Nat :=
  let f := if bank = 0 then FAB_ROUTE_BANK0_WORD else FAB_ROUTE_BANK1_WORD
  bits (s.rd pFAB f (e / 8)) (8 * (e % 8) + 7) (8 * (e % 8))

/-- Whether a region is bypassed (FAB.BYPASS). -/
def State.bypassed (s : State) (r : Nat) : Bool := bit (s.rd pFAB FAB_BYPASS_REGIONS (r / 64)) (r % 64)

/-- EXIT of entry 84a + d of the detour table (R319). -/
def State.detourTo (s : State) (a d : Nat) : Nat :=
  let e := 84 * a + d
  bits (s.rd pFAB ⟨0x5000, 63, 0, 8⟩ (e / 8)) (8 * (e % 8) + 2) (8 * (e % 8))

/-- The region in which the tile (X, Y) lies. -/
def regionOfTile (x y : Nat) : Option Nat := regionAt (x / 17) (y / 16)

/-- Whether attachment e can be reached through its primary or its secondary region (R322). -/
def State.attachReached (s : State) (e : Nat) (primary : Bool) : Bool :=
  let v := (Config.attach e).toNat
  let r := if primary then regionOfTile (bits v 15 8) (bits v 23 16) else regionOfTile (bits v 31 24) (bits v 39 32)
  match r with | some r => !s.bypassed r | none => false

/-- FAB.ATTACH.USING of entry e: 0 primary, 1 secondary, 2 unreachable (R322). -/
def State.attachUsing (s : State) (e : Nat) : Nat :=
  if (Config.attach e).toNat = 0 then 0 else if s.attachReached e true then 0 else if s.attachReached e false then 1 else 2

/-- The physical column of a tile of a report: a logical tile, or the tile of physical column 16 in row t − 256. -/
def State.physCol (s : State) (r t : Nat) : Nat :=
  if 256 ≤ t then 16
  else
    let x := t % 16
    if s.rd (regPage r) REG_TILE_MAP_SHIFTED = 1 ∧ s.rd (regPage r) REG_TILE_MAP_FAILED_COL ≤ x then x + 1 else x

/-- The entry of FAB.ATTACH for a unit. -/
def unitEntry (kind index : Nat) : Option Nat :=
  (List.range 128).find? fun e => bits (Config.attach e).toNat 63 56 == kind && bits (Config.attach e).toNat 55 48 == index

/-- Where a place lies in global coordinates (R305), with its EP; a unit's tile depends on SRC_X, and none is left when both its
attachments are bypassed (R322). -/
def State.locate (s : State) (srcX : Nat) : Place → Option (Nat × Nat × Nat)
  | .tile r t => if s.bypassed r then none else some (17 * (regionPos r).1 + s.physCol r t, 16 * (regionPos r).2 + t / 16 % 16, 0)
  | .unit k i => match unitEntry k i with
    | none => none
    | some e =>
      let v := (Config.attach e).toNat
      let w := srcX % bits v 47 44
      match s.attachUsing e with
      | 0 => some (bits v 15 8 + w, bits v 23 16, 1)
      | 1 => some (bits v 31 24 + w, bits v 39 32, 1)
      | _ => none

/-- The entry of FAB.ATTACH to which a tile belongs. -/
def attachOf (x y : Nat) : Option Nat :=
  (List.range 128).find? fun e =>
    let v := (Config.attach e).toNat
    let w := bits v 47 44
    v != 0 && ((y == bits v 23 16 && decide (bits v 15 8 ≤ x) && decide (x < bits v 15 8 + w))
      || (y == bits v 39 32 && decide (bits v 31 24 ≤ x) && decide (x < bits v 31 24 + w)))

/-! ### The route word (R307) -/

/-- The 8-byte route word of a head flit. -/
def Packet.word (p : Packet) : Nat :=
  p.dstX + 2 ^ 8 * p.dstY + 2 ^ 16 * p.srcX + 2 ^ 24 * p.srcY + 2 ^ 32 * p.vc + 2 ^ 35 * b2n p.detour + 2 ^ 36 * p.cls
    + 2 ^ 38 * p.mid + 2 ^ 42 * p.flits + 2 ^ 49 * p.job + 2 ^ 56 * p.ep

/-- Flits of a packet with a payload of n bytes: 224 bytes in the head flit, 256 in each body flit (R307). -/
def packetFlits (n : Nat) : Nat := 1 + (n - 224 + 255) / 256

/-- The channel that a packet is on: channel 4 once it has switched (R308). -/
def Packet.chan (p : Packet) : Nat := if p.detour then 4 else p.vc

/-- Hand a packet to the fabric. -/
def State.offer (s : State) (o : Offer) : State := { s with net := { s.net with queue := s.net.queue ++ [o] } }

/-! ### Input buffers and credits (R308, R309) -/

/-- Flit places of an input buffer of a channel (R308). -/
def vcPlaces (c : Nat) : Nat := if c < 2 then 8 else 16

/-- The quantum of a channel in flits (R310). -/
def State.quantum (s : State) (c : Nat) : Nat := 8 * bits (s.getReg (regAddr pFAB 0x800)).toNat (8 * c + 7) (8 * c)

/-- The number of a tile, and the key of one of its input buffers. -/
def tileKey (x y : Nat) : Nat := 170 * y + x
def bufKey (x y side c : Nat) : Nat := 25 * tileKey x y + 5 * side + c

/-- The flits in an input buffer, oldest first. -/
def Net.buf (n : Net) (k : Nat) : List Flit := tabGet (fun _ => []) n.bufs k

/-- Replace the flits of an input buffer. -/
def Net.setBuf (n : Net) (k : Nat) (l : List Flit) : Net := { n with bufs := tabSet (fun _ => []) n.bufs k l }

/-- The credit counter toward an input buffer: its flit places less the credits in use. -/
def Net.credit (n : Net) (k : Nat) : Nat := vcPlaces (k % 5) - tabGet (fun _ => 0) n.used k

/-- Use credits toward an input buffer, or give them back. -/
def Net.useCredit (n : Net) (k : Nat) : Net := { n with used := tabSet (fun _ => 0) n.used k (tabGet (fun _ => 0) n.used k + 1) }
def Net.giveCredit (n : Net) (k c : Nat) : Net := { n with used := tabSet (fun _ => 0) n.used k (tabGet (fun _ => 0) n.used k - c) }

/-- Put a flit into an input buffer, using a credit. -/
def Net.push (n : Net) (k : Nat) (f : Flit) : Net := (n.setBuf k (n.buf k ++ [f])).useCredit k

/-- Take the oldest flit out of an input buffer: its credit is back 2 cycles later. -/
def Net.pop (n : Net) (k : Nat) : Net :=
  let n := n.setBuf k (n.buf k).tail
  { n with returns := n.returns ++ [(n.now + 2, k)] }

/-- The credits whose time has come are back. -/
def Net.takeReturns (n : Net) : Net :=
  let (now, rest) := n.returns.partition fun p => decide (p.1 ≤ n.now)
  now.foldl (fun n p => n.giveCredit p.2 1) { n with returns := rest }

/-- The packet of a number. -/
def Net.pkt (n : Net) (id : Nat) : Option Packet := n.packets.find? fun p => p.id == id

/-- Replace a packet. -/
def Net.setPkt (n : Net) (p : Packet) : Net := { n with packets := n.packets.map fun q => if q.id = p.id then p else q }

/-- A router output. -/
def Net.outAt (n : Net) (k : Nat) : OutSt := tabGet (fun _ => {}) n.outs k

/-- Replace a router output. -/
def Net.setOut (n : Net) (k : Nat) (o : OutSt) : Net := { n with outs := tabSet (fun _ => ({} : OutSt)) n.outs k o }

/-! ### Endpoints (R312, R313) -/

/-- An endpoint's credit is back. -/
def Net.freeHeld (n : Net) (e : Option Nat) : Net :=
  match e with
  | none => n
  | some k => { n with held := tabSet (fun _ => 0) n.held k (tabGet (fun _ => 0) n.held k - 1) }

/-- Take a packet out of the fabric with its flits, the grants and credits it uses. -/
def Net.discard (n : Net) (p : Packet) : Net :=
  let n := (n.bufs.map (·.1)).foldl (fun (n : Net) k =>
    let l := n.buf k
    let rest := l.filter fun f => f.pkt != p.id
    (n.setBuf k rest).giveCredit k (l.length - rest.length)) n
  let outs := n.outs.map fun e => (e.1, { e.2 with grants := e.2.grants.filter fun g => g.2.2 != p.id })
  let n := { n with outs := outs.filter fun e => e.2 != ({} : OutSt), packets := n.packets.filter fun q => q.id != p.id }
  (n.freeHeld p.uses).freeHeld p.gives

/-- Discard a packet and count it. -/
def State.discard (s : State) (p : Packet) (counter : Fld) : State :=
  ({ s with net := s.net.discard p } : State).bump pFAB counter

/-- Whether a tile endpoint drops what reaches it: its region is not ACTIVE, or its column is fenced (R306). -/
def State.endDrops (s : State) (r x : Nat) : Bool :=
  let px := x % 17
  s.regionState r != 0 || (s.rd (regPage r) REG_TILE_MAP_SHIFTED == 1 && s.rd (regPage r) REG_TILE_MAP_FAILED_COL == px)
    || (s.rd (regPage r) REG_TILE_MAP_SPARE_LOST == 1 && px == 16)

/-- Whether an attached unit has state for a job slot (R313): an engine for the slots that hold one of its ports, another unit
for every slot that holds a job (DESIGN CHOICE, log 173). -/
def State.unitServes (s : State) (e slot : Nat) : Bool :=
  let v := (Config.attach e).toNat
  if bits v 63 56 = 2 then
    (List.range 4).any fun k => s.rd pDOCK DOCK_PORT_HELD (4 * bits v 55 48 + k) == 1 && s.rd pDOCK DOCK_PORT_SLOT (4 * bits v 55 48 + k) == slot
  else decide (slot < 16) && s.rd pDOCK DOCK_JOB_STATE slot != 0

/-- The counter of a packet that its endpoint discards: INACTIVE_DROPS (R312) or XJOB_DROPS (R313). -/
def State.endDiscards (s : State) (p : Packet) : Option Fld :=
  if p.ep = 1 then
    match attachOf p.dstX p.dstY with
    | none => some FAB_C_INACTIVE_DROPS
    | some e => if p.job = 31 || s.unitServes e p.job then none else some FAB_C_XJOB_DROPS
  else match regionOfTile p.dstX p.dstY with
    | none => some FAB_C_INACTIVE_DROPS
    | some r =>
      if s.endDrops r p.dstX then some FAB_C_INACTIVE_DROPS
      else if s.slotOf r = some p.job then none else some FAB_C_XJOB_DROPS

/-- Add a packet between two tiles: CLASS and MID come from the active route table at injection (R314). -/
def State.inject (s : State) (p : Packet) : State :=
  let a := (regionOfTile p.srcX p.srcY).getD 0
  let e := s.routeEntry (s.rd pFAB FAB_STATUS_ACTIVE_BANK) (84 * a + (regionOfTile p.dstX p.dstY).getD 0)
  let n := s.net
  let p := { p with id := n.next, cls := e % 4, mid := bits e 5 2, trail := [a] }
  { s with net := { n with packets := n.packets ++ [p], next := n.next + 1 } }

/-- A packet has reached its endpoint, which sinks it: it is accepted or discarded, and the credit it used goes back to its
sender on the response channel (R312, R313). -/
def State.sink (s : State) (p : Packet) : State :=
  let s := match s.endDiscards p with
    | some c => s.bump pFAB c
    | none => s
  let s : State := { s with net := { s.net with packets := s.net.packets.filter fun q => q.id != p.id } }
  let s : State := { s with net := s.net.freeHeld p.gives }
  match p.uses with
  | none => s
  | some k => s.inject {
      id := 0, dstX := p.srcX, dstY := p.srcY, srcX := p.dstX, srcY := p.dstY, vc := 1, cls := 0, mid := 0, flits := 1,
      job := p.job, ep := p.srcEp, srcEp := p.ep, gives := some k }

/-! ### Injection (R312) -/

/-- An offered packet enters while its endpoint has a credit for it. One for an attachment or a tile that cannot be reached is
discarded at once, and one whose sender has stopped is gone. -/
def State.enter (s : State) (o : Offer) : State :=
  match s.locate 0 o.src with
  | none => s
  | some (x, y, ep) => match s.locate x o.dst with
    | none => s.bump pFAB FAB_C_INACTIVE_DROPS
    | some (dx, dy, dep) =>
      let k := 2 * tileKey dx dy + dep
      let n := s.net
      let held := tabGet (fun _ => 0) n.held k
      if held ≤ Config.endpointRoom k then
        ({ s with net := { n with held := tabSet (fun _ => 0) n.held k (held + 1) } } : State).inject {
            id := 0, dstX := dx, dstY := dy, srcX := x, srcY := y, vc := o.vc, cls := 0, mid := 0, flits := packetFlits o.bytes,
            job := o.job, ep := dep, srcEp := ep, uses := some k }
      else s.offer o

/-- Every offered packet is tried once, in order. -/
def State.enterAll (s : State) : State :=
  s.net.queue.foldl (fun s o => s.enter o) { s with net := { s.net with queue := [] } }

/-- One flit of each packet that is being injected enters the endpoint's input buffer: of one tile and channel, a packet after
those before it. -/
def Net.injectFlits (n : Net) : Net :=
  let key := fun (p : Packet) => bufKey p.srcX p.srcY 4 p.vc
  let (n, _) := (n.packets.filter fun p => decide (p.sent < p.flits)).foldl (fun (acc : Net × List Nat) p =>
    let (n, busy) := acc
    if busy.contains (key p) then (n, busy)
    else if n.credit (key p) = 0 then (n, key p :: busy)
    else ((n.push (key p) ⟨p.id, p.sent, n.now⟩).setPkt { p with sent := p.sent + 1 }, key p :: busy)) (n, [])
  n

/-! ### Where a head goes next (R314, R318, R320) -/

/-- What becomes of a head at a tile: it goes on by a side (4: the tile's endpoint) in a leg of its route, waits, switches to
channel 4, or is discarded with its packet under a counter. -/
inductive Hop where
  | go (side leg : Nat)
  | wait
  | switch
  | drop (counter : Fld)
  deriving DecidableEq, Repr

/-- The legs of a packet as (along X, coordinate to reach) (R314). -/
def Packet.goals (p : Packet) : List (Bool × Nat) :=
  match p.cls with
  | 0 => [(true, p.dstX), (false, p.dstY)]
  | 1 => [(false, p.dstY), (true, p.dstX)]
  | 2 => [(false, 16 * p.mid + p.dstY % 16), (true, p.dstX), (false, p.dstY)]
  | _ => [(true, 17 * p.mid + p.dstX % 17), (false, p.dstY), (true, p.dstX)]

/-- The first leg from the k-th on that is not at its end, with the side it runs to; side 4 when all are. -/
def legFrom (x y : Nat) : List (Bool × Nat) → Nat → Nat × Nat
  | [], k => (k, 4)
  | (alongX, g) :: rest, k =>
    let c := if alongX then x else y
    if c = g then legFrom x y rest (k + 1)
    else (k, if alongX then (if c < g then 1 else 3) else (if c < g then 2 else 0))

/-- The tile beyond a side. -/
def nextTile (x y side : Nat) : Nat × Nat :=
  match side with
  | 0 => (x, y - 1)
  | 1 => (x + 1, y)
  | 2 => (x, y + 1)
  | _ => (x - 1, y)

/-- Whether the tile beyond a side lies in a region that forwards. -/
def State.forwards (s : State) (x y side : Nat) : Bool :=
  match regionOfTile (nextTile x y side).1 (nextTile x y side).2 with
  | some r => !s.bypassed r
  | none => false

/-- What a head does at a tile. -/
def State.hop (s : State) (x y : Nat) (p : Packet) : Hop :=
  match regionOfTile x y, regionOfTile p.dstX p.dstY with
  | some r, some d =>
    if p.detour then
      match s.detourTo r d with
      | 4 => .go (legFrom x y [(true, p.dstX), (false, p.dstY)] 0).2 0
      | 7 => .drop FAB_C_UNREACH_DROPS
      | side => if s.forwards x y side then .go side 0 else .wait
    else
      let (leg, side) := legFrom x y (p.goals.drop p.leg) p.leg
      if side = 4 ∨ s.forwards x y side then .go side leg
      else if s.bypassed d then .drop FAB_C_BYPASS_DISCARDS
      else if s.rd pFAB FAB_STATUS_DETOUR_BUSY = 1 then .wait
      else if s.detourTo r d = 7 then .drop FAB_C_UNREACH_DROPS
      else .switch
  | _, _ => .wait

/-- Whether a flit has been in the router for its 3 cycles (R306). -/
def Net.ready (n : Net) (f : Flit) : Bool := decide (f.at_ + 3 ≤ n.now)

/-- The tile of an input buffer. -/
def keyX (k : Nat) : Nat := k / 25 % 170
def keyY (k : Nat) : Nat := k / 25 / 170

/-- The packet whose head waits at the front of an input buffer. -/
def Net.head (n : Net) (k : Nat) : Option Packet :=
  match n.buf k with
  | f :: _ => if f.ix = 0 && n.ready f then n.pkt f.pkt else none
  | [] => none

/-- A head at the front of an input buffer switches to channel 4 or is discarded where its hop says so (R318, R321). -/
def State.settle (s : State) (k : Nat) : State :=
  match s.net.head k with
  | none => s
  | some p => match s.hop (keyX k) (keyY k) p with
    | .switch => ({ s with net := s.net.setPkt { p with detour := true } } : State).bump pFAB FAB_C_DETOUR_PACKETS
    | .drop c =>
      let s := s.discard p c
      if c = FAB_C_UNREACH_DROPS then s.raiseErr pFAB FAB_ERR_STATUS_UNREACHABLE else s
    | _ => s

/-! ### Outputs (R306, R309, R310) -/

/-- The side through which a neighbour sees what leaves by a side. -/
def facing (side : Nat) : Nat := (side + 2) % 4

/-- Whether an output may send a flit on a channel: it holds a credit, or is the endpoint's. -/
def Net.mayLeave (n : Net) (x y side c : Nat) : Bool :=
  side == 4 || decide (0 < n.credit (bufKey (nextTile x y side).1 (nextTile x y side).2 (facing side) c))

/-- The input buffers of a tile in their turn after one of them. -/
def turnsAfter (t last : Nat) : List Nat := (List.range 25).map fun i => 25 * t + (last + 1 + i) % 25

/-- What an output can send on a channel: the next flit of the packet it has granted, or the head of one that waits, with the
flits that a new packet needs. -/
def State.candidate (s : State) (x y side : Nat) (o : OutSt) (c : Nat) : Option (Nat × Flit × Nat) :=
  let n := s.net
  if !n.mayLeave x y side c then none
  else match o.grants.lookup c with
    | some (k, id) => match n.buf k with
      | f :: _ => if f.pkt = id && n.ready f then some (k, f, 0) else none
      | [] => none
    | none => (turnsAfter (tileKey x y) (tabGet (fun _ => 24) o.last c)).findSome? fun k =>
      match n.head k with
      | none => none
      | some p => match s.hop x y p with
        | .go out _ => if out = side && p.chan == c then (n.buf k).head?.map fun f => (k, f, p.flits) else none
        | _ => none

/-- Deficit round-robin (R310): the channel whose turn it is sends whole packets within its deficit; then the next has its
turn. A channel that cannot move leaves the cycle to the next (DESIGN CHOICE, log 173). -/
def drr (quantum : Nat → Nat) (cand : Nat → Option (Nat × Flit × Nat)) : Nat → OutSt → Option (Nat × Nat × Flit × OutSt)
  | 0, _ => none
  | n + 1, o =>
    let c := o.turn
    match cand c with
    | none =>
      let deficit := if (o.grants.lookup c).isSome then o.deficit else tabSet (fun _ => 0) o.deficit c 0
      drr quantum cand n { o with turn := (c + 1) % 5, fresh := true, deficit := deficit }
    | some (k, f, need) =>
      if need = 0 then some (c, k, f, o)
      else
        let d := tabGet (fun _ => 0) o.deficit c + if o.fresh then quantum c else 0
        if need ≤ d then some (c, k, f, { o with deficit := tabSet (fun _ => 0) o.deficit c (d - need), fresh := false })
        else drr quantum cand n { o with turn := (c + 1) % 5, fresh := true, deficit := tabSet (fun _ => 0) o.deficit c d }

/-- A packet after one of its flits has moved from a tile to the next: its head enters a region, its tail leaves one. -/
def Packet.moved (p : Packet) (f : Flit) (leg a b : Nat) : Packet :=
  let p := if f.ix = 0 then { p with leg := leg, trail := if a = b then p.trail else p.trail ++ [b] } else p
  if f.ix + 1 = p.flits ∧ a ≠ b then { p with trail := p.trail.tail } else p

/-- Send one flit from an input buffer through an output. -/
def State.forwardFlit (s : State) (x y side c k : Nat) (f : Flit) (o : OutSt) : State :=
  match s.net.pkt f.pkt with
  | none => s
  | some p =>
    let tail := f.ix + 1 = p.flits
    let others := o.grants.filter fun g => g.1 != c
    let o := { o with
      grants := if tail then others else (c, k, p.id) :: others
      last := if f.ix = 0 then tabSet (fun _ => 24) o.last c (k % 25) else o.last }
    let n := (s.net.pop k).setOut (5 * tileKey x y + side) o
    if side = 4 then
      let s : State := { s with net := n }
      if tail then s.sink p else s
    else
      let leg := match s.hop x y p with | .go _ leg => leg | _ => p.leg
      let q := nextTile x y side
      let p := p.moved f leg ((regionOfTile x y).getD 0) ((regionOfTile q.1 q.2).getD 0)
      { s with net := (n.setPkt p).push (bufKey q.1 q.2 (facing side) c) { f with at_ := n.now + 1 } }

/-- One cycle of one output. -/
def State.runOutput (s : State) (x y side : Nat) : State :=
  let o := s.net.outAt (5 * tileKey x y + side)
  match drr s.quantum (s.candidate x y side o) 60 o with
  | some (c, k, f, o) => s.forwardFlit x y side c k f o
  | none => s

/-- One fabric cycle: credits come back, offered packets enter, heads settle, every output sends. -/
def State.netCycle (s : State) : State :=
  let s := ({ s with net := s.net.takeReturns } : State).enterAll
  let s : State := { s with net := s.net.injectFlits }
  let keys := s.net.bufs.map (·.1)
  let s := keys.foldl (fun s k => s.settle k) s
  let s := (keys.map (· / 25)).eraseDups.foldl (fun s t =>
    (List.range 5).foldl (fun s side => s.runOutput (t % 170) (t / 170) side) s) s
  { s with net := { s.net with now := s.net.now + 1 } }

/-- The fabric in one nanosecond: nothing happens in it while it is empty. -/
def State.tickNet (s : State) : State :=
  if s.net.queue.isEmpty && s.net.packets.isEmpty && s.net.returns.isEmpty then s
  else { s.netCycle with mem := s.mem, pending := s.pending }

/-! ### Bypass (R321) -/

/-- The routers of the bypassed regions stop: every packet with a flit inside one, or whose head has entered one and whose tail
has not left it, is discarded (R321 event 2). -/
def State.stopRouters (s : State) : State :=
  (s.net.packets.filter fun p => p.trail.any s.bypassed).foldl (fun s p => s.discard p FAB_C_BYPASS_DISCARDS) s

/-- The packets still on channel 4 are discarded (R321 event 4). -/
def State.clearDetour (s : State) : State :=
  (s.net.packets.filter (·.detour)).foldl (fun s p => s.discard p FAB_C_BYPASS_DISCARDS) s

/-- Every packet of a job lands or is discarded (R339 event 4): none of it is left in the fabric or before it. -/
def State.landPackets (s : State) (slot : Nat) : State :=
  let n := (s.net.packets.filter (·.job == slot)).foldl Net.discard s.net
  { s with net := { n with queue := n.queue.filter (·.job != slot) } }

/-- Whether a flit is held on channels 0–3 (R317). -/
def Net.busy (n : Net) : Bool := n.bufs.any fun e => decide (e.1 % 5 < 4) && !e.2.isEmpty

/-! ### The packets of a transfer (R323) -/

/-- The payloads of a packet's worth each: up to 16,384 bytes, and one of none where there are no bytes. -/
def packetPieces (bytes : Nat) : List Nat :=
  if bytes = 0 then [0] else (List.range ((bytes + 16383) / 16384)).map fun k => min 16384 (bytes - 16384 * k)

/-- Send bytes from a place to another on a channel, for a job. -/
def State.sendPackets (s : State) (src dst : Place) (vc bytes job : Nat) : State :=
  (packetPieces bytes).foldl (fun s n => s.offer ⟨src, dst, vc, n, job⟩) s

end Sys2Proof.Machine
end

