-- ==== Sys2Proof/Machine/Operands.lean ====
section
/-! DEFINITION. Command words and the issue of a command (R118–R128, R488, R489): fields, reserved bits, the order of the
issue checks, the scoreboard, the skip of refused micro-batches, spans, and the tile operands that commands name. -/

namespace Sys2Proof

/-- Bits hi…lo of a number, for the words of a command. -/
def wordBits (v hi lo : Nat) : Nat := v / 2 ^ lo % 2 ^ (hi + 1 - lo)

/-- Bits hi…lo of a command word (R119). -/
def Cmd.w (c : Cmd) (k hi lo : Nat) : Nat :=
  wordBits (match k with | 0 => c.w0 | 1 => c.w1 | 2 => c.w2 | _ => c.w3).toNat hi lo

/-- The opcode field (R119). -/
def Cmd.op (c : Cmd) : Nat := c.w 0 7 0

/-- The MB field (R119). -/
def Cmd.mb (c : Cmd) : Nat := c.w 0 15 8

end Sys2Proof

namespace Sys2Proof.Machine

/-! ### Words and fields (R119, R121–R123) -/

/-- The mask that a list of fields covers. -/
def fieldMask (l : List (Nat × Nat)) : Nat := maskOf (l.flatMap fun p => (List.range (p.1 + 1 - p.2)).map (p.2 + ·))

/-- Whether a word has a bit set outside its fields. -/
def strayBits (v : Nat) (l : List (Nat × Nat)) : Bool := Nat.land v (fieldMask l) != v

/-- R119: a reserved bit set, or an MB in 128–254. The fields of word 0 are given without opcode and MB. -/
def malformed (c : Cmd) (f0 f1 f2 f3 : List (Nat × Nat)) : Bool :=
  strayBits c.w0.toNat ((15, 0) :: f0) || strayBits c.w1.toNat f1 || strayBits c.w2.toNat f2 || strayBits c.w3.toNat f3
    || (128 ≤ c.mb && c.mb ≤ 254)

/-- A RECT with X1 < X0 or Y1 < Y0 is refused. -/
def rectBad (rect : Nat) : Bool :=
  decide (bits rect 11 8 < bits rect 3 0) || decide (bits rect 15 12 < bits rect 7 4)

/-- Tiles in a RECT. -/
def rectCount (rect : Nat) : Nat := (rectTiles rect).length

/-- The bytes a range of rows spans: `rows` rows of `n` elements, `ld` bytes apart. -/
def spanBytes (f : Fmt) (bs16 : Bool) (rows n ld : Nat) : Nat :=
  if rows = 0 then 0 else (rows - 1) * ld + rowBytes f bs16 n

/-- R489: a range that would pass byte 0x1F_FFFF. -/
def pastEnd (addr len : Nat) : Bool := sramSize < addr + len

/-- The format a field codes, or BSI8 for the refused value (which is checked apart). -/
def fmtD (n : Nat) : Fmt := (fmtOf n).getD .bsi8

/-- BS16 honoured: SEQ_EXPERT.BS16_EN (R121). -/
def State.bs16En (s : State) (r : Nat) : Bool := s.rd (regPage r) REG_SEQ_EXPERT_BS16_EN == 1

/-! ### The state of issue (R127, R128) -/

/-- The recompute sequence that runs in a region, while it still has commands to issue (R200). -/
def State.recompAt (s : State) (r : Nat) : Option Recomp := (s.cave r).recomp

/-- The window's end conditions (R139). -/
def State.windowEnds (s : State) (r : Nat) (w : Window) : Bool :=
  let q := s.seq r
  let pc := s.rd (regPage r) REG_SEQ_STATUS_DEF_PC
  !q.dfr.opened && (s.cave r).recomp.isNone && decide (w.untilPc ≤ pc) && (pc == q.defRelease || w.budgetOver)

/-- The index of the next command of a stream, if that stream may issue now: RUN or a main replay for the main stream,
WINDOW, until the first boundary at which it ends, or a deferred replay below DEF_RELEASE for the deferred stream (R127, R138,
R139), and the recompute sequence in place of
the stream whose pop waits for it (R200). A disabled page issues nothing (R355). -/
def State.issueIx (s : State) (r : Nat) (d : Bool) : Option Nat :=
  let st := s.seqState r
  let q := s.seq r
  let runs := if d then st == 3 || (st == 7 && q.checkDef) else st == 2 || (st == 7 && !q.checkDef)
  if !(s.on (regPage r)) || !runs then none
  else match s.recompAt r with
    | some rc => if rc.deferred == d && decide (rc.pc < rc.stop) then some rc.pc else none
    | none =>
      if d then
        let ix := s.rd (regPage r) REG_SEQ_STATUS_DEF_PC
        let ended := st == 3 && (match q.window with | some w => s.windowEnds r w | none => false)
        if ix < q.defRelease ∧ !ended then some ix else none
      else some (s.rd (regPage r) REG_SEQ_STATUS_PC)

/-- Advance past the command at the issue point: the recompute index, DEF_PC, or PC with the end of a restore sequence
(R137). -/
def State.advance (s : State) (r : Nat) (d : Bool) : State :=
  match s.recompAt r with
  | some rc => s.setCave r { s.cave r with recomp := some { rc with pc := rc.pc + 1 } }
  | none =>
    if d then s.wr (regPage r) REG_SEQ_STATUS_DEF_PC (s.rd (regPage r) REG_SEQ_STATUS_DEF_PC + 1)
    else
      let pc := s.rd (regPage r) REG_SEQ_STATUS_PC + 1
      match (s.seq r).restore with
      | some (stop, cont) =>
        if pc = stop then (s.setSeq r { s.seq r with restore := none }).wr (regPage r) REG_SEQ_STATUS_PC cont
        else s.wr (regPage r) REG_SEQ_STATUS_PC pc
      | none => s.wr (regPage r) REG_SEQ_STATUS_PC pc

/-- Whether a micro-batch is refused: N is final and m is not below it (R135). -/
def State.refusedMb (s : State) (r m : Nat) : Bool :=
  s.rd (regPage r) REG_STEP_STATUS_FINAL == 1 && decide (s.rd (regPage r) REG_STEP_STATUS_N_CUR ≤ m)

/-- Two byte ranges overlap. -/
def overlaps (a b : Nat × Nat) : Bool := decide (a.1 < b.2) && decide (b.1 < a.2)

/-- The scoreboard holds a command back (R125). -/
def Seq.hazard (q : Seq) (reads writes : List (Nat × Nat)) : Bool :=
  q.outst.any (fun o =>
    o.writes.any (fun w => reads.any (overlaps w) || writes.any (overlaps w)) || o.reads.any (fun x => writes.any (overlaps x)))
  || decide (64 < (q.outst.map fun o => o.reads.length + o.writes.length).sum + reads.length + writes.length)

/-- What the sequencer checks and does for one command: the refusals of R488 in its order, the span and stream columns of
R120, whether an anchor replay issues it again (R134), whether R201 allows it in a recompute sequence, whether it opens a
span (R133), its completion classes (R131), vat region and SRAM ranges, what makes it wait, the disabled block it would be
offered to (R355), the window it needs first (R140, R205), what a VAT_RANGE refusal leaves behind
(R109), the stream context it takes, as (SID, kind)
(R190), and what happens in place of its issue (a pop that faults or meets a DROPPED record, R196, R200). -/
structure Issue where
  badField : Bool
  badOpcode : Bool := false
  badPair : Bool := false
  drainMode : Bool := false
  pairOrder : Bool := false
  inSpan : Bool := true
  inDef : Bool := true
  defOrder : Bool := false
  openMark : Bool := false
  vcfgBusy : Bool := false
  vatRange : Bool := false
  replayed : Bool := true
  inRec : Bool := false
  opens : Bool := false
  cls : Nat := 0
  vreg : Option Nat := none
  reads : List (Nat × Nat) := []
  writes : List (Nat × Nat) := []
  wait : Bool := false
  block : Option Nat := none
  window : Option Nat := none
  onRange : State → State := id
  ctx : Option (Nat × Nat) := none
  instead : Option (At → State → State) := none

/-- The live contexts of a job slot (R190). -/
def State.liveCtx (s : State) (slot : Nat) : Nat := (s.ctxs.filter fun x => x.slot == slot).length

/-- Whether a command that takes a context must wait: its SID is live with another kind, from another region, or with a kind
that no second command joins, or the job has LIMIT live contexts (R190). -/
def State.ctxWaits (s : State) (slot r sid kind : Nat) : Bool :=
  match s.ctxs.find? (fun x => x.slot == slot && x.sid == sid) with
  | some x => !(x.kind == kind && x.region == r && (kind == 2 || kind == 3))
  | none => decide (s.rd pSCT SCT_JOB_LIMIT slot ≤ s.liveCtx slot)

/-- Allocate or join a context (R190). -/
def State.takeCtx (s : State) (slot r sid kind : Nat) (spec : Bool) : State :=
  if s.ctxs.any (fun x => x.slot == slot && x.sid == sid) then
    let l := s.ctxs.map fun x => if x.slot == slot && x.sid == sid then { x with cmds := x.cmds + 1 } else x
    { s with ctxs := l }
  else
    let c : Ctx := ⟨slot, sid, kind, r, spec, 0, s.tb.count, 1⟩
    let s := { s with ctxs := s.ctxs ++ [c] }
    (s.wr pSCT SCT_JOB_LIVE (s.liveCtx slot) slot).bump pSCT SCT_C_ALLOCS

/-- A command that holds a context completes; the context is freed with its last one (R190). -/
def State.dropCtx (s : State) (slot sid : Nat) : State :=
  let l := (s.ctxs.map fun x => if x.slot == slot && x.sid == sid then { x with cmds := x.cmds - 1 } else x).filter (·.cmds != 0)
  let s := { s with ctxs := l }
  s.wr pSCT SCT_JOB_LIVE (s.liveCtx slot) slot

/-- Count bytes moved in a context (SCT.ENTRY.BYTES_DONE). -/
def State.ctxBytes (s : State) (slot sid n : Nat) : State :=
  let l := s.ctxs.map fun x => if x.slot == slot && x.sid == sid then { x with bytes := x.bytes + n } else x
  { s with ctxs := l }

/-- Whether a GEMM waits for its DRAIN: everything else is refused then (R124). -/
def Seq.needsDrain (q : Seq) : Bool := match q.pend with | some p => !p.held | none => false

/-- The first issue check that a command breaks, in the order of R488. A ROW may follow a GEMM with HOLD = 1: R124 asks for a GEMM
with CONT as the next ARRAY command, and R120 classes ROW with the drains (DEDUCED, log 163). -/
def State.refusal (s : State) (r : Nat) (d : Bool) (c : Cmd) (i : Issue) : Option Fld :=
  let q := s.seq r
  let open_ := (q.span d).opened
  let noCtx := i.ctx.isSome && s.rd pSCT SCT_JOB_LIMIT (s.jobOf r) == 0
  (([(i.badOpcode, REG_ERR_STATUS_BAD_OPCODE), (i.badField || noCtx, REG_ERR_STATUS_BAD_FIELD), (i.badPair, REG_ERR_STATUS_BAD_PAIR),
    (i.drainMode, REG_ERR_STATUS_DRAIN_MODE),
    (i.pairOrder || (q.needsDrain && c.op != 0x20), REG_ERR_STATUS_PAIR_ORDER),
    (open_ && !i.inSpan, REG_ERR_STATUS_SPAN_OPEN), ((d && !i.inDef) || i.defOrder, REG_ERR_STATUS_DEF_ORDER),
    (if i.openMark then q.opens.any (fun m => decide (c.mb ≤ m))
      else c.mb != 0xFF && !(q.opens.contains c.mb), REG_ERR_STATUS_MB_ORDER),
    (i.vcfgBusy, REG_ERR_STATUS_VCFG_BUSY), (i.vatRange, REG_ERR_STATUS_VAT_RANGE)] : List (Bool × Fld)).find? (·.1)).map (·.2)

/-- Open the stream's span at a command, with the restore sequence that it issued in (R133, R137); the stream's copies of ANCHOR_SAT and NONFINITE clear (R92). -/
def State.openSpan (s : State) (r : Nat) (d : Bool) (ix : Nat) (restore : Option (Nat × Nat)) : State :=
  let q := s.seq r
  if (q.span d).opened then s
  else
    let att := (q.span d).attempt
    let s := (s.setSeq r (q.setSpan d { opened := true, first := ix, attempt := att, restore := restore })).wr (regPage r)
      (if d then REG_SEQ_STATUS_DEF_SPAN else REG_SEQ_STATUS_SPAN) 1
    (s.clearFlag r (fAnchorSat d)).clearFlag r (fNonfinite d)

/-- Drop the first buffered copy of a command that has issued (R118). -/
def State.unbuffer (s : State) (r : Nat) (d : Bool) (ix : Nat) : State :=
  let q := s.seq r
  let d := d && (s.recompAt r).isNone
  s.setSeq r { q with buffer := q.buffer.eraseP fun e => e.1 == d && e.2.1 == ix }

/-- Start a window with budget 0 that must reach an index, in place of the command that needs it (R140, R205). -/
def State.startWindow (s : State) (r untilPc : Nat) (budgetOver : Bool) : State :=
  (s.setSeq r { s.seq r with window := some ⟨untilPc, budgetOver⟩ }).setSeqState r 3

/-- A command that writes SRAM removes the residency entries it overlaps (R173). -/
def State.dropResident (s : State) (r : Nat) (writes : List (Nat × Nat)) : State :=
  if writes.isEmpty then s
  else
    let w := s.wsp
    let l := (tabGet (fun _ => []) w.resident r).filter fun (e : Resident) => !writes.any (overlaps (e.dst, e.dst + e.bytes))
    { s with wsp := { w with resident := tabSet (fun _ => []) w.resident r l } }

/-- VDRAIN, VCLEAR, COLL, UPD and EPOCH: once one has issued since the cut, no resume at the cut (R338). -/
def vatWork (op : Nat) : Bool := op == 0x23 || op == 0x24 || op == 0x60 || op == 0x70 || op == 0x72

/-- What the issue of a command does before the command's own effect: the stream advances, the command leaves the buffer and
is counted, a span opens, residency entries it overwrites go, the command joins those that are not complete, and it takes
its context. -/
def State.issueNow (s : State) (r : Nat) (d : Bool) (ix op : Nat) (i : Issue) : State :=
  let before := (s.seq r).restore
  let s := (s.advance r d).unbuffer r d ix
  let s := s.bump (regPage r) (if d then REG_C_DEF_ISSUED else REG_C_CMD_ISSUED)
  let s := if i.opens then s.openSpan r d ix before else s
  let s := if op = 0x40 then s else s.dropResident r i.writes
  let q := s.seq r
  let l := q.outst ++ [⟨q.nextId, i.cls, d, i.vreg, i.ctx.map (·.1), i.reads, i.writes⟩]
  let cuts := if vatWork op then q.cuts.map fun (k : Cut) => { k with dirty := true } else q.cuts
  let s := s.setSeq r (if i.cls = 0 then { q with breakSkip := false, cuts := cuts }
    else { q with breakSkip := false, cuts := cuts, nextId := q.nextId + 1, outst := l })
  match i.ctx with | some (sid, k) => s.takeCtx (s.jobOf r) r sid k false | none => s

/-- A command that a recompute sequence may not hold (R201): LAST_FAULT names it where it is a push or a pop, else the pop that the
sequence serves. -/
def State.recompRefused (s : State) (r : Nat) (d : Bool) (ix : Nat) (c : Cmd) (mb : Nat) : State :=
  let n := match s.recompAt r with | some rc => if c.op = 0x30 ∨ c.op = 0x31 then c else rc.cmd | none => c
  s.caveFault r d ix CAVE_ERR_STATUS_RECOMP_FAIL mb (n.w 2 31 16) (n.w 1 47 32)

/-- Whether the command buffer lets a command issue: its fetch has not failed, and a copy fetched ahead is this very command
(R118). The commands of a recompute sequence stand in the main stream (R200). -/
def State.fetchedOk (s : State) (r : Nat) (d : Bool) (ix : Nat) (c : Cmd) : Bool :=
  let q := s.seq r
  let d := d && (s.recompAt r).isNone
  !q.failed.contains (d, ix) && (match q.buffer.find? fun e => e.1 == d && e.2.1 == ix with
    | some e => e.2.2 == c
    | none => true)

/-- Issue one command of a region's stream (R118, R124–R128, R488). Where it cannot issue now it stays the next command of its
stream and only its wait is counted. -/
def State.issue (s : State) (r : Nat) (d : Bool) (c : Cmd) (op : Nat) (i : Issue) (eff : At → State → State) : State :=
  match s.issueIx r d with
  | none => s
  | some ix =>
    if c.op ≠ op ∨ !s.fetchedOk r d ix c then s
    else
      let inRec := (s.recompAt r).isSome
      let q := s.seq r
      if !d && decide (s.rd (regPage r) REG_SEQ_LEN_MAIN_LEN ≤ ix) then s.progFault r d ix REG_ERR_STATUS_STREAM_END
      else if !d && !inRec && s.rd (regPage r) REG_SEQ_EXPERT_BREAK_EN == 1
          && s.rd (regPage r) REG_SEQ_EXPERT_BREAK_PC == ix && !q.breakSkip then
        s.haltAt r d ix 0x10
      else if !i.openMark && c.mb != 0xFF && q.opens.contains c.mb && s.refusedMb r c.mb then
        ((s.advance r d).unbuffer r d ix).bump (regPage r) REG_C_MB_SKIPPED
      else match s.refusal r d c i with
        | some f => (if f = REG_ERR_STATUS_VAT_RANGE then i.onRange s else s).progFault r d ix f
        | none =>
          let mb := match s.recompAt r with | some rc => rc.mb | none => c.mb
          if inRec && (!i.inRec || c.mb != 0xFF) then s.recompRefused r d ix c mb
          else if s.seqState r = 7 && !i.replayed then (s.advance r d).unbuffer r d ix
          else if i.wait || s.wsp.binds.any (fun b => b.region == r) || (match i.block with | some p => !s.on p | none => false) then s
          else if (match i.ctx with | some (sid, k) => s.ctxWaits (s.jobOf r) r sid k | none => false) then
            s.bump pSCT SCT_C_CTX_WAITS
          else if q.hazard i.reads i.writes then s.bump (regPage r) REG_C_SCOREBOARD_STALLS
          else match i.window with
            | some u => s.startWindow r u true
            | none => match i.instead with
            | some f => f ⟨r, d, ix, mb, inRec⟩ s
            | none => eff ⟨r, d, ix, mb, inRec⟩ (s.issueNow r d ix op i)

/-- The issue checks of EPOCH, which the block that runs it takes (R123). -/
def epochIssue (c : Cmd) (page : Nat) : Issue :=
  { badField := malformed c [(17, 16), (47, 32)] [(32, 0)] [] [] || decide (1 < c.w 0 17 16), inSpan := false, inDef := false,
    block := some page }

/-- The id of the command that has just issued. -/
def State.lastId (s : State) (r : Nat) : Nat := (s.seq r).nextId - 1

/-! ### Fences (R130–R132) -/

/-- Whether every earlier command in the WAIT classes has completed (R130, R131). -/
def Seq.waitMet (q : Seq) (wait : Nat) : Bool := q.outst.all fun o => Nat.land o.cls wait == 0

/-- The participants other than the region itself. -/
def fencePeers (parts self : Nat) : List Nat := (maskList 80 parts).filter (· != self)

/-- An arrival that a region waiting at a fence must not see: a participant of its set at another fence or set (R132). -/
def FenceAt.clash (f : FenceAt) (self : Nat) (a : Arrival) : Bool :=
  (fencePeers f.parts self).contains a.peer && (a.fid != f.fid || a.parts != f.parts)

/-- Move a region's fence on: meet condition 1, tell the other participants, release once all of them have met it; a
mismatch sets FENCE_MISMATCH and releases nothing (R130, R132). -/
def State.tryFence (s : State) (r : Nat) : State :=
  let q := s.seq r
  match q.fenceAt with
  | none => s
  | some f =>
    if s.seqState r ≠ 4 then s
    else
      let self := s.logical r
      let peers := fencePeers f.parts self
      let now := !f.met && q.waitMet f.wait
      let s := if now then peers.foldl (fun s p =>
        (s.emit (.wafer 1 self p f.fid)).sendPackets (.tile r 0) (.tile ((s.playing (s.jobOf r) p).getD r) 0) 0 0 (s.jobOf r)) s else s
      let f := { f with met := f.met || now }
      let s := s.setSeq r { s.seq r with fenceAt := some f }
      if q.arrivals.any (f.clash self) then s.raiseErr (regPage r) REG_ERR_STATUS_FENCE_MISMATCH
      else if f.met && peers.all (fun p => q.arrivals.contains ⟨p, f.fid, f.parts⟩) then
        let rest := peers.foldl (fun l p => l.erase ⟨p, f.fid, f.parts⟩) q.arrivals
        (s.setSeq r { s.seq r with fenceAt := none, arrivals := rest }).setSeqState r f.back
      else s

/-- End the classes of a mask for an issued command; it has completed when none is left (R131). -/
def State.finish (s : State) (r id mask : Nat) : State :=
  let q := s.seq r
  let l := q.outst.map fun o => if o.id = id then { o with cls := Nat.land o.cls (127 - mask % 128) } else o
  let done := (l.filter (·.cls == 0)).filterMap (·.sid)
  (done.foldl (fun s sid => s.dropCtx (s.jobOf r) sid) (s.setSeq r { q with outst := l.filter (·.cls != 0) })).tryFence r

/-! ### Tile operands (R82, R90) -/

/-- One operand element for the array; none for a non-finite bfloat16 (R57). -/
def opndElem (f : Fmt) (bs16 : Bool) (row : List Byte) (i : Nat) : Option Opnd :=
  let n := blockElems f bs16
  let blk := row.drop (i / n * blockBytes f bs16)
  match f with
  | .bsi8 => let (m, x) := bsi8Elem blk (i % n); some ⟨m, x, f⟩
  | .bsi4 => let (m, x) := bsi4Elem blk (i % n); some ⟨m, x, f⟩
  | .bf16 | .f32 => (bf16Elem (leAt blk 0 2)).map fun p => ⟨p.1, p.2, f⟩

/-- The stored rows of an operand in one tile. -/
def State.readRows (s : State) (r t : Nat) (f : Fmt) (bs16 : Bool) (addr ld rows cols : Nat) : List (List (Option Opnd)) :=
  (List.range rows).map fun i =>
    let row := s.sramRead r t (addr + i * ld) (rowBytes f bs16 cols)
    (List.range cols).map (opndElem f bs16 row)

/-- Column j of stored rows: what the press delivers (R89). -/
def column (m : List (List (Option Opnd))) (j : Nat) : List (Option Opnd) := m.map fun row => row.getD j none

/-- The lanes of an operand: for each output row or column, its elements in ascending k (R82). -/
def State.lanes (s : State) (r t : Nat) (pressed : Bool) (f : Fmt) (bs16 : Bool) (addr ld n k : Nat) : List (List (Option Opnd)) :=
  if pressed then
    let m := s.readRows r t f bs16 addr ld k n
    (List.range n).map (column m)
  else s.readRows r t f bs16 addr ld n k

/-- Add the products of two lanes to an accumulation (R56, R57, R59). -/
def dotAcc (a : Acc) (x y : List (Option Opnd)) : Acc :=
  (x.zip y).foldl (fun a p => match p with
    | (some u, some v) => accAdd a (addend u v a.anchor)
    | _ => accAdd a 0) a

/-- A finite value; a non-finite one reads as 0 and sets NONFINITE (R100). -/
def finVal (v : FVal) : Dy × Bool := match v with | .fin d => (d, false) | _ => (⟨0, 0⟩, true)

/-- A stored vector of n elements, with whether any was non-finite (R100). -/
def State.readVec (s : State) (r t : Nat) (f : Fmt) (bs16 : Bool) (addr n : Nat) : List Dy × Bool :=
  let l := (decodeRow f bs16 (s.sramRead r t addr (rowBytes f bs16 n)) n).map finVal
  (l.map (·.1), l.any (·.2))

end Sys2Proof.Machine
end

