-- ==== Sys2Proof/Machine/Posts.lean ====
section
/-! DEFINITION. Transfers between the regions of a job: posts, their matching with SENDs and router drains, and the landing of
the bytes (R323, R324). -/

namespace Sys2Proof.Machine

/-- Replace the transfers under way. -/
def State.setFab (s : State) (f : Fab) : State := { s with fab := f }

/-- The posts that a region holds or that are on their way to it (R323: at most 64). -/
def State.postsAt (s : State) (a : Nat) : List Post := s.fab.posts.filter fun p => p.src == a

/-- Whether a post answers a sender: a SEND names the posting region, a drain none (R323, R324). -/
def Sending.takes (x : Sending) (p : Post) : Bool :=
  p.here && p.src == x.src && p.tag == x.tag && (match x.dst with | some b => p.dst == b | none => true)

/-- SEND_SIZE in one region: a program fault at its command (R323). -/
def State.sizeFault (s : State) (r ix : Nat) : State := s.progFault r false ix REG_ERR_STATUS_SEND_SIZE

/-- The packets of a matched pair: each tile's bytes on channel 0, and for a SEND the acknowledgement on channel 1 (R323). -/
def State.pairPackets (s : State) (x : Sending) (p : Post) : State :=
  let s := (rectTiles p.rect).foldl (fun s t => s.sendPackets (.tile x.src t) (.tile p.dst t) 0 p.bytes (s.jobOf x.src)) s
  if x.dst.isSome then s.sendPackets (.tile p.dst 0) (.tile x.src 0) 1 0 (s.jobOf x.src) else s

/-- Land a matched pair: every tile of the RECT receives the bytes of the tile with its number (R323, R324). The RECV completes;
a SEND waits for the acknowledgement, a drain is done. -/
def State.land (s : State) (x : Sending) (p : Post) : State :=
  let f := s.fab
  let rest := f.posts.erase p
  if x.bytes ≠ p.bytes ∨ x.rect ≠ p.rect then
    ((s.setFab { f with posts := rest, sends := f.sends.erase x }).sizeFault x.src x.ix).sizeFault p.dst p.ix
  else
    let ts := rectTiles p.rect
    let s := ts.foldl (fun s t =>
      let b := match x.dst with
        | some _ => s.sramRead x.src t x.addr x.bytes
        | none => (x.data.lookup t).getD []
      s.sramWrite p.dst t p.addr b) s
    let n := ts.length * p.bytes
    let s := s.ctxBytes (s.jobOf p.dst) p.sid n
    let s := if x.dst.isSome then s.ctxBytes (s.jobOf x.src) x.sid n else s
    let sends := if x.dst.isSome then f.sends.map fun y => if y = x then { x with landed := true } else y else f.sends.erase x
    let s := s.setFab { f with posts := rest, sends := sends }
    let s := if x.dst.isSome then s.emit (.wafer 3 (s.logical p.dst) (s.logical x.src) p.tag) else s
    (s.pairPackets x p).finish p.dst p.outId 8

/-- Match the senders of a region with the posts it holds, in order; at most n pairs. -/
def State.matchPosts : Nat → State → Nat → State
  | 0, s, _ => s
  | n + 1, s, a =>
    let pair := (s.fab.sends.filter fun x => x.src == a && !x.landed).findSome? fun x =>
      (s.fab.posts.find? x.takes).map fun p => (x, p)
    match pair with
    | some (x, p) => matchPosts n (s.land x p) a
    | none => s

/-- Match all that a region can match: it holds at most 64 posts. -/
def State.tryMatch (s : State) (a : Nat) : State := s.matchPosts 64 a

/-- Hand the rows of a DRAIN with DEST 1 to the router: they stay with the drain until a post for them is present (R324). -/
def State.routeRows (s : State) (a : At) (tag bytes rect : Nat) : State :=
  let rows := (s.seq a.r).rowIn
  let data := (rectTiles rect).map fun t => (t, (rows.filter fun p => p.1 == t).flatMap (·.2))
  let s := s.setSeq a.r { s.seq a.r with rowIn := [] }
  let x : Sending := ⟨a.r, s.lastId a.r, a.ix, none, tag, 0, bytes, rect, 0, data, false⟩
  (s.setFab { s.fab with sends := s.fab.sends ++ [x] }).tryMatch a.r

/-- XFER_POST (R323): the oldest post on its way to a region reaches it. -/
def execXferPost (r : RegionIx) (s : State) : Host.Outcome State Fault Refusal :=
  keep s (match s.fab.posts.find? fun p => p.src == r.val && !p.here with
  | none => s
  | some p =>
    let l := s.fab.posts.map fun q => if q = p then { p with here := true } else q
    (s.setFab { s.fab with posts := l }).tryMatch r)

/-- XFER_ACK (R323): the oldest SEND of a region whose bytes have all landed is acknowledged and completes. -/
def execXferAck (r : RegionIx) (s : State) : Host.Outcome State Fault Refusal :=
  keep s (match s.fab.sends.find? fun x => x.src == r.val && x.landed with
  | none => s
  | some x => (s.setFab { s.fab with sends := s.fab.sends.erase x }).finish r x.outId 8)

/-- Discard what a region's commands from an id on have under way, and the ends that other regions hold of it are theirs. -/
def State.dropXfers (s : State) (r fromId : Nat) : State :=
  let f := s.fab
  s.setFab { f with
    posts := f.posts.filter fun p => p.dst != r || decide (p.outId < fromId)
    sends := f.sends.filter fun x => x.src != r || decide (x.outId < fromId)
    xsends := f.xsends.filter fun x => x.region != r || decide (x.outId < fromId)
    xrecvs := f.xrecvs.filter fun x => x.region != r || decide (x.outId < fromId) }

/-- Discard the posts that a job slot has received from peer modules. -/
def State.dropXPosts (s : State) (slot : Nat) : State :=
  s.setFab { s.fab with xposts := s.fab.xposts.filter fun p => p.slot != slot }

end Sys2Proof.Machine
end

