-- ==== Sys2Proof/Machine/Array.lean ====
section
/-! DEFINITION. The array and drain commands: GEMM, GEMM_T, DRAIN and ROW (R82–R108, R121–R124). -/

namespace Sys2Proof.Machine

/-! ### GEMM and GEMM_T (R121) -/

/-- The fields of a GEMM or GEMM_T. -/
structure GemmOp where
  anchor : Int
  ta : Bool
  tb : Bool
  cont : Bool
  hold : Bool
  m : Nat
  n : Nat
  k : Nat
  fa : Fmt
  fb : Fmt
  bsA : Bool
  bsB : Bool
  addrA : Nat
  addrB : Nat
  ldA : Nat
  ldB : Nat
  rect : Nat
  deriving DecidableEq, Repr

/-- Read the fields of a GEMM or GEMM_T (R121). -/
def gemmOp (c : Cmd) : GemmOp :=
  { anchor := sgn 8 (c.w 0 23 16), ta := c.w 0 24 24 == 1, tb := c.w 0 25 25 == 1, cont := c.w 0 26 26 == 1,
    hold := c.w 0 27 27 == 1, m := c.w 0 47 32, n := c.w 0 63 48, k := c.w 1 15 0, fa := fmtD (c.w 1 17 16),
    fb := fmtD (c.w 1 19 18), bsA := c.w 1 20 20 == 1, bsB := c.w 1 21 21 == 1, addrA := c.w 1 52 32,
    addrB := c.w 2 20 0, ldA := c.w 2 47 32, ldB := c.w 2 63 48, rect := c.w 3 15 0 }

/-- The SRAM range of operand A: stored M × K, or K × M when pressed (R82, R489). -/
def GemmOp.rangeA (g : GemmOp) : Nat × Nat :=
  (g.addrA, g.addrA + (if g.ta then spanBytes g.fa g.bsA g.k g.m g.ldA else spanBytes g.fa g.bsA g.m g.k g.ldA))

/-- The SRAM range of operand B: stored N × K, or K × N when pressed (R82, R489). -/
def GemmOp.rangeB (g : GemmOp) : Nat × Nat :=
  (g.addrB, g.addrB + (if g.tb then spanBytes g.fb g.bsB g.k g.n g.ldB else spanBytes g.fb g.bsB g.n g.k g.ldB))

/-- The issue checks of GEMM and GEMM_T (R120, R121, R124, R488, R489). -/
def State.gemmIssue (s : State) (r : Nat) (c : Cmd) (pressed : Bool) : Issue :=
  let g := gemmOp c
  let q := s.seq r
  { badField := malformed c [(27, 16), (63, 32)] [(15, 0), (21, 16), (52, 32)] [(20, 0), (63, 32)] [(15, 0)]
      || g.m == 0 || g.n == 0 || g.k == 0 || (fmtOf (c.w 1 17 16)).isNone || (fmtOf (c.w 1 19 18)).isNone
      || ((g.bsA || g.bsB) && !s.bs16En r) || rectBad g.rect || ((g.ta || g.tb) != pressed)
      || decide (sramSize < g.rangeA.2) || decide (sramSize < g.rangeB.2),
    badPair := !pairOk g.fa g.fb,
    pairOrder := (match q.pend with
        | none => g.cont
        | some p => !(p.held && g.cont)) || ((g.hold || g.cont) && (decide (48 < g.m) || decide (48 < g.n))),
    inRec := true, opens := true, cls := 1, reads := [g.rangeA, g.rangeB] }

/-- One tile's accumulations of a GEMM: each output starts at the given anchor or goes on from the held bank (R58, R84). The spec
does not say what a CONT does whose RECT, M or N is not the held GEMM's: outputs outside the held extent start at the CONT's own
anchor, and held outputs outside the new extent are dropped (DESIGN CHOICE, log 157). -/
def State.gemmTile (s : State) (r t : Nat) (g : GemmOp) (anchor : Int) (held : List OutAcc) : List OutAcc × Bool :=
  let la := s.lanes r t g.ta g.fa g.bsA g.addrA g.ldA g.m g.k
  let lb := s.lanes r t g.tb g.fb g.bsB g.addrB g.ldB g.n g.k
  let outs := la.zipIdx.flatMap fun (a : List (Option Opnd) × Nat) => lb.zipIdx.map fun (b : List (Option Opnd) × Nat) =>
    let start : Acc := match held.find? (fun o => o.tile == t && o.m == a.2 && o.n == b.2) with
      | some o => o.acc
      | none => { anchor := anchor }
    (⟨t, a.2, b.2, dotAcc start a.1 b.1⟩ : OutAcc)
  (outs, (la ++ lb).any fun l => l.any Option.isNone)

/-- One entry of a press slot (R88): a BSI element as 8 bits below its block's X, a bfloat16 value as it is stored. -/
def pressEntry (f : Fmt) (bs16 : Bool) (row : List Byte) (i : Nat) : Nat :=
  let n := blockElems f bs16
  let blk := row.drop (i / n * blockBytes f bs16)
  match f with
  | .bsi8 => let (m, x) := bsi8Elem blk (i % n); wrap 8 m + 256 * x
  | .bsi4 => let (m, x) := bsi4Elem blk (i % n); wrap 8 m + 256 * x
  | .bf16 | .f32 => leAt blk 0 2

/-- One sub-block of a pressed operand as a slot holds it: positions beyond the stored extent are 0 (R90). -/
def State.pressSlot (s : State) (r t : Nat) (isB : Bool) (f : Fmt) (bs16 : Bool) (addr ld rows cols i j : Nat) : PressSlot :=
  { isB := isB, row := i, col := j, rows := rows, cols := cols,
    entries := (List.range 48).flatMap fun a =>
      let row := s.sramRead r t (addr + (48 * i + a) * ld) (rowBytes f bs16 cols)
      (List.range 48).map fun b =>
        if 48 * i + a < rows ∧ 48 * j + b < cols then pressEntry f bs16 row (48 * j + b) else 0 }

/-- Fill x of a GEMM_T's press, in the order of its output blocks and of ascending k, operand A before B (R89, R121). -/
def State.pressFill (s : State) (r t : Nat) (g : GemmOp) (x : Nat) : PressSlot :=
  let c := b2n g.ta + b2n g.tb
  let up := fun n => (n + 47) / 48
  let step := x / c
  let k := step % up g.k
  let nb := step / up g.k % up g.n
  let mb := step / up g.k / up g.n
  if g.tb && (!g.ta || x % c == 1) then s.pressSlot r t true g.fb g.bsB g.addrB g.ldB g.k g.n k nb
  else s.pressSlot r t false g.fa g.bsA g.addrA g.ldA g.k g.m k mb

/-- What the 14 slots of a tile hold after a GEMM_T: its last fills. The slots are taken in turn from slot 0 on (R88, R89;
DESIGN CHOICE, log 164). -/
def State.pressTile (s : State) (r t : Nat) (g : GemmOp) : State :=
  let up := fun n => (n + 47) / 48
  let total := up g.m * up g.n * up g.k * (b2n g.ta + b2n g.tb)
  let m := (List.range (min 14 total)).foldl (fun m y =>
    let x := total - 1 - y
    tabSet (fun _ => {}) m (14 * t + x % 14) (s.pressFill r t g x)) (s.tileMem r).press
  s.setTileMem r { s.tileMem r with press := m }

/-- Run a GEMM or GEMM_T: its accumulations wait for the DRAIN, or stay held (R84, R87, R88, R124). -/
def State.runGemm (s : State) (a : At) (g : GemmOp) : State :=
  let q := s.seq a.r
  let sp := q.span a.d
  let held := if g.cont then (match q.pend with | some p => p.accs | none => []) else []
  let anchor := g.anchor + 8 * (sp.attempt : Int)
  let res := (rectTiles g.rect).map fun t => (t, s.gemmTile a.r t g anchor held)
  let s := res.foldl (fun (s : State) p => s.iff p.2.2 (·.setNonfinite a.r a.d p.1)) s
  let q := s.seq a.r
  let accs := res.flatMap fun p => p.2.1
  let s := if g.ta || g.tb then (rectTiles g.rect).foldl (fun s t => s.pressTile a.r t g) s else s
  let sp := { sp with maxAnchor := if g.cont then sp.maxAnchor else max sp.maxAnchor g.anchor }
  s.setSeq a.r ({ q with pend := some ⟨g.rect, a.d, g.hold, g.m, g.n, accs⟩ }.setSpan a.d sp)

/-- GEMM (R121). -/
def execGemm (r : RegionIx) (deferred : Bool) (c : Cmd) (s : State) : Host.Outcome State Fault Refusal :=
  keep s (s.issue r deferred c 0x10 (s.gemmIssue r c false) fun a s => s.runGemm a (gemmOp c))

/-- GEMM_T (R121). -/
def execGemmT (r : RegionIx) (deferred : Bool) (c : Cmd) (s : State) : Host.Outcome State Fault Refusal :=
  keep s (s.issue r deferred c 0x11 (s.gemmIssue r c true) fun a s => s.runGemm a (gemmOp c))

/-! ### DRAIN (R94–R103, R122) -/

/-- The fields of a DRAIN. -/
structure DrainOp where
  func : Nat
  bwd : Bool
  biasEn : Bool
  pushZ : Bool
  dest : Nat
  neg : Bool
  outFmt : Fmt
  outBs : Bool
  outAddr : Nat
  biasAddr : Nat
  biasFmt : Fmt
  biasBs : Bool
  vreg : Nat
  outLd : Nat
  vatBase : Nat
  zFmt : Nat
  zBs : Bool
  sid : Nat
  tag : Nat
  rect : Nat
  deriving DecidableEq, Repr

/-- Read the fields of a DRAIN (R122). -/
def drainOp (c : Cmd) : DrainOp :=
  { func := c.w 0 19 16, bwd := c.w 0 20 20 == 1, biasEn := c.w 0 21 21 == 1, pushZ := c.w 0 22 22 == 1,
    dest := c.w 0 25 23, neg := c.w 0 26 26 == 1, outFmt := fmtD (c.w 0 28 27), outBs := c.w 0 29 29 == 1,
    outAddr := c.w 0 52 32, biasAddr := c.w 1 20 0, biasFmt := fmtD (c.w 1 22 21), biasBs := c.w 1 23 23 == 1,
    vreg := c.w 1 27 24, outLd := c.w 1 47 32, vatBase := c.w 2 17 0, zFmt := c.w 2 19 18, zBs := c.w 2 20 20 == 1,
    sid := c.w 2 47 32, tag := c.w 2 63 48, rect := c.w 3 15 0 }

/-- Whether a DRAIN takes a pending pop: BWD with a function other than identity (R197). -/
def DrainOp.takesPop (d : DrainOp) : Bool := d.bwd && d.func != 0

/-- Whether a field of a DRAIN that applies only to another destination or mode is not 0 (R122): SIGN, OUT_ADDR, OUT_LD, VAT_BASE,
ROUTE_TAG; VREG, which R194 gives a z push too; BIAS_ADDR without a bias; CAVE_SID without a push or a pop (DEDUCED, log 14). -/
def DrainOp.stray (o : DrainOp) : Bool :=
  (o.neg && o.dest != 3) || (o.pushZ && o.bwd) || (o.outAddr != 0 && o.dest != 0)
    || (o.outLd != 0 && o.dest != 0 && o.dest != 3) || (o.vreg != 0 && o.dest != 3 && !o.pushZ)
    || (o.vatBase != 0 && o.dest != 3) || (o.tag != 0 && o.dest != 1) || (o.biasAddr != 0 && !o.biasEn)
    || (o.sid != 0 && !o.pushZ && !o.bwd)

/-- The issue checks of DRAIN. The M and N are those of the GEMM it drains. -/
def State.drainIssue (s : State) (r : Nat) (c : Cmd) (d : Bool) : Issue :=
  let o := drainOp c
  let q := s.seq r
  let (m, n) := match q.pend with | some p => (p.mRows, p.nCols) | none => (0, 0)
  let wr := (o.outAddr, o.outAddr + spanBytes o.outFmt o.outBs m n o.outLd)
  let bias := (o.biasAddr, o.biasAddr + rowBytes o.biasFmt o.biasBs n)
  { badField := malformed c [(29, 16), (52, 32)] [(27, 0), (47, 32)] [(20, 0), (63, 32)] [(15, 0)]
      || decide (6 < o.func) || decide (3 < o.dest) || (fmtOf (c.w 0 28 27)).isNone || (fmtOf (c.w 1 22 21)).isNone
      || (fmtOf (c.w 2 19 18)).isNone || ((o.outBs || o.biasBs || o.zBs) && !s.bs16En r)
      || o.stray || rectBad o.rect
      || (o.dest == 0 && decide (sramSize < wr.2)) || (o.biasEn && decide (sramSize < bias.2)),
    drainMode := o.biasEn && o.bwd,
    pairOrder := (match q.pend with | some p => p.held || p.rect != o.rect || p.deferred != d | none => true),
    inSpan := o.dest != 1, inDef := o.dest == 0 || o.dest == 3 || (o.dest == 2 && (s.recompAt r).isSome), inRec := o.dest == 0 || o.dest == 2,
    cls := if o.dest == 3 then (if o.pushZ then 7 else 3) else (if o.pushZ then 5 else 1),
    vreg := if o.dest == 3 then some o.vreg else none,
    reads := if o.biasEn then [bias] else [], writes := if o.dest == 0 then [wr] else [],
    block := if o.pushZ then some pCAVE else none,
    ctx := if o.pushZ || o.takesPop then some (o.sid, 2) else none }

/-- One drained output (R95, R96): the value of its destination, z, and the flags. -/
def drainValue (o : DrainOp) (acc : Acc) (bias : Option Dy) (pop : Option FVal) : Dy × Dy × Bool × FAcc :=
  let acc := match bias with | some b => accAdd acc (floorShift b.m (b.e + 40 - acc.anchor)) | none => acc
  let (v, ovf) := accRead acc
  let z : Dy := ⟨v, acc.anchor - 40⟩
  if o.func = 0 then (z, z, ovf, {})
  else if o.bwd then
    let (p, bad) := finVal (pop.getD (.fin ⟨0, 0⟩))
    let f0 : FAcc := ⟨false, bad⟩
    if o.func = 1 then ((if p.m > 0 then z else ⟨0, 0⟩), z, ovf, f0)
    else
      let (w, f) := elemFnD o.func (dyF32 p).bits f0
      let (x, f) := fRun f (fMul (dyF32 z).bits w)
      (fDy x, z, ovf, f)
  else if o.func = 1 then ((if z.m < 0 then ⟨0, 0⟩ else z), z, ovf, {})
  else
    let (x, f) := elemFn o.func (dyF32 z).bits {}
    (fDy x, z, ovf, f)

/-- A drained row of one tile: the results, the z values, each output's overflow, and the flags of the row. -/
structure DrainRow where
  outs : List Dy
  zs : List Dy
  ovfs : List Bool
  flags : FAcc
  deriving DecidableEq, Repr

/-- Drain one row of one tile (R94–R97). -/
def drainRow (o : DrainOp) (accs : List OutAcc) (t m n : Nat) (bias : Option (List Dy)) (pop : Option (List FVal)) : DrainRow :=
  (List.range n).foldl (fun w j =>
    let acc := match accs.find? (fun x => x.tile == t && x.m == m && x.n == j) with | some x => x.acc | none => {}
    let (v, z, ovf, f) := drainValue o acc (bias.map (·.getD j ⟨0, 0⟩)) (pop.map (·.getD j (.fin ⟨0, 0⟩)))
    ⟨w.outs ++ [v], w.zs ++ [z], w.ovfs ++ [ovf], ⟨w.flags.sat || f.sat, w.flags.nonfin || f.nonfin⟩⟩) ⟨[], [], [], {}⟩

/-- Take the oldest pending pop for a consumer, when its SID and the size of the data it takes in each tile of its RECT agree
(R197; the tiles must be the pop's, DEDUCED, log 166). -/
def Cave.takePop (v : Cave) (sid rect bytes : Nat) : Option (PendPop × Cave) :=
  match v.pops with
  | p :: rest => if p.sid = sid ∧ p.bytes = bytes ∧ p.data.map (·.1) = rectTiles rect then some (p, { v with pops := rest }) else none
  | [] => none

/-- The layer that a DRAIN or ROW push carries: the one VAT_LAYER holds at VREG (R194). -/
def State.pushLayer (s : State) (r vreg : Nat) : Nat := s.rd (regPage r) REG_VAT_LAYER_LAYER vreg

/-- The record that a push would make, before the cave controller takes it (R194). -/
def pushEntry (layer mb sid kind fmt : Nat) (bs16 : Bool) (rect bytes : Nat) : CaveRec :=
  { layer := layer, mb := mb, sid := sid, kind := kind, fmt := fmt, bs16 := bs16, rect := rect, bytes := bytes }

/-- Hand a push to the cave controller (R194, R195). -/
def State.queuePush (s : State) (a : At) (e : CaveRec) (data : List (List Byte)) : State :=
  let v := s.cave a.r
  let e := { e with pushAt := some (s.seq a.r).cuts.length, pushSpan := true }
  s.setCave a.r { v with pushes := v.pushes ++ [⟨e, data, a.inRec, a.d, a.ix, s.lastId a.r⟩] }

/-- Drain one tile: flags, destination, digests; the answer's other parts are the tile's z data and its vat
addends (R94–R98, R110, R346). The rows of DEST 2 stay with the row unit: a ROW reads its rows from SRAM (R104), so no command
reads them, and the spec does not say what becomes of them (DEDUCED, log 161). -/
def State.drainTile (s : State) (a : At) (o : DrainOp) (p : PendGemm) (pop : Option PendPop) (t : Nat) :
    State × List Byte × List (Nat × Nat × List VatIn) :=
  let (bias, bbad) := if o.biasEn then
      (let (b, bad) := s.readVec a.r t o.biasFmt o.biasBs o.biasAddr p.nCols; (some b, bad)) else (none, false)
  let s := s.iff bbad (·.setNonfinite a.r a.d t)
  let pb := pop.map fun x => (rowBytes (fmtD x.fmt) x.bs16 p.nCols, fmtD x.fmt, x.bs16, (x.data.lookup t).getD [])
  (List.range p.mRows).foldl (fun (acc : State × List Byte × List (Nat × Nat × List VatIn)) m =>
    let (s, z, vrows) := acc
    let popRow := pb.map fun (len, f, bs, data) => decodeRow f bs (data.drop (m * len)) p.nCols
    let w := drainRow o p.accs t m p.nCols bias popRow
    let s := (s.iff (w.ovfs.any id) (·.setAnchorSat a.r a.d t)).setFAcc a.r a.d t w.flags
    let (zb, zsat) := if o.pushZ then encodeRow (fmtD o.zFmt) o.zBs (w.zs.map .fin) else ([], false)
    let s := s.iff zsat (·.setConvSat a.r t)
    let s := s.iff o.pushZ (·.addDigest a t m zb)
    if o.dest = 3 then
      (s, z ++ zb, vrows ++ [(t, m, (w.outs.zip w.ovfs).zipIdx.map fun x => ⟨t, o.vatBase + m * o.outLd + x.2, x.1.1, x.1.2⟩)])
    else
      let (b, sat) := encodeRow o.outFmt o.outBs (w.outs.map .fin)
      let s := (s.iff sat (·.setConvSat a.r t)).addDigest a t m b
      let s := if o.dest = 0 then s.sramWrite a.r t (o.outAddr + m * o.outLd) b
        else s.setSeq a.r { s.seq a.r with rowIn := (s.seq a.r).rowIn ++ [(t, b)] }
      (s, z ++ zb, vrows)) (s, [], [])

/-- Run a DRAIN over every tile of its RECT (R94, R122). -/
def State.runDrain (s : State) (a : At) (o : DrainOp) : State :=
  match (s.seq a.r).pend with
  | none => s
  | some p =>
    let s := s.setSeq a.r { s.seq a.r with pend := none, rowIn := [] }
    let need := if o.takesPop then some () else none
    let v := s.cave a.r
    let bytes := match v.pops with | x :: _ => p.mRows * rowBytes (fmtD x.fmt) x.bs16 p.nCols | [] => 0
    match need, v.pops, v.takePop o.sid o.rect bytes with
    | some _, [], _ => s.progFault a.r a.d a.ix REG_ERR_STATUS_POP_MISSING
    | some _, _ :: _, none => s.caveFault a.r a.d a.ix CAVE_ERR_STATUS_POP_MATCH a.mb o.sid (s.pushLayer a.r o.vreg)
    | _, _, tk =>
      let (pop, s) := match need, tk with | some _, some (x, v) => (some x, s.setCave a.r v) | _, _ => (none, s)
      let (s, zs, vrows) := (rectTiles o.rect).foldl (fun (x : State × List (List Byte) × List (Nat × Nat × List VatIn)) t =>
        let (s, z, v) := x.1.drainTile a o p pop t
        (s, x.2.1 ++ [z], x.2.2 ++ v)) (s, [], [])
      let s := if o.dest = 1 then s.routeRows a o.tag (p.mRows * rowBytes o.outFmt o.outBs p.nCols) o.rect else s
      let s := if o.dest = 3 then s.vatAccumulate a o.vreg o.neg vrows else s
      if o.pushZ then
        let bytes := p.mRows * rowBytes (fmtD o.zFmt) o.zBs p.nCols
        s.queuePush a (pushEntry (s.pushLayer a.r o.vreg) a.mb o.sid 1 o.zFmt o.zBs o.rect bytes) zs
      else s

/-- DRAIN (R122). -/
def execDrain (r : RegionIx) (deferred : Bool) (c : Cmd) (s : State) : Host.Outcome State Fault Refusal :=
  keep s (s.issue r deferred c 0x20 (s.drainIssue r c deferred) fun a s => s.runDrain a (drainOp c))

/-! ### ROW (R104–R108, R123) -/

/-- The fields of a ROW. -/
structure RowOp where
  fn : Nat
  bwd : Bool
  group : Nat
  inFmt : Fmt
  outFmt : Fmt
  push : Bool
  rows : Nat
  n : Nat
  inAddr : Nat
  outAddr : Nat
  gamma : Nat
  beta : Nat
  eps : Nat
  rect : Nat
  vreg : Nat
  vatBase : Nat
  deriving DecidableEq, Repr

/-- Read the fields of a ROW (R123). -/
def rowOp (c : Cmd) : RowOp :=
  { fn := c.w 0 19 16, bwd := c.w 0 20 20 == 1, group := c.w 0 23 21, inFmt := fmtD (c.w 0 25 24),
    outFmt := fmtD (c.w 0 27 26), push := c.w 0 28 28 == 1, rows := c.w 0 47 32, n := c.w 0 63 48 + 1,
    inAddr := c.w 1 20 0, outAddr := c.w 1 52 32, gamma := c.w 2 20 0, beta := c.w 2 52 32, eps := c.w 3 31 0,
    rect := c.w 3 47 32, vreg := c.w 3 51 48, vatBase := 64 * c.w 3 63 52 }

/-- Whether a ROW reads γ, and β (R106). -/
def RowOp.usesGamma (o : RowOp) : Bool := o.fn != 0
def RowOp.usesBeta (o : RowOp) : Bool := o.fn == 1 && !o.bwd

/-- Rows stand one after the other (DEDUCED, log 15). -/
def RowOp.inLen (o : RowOp) : Nat := o.rows * rowBytes o.inFmt false o.n
def RowOp.outLen (o : RowOp) : Nat := o.rows * rowBytes o.outFmt false o.n

/-- The ε of a normalisation must be finite and at least 0, −0 included (R104); any other is refused as a field value that is not
allowed (R119), and softmax has none (DEDUCED, log 159). -/
def RowOp.epsBad (o : RowOp) : Bool := o.fn != 0 && decide (0x7F800000 ≤ o.eps) && o.eps != 0x80000000

/-- The issue checks of ROW. -/
def State.rowIssue (_s : State) (_r : Nat) (c : Cmd) : Issue :=
  let o := rowOp c
  let g := (o.gamma, o.gamma + rowBytes o.inFmt false o.n)
  let b := (o.beta, o.beta + rowBytes o.inFmt false o.n)
  let rd := (o.inAddr, o.inAddr + o.inLen)
  let wr := (o.outAddr, o.outAddr + o.outLen)
  let vat := o.bwd && o.fn != 0
  { badField := malformed c [(28, 16), (63, 32)] [(20, 0), (52, 32)] [(20, 0), (52, 32)] [(63, 0)]
      || decide (2 < o.fn) || decide (4 < o.group) || (fmtOf (c.w 0 25 24)).isNone || (fmtOf (c.w 0 27 26)).isNone
      || o.epsBad || rectBad o.rect
      || decide (sramSize < rd.2) || decide (sramSize < wr.2) || (o.usesGamma && decide (sramSize < g.2))
      || (o.usesBeta && decide (sramSize < b.2)),
    inRec := true, opens := true,
    cls := (if o.push then 4 else 0) + (if vat then 3 else 1), vreg := if vat then some o.vreg else none,
    reads := [rd] ++ (if o.usesGamma then [g] else []) ++ (if o.usesBeta then [b] else []), writes := [wr],
    block := if o.push then some pCAVE else none }

/-- Split the tiles of a RECT into row groups of 2^g consecutive x (R107). Where the width of the RECT is no multiple of 2^g the
last group of each row of tiles is smaller: the spec does not say (DESIGN CHOICE, log 160). -/
def rowGroups (rect g : Nat) : List (List Nat) :=
  let ts := rectTiles rect
  (List.range 16).flatMap fun y => chunksOf (2 ^ g) 16 (ts.filter fun t => t / 16 == y)

/-- What a ROW forms for one row over its whole group: results, the saved row, r, the parameter addends dγ and dβ, the
flags of each element's own operations, and those of the operations on a whole row, which every member of the group runs
(R107); every list runs over the concatenated slices of the group's tiles. -/
structure RowRes where
  y : List Nat
  saved : List Nat
  r : Nat
  dGamma : List Nat
  dBeta : List Nat
  elems : List FAcc
  flags : FAcc
  deriving DecidableEq, Repr

/-- 1 / SQRT(v + ε) (R106). -/
def rowScale (v eps : Nat) (f : FAcc) : Nat × FAcc :=
  let (a, f) := fRun f (fAdd v eps)
  let (q, f) := fRun f (fSqrt a)
  fRun f (fDiv fOne q)

/-- MEAN(t) of R105. -/
def rowMean (ts : List Nat) (f : FAcc) : Nat × FAcc := fRun f (meanOf (rowSum (rowAnchor ts) ts) ts.length)

/-- The forward row functions (R106). -/
def rowForward (fn : Nat) (x ga be : List Nat) (eps : Nat) : RowRes :=
  let e := x.map fun _ => ({} : FAcc)
  if fn = 0 then
    let m := fMaxList x
    let (d, e) := mapF e x fun v => fSub v m
    let (t, e) := mapF e d fExp
    let (sm, f) := fRun {} (meanOf (rowSum (rowAnchor t) t) 1)
    let (y, e) := mapF e t fun v => fDiv v sm
    ⟨y, y, 0, [], [], e, f⟩
  else if fn = 1 then
    let (mu, f) := rowMean x {}
    let (d, e) := mapF e x fun v => fSub v mu
    let (dd, e) := zipF e d d fMul
    let (v, f) := rowMean dd f
    let (r, f) := rowScale v eps f
    let (h, e) := mapF e d fun v => fMul v r
    let l := ((h.zip (ga.zip be)).zip e).map fun p => fRun p.2 (fFma p.1.1 p.1.2.1 p.1.2.2)
    ⟨l.map (·.1), h, r, [], [], l.map (·.2), f⟩
  else
    let (xx, e) := zipF e x x fMul
    let (w, f) := rowMean xx {}
    let (r, f) := rowScale w eps f
    let (h, e) := mapF e x fun v => fMul v r
    let (y, e) := zipF e h ga fMul
    ⟨y, x, r, [], [], e, f⟩

/-- The backward row functions (R106): dy, the saved row, the saved r of each element's tile, γ. -/
def rowBackward (fn : Nat) (dy saved rs ga : List Nat) : RowRes :=
  let e := dy.map fun _ => ({} : FAcc)
  if fn = 0 then
    let (p, e) := zipF e saved dy fMul
    let (c, f) := fRun {} (meanOf (rowSum (rowAnchor p) p) 1)
    let (d, e) := mapF e dy fun v => fSub v c
    let (dx, e) := zipF e saved d fMul
    ⟨dx, [], 0, [], [], e, f⟩
  else
    let (h, e) := if fn = 1 then (saved, e) else zipF e saved rs fMul
    let (g, e) := zipF e dy ga fMul
    let (a, f) := if fn = 1 then rowMean g {} else (0, {})
    let (gh, e) := zipF e g h fMul
    let (b, f) := rowMean gh f
    let (g0, e) := if fn = 1 then mapF e g fun v => fSub v a else (g, e)
    let (hb, e) := mapF e h fun v => fMul v b
    let (df, e) := zipF e g0 hb fSub
    let (dx, e) := zipF e rs df fMul
    let (dg, e) := zipF e h dy fMul
    ⟨dx, [], 0, dg, if fn = 1 then dy else [], e, f⟩

/-- The flags of one tile's slice: those of its own elements and those of the whole row. -/
def RowRes.tileFlags (w : RowRes) (first n : Nat) : FAcc :=
  ((w.elems.drop first).take n).foldl (fun a b => ⟨a.sat || b.sat, a.nonfin || b.nonfin⟩) w.flags

/-- One row of a row group: read, compute, write each tile's slice, and gather each tile's push data and vat addends. The spec
names no places for what a ROW saves and adds to the vat; the model's (DESIGN CHOICE, log 158): y and h are saved in OUT_FMT and x
as its stored bytes, each row of a normalisation with r as 4 bytes after it; in backward dγ of element i goes to entry VAT_BASE + i
and dβ to VAT_BASE + n + i, the same entries for every row. -/
def State.rowOne (s : State) (a : At) (o : RowOp) (pop : Option PendPop) (ts : List Nat) (i : Nat)
    (push : List (Nat × List Byte)) (vat : List (Nat × Nat × List VatIn)) :
    State × List (Nat × List Byte) × List (Nat × Nat × List VatIn) :=
  let rb := rowBytes o.inFmt false o.n
  let rdv := fun (s : State) (t addr : Nat) => s.readVec a.r t o.inFmt false addr o.n
  let xs := ts.map fun t => (t, rdv s t (o.inAddr + i * rb))
  let gs := ts.map fun t => if o.usesGamma then rdv s t o.gamma else ([], false)
  let bs := ts.map fun t => if o.usesBeta then rdv s t o.beta else ([], false)
  let s := (xs.zip (gs.zip bs)).foldl (fun s p => s.iff (p.1.2.2 || p.2.1.2 || p.2.2.2) (·.setNonfinite a.r a.d p.1.1)) s
  let flat := fun (l : List (List Dy × Bool)) => l.flatMap fun p => p.1.map fun v => (dyF32 v).bits
  let x := flat (xs.map (·.2))
  let res : RowRes × State :=
    if o.bwd then
      let p := pop.getD ⟨0, 0, false, 0, [], false⟩
      let f := fmtD p.fmt
      let stride := rowBytes f p.bs16 o.n + (if o.fn = 0 then 0 else 4)
      let sv := ts.map fun t =>
        let b := ((p.data.lookup t).getD []).drop (i * stride)
        (t, (decodeRow f p.bs16 b o.n).map finVal, leAt b (stride - 4) 4)
      let s := sv.foldl (fun s q => s.iff (q.2.1.any (·.2)) (·.setNonfinite a.r a.d q.1)) s
      (rowBackward o.fn x (sv.flatMap fun q => q.2.1.map fun v => (dyF32 v.1).bits)
        (sv.flatMap fun q => List.replicate o.n q.2.2) (flat gs), s)
    else (rowForward o.fn x (flat gs) (flat bs) o.eps, s)
  let (w, s) := res
  ts.zipIdx.foldl (fun (acc : State × List (Nat × List Byte) × List (Nat × Nat × List VatIn)) p =>
    let (s, push, vat) := acc
    let (t, j) := p
    let sl := fun (l : List Nat) => (l.drop (j * o.n)).take o.n
    let s := s.setFAcc a.r a.d t (w.tileFlags (j * o.n) o.n)
    let (b, sat) := encodeRow o.outFmt false ((sl w.y).map fun v => .fin (fDy v))
    let s := ((s.iff sat (·.setConvSat a.r t)).addDigest a t i b).sramWrite a.r t (o.outAddr + i * rowBytes o.outFmt false o.n) b
    let (sb, ssat) := if o.fn = 2 then (s.sramRead a.r t (o.inAddr + i * rb) rb, false)
      else encodeRow o.outFmt false ((sl w.saved).map fun v => .fin (fDy v))
    let sb := sb ++ (if o.fn = 0 then [] else leBytes 4 w.r)
    let s := if o.push then (s.iff ssat (·.setConvSat a.r t)).addDigest a t i sb else s
    let push := if o.push then push.map fun q => if q.1 = t then (t, q.2 ++ sb) else q else push
    let ins := (sl w.dGamma).zipIdx.map (fun v => (⟨t, o.vatBase + v.2, fDy v.1, false⟩ : VatIn))
      ++ (sl w.dBeta).zipIdx.map (fun v => ⟨t, o.vatBase + o.n + v.2, fDy v.1, false⟩)
    (s, push, if ins.isEmpty then vat else vat ++ [(t, i, ins)])) (s, push, vat)

/-- Run a ROW (R104–R107). A ROW push and a backward ROW carry CAVE_SID 0, since the command has no such field
(DEDUCED, log 15). -/
def State.runRow (s : State) (a : At) (o : RowOp) : State :=
  let v := s.cave a.r
  let bytes := match v.pops with
    | x :: _ => o.rows * (rowBytes (fmtD x.fmt) x.bs16 o.n + (if o.fn = 0 then 0 else 4))
    | [] => 0
  match o.bwd, v.takePop 0 o.rect bytes with
  | true, none => s.caveFault a.r a.d a.ix CAVE_ERR_STATUS_POP_MATCH a.mb 0 (s.pushLayer a.r o.vreg)
  | _, tk =>
    let (pop, s) := match o.bwd, tk with | true, some (x, v) => (some x, s.setCave a.r v) | _, _ => (none, s)
    let (s, push, vat) := (rowGroups o.rect o.group).foldl (fun acc ts =>
      (List.range o.rows).foldl (fun acc i => acc.1.rowOne a o pop ts i acc.2.1 acc.2.2) acc)
      (s, (rectTiles o.rect).map (fun t => (t, ([] : List Byte))), ([] : List (Nat × Nat × List VatIn)))
    let s := if vat.isEmpty then s else s.vatAccumulate a o.vreg false vat
    if o.push then
      let f := if o.fn = 2 then o.inFmt else o.outFmt
      let fc := match f with | .bsi8 => 0 | .bsi4 => 1 | _ => 2
      let bytes := o.rows * (rowBytes f false o.n + (if o.fn = 0 then 0 else 4))
      s.queuePush a (pushEntry (s.pushLayer a.r o.vreg) a.mb 0 2 fc false o.rect bytes) (push.map (·.2))
    else s

/-- ROW (R106). -/
def execRow (r : RegionIx) (deferred : Bool) (c : Cmd) (s : State) : Host.Outcome State Fault Refusal :=
  keep s (s.issue r deferred c 0x21 (s.rowIssue r c) fun a s => s.runRow a (rowOp c))

end Sys2Proof.Machine
end

