-- ==== Sys2Proof/Machine/Space.lean ====
section
/-! DEFINITION. Job space: a job's stack allocation by offset (R382), the program image at job offset 0 (R157, R383), and
the tables that the image carries (R157, R192, R384). -/

namespace Sys2Proof.Machine

/-- The page of a stack site. -/
def memPage (site : Nat) : Nat := pMEM + site

/-- The extents of a job slot: (START_GB, LEN_GB, BASE_GB) (R382); MEM.EXTENT entry 32 × slot + e. -/
def State.extents (s : State) (slot : Nat) : List (Nat × Nat × Nat) :=
  ((List.range 32).filter fun e => s.rd pMEM MEM_EXTENT_VALID (32 * slot + e) == 1).map fun e =>
    (s.rd pMEM MEM_EXTENT_START_GB (32 * slot + e), s.rd pMEM MEM_EXTENT_LEN_GB (32 * slot + e),
     s.rd pMEM MEM_EXTENT_BASE_GB (32 * slot + e))

/-- 10⁹ bytes. -/
def gb : Nat := 1000000000

/-- The module address of a job offset, if an extent holds it (R382). -/
def State.jobAddr (s : State) (slot o : Nat) : Option Nat :=
  ((s.extents slot).find? fun e => decide (e.1 * gb ≤ o) && decide (o < (e.1 + e.2.1) * gb)).map
    fun e => e.2.2 * gb + (o - e.1 * gb)

/-- The size of a job's space in GB: the extents cover it without gaps (R382). -/
def State.jobGb (s : State) (slot : Nat) : Nat := ((s.extents slot).map fun e => e.2.1).sum

/-- Whether job offsets o to o + n − 1 all lie inside the job's extents. -/
def State.jobHolds (s : State) (slot o n : Nat) : Bool := decide (o + n ≤ s.jobGb slot * gb)

/-- n bytes of a job's space; a byte outside it reads 0 (the access is poisoned and its caller reports it, R382). -/
def State.jobRead (s : State) (slot o n : Nat) : List Byte :=
  (List.range n).map fun k => match s.jobAddr slot (o + k) with | some a => s.memByte a | none => 0#8

/-- A little-endian number of n bytes in a job's space. -/
def State.jobNat (s : State) (slot o n : Nat) : Nat := leAt (s.jobRead slot o n) 0 n

/-! ### Lines that a site has lost (R380, R386) -/

/-- The lines that stand POISONed, as (site, MEM.LINE entry, module address of the line's first byte). -/
def State.poisonLines (s : State) : List (Nat × Nat × Nat) :=
  let n := s.rd pMEM MEM_MAP_N
  ((List.range 26).filter fun i => s.rd (memPage i) MEM_STATUS_STATE == 0).flatMap fun i =>
    ((List.range (s.rd (memPage i) MEM_LINES_USED)).filter fun e => s.rd (memPage i) MEM_LINE_POISON e == 1).map fun e =>
      let off := 64 * s.rd (memPage i) MEM_LINE_LINE e
      (i, e, (off / 256 * n + s.rd (memPage i) MEM_STATUS_SLOT) * 256 + off % 256)

/-- The job offset that holds a module address, if the job's extents do (R382). -/
def State.jobOffset (s : State) (slot a : Nat) : Option Nat :=
  ((s.extents slot).find? fun e => decide (e.2.2 * gb ≤ a) && decide (a < (e.2.2 + e.2.1) * gb)).map
    fun e => e.1 * gb + (a - e.2.2 * gb)

/-- The site of a POISON line among n bytes of a job's space, if there is one: the read of it is answered poisoned (R386). -/
def State.jobPoison (s : State) (slot o n : Nat) : Option Nat :=
  (s.poisonLines.find? fun x => match s.jobOffset slot x.2.2 with
    | some q => decide (q < o + n) && decide (o < q + 64)
    | none => false).map (·.1)

/-- A write of the whole of a POISON line clears POISON; a partial write keeps it (R386). -/
def State.healLines (s : State) (slot o n : Nat) : State :=
  (s.poisonLines.filter fun x => match s.jobOffset slot x.2.2 with
    | some q => decide (o ≤ q) && decide (q + 64 ≤ o + n)
    | none => false).foldl (fun s x => s.wr (memPage x.1) MEM_LINE_POISON 0 x.2.1) s

/-- Write bytes into a job's space; a byte outside it moves nowhere (R382), and POISON lines written whole are good again
(R386). -/
def State.jobWrite (s : State) (slot o : Nat) (b : List Byte) : State :=
  (b.zipIdx.foldl (fun s p => match s.jobAddr slot (o + p.2) with | some a => s.setMemByte a p.1 | none => s) s).healLines
    slot o b.length

/-- The site that serves a stack slot; 31 for none (R379). -/
def State.siteOfSlot (s : State) (k : Nat) : Nat :=
  ((List.range 26).find? fun i => s.rd (memPage i) MEM_STATUS_SLOT == k && s.rd (memPage i) MEM_STATUS_STATE == 0).getD 31

/-- The lowest-numbered live site (R382): MEM.STATUS.STATE IN_USE (R379). -/
def State.lowestSite (s : State) : Nat := ((List.range 26).find? fun i => s.rd (memPage i) MEM_STATUS_STATE == 0).getD 0

/-- An access outside the job's extents: RANGE on the lowest live site's MEM page, and a program fault of the job (R382). -/
def State.rangeFault (s : State) (slot unit : Nat) : State :=
  (s.raiseErr (memPage s.lowestSite) MEM_ERR_STATUS_RANGE).reportOn .program unit (memPage s.lowestSite) MEM_ERR_STATUS_RANGE slot

/-! ### The program image (R157, R334, R384) -/

/-- The image offset of the header in force: 0, or HDR_OFF of the hoop in force (R334, R336). -/
def State.hdrOff (s : State) (slot : Nat) : Nat :=
  if s.rd pPLC PLC_JOB_HOOP_VALID slot = 0 then 0
  else s.jobNat slot (s.jobNat slot 16 8 + 64 + 16 * s.rd pPLC PLC_JOB_HOOP slot + 8) 8

/-- LOGICAL_REGIONS of the header in force. -/
def State.logicalRegions (s : State) (slot : Nat) : Nat := s.jobNat slot (s.hdrOff slot + 6) 1

/-- TABLE_OFF of the header in force. -/
def State.tableOff (s : State) (slot : Nat) : Nat := s.jobNat slot (s.hdrOff slot + 24) 8

/-- TABLE_OFF of the base image: hoops use the base image's layout table (R384). -/
def State.baseTable (s : State) (slot : Nat) : Nat := s.jobNat slot 24 8

/-- A field of the stack layout table (R384): 0 PROG_BYTES, 1 CAVE_OFF, 2 CAVE_BYTES, 3 HOLD_OFF, 4 HOLD_BYTES,
5 COLL_OFF, 6 COLL_BYTES. -/
def State.layout (s : State) (slot k : Nat) : Nat := s.jobNat slot (s.baseTable slot + 0x3F0000 + 8 * k) 8

/-- The cave policy word for a layer, in the table at POLICY_ADDR; LAYER 4,095 or above takes a word of zeros, and a word
with a reserved bit set is taken as 0, its use counted (R193). -/
def State.policyWord (s : State) (slot r layer : Nat) : Nat × Bool :=
  if 4095 ≤ layer then (0, false)
  else
    let w := s.jobNat slot (s.rd pCAVE CAVE_REGION_POLICY_ADDR r + 8 * (1 + layer)) 8
    if bits w 63 48 ≠ 0 ∨ bits w 7 2 ≠ 0 then (0, true) else (w, false)

end Sys2Proof.Machine
end

