-- ==== Sys2Proof/Machine/Transport.lean ====
section
/-! DEFINITION. The transport (R360–R374): ports and their states, the egress of messages with credits and replay, the
choice of a port, bonds, and what a port does when it goes down. -/

namespace Sys2Proof.Machine

/-! ### Ports (R152, R160, R360) -/

/-- Width of sub-port k of an engine under its role and split; 0 where the port does not exist (R152, R360). -/
def State.portWidth (s : State) (p : Nat) : Nat :=
  let e := portPage p
  if s.rd e OPT_CFG_ROLE = 2 then 0
  else match s.rd e OPT_CFG_SPLIT with
    | 0 => if p % 4 = 0 then 16 else 0
    | 1 => if p % 4 < 2 then 8 else 0
    | _ => 4

/-- An optical engine whose page is dead (R31, R333). -/
def State.engineFenced (s : State) (e : Nat) : Bool := s.dead.any fun d => d.1 == pOPT + e

/-- Whether a port exists and its engine is in service. -/
def State.portExists (s : State) (p : Nat) : Bool := decide (p < 256) && s.portWidth p != 0 && !s.engineFenced (p / 4)

/-- LSTATE of a port (R363): 0 DISABLED, 1 DOWN, 2 TRAINING, 3 UP, 4 FAULTY, 5 SOAK. -/
def State.lstate (s : State) (p : Nat) : Nat := s.rd (portPage p) OPT_PORT_LSTATE (p % 4)

/-- Whether a port is UP. -/
def State.portUp (s : State) (p : Nat) : Bool := s.lstate p == 3

/-- Whether a port is a W-port or an S-port. -/
def State.isW (s : State) (p : Nat) : Bool := s.rd (portPage p) OPT_CFG_ROLE == 0
def State.isS (s : State) (p : Nat) : Bool := s.rd (portPage p) OPT_CFG_ROLE == 1

/-- The port state of R160: 0 FENCED, 1 AWAIT_KEY, 2 KEYED, 3 QUIESCE. -/
def State.portState (s : State) (p : Nat) : Nat := s.rd pDOCK DOCK_PORT_STATE p

/-- The job slot that holds a port. -/
def State.portSlot (s : State) (p : Nat) : Option Nat :=
  if s.rd pDOCK DOCK_PORT_HELD p = 1 then some (s.rd pDOCK DOCK_PORT_SLOT p) else none

/-- The ports of a job slot, ascending. -/
def State.jobPorts (s : State) (slot : Nat) : List Nat := (List.range 256).filter fun p => s.portSlot p == some slot

/-- The W-ports of a job, numbered from 0 in ascending port number (R374). -/
def State.jobWPorts (s : State) (slot : Nat) : List Nat := (s.jobPorts slot).filter s.isW

/-- The partition key of a job slot. -/
def State.partKey (s : State) (slot : Nat) : Word := BitVec.ofNat 64 (s.rd pDOCK DOCK_JOB_PART_KEY slot)

/-- Change LSTATE, and STATUS.UP with it. -/
def State.setLstate (s : State) (p v : Nat) : State :=
  let e := portPage p
  let s := s.wr e OPT_PORT_LSTATE v (p % 4)
  let up := s.rd e OPT_STATUS_UP
  let b := 2 ^ (p % 4)
  s.wr e OPT_STATUS_UP (if v = 3 then (if bit up (p % 4) then up else up + b) else if bit up (p % 4) then up - b else up)

/-! ### Addresses and headers (R370, R371) -/

/-- A MODULE address, an ENDPOINT address, a RANK address and a GROUP address. -/
def addrModule (id : Nat) : Nat := id % 2 ^ 14
def addrEndpoint (n : Nat) : Nat := 2 ^ 30 + n % 2 ^ 30
def addrRank (entry rank : Nat) : Nat := 2 * 2 ^ 30 + entry % 1024 * 2 ^ 14 + rank % 2 ^ 14
def addrGroup (entry : Nat) : Nat := 3 * 2 ^ 30 + entry % 1024 * 2 ^ 14

/-- This module's address; 0 until it has a valid GLB.MODULE_ID (R372). -/
def State.ownAddr (s : State) : Nat := if s.rd pGLB GLB_MODULE_ID_VALID = 1 then s.rd pGLB GLB_MODULE_ID_ID else 0

/-- Flits of a message (R370). -/
def msgFlits (len : Nat) : Nat := (32 + len + 243) / 244

/-- The 8-byte control header (R370). -/
def ctlHdr (ctype cseq : Nat) : List Byte := leBytes 4 ctype ++ leBytes 4 cseq

/-! ### Egress (R364–R366) -/

/-- Flits of replay buffer that a port has (R365). -/
def State.replayCap (s : State) (p : Nat) : Nat := 4096 / 2 ^ (s.rd (portPage p) OPT_CFG_SPLIT)

/-- Whether a message may start now: credits for every flit, room in the replay buffer, and a KEYED port for job frames
(R160, R365, R366). A disabled engine sends nothing new (R355). -/
def State.canSend (s : State) (p : Nat) (m : QMsg) : Bool :=
  let l := s.link p
  let n := msgFlits m.body.length
  decide (n ≤ l.credits.getD m.cls 0) && decide (l.sent + n ≤ l.acked + s.replayCap p)
    && (m.key == 0#64 || s.portState p == 2) && s.on (portPage p)

/-- Put a message's flits on the link. -/
def State.transmit (s : State) (p : Nat) (m : QMsg) : State :=
  let l := s.link p
  let n := msgFlits m.body.length
  let s := s.setLink p { l with
    sent := l.sent + n, replay := l.replay ++ [(l.sent + n, m)],
    credits := l.credits.modify m.cls (fun c => c - n) }
  (s.bump (portPage p) OPT_C_FLITS_TX n).emit (.msg p m.cls m.key m.dst m.src m.bond m.body)

/-- Send a message on a port: sunk while the port is not UP (R364), not accepted by a port of R160 that takes none, queued
while it may not start, in the order of its class. -/
def State.sendOn (s : State) (p : Nat) (m : QMsg) : State :=
  if !s.portUp p then s.bump (portPage p) OPT_C_EGRESS_DISCARDS
  else if m.key != 0#64 && (s.portState p == 0 || s.portState p == 3) then s
  else
    let l := s.link p
    if s.canSend p m && !(l.queue.any fun x => x.cls == m.cls) then s.transmit p m
    else s.setLink p { l with queue := l.queue ++ [m] }

/-- Send what a port's egress queue now allows, each class in order. -/
def State.flushPort (s : State) (p : Nat) : State :=
  let q := (s.link p).queue
  let s := s.setLink p { s.link p with queue := [] }
  q.foldl (fun s m => s.sendOn p m) s

/-! ### Bonds (R374) -/

/-- The ports that the BOND fields make members of bond b. -/
def State.bondPorts (s : State) (b : Nat) : List Nat :=
  (List.range 256).filter fun p => s.portExists p && s.rd (portPage p) OPT_PORT_CFG_IN_BOND (p % 4) == 1
    && s.rd (portPage p) OPT_PORT_CFG_BOND (p % 4) == b

/-- The bond of a port, while it joins 2–8 ports. -/
def State.bondOf (s : State) (p : Nat) : Option Nat :=
  if s.rd (portPage p) OPT_PORT_CFG_IN_BOND (p % 4) = 0 then none
  else
    let b := s.rd (portPage p) OPT_PORT_CFG_BOND (p % 4)
    let n := (s.bondPorts b).length
    if 2 ≤ n ∧ n ≤ 8 then some b else none

/-- The members that carry a bond: UP, of the role and neighbour of its lowest UP member (DEDUCED, log 18); none while a
locked bond has a member that is not UP. -/
def State.bondUp (s : State) (b : Nat) : List Nat :=
  let all := s.bondPorts b
  let ups := all.filter s.portUp
  if all.any (fun p => s.rd (portPage p) OPT_PORT_CFG_LOCK (p % 4) == 1) && decide (ups.length < all.length) then []
  else match ups with
    | [] => []
    | r :: _ => ups.filter fun p => s.rd (portPage p) OPT_CFG_ROLE == s.rd (portPage r) OPT_CFG_ROLE
        && s.rd (portPage p) OPT_PORT_NSERIAL (p % 4) == s.rd (portPage r) OPT_PORT_NSERIAL (r % 4)

/-- Send on a bond: BOND_SEQ counts per class, and the UP members take turns. What is sent on a bond that is not up is sunk
(R364). -/
def State.sendBond (s : State) (b p : Nat) (m : QMsg) : State :=
  match s.bondUp b with
  | [] => s.bump (portPage p) OPT_C_EGRESS_DISCARDS
  | ups =>
    let k := 8 * b + m.cls
    let d := s.bond k
    let s := s.setBond k { d with tx := (d.tx + 1) % 2 ^ 32, turn := d.turn + 1 }
    s.sendOn (ups.getD (d.turn % ups.length) p) { m with bond := some d.tx }

/-- Send a message on a named port, or on the bond that contains it. -/
def State.sendPort (s : State) (p : Nat) (m : QMsg) : State :=
  match s.bondOf p with
  | some b => s.sendBond b p m
  | none => s.sendOn p m

/-! ### Choosing a port (R374) -/

/-- Whether a port can carry a message: it is UP, and so is the bond that contains it. -/
def State.portCarries (s : State) (p : Nat) : Bool :=
  s.portUp p && (match s.bondOf p with | some b => !(s.bondUp b).isEmpty | none => true)

/-- The port for a message of a job that names none. -/
def State.choosePort (s : State) (slot dst : Nat) : Option Nat :=
  let w := if dst < 2 ^ 30 then
      (s.jobWPorts slot).find? fun p => s.portCarries p && s.rd (portPage p) OPT_PORT_NADDR (p % 4) == dst
    else none
  match w with
  | some p => some p
  | none => (s.jobPorts slot).find? fun p => s.isS p && s.portCarries p

/-- Send a job's message on a named port. -/
def State.sendJobOn (s : State) (slot p cls dst : Nat) (body : List Byte) : State :=
  s.sendPort p ⟨cls, s.partKey slot, dst, s.ownAddr, none, body⟩

/-- Send a job's message on the port that R374 chooses; with none it waits at the engine attachment. -/
def State.sendJob (s : State) (slot cls dst : Nat) (body : List Byte) : State :=
  match s.choosePort slot dst with
  | some p => s.sendJobOn slot p cls dst body
  | none => { s with unrouted := s.unrouted ++ [(slot, ⟨cls, s.partKey slot, dst, s.ownAddr, none, body⟩)] }

/-- Send the waiting messages for which a port now qualifies. -/
def State.flushUnrouted (s : State) : State :=
  let l := s.unrouted
  l.foldl (fun s x => match s.choosePort x.1 x.2.dst with
    | some p => s.sendPort p x.2
    | none => { s with unrouted := s.unrouted ++ [x] }) { s with unrouted := [] }

/-- Send a CONTROL message under key 0 on a port (R150, R370). -/
def State.sendCtl (s : State) (p ctype cseq dst : Nat) (body : List Byte) : State :=
  s.sendPort p ⟨0, 0#64, dst, s.ownAddr, none, ctlHdr ctype cseq ++ body⟩

/-! ### IDENT (R372) -/

/-- The 24-byte IDENT payload of a port. -/
def State.identBody (s : State) (p : Nat) : List Byte :=
  leBytes 1 1 ++ leBytes 1 (s.rd (portPage p) OPT_CFG_ROLE) ++ leBytes 1 (s.portWidth p) ++ leBytes 1 0
    ++ leBytes 4 s.ownAddr ++ leBytes 8 (s.rd pSEC SEC_SERIAL_SERIAL) ++ leBytes 2 p ++ leBytes 6 0

/-- Send IDENT on a port whose link is initialised; it is the first message of the link, and consumes its credits. -/
def State.sendIdent (s : State) (p : Nat) : State :=
  let m : QMsg := ⟨7, 0#64, 0, 0, none, s.identBody p⟩
  if s.canSend p m then s.transmit p m else s.setLink p { s.link p with queue := (s.link p).queue ++ [m] }

/-- IDENT again on every UP port, after a change of GLB.MODULE_ID (R372). -/
def State.resendIdent (s : State) : State :=
  ((List.range 256).filter s.portUp).foldl (fun s p => s.sendIdent p) s

/-! ### Going down (R364, R367–R369) -/

/-- A port leaves UP: LINK_DOWN, its replay buffer and queue discarded, the messages of the queue counted (DEDUCED, log 177); a
bond's messages go to its surviving members (R364, R374). -/
def State.portLeave (s : State) (p dest : Nat) : State :=
  let l := s.link p
  let was := s.portUp p
  let s := s.setLink p { faulty := l.faulty, viols := l.viols }
  let s := s.setLstate p dest
  let s := if was then (s.raiseEvt (portPage p) OPT_EVT_STATUS_LINK_DOWN).bump (portPage p) OPT_C_LINK_DOWNS else s
  let on := match s.bondOf p with | some b => (s.bondUp b).head? | none => none
  let gone := fun (m : QMsg) => m.bond.isNone || on.isNone
  let s := s.bump (portPage p) OPT_C_EGRESS_DISCARDS (l.queue.filter gone).length
  match on with
  | none => s
  | some q => ((l.replay.map (·.2) ++ l.queue).filter fun m => m.bond.isSome).foldl (fun s m => s.sendOn q m) s

/-- 600 s and 1 s in nanoseconds. -/
def ns600 : Nat := 600000000000
def ns1 : Nat := 1000000000

/-- A port becomes FAULTY, or DISABLED for the third time within 600 s (R369). FAULTY_COUNT records the entries. -/
def State.portFaulty (s : State) (p : Nat) : State :=
  let s := s.portLeave p 4
  let l := s.link p
  let fs := (l.faulty.filter fun t => decide (s.tb.ref < t + ns600)) ++ [s.tb.ref]
  let s := (s.setLink p { l with faulty := fs }).wr (portPage p) OPT_PORT_FAULTY_COUNT (min 3 fs.length) (p % 4)
  if 3 ≤ fs.length then s.setLstate p 0 else s

/-! ### Waiting reports and management messages (R166, R435) -/

/-- Send the management messages that waited for a lane (R435). -/
def State.flushMgt (s : State) : State :=
  if s.mgtUp then
    s.mgtWait.foldl (fun s o => (s.emit o).bump pMGT MGT_C_FRAMES_OUT) { s with mgtWait := [] }
  else s

end Sys2Proof.Machine
end

