-- ==== Sys2Proof/Machine/GroupTable.lean ====
section
/-! DEFINITION. The group table of the header in force (R266–R268): members, rank lists, live members and the ranks that
this module plays; and the checks that an arriving transport message passes (R373). -/

namespace Sys2Proof.Machine

/-- A job's membership record. -/
def State.grp (s : State) (slot : Nat) : Grp := tabGet (fun _ => {}) s.grps slot

/-- Replace a job's membership record. -/
def State.setGrp (s : State) (slot : Nat) (g : Grp) : State := { s with grps := tabSet (fun _ => ({} : Grp)) s.grps slot g }

/-- The job offset of the group table in force. -/
def State.groupOff (s : State) (slot : Nat) : Nat := s.tableOff slot + 0x380000

/-- A header field of the group table. -/
def State.gHdr (s : State) (slot off n : Nat) : Nat := s.jobNat slot (s.groupOff slot + off) n

def State.gMembers (s : State) (slot : Nat) : Nat := s.gHdr slot 0 2
def State.gGroups (s : State) (slot : Nat) : Nat := s.gHdr slot 2 2
def State.gSelf (s : State) (slot : Nat) : Nat := s.gHdr slot 4 2
def State.gLostMax (s : State) (slot : Nat) : Nat := s.gHdr slot 6 1
def State.gJoin (s : State) (slot : Nat) : Bool := bit (s.gHdr slot 14 1) 0

/-- A field of member i in a membership list at MEMBER_OFF of a group table. -/
def State.memberAt (s : State) (slot i off n : Nat) : Nat := s.jobNat slot (s.gHdr slot 16 8 + 16 * i + off) n

/-- MODULE of member i, as joins have replaced it (R284). -/
def State.memberModule (s : State) (slot i : Nat) : Nat :=
  match (s.grp slot).replaced.find? (·.1 == i) with
  | some x => x.2
  | none => s.memberAt slot i 0 2 % 2 ^ 14

def State.memberBuddy (s : State) (slot i : Nat) : Nat := s.memberAt slot i 2 2
def State.memberStandIn (s : State) (slot i : Nat) : Nat := s.memberAt slot i 4 2

/-- The lost set of a job (PLC.JOB). -/
def State.lostSet (s : State) (slot : Nat) : List Nat :=
  [s.rd pPLC PLC_JOB_LOST_A slot, s.rd pPLC PLC_JOB_LOST_B slot].filter (· != 0xFFFF)

/-- The live members, ascending. -/
def State.liveMembers (s : State) (slot : Nat) : List Nat :=
  let lost := s.lostSet slot
  (List.range (s.gMembers slot)).filter fun i => !lost.contains i

/-- The indices that this module plays: its own and every lost one whose stand-in it is (R268). -/
def State.played (s : State) (slot : Nat) : List Nat :=
  let me := s.gSelf slot
  let lost := s.lostSet slot
  me :: lost.filter fun d => d != me && s.memberStandIn slot d == me

/-- A rank list of a group entry: level 1 or 2 (R266). -/
def State.rankList (s : State) (slot entry level : Nat) : List Nat :=
  let t := s.groupOff slot
  let e := t + 64 + 16 * entry
  let n := s.jobNat slot (e + (if level = 1 then 0 else 2)) 2
  let o := s.jobNat slot (e + (if level = 1 then 4 else 8)) 4
  (List.range n).map fun k => s.jobNat slot (t + o + 2 * k) 2

/-- The ranks of a list that this module plays, ascending (R268). -/
def State.ranksPlayed (s : State) (slot : Nat) (l : List Nat) : List Nat :=
  let me := s.played slot
  (l.zipIdx.filter fun p => me.contains p.1).map (·.2)

/-- The membership index that plays index i: itself, or its stand-in while it is lost. -/
def State.playerOf (s : State) (slot i : Nat) : Nat :=
  if (s.lostSet slot).contains i then s.memberStandIn slot i else i

/-- The module that plays a membership index. -/
def State.playerModule (s : State) (slot i : Nat) : Nat := s.memberModule slot (s.playerOf slot i)

/-- GEPOCH of a job. -/
def State.gepoch (s : State) (slot : Nat) : Nat := s.rd pPLC PLC_JOB_GEPOCH slot

/-! ### An arriving message (R150, R160, R373) -/

/-- A frame dropped for its key: the port's STALE_DROPS, which saturates, and the sum (R150, R160). -/
def State.staleDrop (s : State) (p : Nat) : State :=
  (s.wr pDOCK DOCK_PORT_STALE_DROPS (min (s.rd pDOCK DOCK_PORT_STALE_DROPS p + 1) 0xFFFFFFFF) p).bump pDOCK DOCK_C_STALE_DROPS

/-- Whether the reserved bits of an address are 0 (R371). -/
def addrForm (a : Nat) : Bool :=
  match a / 2 ^ 30 with
  | 0 => decide (a < 2 ^ 14)
  | 1 => true
  | 2 => a / 2 ^ 24 % 64 == 0
  | _ => a / 2 ^ 24 % 64 == 0 && a % 2 ^ 14 == 0

/-- Check 1 of R373. BOND_SEQ is 0 where BONDED is 0 (R370), and the reserved bits of DST and SRC are 0 (DEDUCED, log
149). -/
def Msg.wellFormed (m : Msg) : Bool :=
  m.version == 1 && decide (m.cls < 8) && decide (m.flags < 2) && (m.flags == 1 || m.bondSeq == 0) && addrForm m.dst
    && addrForm m.src && decide (1 ≤ m.body.length) && decide (m.body.length ≤ 16448)

/-- Whether DST names this module within a job (check 3 of R373). -/
def State.dstHere (s : State) (slot dst : Nat) : Bool :=
  let k := dst / 2 ^ 30
  if k = 0 then dst == s.rd pGLB GLB_MODULE_ID_ID && s.rd pGLB GLB_MODULE_ID_VALID == 1
  else
    let e := dst / 2 ^ 14 % 1024
    let l := s.rankList slot e 2
    decide (k ≠ 1) && decide (e < s.gGroups slot)
      && (if k = 2 then (s.ranksPlayed slot l).contains (dst % 2 ^ 14) else !(s.ranksPlayed slot l).isEmpty)

/-- Whether a CONTROL payload under key 0 is one of those R150 allows: CTYPE 1–6 on an S-port. -/
def State.ctlAllowed (s : State) (m : Msg) : Bool :=
  m.cls == 0 && m.key == 0#64 && s.isS m.port && decide (1 ≤ byteAt m.body 0) && decide (byteAt m.body 0 ≤ 6)

/-- The checks of R373 on a message of a job: the state with the failing check's counter, and the job slot when every
check passes. A message from this module's own blocks (port 256) passes none of them. -/
def State.admitMsg (s : State) (m : Msg) : State × Option Nat :=
  if 256 ≤ m.port then (s, (List.range 16).find? fun j => s.rd pDOCK DOCK_JOB_STATE j == 3 && s.partKey j == m.key)
  else
    let e := portPage m.port
    if !s.portUp m.port then (s, none)
    else if !Msg.wellFormed m then (s.bump e OPT_C_MALFORMED_DROPS, none)
    else if s.isW m.port && (m.src != s.rd e OPT_PORT_NADDR (m.port % 4) || m.src == 0 || decide (2 ^ 30 ≤ m.src)) then
      (s.bump e OPT_C_MISADDR_DROPS, none)
    else if m.cls == 0 && m.key == 0#64 then
      -- DST is not looked at: the key checks decide (R150, R373 check 3)
      (if s.ctlAllowed m then s else s.staleDrop m.port, none)
    else match s.portSlot m.port with
      | none =>
        if m.dst == s.ownAddr && s.rd pGLB GLB_MODULE_ID_VALID == 1 then (s.staleDrop m.port, none)
        else (s.bump e OPT_C_MISADDR_DROPS, none)
      | some j =>
        if !s.dstHere j m.dst then (s.bump e OPT_C_MISADDR_DROPS, none)
        else if m.key == 0#64 || s.portState m.port != 2 || m.key != s.partKey j then (s.staleDrop m.port, none)
        else (s, some j)

/-- The checks of R373 on a CONTROL message under key 0. -/
def State.admitCtl (s : State) (m : Msg) : State × Bool :=
  if 256 ≤ m.port || !s.portUp m.port then (s, false)
  else if !Msg.wellFormed m then (s.bump (portPage m.port) OPT_C_MALFORMED_DROPS, false)
  else if s.ctlAllowed m then (s, true)
  else (s.staleDrop m.port, false)

end Sys2Proof.Machine
end

