-- ==== Sys2Proof/Machine/Mailbox.lean ====
section
/-! DEFINITION. The mailbox engine (R436–R439): the checks of a request, its response, and CONTROL messages on either
path (R370, R438). -/

namespace Sys2Proof

/-! ### CONTROL payloads (R370) -/

/-- The payload of a CONTROL message. -/
def CtlMsg.payload (c : CtlMsg) : List Byte := match c with | .mgmt f => f.payload | .port m => m.body

/-- The body after the 8-byte control header. -/
def CtlMsg.body (c : CtlMsg) : List Byte := c.payload.drop 8

/-- CTYPE and CSEQ of a CONTROL message. -/
def CtlMsg.ctype (c : CtlMsg) : Nat := Machine.byteAt c.payload 0
def CtlMsg.cseq (c : CtlMsg) : Nat := Machine.leAt c.payload 4 4

/-- The path that a CONTROL message came on. -/
def CtlMsg.path (c : CtlMsg) : CtlPath := match c with | .mgmt _ => .mgmt | .port m => .port m.port

end Sys2Proof

namespace Sys2Proof.Machine

/-- STATUS codes (R438). -/
def stOk : Nat := 0
def stBadVersion : Nat := 1
def stBadOpcode : Nat := 2
def stBadLength : Nat := 3
def stBusy : Nat := 4
def stDenied : Nat := 5
def stNoJob : Nat := 6
def stNoSlot : Nat := 7
def stUnwrap : Nat := 8
def stBadToken : Nat := 9
def stAuthNeeded : Nat := 10

/-- BOOT_STAGE (R448). -/
def State.stage (s : State) : Nat := s.rd pGLB GLB_STATUS_BOOT_STAGE

/-- Enter a boot stage. -/
def State.setStage (s : State) (v : Nat) : State := s.wr pGLB GLB_STATUS_BOOT_STAGE v

/-- SEC.LIFECYCLE: 0 MANUFACTURE, 1 DEPLOYED, 2 DEBUG, 3 RETIRED. -/
def State.lifecycle (s : State) : Nat := s.rd pSEC SEC_LIFECYCLE_STATE

/-- Whether a warm or cold reset is in progress (R39). -/
def State.wholeReset (s : State) : Bool := s.resets.any fun x => x.1 == .cold || x.1 == .warm

/-- Send a response to a request (R437). -/
def State.respond (s : State) (opcode : Nat) (f : MgtReq) (st : Nat) (payload : List Byte) : State :=
  ((s.emit (s.mgtOut opcode 1 st f.pair f.seq f.arg payload)).wr pMBX MBX_PAIR_LAST_STATUS st f.pair
    |>.bump pMBX MBX_C_RESPONSES).bump pMGT MGT_C_FRAMES_OUT

/-- Whether a message's TAG verifies under the management key (R436). -/
def State.tagOk (s : State) (opcode : Nat) (f : MgtReq) : Bool :=
  let h := mgtHeader f.major f.minor opcode f.flags f.length 0 f.pair f.seq f.arg
  (hmac256 s.mgtKey (h ++ f.payload)).take 12 == f.tag

/-- A request at the management port (R437): the six checks in order, then the opcode's own action, which gives a status
and the response's payload. `known` is false for an opcode outside R438; `least` is the minimum payload length. -/
def State.mailbox (s : State) (opcode : Nat) (open_ known : Bool) (least : Nat) (f : MgtReq)
    (run : State → State × Nat × List Byte) : State :=
  if s.wholeReset || s.stage = 1 then s
  else
  let s := s.bump pMGT MGT_C_FRAMES_IN
  if s.stage = 0xFE then s.respond opcode f stDenied []
  else if f.major ≠ 2 then ((s.raiseErr pMBX MBX_ERR_STATUS_BAD_VERSION).bump pMBX MBX_C_VERSION_FAILS).respond opcode f stBadVersion []
  else if f.flags % 4 ≠ 0 ∨ 28 ≤ f.pair ∨ f.length ≠ f.payload.length ∨ 4096 < f.length then
    s.raiseErr pMBX MBX_ERR_STATUS_LENGTH
  else if !open_ && s.rd pMGT MGT_STATUS_KEY_VALID = 0 then s.respond opcode f stAuthNeeded []
  else if !open_ && !s.tagOk opcode f then (s.raiseErr pMBX MBX_ERR_STATUS_HMAC_FAIL).bump pMBX MBX_C_HMAC_FAILS
  else if !open_ && f.seq ≤ s.rd pMBX MBX_PAIR_LAST_SEQ_IN f.pair then
    (s.raiseErr pMBX MBX_ERR_STATUS_SEQ_FAIL).bump pMBX MBX_C_SEQ_FAILS
  else if s.rd pMBX MBX_PAIR_BUSY f.pair = 1 then (s.bump pMBX MBX_C_BUSY_ANSWERS).respond opcode f stBusy []
  else if !known then s.respond opcode f stBadOpcode []
  else if f.length < least then s.respond opcode f stBadLength []
  else
    let s := s.wrs pMBX [(MBX_PAIR_LAST_SEQ_IN, f.seq), (MBX_PAIR_LAST_OPCODE, opcode)] f.pair
    let (s, st, p) := run (s.bump pMBX MBX_C_REQUESTS)
    s.respond opcode f st p

/-- Whether a response to a module-originated request on a pair is the one to its SEQ: RESPONSE and MODULE_ORIGIN set, and
a valid TAG (R437). -/
def State.answers (s : State) (opcode pair seq : Nat) (f : MgtReq) : Bool :=
  f.flags % 4 == 3 && f.pair == pair && f.seq == seq && f.major == 2 && f.length == f.payload.length
    && s.rd pMGT MGT_STATUS_KEY_VALID == 1 && s.tagOk opcode f

/-! ### CONTROL messages on either path (R370) -/

/-- A CONTROL request of a given CTYPE that asks the module to do something: on the management port a request on pairs
0–27, answered with the status that the action gives; on an S-port a message under key 0 (R162, R438). -/
def State.ctlRequest (s : State) (c : CtlMsg) (ctype : Nat) (run : State → State × Nat) : State :=
  match c with
  | .mgmt f => s.mailbox 0x30 false true 8 f fun s =>
      if c.ctype = ctype then let (s, st) := run s; (s, st, []) else (s, stOk, [])
  | .port m =>
    let (s, ok) := s.admitCtl m
    if ok && c.ctype == ctype then (run s).1 else s

/-- Whether a CONTROL message answers what was sent on a path with a SEQ or CSEQ: on the management port the response to
that SEQ on pair 28, on an S-port a message that repeats the CSEQ (R149, R457). -/
def State.ctlAnswers (s : State) (c : CtlMsg) (sent : CtlPath × Nat) : Bool :=
  match c with
  | .mgmt f => sent.1 == .mgmt && s.answers 0x30 28 sent.2 f
  | .port m => sent == (.port m.port, c.cseq)

/-- Take an arriving CONTROL answer past its path's checks: false when it is dropped there. -/
def State.ctlArrive (s : State) (c : CtlMsg) : State × Bool :=
  match c with
  | .mgmt _ => if s.wholeReset || s.stage = 1 || s.stage = 0xFE then (s, false) else (s.bump pMGT MGT_C_FRAMES_IN, true)
  | .port m => s.admitCtl m

/-- Whether a CONTROL message carries a valid TAG where its path asks for one. -/
def State.ctlAuth (s : State) (c : CtlMsg) : Bool :=
  match c with
  | .mgmt f => s.rd pMGT MGT_STATUS_KEY_VALID == 1 && f.flags % 4 == 3 && f.pair == 28 && s.tagOk 0x30 f
  | .port _ => true

/-- Whether the management port can carry a CONTROL request: a key, a destination and a lane (R455). -/
def State.mgtPath (s : State) : Bool :=
  s.rd pMGT MGT_STATUS_KEY_VALID == 1 && s.rd pMGT MGT_CLUSTER_MAC_MAC != 0 && s.mgtUp

/-- The next CSEQ. -/
def State.nextCseq (s : State) : Nat × State :=
  (s.boot.cseq, { s with boot := { s.boot with cseq := (s.boot.cseq + 1) % 2 ^ 32 } })

/-- Send a CONTROL message on a path to the cluster controller; gives the SEQ or CSEQ by which its answer is known
(R370, R455). -/
def State.sendControl (s : State) (path : CtlPath) (ctype : Nat) (body : List Byte) : Nat × State :=
  let (c, s) := s.nextCseq
  match path with
  | .mgmt => (s.rd pMBX MBX_PAIR_SEQ_OUT 28, s.sendMgt 0x30 28 (ctlHdr ctype c ++ body))
  | .port p => (c, s.sendCtl p ctype c (addrEndpoint 0) body)

end Sys2Proof.Machine
end

