-- ==== Sys2Proof/Machine/RegSpace.lean ====
section
/-! DEFINITION. Access to the register space (R23–R29, R31, R39): which accesses are refused, and what a plain write does
to the fields of a register. -/

namespace Sys2Proof.Machine

/-- The offset of an address in its page, and its page. -/
def offOf (addr : Nat) : Nat := addr % 65536
def pageOf (addr : Nat) : Nat := addr / 65536

/-- Whether a reset of a kind covers a page's registers, or some of them, in the sense of STATUS.RESET_BUSY: a job reset
counts on the pages that R36 lists and on the REG pages (DEDUCED, log 20). -/
def resetCovers (k : ResetKind) (rp page : Nat) : Bool :=
  match k with
  | .cold | .warm => true
  | .job => [pDOCK, pSCT, pCE, pUPD, pCAVE, pPLC].contains page || decide (pREG ≤ page)
  | .block => rp == page

/-- STATUS.RESET_BUSY of a page: a reset that covers it is in progress, the cold reset of SELFTEST included (R36, R449). -/
def State.resetBusy (s : State) (page : Nat) : Bool :=
  s.stage == 1 || s.resets.any fun x => resetCovers x.1 x.2 page

/-- A dead page (R31). -/
def State.deadPage (s : State) (page : Nat) : Bool :=
  s.dead.any (fun d => d.1 == page)
    || (decide (pREG ≤ page) && (s.regionState (page - pREG) == 3 || s.regionState (page - pREG) == 4))
    || (decide (pMEM ≤ page ∧ page < pMEM + 26) && s.rd page MEM_STATUS_STATE == 2)

/-- STATUS of a page with the common bits that follow other registers (R33): RESET_BUSY, EXPERT_ACTIVE, ERR_PENDING. -/
def State.statusWord (s : State) (page : Nat) : Nat :=
  let v := (s.getReg (regAddr page 0x18)).toNat
  let v := putBits v 2 2 (b2n (s.resetBusy page))
  let v := putBits v 3 3 (b2n (s.regs.any fun e => decide (regAddr page 0x800 ≤ e.1) && decide (e.1 < regAddr page 0xC00)))
  putBits v 4 4 (b2n (s.errPending page))

/-- The two values that a fenced page keeps; no page holds these before it is fenced. -/
def deadInit (_ : Nat) : Word × Word := (~~~0#64, ~~~0#64)

/-- A page becomes dead: STATUS and ERR_STATUS stay readable as they are now (R31). -/
def State.killPage (s : State) (page : Nat) : State :=
  if s.dead.any fun d => d.1 == page then s
  else { s with dead := tabSet deadInit s.dead page (BitVec.ofNat 64 (s.statusWord page), s.getReg (regAddr page 0x20)) }

/-- The power and thermal registers of a REG page (R29): the ranges that R116 gives to chapter 17, an offset there that no
register has included (DESIGN CHOICE, log 151). -/
def powerReg (off : Nat) : Bool :=
  decide (0x600 ≤ off ∧ off < 0x800) || decide (0xB00 ≤ off ∧ off < 0xC00) || decide (0xE00 ≤ off ∧ off < 0x1000)
    || decide (0x8000 ≤ off)

/-- Whether R29 allows a requester an access. -/
def State.mayAccess (s : State) (q : Requester) (page off : Nat) (write : Bool) : Bool :=
  match q with
  | .mgmt => true
  | .jtag => s.lifecycle == 0 || s.lifecycle == 2
  | .mmc => !write || [pMGT, pMBX, pFWC, pTHM, pCAL].contains page || (page == pGLB && off == 0x140)
      || (page == pPWR && off != 0x100 && !(decide (0x2000 ≤ off ∧ off < 0x22D8)))
      || (decide (pREG ≤ page) && (powerReg off || off == 0x20))
  | .rcc r =>
      if write then page == regPage r && ((powerReg off && off != 0x608) || off == 0x20)
      else page == regPage r || [pPWR, pTHM, pTBASE, pGLB].contains page

/-- The PATH code of a requester (GLB.ACCESS_ERR_ADDR). -/
def pathCode (q : Requester) : Nat := match q with | .jtag => 0 | .mgmt => 1 | .mmc => 2 | .rcc _ => 3

/-- Why an access is refused: the first row of R24 that applies. -/
def State.refuses (s : State) (q : Requester) (addr bytes : Nat) (write : Bool) (v : Word) : Option Fld :=
  let p := pageOf addr
  let o := offOf addr
  let matched := s.rd pGLB GLB_EXPERT_STATUS_MATCHED == 1
  if !pageAssigned p then some GLB_ERR_STATUS_UNMAPPED
  else if bytes ≠ 8 ∨ addr % 8 ≠ 0 then some GLB_ERR_STATUS_BAD_ACCESS
  else if !s.mayAccess q p o write then some GLB_ERR_STATUS_PERM_DENIED
  else if s.deadPage p && (write || !([0x0, 0x8, 0x18, 0x20].contains o)) then some GLB_ERR_STATUS_DEAD_PAGE
  else if write && s.resetBusy p then some GLB_ERR_STATUS_BUSY_WRITE
  else if write && ((decide (0x800 ≤ o ∧ o < 0xC00) && !(matched && s.rd p cExpert == 1))
      || (o == 0x10 && bit v.toNat 1 && !matched)) then some GLB_ERR_STATUS_EXPERT_DENIED
  else none

/-- Record and count a refused access (R24). -/
def State.refuseAccess (s : State) (q : Requester) (addr : Nat) (write : Bool) (f : Fld) : State :=
  let s := (s.raiseErr pGLB f).bump pGLB GLB_C_ACCESS_ERR_COUNT
  if s.rd pGLB GLB_ACCESS_ERR_ADDR_VALID = 1 then s
  else s.wrs pGLB [(GLB_ACCESS_ERR_ADDR_ADDR, addr), (GLB_ACCESS_ERR_ADDR_PATH, pathCode q),
    (GLB_ACCESS_ERR_ADDR_WRITE, b2n write), (GLB_ACCESS_ERR_ADDR_VALID, 1)]

/-- Serve a write: refused and recorded under R24, ignored while a warm reset runs (R39), else its effect. -/
def State.serveWrite (s : State) (q : Requester) (addr : Nat) (v : Word) (eff : State → State) (bytes : Nat := 8) : State :=
  if s.wholeReset then s
  else match s.refuses q addr bytes true v with
    | some f => s.refuseAccess q addr true f
    | none => eff s

/-- What a plain write leaves in one field (R25): RW takes the value, W1C clears the bits written 1, the rest stays. -/
def fieldWrite (old v : Nat) (f : FieldDef) : Nat :=
  match f.acc with
  | .rw => putBits old f.hi f.lo (bits v f.hi f.lo)
  | .w1c => putBits old f.hi f.lo (Nat.land (bits old f.hi f.lo) (2 ^ (f.hi + 1 - f.lo) - 1 - bits v f.hi f.lo))
  | _ => old

/-- A plain write of a register: every field after its access type; an undefined offset ignores it (R24–R26). -/
def State.plainWrite (s : State) (addr : Nat) (v : Word) : State :=
  match regDefAt (pageOf addr) (offOf addr) with
  | none => s
  | some d => s.setReg addr (BitVec.ofNat 64 (d.fields.foldl (fun a f => fieldWrite a v.toNat f) (s.getReg addr).toNat))

/-- A plain write of a register except one field, which keeps its value. -/
def State.writeExcept (s : State) (addr : Nat) (v : Word) (f : Fld) : State :=
  let old := bits (s.getReg addr).toNat f.hi f.lo
  s.plainWrite addr (BitVec.ofNat 64 (putBits v.toNat f.hi f.lo old))

/-- A field of a value being written. -/
def Fld.of (f : Fld) (v : Word) : Nat := bits v.toNat f.hi f.lo

end Sys2Proof.Machine
end

