-- ==== Sys2Proof/Machine/CaveUnit.lean ====
section
/-! DEFINITION. The cave (R192–R203): CAVE_PUSH, CAVE_POP, the arrival of a push, recompute, and what spans, steps, cuts and
teardown do to a region's cave. -/

namespace Sys2Proof.Machine

/-! ### The directory -/

/-- A record's key (R194). -/
def CaveRec.key (e : CaveRec) : Nat × Nat × Nat := (e.layer, e.mb, e.sid)

/-- The end of the highest entry that still takes space, or BASE (R198). -/
def State.caveTop (s : State) (r : Nat) : Nat :=
  (s.cave r).recs.foldl (fun a e => if e.size = 0 then a else max a (e.addr + e.size)) (s.rd pCAVE CAVE_REGION_BASE r)

/-- Bring TOP, PEAK and the record counts of CAVE.REGION up to date. -/
def State.caveRegs (s : State) (r : Nat) : State :=
  let top := s.caveTop r
  let recs := (s.cave r).recs
  s.wrs pCAVE [(CAVE_REGION_TOP, top), (CAVE_REGION_PEAK, max top (s.rd pCAVE CAVE_REGION_PEAK r)),
    (CAVE_REGION_RECORDS, recs.length), (CAVE_REGION_DROPPED_LIVE, (recs.filter (·.state == 2)).length)] r

/-- Replace the directory of a region. -/
def State.setRecs (s : State) (r : Nat) (l : List CaveRec) : State :=
  (s.setCave r { s.cave r with recs := l }).caveRegs r

/-- Entry length: T × BYTES rounded up to a multiple of 64 (R194). -/
def entrySize (rect bytes : Nat) : Nat := (rectCount rect * bytes + 63) / 64 * 64

/-! ### CAVE_PUSH and its arrival (R194, R195) -/

/-- The issue checks of CAVE_PUSH (R123, R194); a recompute sequence may push in either stream (R201). -/
def State.pushIssue (s : State) (r : Nat) (c : Cmd) : Issue :=
  let src := c.w 0 52 32
  let bytes := c.w 1 31 0
  { badField := malformed c [(17, 16), (52, 32)] [(47, 0)] [(31, 0)] [] || (fmtOf (c.w 0 17 16)).isNone || rectBad (c.w 2 15 0)
      || pastEnd src bytes,
    inDef := (s.recompAt r).isSome, inRec := true, opens := true, cls := 4, reads := [(src, src + bytes)], block := some pCAVE,
    ctx := some (c.w 2 31 16, 2) }

/-- What a CAVE_PUSH that has issued does: the bytes of its tiles are read, and the push is on its way (R194). -/
def State.pushTiles (s : State) (a : At) (c : Cmd) : State :=
  let bytes := c.w 1 31 0
  let rect := c.w 2 15 0
  let data := (rectTiles rect).map fun t => s.sramRead a.r t (c.w 0 52 32) bytes
  let s := ((rectTiles rect).zip data).foldl (fun s p => s.addDigest a p.1 0 p.2) s
  s.queuePush a (pushEntry (c.w 1 47 32) a.mb (c.w 2 31 16) 0 (c.w 0 17 16) false rect bytes) data

/-- CAVE_PUSH (R194). -/
def execCavePush (r : RegionIx) (deferred : Bool) (c : Cmd) (s : State) : Host.Outcome State Fault Refusal :=
  keep s (s.issue r deferred c 0x30 (s.pushIssue r c) fun a s => s.pushTiles a c)

/-- A push of a recompute sequence: the one matching push fills the recompute buffer (R201). -/
def State.recompPush (s : State) (r : Nat) (p : CavePush) : State :=
  let v := s.cave r
  let slot := s.jobOf r
  let lim := s.rd pCAVE CAVE_REGION_LIMIT r
  match v.recomp with
  | none => s
  | some rc =>
    let key := match v.recs[rc.recIdx]? with | some e => e.key | none => (0, 0, 0)
    if rc.pushed || p.entry.key != key || decide (s.rd pCAVE CAVE_REGION_END r < lim + entrySize p.entry.rect p.entry.bytes) then
      s.caveFault r p.deferred p.pc CAVE_ERR_STATUS_RECOMP_FAIL p.entry.mb p.entry.sid p.entry.layer
    else
      let s := s.jobWrite slot lim p.data.flatten
      s.setCave r { v with recomp := some { rc with pushed := true }, bufKey := some key }

/-- The cave controller takes the push at the head of a region's queue (R195). -/
def State.takePush (s : State) (r : Nat) (p : CavePush) : State :=
  let v := s.cave r
  let slot := s.jobOf r
  let n := rectCount p.entry.rect * p.entry.bytes
  let size := entrySize p.entry.rect p.entry.bytes
  let s := s.bump pCAVE CAVE_C_PUSHES
  if p.recomp then s.recompPush r p
  else
    let (w, bad) := s.policyWord slot r p.entry.layer
    let s := s.iff bad (·.bump pCAVE CAVE_C_POLICY_BAD)
    let mayDrop := bit w (if p.entry.kind = 0 then 1 else 0)
    let top := s.caveTop r
    let fault := fun (s : State) f => s.caveFault r p.deferred p.pc f p.entry.mb p.entry.sid p.entry.layer
    if 8192 ≤ v.recs.length then fault s CAVE_ERR_STATUS_DIR_FULL
    else if mayDrop && decide (s.rd pCAVE CAVE_REGION_DROP_LIMIT r < top + size) then
      ((s.setRecs r (v.recs ++ [{ p.entry with state := 2 }])).bump pCAVE CAVE_C_DROPS).raiseEvt pCAVE CAVE_EVT_STATUS_DROPPED
    else if !mayDrop && decide (s.rd pCAVE CAVE_REGION_LIMIT r < top + size) then fault s CAVE_ERR_STATUS_OVERFLOW
    else
      ((s.jobWrite slot top p.data.flatten).setRecs r (v.recs ++ [{ p.entry with addr := top, size := size, state := 0 }])).bump
        pCAVE CAVE_C_PUSH_BYTES n

/-- CAVE_PUSH_ARRIVAL (R195). -/
def execCavePushArrival (r : RegionIx) (s : State) : Host.Outcome State Fault Refusal :=
  keepQ s (match (s.cave r).pushes with
  | [] => s
  | p :: rest => ((s.setCave r { s.cave r with pushes := rest }).takePush r p).finish r p.outId 4)

/-! ### CAVE_POP (R196, R197, R200) -/

/-- The topmost record with a key whose state is LIVE or DROPPED (R196): its index and the record. -/
def Cave.topmost (v : Cave) (key : Nat × Nat × Nat) : Option (Nat × CaveRec) :=
  ((v.recs.zipIdx.filter fun p => p.1.key == key && p.1.state != 1).getLast?).map fun p => (p.2, p.1)

/-- Whether the recompute buffer still holds a DROPPED record that was popped from it before (R203). -/
def Cave.buffered (v : Cave) (e : CaveRec) : Bool := e.fromDrop && v.bufKey == some e.key

/-- Start the recompute of a DROPPED record, or fault (R200). -/
def State.startRecompute (s : State) (c : Cmd) (ix : Nat) (e : CaveRec) (a : At) : State :=
  let slot := s.jobOf a.r
  let (w, bad) := s.policyWord slot a.r e.layer
  let s := s.iff bad (·.bump pCAVE CAVE_C_POLICY_BAD)
  let len := bits w 47 32
  let pc := bits w 31 8
  if a.inRec then s.caveFault a.r a.d a.ix CAVE_ERR_STATUS_RECOMP_FAIL e.mb e.sid e.layer
  else if ((s.seq a.r).span a.d).opened then s.caveFault a.r a.d a.ix CAVE_ERR_STATUS_RECOMP_SPAN e.mb e.sid e.layer
  else if len = 0 ∨ s.rd (regPage a.r) REG_SEQ_LEN_MAIN_LEN < pc + len then
    s.caveFault a.r a.d a.ix CAVE_ERR_STATUS_RECOMP_FAIL e.mb e.sid e.layer
  else
    let rc : Recomp := ⟨a.d, a.ix, pc, pc + len, a.mb, ix, false, c⟩
    (s.setCave a.r { s.cave a.r with recomp := some rc }).wr pCAVE CAVE_REGION_RECOMP_ACTIVE 1 a.r

/-- Deliver a record to a pop's destination, unless one of its lines answers poisoned (R211, R386); outside a recompute sequence the record becomes POPPED (R196–R198, R201). -/
def State.deliverPop (s : State) (a : At) (c : Cmd) (ix : Nat) (e : CaveRec) : State :=
  let slot := s.jobOf a.r
  let base := if e.state = 2 then s.rd pCAVE CAVE_REGION_LIMIT a.r else e.addr
  let ts := rectTiles e.rect
  let data := ts.zipIdx.map fun p => (p.1, s.jobRead slot (base + p.2 * e.bytes) e.bytes)
  let n := ts.length * e.bytes
  match s.jobPoison slot base n with
  | some site => s.entryUe slot site 0
  | none =>
  let s := ((s.bump pCAVE CAVE_C_POPS).bump pCAVE CAVE_C_POP_BYTES n).ctxBytes slot e.sid n
  let s :=
    if c.w 0 16 16 = 1 then data.foldl (fun s p => s.sramWrite a.r p.1 (c.w 0 52 32) p.2) s
    else
      let v := s.cave a.r
      s.setCave a.r { v with pops := v.pops ++ [⟨e.sid, e.fmt, e.bs16, e.bytes, data, true⟩] }
  if a.inRec then s
  else
    let e' := { e with state := 1, fromDrop := e.fromDrop || e.state == 2, popSpan := true,
                       popAt := some ((s.seq a.r).cuts.length, e.state) }
    s.setRecs a.r ((s.cave a.r).recs.set ix e')

/-- What a CAVE_POP is at its issue: its record and what happens in place of its issue. -/
def State.popIssue (s : State) (r : Nat) (c : Cmd) : Issue :=
  let v := s.cave r
  let bytes := c.w 1 31 0
  let rect := c.w 2 15 0
  let sid := c.w 2 31 16
  let layer := c.w 1 47 32
  let dst := c.w 0 52 32
  let mb := match v.recomp with | some rc => rc.mb | none => c.mb
  let key := (layer, mb, sid)
  let i : Issue :=
    { badField := malformed c [(16, 16), (52, 32)] [(47, 0)] [(31, 0)] [] || rectBad rect
        || (c.w 0 16 16 == 1 && pastEnd dst bytes),
      inRec := true, opens := true, cls := 4, writes := if c.w 0 16 16 == 1 then [(dst, dst + bytes)] else [],
      wait := (c.w 0 16 16 == 0 && decide (4 ≤ v.pops.length)) || v.pushes.any (fun p => p.entry.key == key && !p.recomp),
      block := some pCAVE, ctx := some (sid, 2) }
  match v.topmost key with
  | none => { i with instead := some fun a s => s.caveFault a.r a.d a.ix CAVE_ERR_STATUS_POP_NONE mb sid layer }
  | some (ix, e) =>
    if e.bytes ≠ bytes ∨ e.rect ≠ rect then
      { i with instead := some fun a s => s.caveFault a.r a.d a.ix CAVE_ERR_STATUS_POP_MATCH mb sid layer }
    else if e.state = 2 ∧ (v.buffered e = false ∨ v.recomp.isSome) then { i with instead := some fun a s => s.startRecompute c ix e a }
    else i

/-- Issue a CAVE_POP (R196). -/
def State.issuePop (s : State) (r : Nat) (d : Bool) (c : Cmd) : State :=
  s.issue r d c 0x31 (s.popIssue r c) fun a s =>
    match (s.cave a.r).topmost (c.w 1 47 32, a.mb, c.w 2 31 16) with
    | some (ix, e) => s.deliverPop a c ix e
    | none => s

/-- CAVE_POP (R196). -/
def execCavePop (r : RegionIx) (deferred : Bool) (c : Cmd) (s : State) : Host.Outcome State Fault Refusal :=
  keep s (s.issuePop r deferred c)

/-- RECOMPUTE_DONE (R200): the last command of the sequence has completed; the pop issues again from the buffer. -/
def execRecomputeDone (r : RegionIx) (s : State) : Host.Outcome State Fault Refusal :=
  let v := s.cave r
  let q := s.seq r
  keep s (match v.recomp with
  | none => s
  | some rc =>
    if rc.pc < rc.stop || q.outst.any (fun o => Nat.land o.cls 5 != 0) then s
    else if (q.span rc.deferred).opened || !rc.pushed then
      s.caveFault r rc.deferred rc.popPc CAVE_ERR_STATUS_RECOMP_FAIL rc.mb (rc.cmd.w 2 31 16) (rc.cmd.w 1 47 32)
    else
      let recs := v.recs.modify rc.recIdx fun e => { e with fromDrop := true }
      let s := (s.setCave r { v with recomp := none, recs := recs }).wr pCAVE CAVE_REGION_RECOMP_ACTIVE 0 r
      let s := (s.bump pCAVE CAVE_C_RECOMPUTES).raiseEvt pCAVE CAVE_EVT_STATUS_RECOMPUTED
      s.issuePop r rc.deferred rc.cmd)

/-! ### Spans, steps, cuts and teardown (R198, R199, R202) -/

/-- The span of a region's stream passed its check: its pushes and pops are no longer the span's. -/
def State.caveSpanPass (s : State) (r : Nat) : State :=
  let v := s.cave r
  s.setCave r { v with recs := v.recs.map fun e => { e with pushSpan := false, popSpan := false },
                       pushes := v.pushes.map fun p => { p with entry := { p.entry with pushSpan := false } },
                       pops := v.pops.map fun p => { p with inSpan := false } }

/-- Undo a record's pop. -/
def CaveRec.unpop (e : CaveRec) : CaveRec :=
  match e.popAt with | some (_, b) => { e with state := b, popAt := none, popSpan := false } | none => e

/-- The reversal of a span: its pushes are discarded, its pops repeated (R134, R199, R202). -/
def State.caveSpanReverse (s : State) (r : Nat) : State :=
  let v := s.cave r
  let gone := v.pushes.filter (·.entry.pushSpan)
  let recs := (v.recs.filter fun e => !e.pushSpan).map fun e => if e.popSpan then e.unpop else e
  let rc := v.recomp.map fun rc => { rc with pushed := false }
  let s := s.setCave r { v with recs := recs, pushes := v.pushes.filter fun p => !p.entry.pushSpan,
                                pops := v.pops.filter fun p => !p.inSpan, recomp := rc,
                                bufKey := if v.recomp.isSome then none else v.bufKey }
  (gone.foldl (fun s p => s.finish r p.outId 4) s).caveRegs r

/-- Undo what the step's journal holds from k CLOSE marks on; 0 is the step's start (R199). -/
def State.caveUndo (s : State) (r k : Nat) : State :=
  let v := s.cave r
  let kept := v.recs.filter fun e => match e.pushAt with | some j => decide (j < k) | none => true
  let recs := kept.map fun e => match e.popAt with | some (j, _) => if k ≤ j then e.unpop else e | none => e
  let recs := recs.map fun e => { e with pushSpan := false, popSpan := false }
  let s := s.setCave r { v with recs := recs, pops := [], recomp := none,
                                pushes := v.pushes.filter fun p => match p.entry.pushAt with | some j => decide (j < k) | none => false }
  (s.wr pCAVE CAVE_REGION_RECOMP_ACTIVE 0 r).caveRegs r

/-- Return a cave to its state after k CLOSE marks of the step; 0 is the step's start (R199). -/
def State.caveReturn (s : State) (r k : Nat) : State := (s.caveUndo r k).bump pCAVE CAVE_C_CAVE_REPLAYS

/-- Return a cave to the start of the step m releases ago, when that step runs again (R199, R229, R265): what it and the steps
since have pushed goes. Records that they popped went at their release (R198; log 110). -/
def State.caveStepBack (s : State) (r m : Nat) : State :=
  let s := s.caveUndo r 0
  s.setRecs r (((s.cave r).recs.filter fun e => decide (m < e.steps)).map fun e => { e with steps := e.steps - m })

/-- The step is released: POPPED records go, the journal starts afresh (R198, R199). -/
def State.caveRelease (s : State) (r : Nat) : State :=
  let v := s.cave r
  let recs := (v.recs.filter (·.state != 1)).map fun e => { e with pushAt := none, popAt := none, pushSpan := false, popSpan := false,
                                                                         steps := e.steps + 1 }
  let s := (s.setCave r { v with recs := recs }).caveRegs r
  s.wr pCAVE CAVE_REGION_STEP_TOP (s.caveTop r) r

/-- Discard a region's cave with its registers (R199: teardown; R36: job reset). -/
def State.caveDiscard (s : State) (r : Nat) : State := (s.setCave r {}).clearRegs pCAVE (0x1000 + 0x80 * r) 16

/-- Discard every record but keep the cave's bounds (R490: a hoop with another LOGICAL_REGIONS). -/
def State.caveEmpty (s : State) (r : Nat) : State := (s.setCave r {}).caveRegs r

end Sys2Proof.Machine
end

