-- ==== Sys2Proof/Machine/Members.lean ====
section
/-! DEFINITION. Membership messages (R272) and a member's view of its leader (R273); what LEAVE sends (R271, R329). -/

namespace Sys2Proof.Machine

/-- A membership message (R272). -/
structure MemMsg where
  op : Nat
  gepoch : Nat
  src : Nat
  dst : Nat
  subject : Nat := 0xFFFF
  cause : Nat := 0
  flags : Nat := 0
  lostA : Nat := 0xFFFF
  lostB : Nat := 0xFFFF
  step : Nat := 0
  ostep : Nat := 0
  seq : Nat := 0
  module : Nat := 0
  mlist : Nat := 0
  payload : List Byte := []
  deriving DecidableEq, Repr

/-- Bytes 0–59 of a membership message. -/
def MemMsg.head (m : MemMsg) : List Byte :=
  leBytes 1 0x47 ++ leBytes 1 m.op ++ leBytes 2 m.gepoch ++ leBytes 2 m.src ++ leBytes 2 m.dst ++ leBytes 2 m.subject
    ++ leBytes 1 m.cause ++ leBytes 1 m.flags ++ leBytes 2 m.lostA ++ leBytes 2 m.lostB ++ leBytes 4 m.step
    ++ leBytes 4 m.ostep ++ leBytes 4 m.seq ++ leBytes 2 m.module ++ leBytes 4 m.mlist ++ leBytes 26 0

/-- The bytes of a membership message, with its CRC-32C (R253, R272). -/
def MemMsg.bytes (m : MemMsg) : List Byte :=
  m.head ++ leBytes 4 (crc32c (m.head ++ m.payload)).toNat ++ m.payload

/-- Read a membership message; none for a bad CRC, a reserved field that is not 0, or an unknown OP (R272). -/
def parseMember (b : List Byte) : Option MemMsg :=
  let m : MemMsg :=
    { op := byteAt b 1, gepoch := leAt b 2 2, src := leAt b 4 2, dst := leAt b 6 2, subject := leAt b 8 2,
      cause := byteAt b 10, flags := byteAt b 11, lostA := leAt b 12 2, lostB := leAt b 14 2, step := leAt b 16 4,
      ostep := leAt b 20 4, seq := leAt b 24 4, module := leAt b 28 2, mlist := leAt b 30 4, payload := b.drop 64 }
  let size := 64 + (if bit m.flags 0 then 512 else 0)
  if byteAt b 0 = 0x47 ∧ 1 ≤ m.op ∧ m.op ≤ 11 ∧ m.flags < 4 ∧ b.length = size ∧ leAt b 34 26 = 0
      ∧ leAt b 60 4 = (crc32c (b.take 60 ++ m.payload)).toNat then some m
  else none

/-- COMMITTED_STEP of a job. -/
def State.committed (s : State) (slot : Nat) : Nat := s.rd pUPD UPD_JOB_COMMITTED_STEP slot

/-- Whether a job belongs to a group with more than one member. -/
def State.grouped (s : State) (slot : Nat) : Bool := decide (1 < s.gMembers slot)

/-- The leader in this member's view: the lowest live index it has not sent SUSPECT about in this GEPOCH (R273). -/
def State.leaderOf (s : State) (slot : Nat) : Nat :=
  let bad := (s.grp slot).sent.map (·.1)
  ((s.liveMembers slot).find? fun i => !bad.contains i).getD (s.gSelf slot)

/-- Show the leader in PLC.JOB. -/
def State.showLeader (s : State) (slot : Nat) : State := s.wr pPLC PLC_JOB_LEADER (s.leaderOf slot) slot

/-- Send a membership message to a member. -/
def State.sendMember (s : State) (slot dest : Nat) (m : MemMsg) : State :=
  s.sendJob slot 4 (addrModule (s.memberModule slot dest))
    { m with src := s.gSelf slot, dst := dest, gepoch := m.gepoch }.bytes

/-- Send a membership message to several members, never to itself. -/
def State.sendMembers (s : State) (slot : Nat) (tos : List Nat) (m : MemMsg) : State :=
  (tos.filter (· != s.gSelf slot)).foldl (fun s i => s.sendMember slot i m) s

/-- The next two live indices above this module's own, wrapping and skipping itself (R270). -/
def State.heartTargets (s : State) (slot : Nat) : List Nat :=
  let n := s.gMembers slot
  let me := s.gSelf slot
  let live := s.liveMembers slot
  ((((List.range n).map fun k => (me + 1 + k) % n).filter fun i => live.contains i && i != me).take 2)

/-- Send LEAVE to the leader (R271): CAUSE 6, this member the subject. -/
def State.sendLeave (s : State) (slot : Nat) : State :=
  if s.grouped slot then
    let me := s.gSelf slot
    let m : MemMsg := { op := 8, gepoch := s.gepoch slot, src := me, dst := 0, subject := me, cause := 6, step := s.committed slot }
    let dest := if s.leaderOf slot = me then s.heartTargets slot else [s.leaderOf slot]
    s.sendMembers slot dest m
  else s

end Sys2Proof.Machine
end

