-- ==== Sys2Proof/Machine/Vat.lean ====
section
/-! DEFINITION. The vat commands (R109–R113, R141) and the gradient hold (R206–R210): VCFG, VCLEAR, and VDRAIN with FORM
HOLD and CONVERT. VDRAIN with FORM CE stands with the collectives. -/

namespace Sys2Proof.Machine

/-- Whether a vat region still has work pending: a command in flight on it, or an open span that added to it (R113, R141). -/
def Seq.vatPending (q : Seq) (vreg : Nat) : Bool :=
  q.outst.any (fun o => o.vreg == some vreg) || q.main.vregs.contains vreg || q.dfr.vregs.contains vreg

/-! ### VCFG (R109, R141) -/

/-- The fields of a VCFG. -/
structure VcfgOp where
  vreg : Nat
  valid : Nat
  v : Nat
  base : Nat
  length : Nat
  layer : Nat
  deriving DecidableEq, Repr

/-- Read the fields of a VCFG (R123). -/
def vcfgOp (c : Cmd) : VcfgOp :=
  { vreg := c.w 0 19 16, valid := c.w 0 20 20, v := c.w 0 31 24, base := c.w 0 49 32, length := c.w 1 18 0, layer := c.w 1 47 32 }

/-- Whether entries base … base + length − 1 run past the vat or overlap another valid region (R109); an empty region is
refused too (R116 gives LENGTH 1–262,144; DEDUCED, log 16). -/
def State.vcfgRange (s : State) (r : Nat) (o : VcfgOp) : Bool :=
  o.length == 0 || decide (vatSize < o.base + o.length) ||
  (List.range 16).any fun e => e != o.vreg && s.rd (regPage r) REG_VAT_REGION_VALID e == 1
    && overlaps (o.base, o.base + o.length) (s.rd (regPage r) REG_VAT_REGION_BASE e,
        s.rd (regPage r) REG_VAT_REGION_BASE e + s.rd (regPage r) REG_VAT_REGION_LENGTH e)

/-- Set VALID of a vat region, which VAT_LAYER mirrors. -/
def State.setVatValid (s : State) (r vreg v : Nat) : State :=
  (s.wr (regPage r) REG_VAT_REGION_VALID v vreg).wr (regPage r) REG_VAT_LAYER_VALID v vreg

/-- The issue checks of VCFG (R123, R141). -/
def State.vcfgIssue (s : State) (r : Nat) (c : Cmd) : Issue :=
  let o := vcfgOp c
  { badField := malformed c [(20, 16), (31, 24), (49, 32)] [(18, 0), (47, 32)] [] [],
    inSpan := false, inDef := false,
    vcfgBusy := s.rd (regPage r) REG_VAT_REGION_COUNT o.vreg != 0 || (s.seq r).vatPending o.vreg,
    vatRange := o.valid == 1 && s.vcfgRange r o, onRange := fun s => s.setVatValid r o.vreg 0 }

/-- Write a vat region's configuration (R141). -/
def State.setVatRegion (s : State) (r : Nat) (o : VcfgOp) : State :=
  ((s.wrs (regPage r) [(REG_VAT_REGION_V, o.v), (REG_VAT_REGION_LENGTH, o.length), (REG_VAT_REGION_BASE, o.base)] o.vreg).wr
    (regPage r) REG_VAT_LAYER_LAYER o.layer o.vreg).setVatValid r o.vreg o.valid

/-- VCFG (R141). -/
def execVcfg (r : RegionIx) (deferred : Bool) (c : Cmd) (s : State) : Host.Outcome State Fault Refusal :=
  keep s (s.issue r deferred c 0x22 (s.vcfgIssue r c) fun a s => s.setVatRegion a.r (vcfgOp c))

/-! ### Reading and clearing entries (R112, R113) -/

/-- The fields of a VDRAIN. -/
structure VdrainOp where
  vreg : Nat
  form : Nat
  clear : Bool
  fmt : Fmt
  bs16 : Bool
  outAddr : Nat
  offset : Nat
  count : Nat
  holdAddr : Nat
  tag : Nat
  defWait : Nat
  rect : Nat
  deriving DecidableEq, Repr

/-- Read the fields of a VDRAIN (R123). -/
def vdrainOp (c : Cmd) : VdrainOp :=
  { vreg := c.w 0 19 16, form := c.w 0 21 20, clear := c.w 0 22 22 == 1, fmt := fmtD (c.w 0 24 23), bs16 := c.w 0 25 25 == 1,
    outAddr := c.w 0 52 32, offset := c.w 1 17 0, count := c.w 1 36 18, holdAddr := c.w 2 40 0, tag := c.w 3 19 0,
    defWait := c.w 3 47 32, rect := c.w 3 63 48 }

/-- OFFSET + COUNT past the region's LENGTH, or an invalid region (R112). -/
def State.vatSpanBad (s : State) (r vreg off n : Nat) : Bool :=
  s.rd (regPage r) REG_VAT_REGION_VALID vreg != 1 || decide (s.rd (regPage r) REG_VAT_REGION_LENGTH vreg < off + n)

/-- What DEF_WAIT does: refused above DEF_RELEASE, a window first while DEF_PC is below it (R140). -/
def State.defWindow (s : State) (r w : Nat) : Option Nat :=
  if s.rd (regPage r) REG_SEQ_STATUS_DEF_PC < w then some w else none

/-- The issue checks common to every VDRAIN (R112, R113, R140). -/
def State.vdrainIssue (s : State) (r : Nat) (c : Cmd) : Issue :=
  let o := vdrainOp c
  let out := (o.outAddr, o.outAddr + rowBytes o.fmt o.bs16 o.count)
  { badField := malformed c [(25, 16), (52, 32)] [(36, 0)] [(40, 0)] [(19, 0), (63, 32)]
      || o.form == 3 || (fmtOf (c.w 0 24 23)).isNone || (o.bs16 && !s.bs16En r) || o.count == 0 || decide (vatSize < o.count)
      || rectBad o.rect || (o.form == 2 && decide (sramSize < out.2)),
    inSpan := false, inDef := false, defOrder := decide ((s.seq r).defRelease < o.defWait),
    vatRange := s.vatSpanBad r o.vreg o.offset o.count, cls := 2, vreg := some o.vreg,
    writes := if o.form == 2 then [out] else [], wait := (s.seq r).vatPending o.vreg, window := s.defWindow r o.defWait }

/-- The entries that a VDRAIN reads, for each tile of its RECT. -/
def State.vatRead (s : State) (r : Nat) (o : VdrainOp) : List (Nat × List Int) :=
  let b := s.rd (regPage r) REG_VAT_REGION_BASE o.vreg + o.offset
  (rectTiles o.rect).map fun t => (t, (List.range o.count).map fun j => s.vatEntry r t (b + j))

/-- Zero entries of a vat region in the tiles of a RECT; COUNT returns to 0 when that is the whole region in every tile
(R112). -/
def State.vatClear (s : State) (r vreg off n rect : Nat) : State :=
  let b := s.rd (regPage r) REG_VAT_REGION_BASE vreg + off
  let s := (rectTiles rect).foldl (fun s t =>
    (List.range n).foldl (fun s j => (s.setVat r t (b + j) 0).setVatMb r t (b + j) 0) s) s
  if off = 0 ∧ n = s.rd (regPage r) REG_VAT_REGION_LENGTH vreg ∧ rect = 0xFF00 then
    s.wr (regPage r) REG_VAT_REGION_COUNT 0 vreg
  else s

/-- The clear option of a VDRAIN. -/
def State.vdrainClear (s : State) (r : Nat) (o : VdrainOp) : State :=
  if o.clear then s.vatClear r o.vreg o.offset o.count o.rect else s

/-- The issue checks of VCLEAR (R112, R123). -/
def State.vclearIssue (s : State) (r : Nat) (c : Cmd) : Issue :=
  let o := vdrainOp c
  { badField := malformed c [(19, 16)] [(36, 0)] [] [(63, 32)] || rectBad o.rect,
    inSpan := false, inDef := false, defOrder := decide ((s.seq r).defRelease < o.defWait),
    vatRange := o.count == 0 || s.vatSpanBad r o.vreg o.offset o.count, cls := 2, vreg := some o.vreg,
    wait := (s.seq r).vatPending o.vreg, window := s.defWindow r o.defWait }

/-- VCLEAR (R112). -/
def execVclear (r : RegionIx) (deferred : Bool) (c : Cmd) (s : State) : Host.Outcome State Fault Refusal :=
  let o := vdrainOp c
  keep s (s.issue r deferred c 0x24 (s.vclearIssue r c) fun a s => s.vatClear a.r o.vreg o.offset o.count o.rect)

/-- What VDRAIN with FORM CONVERT does: each tile's entries as one row at OUT_ADDR (R112). R112 lets it go through the router
too, but R123 gives VDRAIN no field for that, so it always writes SRAM (DEDUCED, log 162). -/
def State.vdrainConvert (s : State) (r : Nat) (o : VdrainOp) : State :=
  let e := s.vatAnchor r o.vreg - 24
  let s := (s.vatRead r o).foldl (fun s p =>
    let (b, sat) := encodeRow o.fmt o.bs16 (p.2.map fun v => .fin ⟨v, e⟩)
    (s.iff sat (·.setConvSat r p.1)).sramWrite r p.1 o.outAddr b) s
  s.vdrainClear r o

/-- VDRAIN with FORM CONVERT (R112). -/
def execVdrainConvert (r : RegionIx) (deferred : Bool) (c : Cmd) (s : State) : Host.Outcome State Fault Refusal :=
  let o := vdrainOp c
  keep s (if o.form = 0 ∨ o.form = 1 then s else s.issue r deferred c 0x23 (s.vdrainIssue r c) fun a s => s.vdrainConvert a.r o)

/-! ### The gradient hold (R206–R210) -/

/-- The hold area of a job at an address, if it exists. -/
def State.holdArea (s : State) (slot addr : Nat) : Option Nat :=
  (List.range 1024).find? fun a => s.rd pCAVE CAVE_HOLD_VALID a == 1 && s.rd pCAVE CAVE_HOLD_SLOT a == slot
    && s.rd pCAVE CAVE_HOLD_HOLD_ADDR a == addr

/-- Every hold area of a job. -/
def State.holdAreas (s : State) (slot : Nat) : List Nat :=
  (List.range 1024).filter fun a => s.rd pCAVE CAVE_HOLD_VALID a == 1 && s.rd pCAVE CAVE_HOLD_SLOT a == slot

/-- The image that W is: the third beside C and P (R206). -/
def State.holdW (s : State) (a : Nat) : Nat := 3 - s.rd pCAVE CAVE_HOLD_C_SEL a - s.rd pCAVE CAVE_HOLD_P_SEL a

/-- Find or create the hold area that a VDRAIN names; the left answer is the CAVE.ERR_STATUS bit it breaks (R206, R210). -/
def State.holdFor (s : State) (slot : Nat) (o : VdrainOp) (v : Nat) : Fld ⊕ (Nat × State) :=
  let e := o.count * rectCount o.rect
  match s.holdArea slot o.holdAddr with
  | some a =>
    if s.rd pCAVE CAVE_HOLD_ENTRIES a = e ∧ s.rd pCAVE CAVE_HOLD_V a = v then .inr (a, s) else .inl CAVE_ERR_STATUS_HOLD_SHAPE
  | none =>
    let lo := o.holdAddr
    let hi := o.holdAddr + 24 * e
    let off := s.layout slot 3
    if lo % 8 ≠ 0 ∨ lo < off ∨ off + s.layout slot 4 < hi ∨
        (s.holdAreas slot).any (fun a => overlaps (lo, hi) (s.rd pCAVE CAVE_HOLD_HOLD_ADDR a,
          s.rd pCAVE CAVE_HOLD_HOLD_ADDR a + 24 * s.rd pCAVE CAVE_HOLD_ENTRIES a)) then .inl CAVE_ERR_STATUS_HOLD_RANGE
    else match (List.range 1024).find? fun a => s.rd pCAVE CAVE_HOLD_VALID a == 0 with
      | none => .inl CAVE_ERR_STATUS_HOLD_FULL
      | some a => .inr (a, s.wrs pCAVE [(CAVE_HOLD_VALID, 1), (CAVE_HOLD_C_SEL, 0), (CAVE_HOLD_P_SEL, 1), (CAVE_HOLD_W_WRITTEN, 0),
          (CAVE_HOLD_C_ZERO, 1), (CAVE_HOLD_P_ZERO, 0), (CAVE_HOLD_W_ZERO, 0), (CAVE_HOLD_P_VALID, 0), (CAVE_HOLD_SLOT, slot),
          (CAVE_HOLD_HOLD_ADDR, lo), (CAVE_HOLD_V, v), (CAVE_HOLD_ENTRIES, e)] a)

/-- The entries of an image of a hold area; an image marked zero reads 0 (R206). -/
def State.holdRead (s : State) (slot a img : Nat) (zero : Bool) : List Int :=
  let e := s.rd pCAVE CAVE_HOLD_ENTRIES a
  let base := s.rd pCAVE CAVE_HOLD_HOLD_ADDR a + 8 * e * img
  (List.range e).map fun k => if zero then 0 else sgn 64 (s.jobNat slot (base + 8 * k) 8)

/-- B of R207: W once it has been written in this step, C before. A send that a step restart repeats takes C, as its first run
did (R341; DEDUCED, log 31). -/
def State.holdBase (s : State) (slot a : Nat) (again : Bool) : List Int :=
  if s.rd pCAVE CAVE_HOLD_W_WRITTEN a = 1 ∧ !again then s.holdRead slot a (s.holdW a) (s.rd pCAVE CAVE_HOLD_W_ZERO a == 1)
  else s.holdRead slot a (s.rd pCAVE CAVE_HOLD_C_SEL a) (s.rd pCAVE CAVE_HOLD_C_ZERO a == 1)

/-- The site of a POISON line under the image that `holdBase` reads, if there is one (R211, R386). -/
def State.holdPoison (s : State) (slot a : Nat) (again : Bool) : Option Nat :=
  let w := s.rd pCAVE CAVE_HOLD_W_WRITTEN a == 1 && !again
  let n := 8 * s.rd pCAVE CAVE_HOLD_ENTRIES a
  if s.rd pCAVE (if w then CAVE_HOLD_W_ZERO else CAVE_HOLD_C_ZERO) a = 1 then none
  else s.jobPoison slot (s.rd pCAVE CAVE_HOLD_HOLD_ADDR a + n * (if w then s.holdW a else s.rd pCAVE CAVE_HOLD_C_SEL a)) n

/-- B + c × 2^(8 × RAISE) for every element (R207). -/
def State.holdSum (s : State) (r slot a : Nat) (o : VdrainOp) (again : Bool := false) : List Int :=
  let k := s.rd (regPage r) REG_VAT_REGION_RAISE o.vreg
  let cs := (s.vatRead r o).flatMap (·.2)
  ((s.holdBase slot a again).zip cs).map fun p => p.1 + p.2 * (2 ^ (8 * k) : Nat)

/-- Write W of a hold area (R207). -/
def State.holdWrite (s : State) (r slot a : Nat) (vals : List Int) : State :=
  let e := s.rd pCAVE CAVE_HOLD_ENTRIES a
  let base := s.rd pCAVE CAVE_HOLD_HOLD_ADDR a + 8 * e * s.holdW a
  let s := s.jobWrite slot base (vals.flatMap fun v => leBytes 8 (wrap 64 v))
  (s.wrs pCAVE [(CAVE_HOLD_W_WRITTEN, 1), (CAVE_HOLD_W_ZERO, 0), (CAVE_HOLD_LAST_STEP, s.rd (regPage r) REG_STEP_STATUS_STEP)] a).bump
    pCAVE CAVE_C_HOLD_WRITES

/-- A VDRAIN into its hold area: the sum written to W and, with the clear option, the vat entries cleared (R207). An area that a
step restart kept takes nothing more (R341); an image whose line answers poisoned is not read (R211). -/
def State.vdrainToHold (s : State) (a : At) (o : VdrainOp) : State :=
  let slot := s.jobOf a.r
  let layer := s.rd (regPage a.r) REG_VAT_LAYER_LAYER o.vreg
  match s.holdFor slot o (s.rd (regPage a.r) REG_VAT_REGION_V o.vreg) with
  | .inl f => s.caveFault a.r a.d a.ix f a.mb 0 layer
  | .inr (h, s) =>
    if (s.ce slot).heldKept.contains h then s.vdrainClear a.r o
    else match s.holdPoison slot h false with
    | some site => s.entryUe slot site 1
    | none => (s.holdWrite a.r slot h (s.holdSum a.r slot h o)).vdrainClear a.r o

/-- VDRAIN with FORM HOLD (R207). -/
def execVdrainHold (r : RegionIx) (deferred : Bool) (c : Cmd) (s : State) : Host.Outcome State Fault Refusal :=
  let o := vdrainOp c
  keepQ s (if o.form ≠ 0 then s else
    s.issue r deferred c 0x23 { s.vdrainIssue r c with block := some pCAVE } fun a s => s.vdrainToHold a o)

/-- The hold areas of a job at a commit: the images rotate where W was written (R208). -/
def State.holdCommit (s : State) (slot : Nat) : State :=
  (s.holdAreas slot).foldl (fun s a =>
    if s.rd pCAVE CAVE_HOLD_W_WRITTEN a = 1 then
      let w := s.holdW a
      s.wrs pCAVE [(CAVE_HOLD_P_SEL, s.rd pCAVE CAVE_HOLD_C_SEL a), (CAVE_HOLD_P_ZERO, s.rd pCAVE CAVE_HOLD_C_ZERO a),
        (CAVE_HOLD_C_SEL, w), (CAVE_HOLD_C_ZERO, s.rd pCAVE CAVE_HOLD_W_ZERO a), (CAVE_HOLD_P_VALID, 1),
        (CAVE_HOLD_W_WRITTEN, 0), (CAVE_HOLD_W_ZERO, 0)] a
    else s.wr pCAVE CAVE_HOLD_P_VALID 0 a) s

/-- A step attempt that ends without a commit clears W_WRITTEN (R209). -/
def State.holdDrop (s : State) (slot : Nat) : State :=
  (s.holdAreas slot).foldl (fun s a => s.wr pCAVE CAVE_HOLD_W_WRITTEN 0 a) s

/-- A rollback of the step last committed: C takes P back where P is valid (R209). -/
def State.holdRollback (s : State) (slot : Nat) : State :=
  ((s.holdAreas slot).foldl (fun s a =>
    let s := s.wr pCAVE CAVE_HOLD_W_WRITTEN 0 a
    if s.rd pCAVE CAVE_HOLD_P_VALID a = 1 then
      -- C and the old P exchange places, so that W stays the third image
      let p := s.rd pCAVE CAVE_HOLD_P_SEL a
      s.wrs pCAVE [(CAVE_HOLD_P_SEL, s.rd pCAVE CAVE_HOLD_C_SEL a), (CAVE_HOLD_C_SEL, p),
        (CAVE_HOLD_C_ZERO, s.rd pCAVE CAVE_HOLD_P_ZERO a), (CAVE_HOLD_P_VALID, 0)] a
    else s) s).bump pCAVE CAVE_C_HOLD_ROLLBACKS

end Sys2Proof.Machine
end

