-- ==== Sys2Proof/Machine/JobEnd.lean ====
section
/-! DEFINITION. The end of a job: the completion arbiter (R357), teardown (R164, R165), the completion report (R166, R167),
and the rejection of a serve job's queue (R289). -/

namespace Sys2Proof.Machine

/-- STATE of a job slot (R159). -/
def State.jobState (s : State) (j : Nat) : Nat := s.rd pDOCK DOCK_JOB_STATE j

/-- A field of the docket that a slot holds (R151). -/
def State.docketAt (s : State) (j off n : Nat) : Nat := leAt (s.job j).docket off n

/-! ### The report (R166) -/

/-- Bytes 0–127 of a report, signed with the identity key. -/
def State.reportBytes (s : State) (outcome cause docketId jobId steps tAdmit tEnd : Nat) : List Byte × State :=
  let b := [0x42#8, 0x52#8, 0x4A#8, 0x52#8] ++ leBytes 1 outcome ++ leBytes 1 cause
    ++ leBytes 2 (s.rd pGLB GLB_MODULE_ID_ID + 2 ^ 15 * s.rd pGLB GLB_MODULE_ID_VALID)
    ++ leBytes 8 docketId ++ leBytes 4 jobId ++ leBytes 4 steps ++ leBytes 8 tAdmit ++ leBytes 8 tEnd ++ leBytes 88 0
  (b ++ ecdsaSign Config.identityKey (Config.signNonce s.free) (sha384 b), { s with free := s.free + 1 })

/-- Whether a path can carry a report now. -/
def State.canCarry (s : State) (p : CtlPath) : Bool :=
  match p with
  | .mgmt => s.mgtPath
  | .port p => s.portExists p && s.isS p && s.portUp p

/-- Send the report that a slot keeps, if its docket's path can carry it. -/
def State.sendReport (s : State) (j : Nat) : State :=
  let jb := s.job j
  if jb.report.isEmpty || jb.lost || !s.canCarry jb.path then s
  else ((s.sendControl jb.path 5 jb.report).2).setJob j { jb with report := [] }

/-- Send the reports of slots that a later docket uses. -/
def State.sendOld (s : State) : State :=
  let l := s.dock.reports
  (l.filter fun x => s.canCarry x.2.1).foldl (fun s x => (s.sendControl x.2.1 5 x.2.2).2)
    { s with dock := { s.dock with reports := l.filter fun x => !s.canCarry x.2.1 } }

/-- Send every report that a path can now carry. -/
def State.flushReports (s : State) : State := (List.range 16).foldl (fun s j => s.sendReport j) s.sendOld

/-- The reports of a slot's earlier dockets that a path has not carried are given up. -/
def State.dropOld (s : State) (slot : Nat) : State :=
  { s with dock := { s.dock with reports := s.dock.reports.filter fun x => x.1 != slot } }

/-- REPORT_LOST (R166): a report not carried for 10 s is given up and kept in its slot's entry, until the next docket uses
the slot. -/
def execReportLost (slot : SlotIx) (s : State) : Host.Outcome State Fault Refusal :=
  keep s (if s.dock.reports.any fun x => x.1 == slot.val then (s.raiseErr pDOCK DOCK_ERR_STATUS_REPORT_LOST).dropOld slot
    else if (s.job slot).report.isEmpty then s
    else (s.raiseErr pDOCK DOCK_ERR_STATUS_REPORT_LOST).setJob slot { s.job slot with lost := true })

/-! ### Serving (R287, R289) -/

/-- The 24-byte header of a serving message that the module sends (R287). -/
def srvHeader (op model sid status seq len : Nat) : List Byte :=
  leBytes 1 0x53 ++ leBytes 1 op ++ leBytes 2 model ++ leBytes 2 sid ++ leBytes 1 status ++ leBytes 1 0 ++ leBytes 4 seq
    ++ leBytes 4 len ++ leBytes 8 0

/-- Answer a request with REJECT (R289). -/
def State.srvReject (s : State) (slot : Nat) (r : SrvReq) (code : Nat) : State :=
  (s.sendJobOn slot r.port 5 r.src (srvHeader 4 r.model r.sid code r.seq 0)).bump pCELL CELL_C_REQS_REJECTED

/-- Whether a request of a stream is queued or in the admitted batch (R288). -/
def SrvJob.busy (v : SrvJob) (sid : Nat) : Bool :=
  v.queue.any (fun r => r.sid == sid) || (match v.batch with | some b => b.reqs.any fun r => r.sid == sid | none => false)

/-- Free the contexts of closing streams with no request left (R288). -/
def State.freeStreams (s : State) (slot : Nat) : State :=
  let v := s.srv slot
  let (gone, live) := v.streams.partition fun x => x.closing && !v.busy x.sid
  gone.foldl (fun s x => s.dropCtx slot x.sid) (s.setSrv slot { v with streams := live })

/-- Every queued request of a job that ends is answered REJECT 7 ABORTED (R289). -/
def State.srvEnd (s : State) (slot : Nat) : State :=
  (s.srv slot).queue.foldl (fun s r => s.srvReject slot r 7) s |>.setSrv slot { s.srv slot with queue := [] }

/-! ### Teardown (R164) -/

/-- Event 2: the job's sequencers leave for IDLE, or STOPPED where their page is disabled; its work in the other blocks
stops. -/
def State.stopWork (s : State) (slot : Nat) : State :=
  let s := (s.heldBy slot).foldl (fun s r =>
    let s := ((s.setSeq r {}).setCave r { recs := (s.cave r).recs }).dropXfers r 0
    let s := s.wrs (regPage r) [(REG_SEQ_STATUS_ATTEMPT, 0), (REG_SEQ_STATUS_SPAN, 0), (REG_SEQ_STATUS_DEF_SPAN, 0)]
    s.setSeqState r (if s.on (regPage r) then 0 else 11)) s
  let w := s.wsp
  let w := { w with
    loads := w.loads.filter (fun l => l.slot != slot), binds := w.binds.filter (fun b => b.slot != slot),
    specs := w.specs.filter fun x => x.slot != slot }
  let u := s.upd slot
  let s := { s with wsp := w, unrouted := s.unrouted.filter fun x => x.1 != slot }
  let s := (s.setUpd slot { u with queue := [], ran := [], out := [], restores := [], egress := [], redo := [] }).setCe slot {}
  -- the attempt's W images are discarded (R222); TOUCH_W goes with the job's stack space (log 169)
  let s := u.entries.foldl (fun s x => s.wrs pUPD [(UPD_AREA_WROTE, 0), (UPD_AREA_ROWS_TOUCHED, 0)] x.1) s
  let s := s.wr pUPD UPD_JOB_READY 0 slot
  ((s.setGrp slot {}).dropXPosts slot).wr pPLC PLC_JOB_RECOVERING 0 slot

/-- Event 3: every port of the job enters QUIESCE; what was queued there is not sent. -/
def State.quiescePorts (s : State) (slot : Nat) : State :=
  let key := s.partKey slot
  (s.jobPorts slot).foldl (fun s p =>
    let l := s.link p
    let s := s.setLink p { l with queue := l.queue.filter fun m => m.key != key }
    s.wrs pDOCK [(DOCK_PORT_STATE, 3), (DOCK_PORT_KEY_TAG, 0)] p) s

/-- Release a region of an ended job: its cave, bindings and residency go (R164, R173, R174, R199). -/
def State.freeRegion (s : State) (r : Nat) : State :=
  let s := s.wrs pPLC [(PLC_REGION_HELD, 0), (PLC_REGION_SLOT, 0), (PLC_REGION_LOGICAL, 0xFF), (PLC_REGION_TWIN, 0xFF)] r
  let s := s.wrs (regPage r) [(REG_SEQ_STATUS_LOGICAL, 0xFF), (REG_SEQ_STATUS_STATE, 0)]
  let s := (s.caveDiscard r).initRegs pWSP (0x2000 + 0x100 * r) 32
  let w := s.wsp
  let w := { w with resident := tabSet (fun _ => []) w.resident r [], masks := w.masks.filter fun e => e.1 / 64 != r }
  { s with wsp := w }

/-- Erase a weight key slot (R187). -/
def State.eraseKeySlot (s : State) (k : Nat) : State :=
  let w := s.wsp
  { s with wsp := { w with keys := tabSet (fun _ => []) w.keys k [] } }.initRegs pWSP (0x1000 + 0x20 * k) 4

/-- The weight key slots of an owner: a job slot, or 31 for the model cache (R187). -/
def State.keySlots (s : State) (owner : Nat) : List Nat :=
  (List.range 64).filter fun k => s.rd pWSP WSP_KEYSLOT_VALID k == 1 && s.rd pWSP WSP_KEYSLOT_OWNER k == owner

/-- Bytes that a staged object holds. -/
def Staged.size (o : Staged) : Nat := (o.segs.map fun g => g.data.length).sum

/-- Replace the staging area, with WSP.STAGE.USED_MB in units of 10⁶ bytes rounded up (DEDUCED, log 23). -/
def State.setStaged (s : State) (l : List Staged) : State :=
  let w := s.wsp
  { s with wsp := { w with staged := l } }.wr pWSP WSP_STAGE_USED_MB (((l.map Staged.size).sum + 999999) / 1000000)

/-- Event 5: regions released, staged objects dropped, key slots erased. -/
def State.freeUnits (s : State) (slot : Nat) : State :=
  let s := (s.heldBy slot).foldl (fun s r => s.freeRegion r) s
  let s := s.setStaged (s.wsp.staged.filter fun x => x.slot != slot)
  (s.keySlots slot).foldl (fun s k => s.eraseKeySlot k) s

/-- Event 6: stack space, contexts and buckets freed, the key revoked (R165), every per-slot table of the other blocks
cleared, the slot FREE. -/
def State.freeSlot (s : State) (slot : Nat) : State :=
  let key := s.rd pDOCK DOCK_JOB_PART_KEY slot
  let ctxs := s.ctxs.filter fun x => x.slot != slot
  let dock := { s.dock with revoked := (s.dock.revoked ++ [key]).drop (s.dock.revoked.length + 1 - 256) }
  let s := { s with ctxs := ctxs, dock := dock }
  let s := ((s.setUpd slot {}).setSrv slot {}).setGrp slot {}
  let s := s.initRegs pMEM (0xB000 + 0x100 * slot) 32
  let s := s.initRegs pSCT (0x1000 + 8 * slot) 1
  let s := s.initRegs pCE (0x1000 + 0x20 * slot) 4
  let s := s.initRegs pUPD (0x1000 + 0x20 * slot) 4
  let s := s.initRegs pPLC (0x2000 + 0x40 * slot) 8
  let s := s.initRegs pCELL (0x3000 + 0x10 * slot) 2
  let s := (s.holdAreas slot).foldl (fun s a => s.initRegs pCAVE (0x4000 + 0x10 * a) 2) s
  let s := ((List.range 2048).filter fun a => s.rd pUPD UPD_AREA_VALID a == 1 && s.rd pUPD UPD_AREA_SLOT a == slot).foldl
    (fun s a => s.initRegs pUPD (0x2000 + 0x10 * a) 2) s
  let s := ((List.range 4).filter fun a => s.rd pUPD UPD_MIRROR_IN_VALID a == 1 && s.rd pUPD UPD_MIRROR_IN_SLOT a == slot).foldl
    (fun s a => s.initRegs pUPD (0xA000 + 0x20 * a) 4) s
  let s := ((List.range 4096).filter fun b => s.rd pCE CE_BUCKET_VALID b == 1 && s.rd pCE CE_BUCKET_SLOT b == slot).foldl
    (fun s b => s.initRegs pCE (0x8000 + 8 * b) 1) s
  let st := s.rd pUPD UPD_STALE_SLOTS
  let s := s.wr pUPD UPD_STALE_SLOTS (if bit st slot then st - 2 ^ slot else st)
  s.wr pDOCK DOCK_JOB_STATE 0 slot

/-- Events 5 to 7, once no port of the job is left in QUIESCE. -/
def State.tearDone (s : State) (slot : Nat) : State :=
  if s.jobState slot = 4 && (s.jobPorts slot).isEmpty then
    (((s.freeUnits slot).freeSlot slot).raiseEvt pDOCK DOCK_EVT_STATUS_ENDED).sendReport slot
  else s

/-- A port of a job becomes FENCED and is no longer held (R160). -/
def State.fencePort (s : State) (p : Nat) : State :=
  s.wrs pDOCK [(DOCK_PORT_STATE, 0), (DOCK_PORT_KEY_TAG, 0), (DOCK_PORT_HELD, 0), (DOCK_PORT_SLOT, 0)] p

/-! ### The completion arbiter (R357) -/

/-- STEP_COUNT of a job; a free value when no region was set up for it (R166 states none). -/
def State.jobSteps (s : State) (slot : Nat) : Nat × State :=
  match s.regionsOf slot with
  | r :: _ => (s.rd (regPage r) REG_STEP_COUNT_COUNT, s)
  | [] => let (v, s) := s.draw; (v.toNat % 2 ^ 32, s)

/-- THERMAL_OFF regions that have been cool for 1 s, and still are, become STANDBY (R15, R414). -/
def State.readmitCooled (s : State) : State :=
  let l := s.power.cooled
  let s := { s with power := { s.power with cooled := [] } }
  let cool := fun r => decide (signed 16 (s.rd (regPage r) REG_PT_TEMP_T_MAX) < 64 * (s.rd pTHM THM_LIMITS_READMIT_C : Int))
  (l.filter fun r => s.regionState r == 2 && cool r).foldl (fun s r =>
    ((s.wr pPLC PLC_REGION_STATE 1 r).raiseEvt pTHM THM_EVT_STATUS_REGION_READMIT).bump pTHM THM_C_READMITS) s

/-- They do so at once while no job is RUNNING. -/
def State.readmitIdle (s : State) : State :=
  if (List.range 16).any fun j => s.jobState j == 3 then s else s.readmitCooled

/-- An input to a job's completion arbiter: it fixes the outcome of a job that is LOADING or RUNNING, and is too late after
that. -/
def State.endJob (s : State) (slot outcome cause : Nat) : State :=
  if s.jobState slot = 0 ∨ s.jobState slot = 1 then s
  else if s.jobState slot = 4 then s.bump pFLT FLT_C_TOO_LATE_COUNT
  else
    let (steps, s) := s.jobSteps slot
    let (rep, s) := s.reportBytes outcome cause (s.rd pDOCK DOCK_JOB_DOCKET_ID slot) (s.rd pDOCK DOCK_JOB_JOB_ID slot) steps
      (s.rd pDOCK DOCK_JOB_T_ADMIT slot) s.tb.count
    let s := s.setJob slot { s.job slot with fixed := true, tEnd := s.tb.count, report := rep, lost := false }
    let s := s.wrs pDOCK [(DOCK_JOB_OUTCOME_CAUSE, 256 * outcome + cause), (DOCK_JOB_STATE, 4)] slot
    (((s.srvEnd slot).stopWork slot).quiescePorts slot).tearDone slot |>.readmitIdle

/-- ABORTED with cause FAULT; a grouped job leaves its group (R329). -/
def State.abortFault (s : State) (slot : Nat) : State :=
  if s.jobState slot = 3 then (s.sendLeave slot).endJob slot 0x41 2 else s.endJob slot 0x41 2

/-- A job that a reset ends: outcome ABORTED, cause RESET, no report, its ports FENCED at once (R165). -/
def State.resetJob (s : State) (slot : Nat) : State :=
  let st := s.jobState slot
  -- the report of a job that had ended before is still sent (R166)
  let j := s.job slot
  let kept : Job := if st = 0 ∨ st = 4 then { path := j.path, report := j.report, lost := j.lost } else {}
  if st = 0 then s.setJob slot kept
  else if st = 1 then (s.setJob slot {}).wr pDOCK DOCK_JOB_STATE 0 slot
  else
    let s := if st = 4 then s else s.wr pDOCK DOCK_JOB_OUTCOME_CAUSE 0x4103 slot
    let s := (s.srvEnd slot).stopWork slot
    let s := (s.jobPorts slot).foldl (fun s p => s.fencePort p) s
    (((s.freeUnits slot).freeSlot slot).setJob slot kept).sendReport slot

/-- Every job ends at a reset (R36, R39, R165). -/
def State.resetJobs (s : State) : State := (List.range 16).foldl (fun s j => s.resetJob j) s

end Sys2Proof.Machine
end

