-- ==== Sys2Proof/Machine/WspCore.lean ====
section
/-! DEFINITION. Weight streaming (R168–R190): key slots and epochs, requests, the landing of segments, residency, staging, and
how a load ends. -/

namespace Sys2Proof.Machine

/-! ### Key slots, bindings and epochs (R174, R175, R187) -/

/-- The loaded key slot of a model for an owner: a job slot, or 31 for the model cache (R187). -/
def State.keyOf (s : State) (owner model : Nat) : Option Nat :=
  (s.keySlots owner).find? fun k => s.rd pWSP WSP_KEYSLOT_KEY_LOADED k == 1 && s.rd pWSP WSP_KEYSLOT_MODEL k == model

/-- EPOCH_PUB of a key slot. -/
def State.epochPub (s : State) (k : Nat) : Nat := s.rd pWSP WSP_KEYSLOT_EPOCH_PUB k

/-- The key held in a key slot. -/
def State.keyBytes (s : State) (k : Nat) : List Byte := tabGet (fun _ => []) s.wsp.keys k

/-- The epoch that a region's binding table gives a model's layer (R174, R175). -/
def State.boundEpoch (s : State) (r model layer : Nat) : Option Nat :=
  ((List.range 16).find? fun e => s.rd pWSP WSP_BIND_VALID (16 * r + e) == 1 && s.rd pWSP WSP_BIND_MODEL (16 * r + e) == model
    && decide (s.rd pWSP WSP_BIND_LAYER_FIRST (16 * r + e) ≤ layer) && decide (layer ≤ s.rd pWSP WSP_BIND_LAYER_LAST (16 * r + e))).map
    fun e => s.rd pWSP WSP_BIND_EPOCH (16 * r + e)

/-- Write a binding: overlapping entries of the model go, a free place takes it; none when no place is free (R174). -/
def State.bindEpoch (s : State) (r model first last epoch : Nat) : Option State :=
  let mine := (List.range 16).filter fun e => s.rd pWSP WSP_BIND_VALID (16 * r + e) == 1
    && s.rd pWSP WSP_BIND_MODEL (16 * r + e) == model && decide (s.rd pWSP WSP_BIND_LAYER_FIRST (16 * r + e) ≤ last)
    && decide (first ≤ s.rd pWSP WSP_BIND_LAYER_LAST (16 * r + e))
  let s := mine.foldl (fun s e => s.initRegs pWSP (0x2000 + 0x100 * r + 0x10 * e) 2) s
  match (List.range 16).find? fun e => s.rd pWSP WSP_BIND_VALID (16 * r + e) == 0 with
  | none => none
  | some e => some (s.wrs pWSP [(WSP_BIND_VALID, 1), (WSP_BIND_MODEL, model), (WSP_BIND_LAYER_FIRST, first),
      (WSP_BIND_LAYER_LAST, last), (WSP_BIND_EPOCH, epoch)] (16 * r + e))

/-! ### Segments (R169, R170) -/

/-- A weight segment as it arrives (R169). -/
structure WSeg where
  flags : Nat
  obj : WObj
  gen : Nat
  lregion : Nat
  ltile : Nat
  seg : Nat
  len : Nat
  hdr : List Byte
  ct : List Byte
  tag : List Byte
  deriving DecidableEq, Repr

/-- Read a segment; none where check 1 of R178 fails. -/
def parseWSeg (b : List Byte) : Option WSeg :=
  let len := leAt b 17 2
  let w : WSeg :=
    { flags := byteAt b 1, obj := ⟨leAt b 2 2, leAt b 4 2, leAt b 6 2, leAt b 8 4⟩, gen := byteAt b 12, lregion := byteAt b 13,
      ltile := byteAt b 14, seg := leAt b 15 2, len := len, hdr := b.take 32, ct := (b.drop 32).take len, tag := b.drop (32 + len) }
  if byteAt b 0 = 0x57 ∧ w.flags < 2 ∧ leAt b 19 13 = 0 ∧ w.lregion < 80 ∧ w.seg < 512 ∧ 1 ≤ len ∧ len ≤ 4096
      ∧ 4096 * w.seg + len ≤ 2097152 ∧ b.length = 48 + len then some w
  else none

/-- The header that a segment is authenticated with: FLAGS taken as 0 (R170). -/
def segAad (hdr : List Byte) : List Byte := hdr.set 1 0#8

/-- The GCM nonce of a segment (R170). -/
def segNonce (o : WObj) (gen lregion ltile seg : Nat) : List Byte :=
  leBytes 4 o.epoch ++ leBytes 2 o.layer ++ leBytes 2 o.expert ++ leBytes 1 gen ++ leBytes 2 (lregion + 128 * seg) ++ leBytes 1 ltile

/-- The plaintext of a segment under a key, if its tag verifies. -/
def WSeg.unseal (w : WSeg) (key : List Byte) : Option (List Byte) :=
  gcmOpen key (segNonce w.obj w.gen w.lregion w.ltile w.seg) (segAad w.hdr) w.ct w.tag

/-- A sealed segment message that the module sends (R169, R188). -/
def sealSeg (key : List Byte) (o : WObj) (gen lregion ltile seg : Nat) (pt : List Byte) : List Byte :=
  let hdr := leBytes 1 0x57 ++ leBytes 1 0 ++ leBytes 2 o.model ++ leBytes 2 o.layer ++ leBytes 2 o.expert ++ leBytes 4 o.epoch
    ++ leBytes 1 gen ++ leBytes 1 lregion ++ leBytes 1 ltile ++ leBytes 2 seg ++ leBytes 2 pt.length ++ leBytes 13 0
  let (ct, tag) := gcmSeal key (segNonce o gen lregion ltile seg) (segAad hdr) pt
  hdr ++ ct ++ tag

/-! ### Loads -/

/-- Segments of a piece of `bytes` bytes. -/
def segCount (bytes : Nat) : Nat := (bytes + 4095) / 4096

/-- The length that a load expects of a segment (R178). -/
def segLen (bytes seg : Nat) : Nat := min 4096 (bytes - 4096 * seg)

/-- The positions (tile, segment) that a load covers. -/
def Load.positions (l : Load) : List (Nat × Nat) := (rectTiles l.rect).flatMap fun t => (List.range (segCount l.bytes)).map fun k => (t, k)

/-- The positions still missing. -/
def Load.missing (l : Load) : List (Nat × Nat) := l.positions.filter fun p => !l.landed.contains p

/-- Replace a load by its id. -/
def State.setLoad (s : State) (l : Load) : State :=
  let w := s.wsp
  { s with wsp := { w with loads := w.loads.map fun x => if x.id = l.id then l else x } }

/-- Add a load under the next id. -/
def State.addLoad (s : State) (l : Load) : State × Load :=
  let w := s.wsp
  let l := { l with id := w.nextLoad }
  ({ s with wsp := { w with loads := w.loads ++ [l], nextLoad := w.nextLoad + 1 } }, l)

/-- Drop a load: a speculative one gives up its context, any other command is complete (R179, R131). -/
def State.dropLoad (s : State) (l : Load) : State :=
  let w := s.wsp
  let s := { s with wsp := { w with loads := w.loads.filter fun x => x.id != l.id } }
  match l.outId with
  | some id => s.finish l.region id 16
  | none => s.dropCtx l.slot l.sid

/-- A load by id. -/
def State.loadAt (s : State) (id : Nat) : Option Load := s.wsp.loads.find? fun l => l.id == id

/-! ### Requests (R176) -/

/-- A 64-byte request message. -/
def State.wsRequest (s : State) (op : Nat) (o : WObj) (lregion rect bytes first last : Nat) : List Byte :=
  leBytes 1 0x51 ++ leBytes 1 op ++ leBytes 2 o.model ++ leBytes 2 o.layer ++ leBytes 2 o.expert ++ leBytes 4 o.epoch
    ++ leBytes 1 lregion ++ leBytes 1 0 ++ leBytes 2 rect ++ leBytes 4 bytes ++ leBytes 2 s.ownAddr ++ leBytes 2 first
    ++ leBytes 2 last ++ leBytes 38 0

/-- Send a request of a load on its key slot's S-port. -/
def State.sendWs (s : State) (l : Load) (rect first last : Nat) : State :=
  match s.keyOf l.slot l.obj.model with
  | none => s
  | some k => s.sendJobOn l.slot (s.rd pWSP WSP_KEYSLOT_SPORT k) 1 (s.rd pWSP WSP_KEYSLOT_ENDPOINT k)
      (s.wsRequest 1 l.obj l.lregion rect l.bytes first last)

/-- The RECT of one logical tile. -/
def tileRect (t : Nat) : Nat := (t % 16 + 16 * (t / 16)) * 257

/-- Ask for some positions of a load, with one READ per tile for their span there (R176). -/
def State.askTiles (s : State) (l : Load) (need : List (Nat × Nat)) : State :=
  (rectTiles l.rect).foldl (fun s t =>
    match (need.filter fun p => p.1 == t).map (·.2) with
    | [] => s
    | k :: ks => s.sendWs l (tileRect t) (ks.foldl min k) (ks.foldl max k)) s

/-- Ask for what a load still misses (R176): one READ for all of it, or one per tile. -/
def State.requestMissing (s : State) (l : Load) : State :=
  if l.landed.isEmpty then s.sendWs l l.rect 0 (segCount l.bytes - 1) else s.askTiles l l.missing

/-! ### Staging (R183, R185, R186) -/

/-- Whether a staged object is that of a job's logical region and object. -/
def Staged.is (x : Staged) (slot lregion : Nat) (o : WObj) : Bool := x.slot == slot && x.lregion == lregion && x.obj == o

/-- Evict the objects staged longest without use until the area holds its contents (R186). -/
def stageFit (limit : Nat) : Nat → List Staged → List Staged × Nat
  | 0, l => (l, 0)
  | n + 1, l =>
    if (l.map Staged.size).sum ≤ limit then (l, 0)
    else match l.findIdx? (fun x => !x.used) with
      | some k => let (l, c) := stageFit limit n (l.eraseIdx k); (l, c + 1)
      | none => match l with
        | [] => ([], 0)
        | _ :: rest => let (l, c) := stageFit limit n rest; (l, c + 1)

/-- Put a segment into the staging area: a lower generation is dropped, a higher one replaces what is there. -/
def State.stageSeg (s : State) (slot lregion : Nat) (o : WObj) (g : StagedSeg) : State :=
  let l := s.wsp.staged
  let l := if l.any fun x => x.is slot lregion o then l else l ++ [⟨slot, lregion, o, false, []⟩]
  let l := l.map fun x =>
    if !x.is slot lregion o then x
    else match x.segs with
      | [] => { x with segs := [g] }
      | y :: _ =>
        if g.gen < y.gen then x
        else if y.gen < g.gen then { x with segs := [g] }
        else { x with segs := x.segs.filter (fun z => z.tile != g.tile || z.seg != g.seg) ++ [g] }
  let (l, n) := stageFit (s.rd pWSP WSP_STAGE_SIZE_MB * 1000000) l.length l
  (s.setStaged l).bump pWSP WSP_C_STAGE_EVICTIONS n

/-- The release of a step: every staged object of the job is discarded, the unused ones counted (R186). -/
def State.stageRelease (s : State) (slot : Nat) : State :=
  let mine := s.wsp.staged.filter fun x => x.slot == slot
  (s.setStaged (s.wsp.staged.filter fun x => x.slot != slot)).bump pWSP WSP_C_SPEC_SQUASHED (mine.filter fun x => !x.used).length

/-! ### Landing (R178, R179, R181) -/

/-- A load is resident: its residency entry, its context and its command end together (R173, R179). -/
def State.makeResident (s : State) (l : Load) : State :=
  let w := s.wsp
  let e : Resident := ⟨l.obj, l.dst, l.bytes, l.rect⟩
  let old := tabGet (fun _ => []) w.resident l.region
  let new := if 16 ≤ old.length then old.drop (old.length - 15) ++ [e] else old ++ [e]
  { s with wsp := { w with resident := tabSet (fun _ => []) w.resident l.region new } }.dropLoad l

/-- Write landed bytes into a tile; residency entries that they overlap go (R173). -/
def State.landBytes (s : State) (r t addr : Nat) (b : List Byte) : State :=
  (s.dropResident r [(addr, addr + b.length)]).sramWrite r t addr b

/-- A segment lands for a load: in its tile, or in the staging area for a speculative fetch. -/
def State.landSeg (s : State) (l : Load) (t k gen : Nat) (pt : List Byte) : State :=
  let l := { l with gen := some gen, landed := l.landed ++ [(t, k)], tries := 0, reads := l.reads }
  let s := if l.spec then s.stageSeg l.slot l.lregion l.obj ⟨t, k, gen, pt⟩
    else ((s.landBytes l.region t (l.dst + 4096 * k) pt).bump pWSP WSP_C_BYTES_LANDED pt.length).sendPackets
      (.unit 5 0) (.tile l.region t) 3 pt.length l.slot
  let s := ((s.setLoad l).ctxBytes l.slot l.sid pt.length).bump pWSP WSP_C_SEGMENTS_IN
  if !l.missing.isEmpty then s else if l.spec then s.dropLoad l else s.makeResident l

/-- Checks 5 and 6 of R178 for a load, and the landing; a higher generation restarts it (R181). -/
def State.acceptSeg (s : State) (l : Load) (t k gen : Nat) (pt : List Byte) : State :=
  match l.gen with
  | some g =>
    if gen < g then s.bump pWSP WSP_C_DUP_DROPS
    else if g < gen then
      let l := { l with landed := [], gen := some gen }
      let s := (s.bump pWSP WSP_C_GEN_RESTARTS).landSeg l t k gen pt
      match s.loadAt l.id with
      | some l => (s.setLoad { l with reads := true }).requestMissing l
      | none => s
    else if l.landed.contains (t, k) then s.bump pWSP WSP_C_DUP_DROPS
    else s.landSeg l t k gen pt
  | none => s.landSeg l t k gen pt

/-! ### The end of a load (R180) -/

/-- A load is in flight no more, but its WLOAD has not completed: no reader passes it before the recovery takes it back (R179,
R330). -/
def State.stopLoad (s : State) (l : Load) : State :=
  let w := s.wsp
  { s with wsp := { w with loads := w.loads.filter fun x => x.id != l.id } }

/-- A WLOAD fails (R180) with a cause in LAST_FAIL, reported in a class. -/
def State.loadFails (s : State) (l : Load) (cause : Nat) (cls : FaultClass) : State :=
  let s := (s.raiseErr pWSP WSP_ERR_STATUS_LOAD_FAIL).wrs pWSP [(WSP_LAST_FAIL_SID, l.sid), (WSP_LAST_FAIL_SLOT, l.slot),
    (WSP_LAST_FAIL_CAUSE, cause), (WSP_LAST_FAIL_MODEL, l.obj.model), (WSP_LAST_FAIL_LAYER, l.obj.layer)]
  (s.reportOn cls l.region pWSP WSP_ERR_STATUS_LOAD_FAIL l.slot).stopLoad l

/-- A load fails (R180): causes 1 TIMEOUT, 2 NOT_HELD, 3 NO_MODEL, 4 KEY_MISSING, 5 EPOCH_WAIT. A speculative fetch stops
without a fault (R185). -/
def State.failLoad (s : State) (l : Load) (cause : Nat) : State :=
  if l.spec then s.dropLoad l else s.loadFails l cause (if cause = 4 then .program else .load)

/-! ### The start of a load (R171, R175, R183, R186) -/

/-- What a load takes from the staging area: the state, the load, the positions that a fetch taken over still brings, and those
whose staged segment had another length. -/
structure Taken where
  s : State
  l : Load
  coming : List (Nat × Nat)
  bad : List (Nat × Nat)

/-- Take what the staging area holds of a load, and a speculative fetch of its object that still runs (R186). A WLOAD that no
routing mask governs takes forwarded segments (R183) and counts no SPEC_HITS. -/
def State.takeStaged (s : State) (l : Load) : Taken :=
  let spec := s.wsp.loads.find? fun x => x.spec && x.region == l.region && x.obj == l.obj && x.slot == l.slot
  let coming := match spec with | some x => x.missing.filter l.missing.contains | none => []
  let s := match spec with | some x => s.dropLoad x | none => s
  let l := { l with reads := l.reads || spec.isSome }
  match s.wsp.staged.find? fun x => x.is l.slot l.lregion l.obj with
  | none => ⟨s.setLoad l, l, coming, []⟩
  | some x =>
    let fit := x.segs.filter fun g => (rectTiles l.rect).contains g.tile && decide (g.seg < segCount l.bytes)
    let good := fit.filter fun g => g.data.length == segLen l.bytes g.seg
    let bad := (fit.filter fun g => !good.contains g).map fun g => (g.tile, g.seg)
    let s := s.setStaged (s.wsp.staged.map fun y => if y.is l.slot l.lregion l.obj
      then { y with used := y.used || !good.isEmpty, segs := y.segs.filter fun g => !fit.contains g || good.contains g } else y)
    let s := if bad.isEmpty then s else (s.raiseErr pWSP WSP_ERR_STATUS_HDR_BAD).bump pWSP WSP_C_HDR_DROPS bad.length
    let s := if good.isEmpty ∨ 1024 ≤ l.obj.expert then s else s.bump pWSP WSP_C_SPEC_HITS
    let s := good.foldl (fun s g => (s.landBytes l.region g.tile (l.dst + 4096 * g.seg) g.data).bump pWSP WSP_C_BYTES_LANDED
      g.data.length) s
    let n := (good.map fun g => g.data.length).sum
    let l := { l with
      reads := l.reads || !bad.isEmpty, landed := good.map fun g => (g.tile, g.seg), gen := good.head?.map fun g => g.gen }
    ⟨(s.setLoad l).ctxBytes l.slot l.sid n, l, coming, bad⟩

/-- Start a load whose object is resolved: it waits for publication, takes what is staged, and reads when it leads or takes
over a fetch: a leader what no fetch brings, any other what had another length. -/
def State.beginLoad (s : State) (l : Load) : State :=
  match s.keyOf l.slot l.obj.model with
  | none => s
  | some k =>
    if s.epochPub k < l.obj.epoch then (s.setLoad { l with epochWait := true }).bump pWSP WSP_C_EPOCH_WAITS
    else
      let x := s.takeStaged { l with epochWait := false }
      let need := if x.l.lead then x.l.missing.filter fun p => !x.coming.contains p else x.bad
      let s := if x.l.lead then x.s.setLoad { x.l with reads := true } else x.s
      if x.l.missing.isEmpty then x.s.makeResident x.l
      else if x.l.lead ∧ x.coming.isEmpty then s.requestMissing x.l
      else s.askTiles x.l need

/-- EPOCH_PUB of a job's model has advanced: the loads that waited for it start (R175). -/
def State.epochReached (s : State) (slot model : Nat) : State :=
  match s.keyOf slot model with
  | none => s
  | some k => (s.wsp.loads.filter fun l => l.slot == slot && l.obj.model == model && l.epochWait
      && decide (l.obj.epoch ≤ s.epochPub k)).foldl (fun s l => s.beginLoad l) s

/-- A program fault that the WSP raises for a region's command (R174, R187). -/
def State.wspFault (s : State) (r : Nat) (d : Bool) (ix : Nat) (f : Fld) : State :=
  ((s.haltAt r d ix f.lo).raiseErr pWSP f).reportOn .program r pWSP f (s.jobOf r)

/-- Resolve a BIND (R174). -/
def State.runBind (s : State) (b : BindWait) : State :=
  match s.keyOf b.slot b.model with
  | none => s
  | some k => match s.bindEpoch b.region b.model b.first b.last ((s.epochPub k + b2n b.next) % 2 ^ 32) with
    | some s => s
    | none => s.wspFault b.region false b.pc WSP_ERR_STATUS_BIND_FULL

/-- The EPOCH a WLOAD would resolve now; none while no binding covers it and its model has no key (R175). -/
def State.wouldResolve (s : State) (r model layer : Nat) : Option Nat :=
  match s.boundEpoch r model layer with
  | some e => some e
  | none => (s.keyOf (s.jobOf r) model).map s.epochPub

/-- One speculative fetch (R185): nothing when its object is staged or in flight, or 16 are in flight. -/
def State.specFetch (s : State) (x : SpecWait) (epoch expert : Nat) : State :=
  let o : WObj := ⟨x.model, x.layer, expert, epoch⟩
  let mine := s.wsp.loads.filter fun l => l.region == x.region
  if mine.any (fun l => l.obj == o) || s.wsp.staged.any (fun y => y.is x.slot (s.logical x.region) o)
      || decide (16 ≤ (mine.filter (·.spec)).length) then s
  else
    let (s, l) := (s.takeCtx x.slot x.region x.sid 1 true).addLoad
      { id := 0, slot := x.slot, region := x.region, lregion := s.logical x.region, obj := o, dst := 0, bytes := x.bytes,
        rect := x.rect, sid := x.sid, outId := none, lead := false, spec := true, reads := true }
    (s.bump pWSP WSP_C_SPEC_ISSUED).requestMissing l

/-- The fetches of a WLOAD with SPEC = 1 whose model has its key (R175, R185); its own hold of the context ends. -/
def State.fetchSpec (s : State) (x : SpecWait) : State :=
  let s := if (s.boundEpoch x.region x.model x.layer).isNone then s.bump pWSP WSP_C_UNBOUND_LOADS else s
  let experts := if x.expert < 1024 then [x.expert]
    else (maskList 1024 (tabGet (fun _ => 0) s.wsp.masks (64 * x.region + x.layer % 64))).take (s.rd pWSP WSP_DEPTH_SPEC_MAX)
  let s := match s.keyOf x.slot x.model, s.wouldResolve x.region x.model x.layer with
    | some k, some e =>
      if s.rd pWSP WSP_DEPTH_SPEC_DIS = 1 ∨ s.epochPub k < e then s
      else experts.foldl (fun s n => s.specFetch x e n) s
    | _, _ => s
  s.dropCtx x.slot x.sid

/-- A key has been installed for a job's model: the WLOADs and BINDs that waited for it go on (R171, R174, R175). -/
def State.keyInstalled (s : State) (slot model : Nat) : State :=
  match s.keyOf slot model with
  | none => s
  | some k =>
    let bs := s.wsp.binds.filter fun b => b.slot == slot && b.model == model
    let w := s.wsp
    let xs := w.specs.filter fun x => x.slot == slot && x.model == model
    let s := { s with wsp := { w with
      binds := w.binds.filter (fun b => !(b.slot == slot && b.model == model)),
      specs := w.specs.filter fun x => !(x.slot == slot && x.model == model) } }
    let s := bs.foldl (fun s b => s.runBind b) s
    let s := xs.foldl (fun s x => s.fetchSpec x) s
    (s.wsp.loads.filter fun l => l.slot == slot && l.obj.model == model && l.keyWait).foldl (fun s l =>
      let l := { l with keyWait := false }
      let (s, l) := if l.unbound then
          (s.bump pWSP WSP_C_UNBOUND_LOADS, { l with obj := { l.obj with epoch := s.epochPub k } })
        else (s, l)
      (s.setLoad l).beginLoad l) s

/-! ### The weight group (R182, R371) -/

/-- Forward an accepted segment as leader: one copy to each W-port neighbour of the weight group and one of kind GROUP
through the switch. -/
def State.rebroadcast (s : State) (slot : Nat) (b : List Byte) : State :=
  if s.gGroups slot = 0 then s
  else
    let live := ((s.rankList slot 0 2 ++ s.rankList slot 0 1).map (s.playerOf slot)).eraseDups
    let mods := ((live.filter (· != s.gSelf slot)).map (s.memberModule slot)).eraseDups
    if mods.isEmpty then s
    else
      let b := b.set 1 1#8
      let near := (s.jobWPorts slot).filter fun p => s.portUp p && mods.contains (s.rd (portPage p) OPT_PORT_NADDR (p % 4))
      let s := near.foldl (fun s p => s.sendJobOn slot p 1 (s.rd (portPage p) OPT_PORT_NADDR (p % 4)) b) s
      let s := match (s.jobPorts slot).find? fun p => s.isS p && s.portUp p with
        | some p => s.sendJobOn slot p 1 (addrGroup 0) b
        | none => s
      s.bump pWSP WSP_C_REBCAST_SEGMENTS

end Sys2Proof.Machine
end

