-- ==== Sys2Proof/Machine/Cache.lean ====
section
/-! DEFINITION. The model cache (R294–R304): entries, epoch slots and their units, loads from a weight server or the cellar,
eviction, and the cache commands. -/

namespace Sys2Proof.Machine

/-! ### Entries and slots (R295, R296, R298) -/

/-- A field of epoch slot k of an entry: slot A is word 3, slot B word 4. -/
def slotFld (f : Fld) (k : Nat) : Fld := { f with off := f.off + 8 * k }

/-- SSTATE of a slot: 0 FREE, 1 LOADING, 2 READY, 3 DRAINING. -/
def State.sstate (s : State) (e k : Nat) : Nat := s.rd pCELL (slotFld CELL_MODEL_SSTATE k) e

/-- STATE of an entry: 0 EMPTY, 1 LOADING, 2 RESIDENT, 3 WAIT_SPACE, 4 FAILED. -/
def State.cacheState (s : State) (e : Nat) : Nat := s.rd pCELL CELL_MODEL_STATE e

/-- BOUND of a slot. -/
def State.bound (s : State) (e k : Nat) : Nat := s.rd pCELL (slotFld CELL_MODEL_BOUND k) e

/-- Whether an entry exists. -/
def State.entryValid (s : State) (e : Nat) : Bool := decide (e < 32) && s.rd pCELL CELL_MODEL_VALID e == 1

/-- The entry of a model. -/
def State.entryOf (s : State) (model : Nat) : Option Nat :=
  (List.range 32).find? fun e => s.entryValid e && s.rd pCELL CELL_MODEL_MODEL e == model

/-- Whether some slot of an entry is READY or DRAINING (R299). -/
def State.resident (s : State) (e : Nat) : Bool := [0, 1].any fun k => s.sstate e k == 2 || s.sstate e k == 3

/-- The slot that new batches bind: CUR, when READY (R298). -/
def State.curReady (s : State) (e : Nat) : Option Nat :=
  let k := s.rd pCELL CELL_MODEL_CUR e
  if s.sstate e k = 2 ∧ s.rd pCELL CELL_MODEL_UNLOADING e = 0 then some k else none

/-- Bring STATE of an entry up to date. -/
def State.showEntry (s : State) (e : Nat) : State :=
  let l := (s.cacheEnt e).load
  s.wr pCELL CELL_MODEL_STATE (if s.resident e then 2
    else match l with
      | some l => if l.manifest.isSome && !l.placed then 3 else 1
      | none => if s.cacheState e = 4 then 4 else 0) e

/-- Free a slot: its pieces and its units go. -/
def State.freeSlotOf (s : State) (e k : Nat) : State :=
  let c := s.cacheEnt e
  let s := s.setCacheEnt e { c with pieces := c.pieces.filter (fun p => p.slot != k), bad := c.bad.filter (· != k) }
  (s.wrs pCELL [(slotFld CELL_MODEL_SSTATE k, 0), (slotFld CELL_MODEL_UNITS k, 0), (slotFld CELL_MODEL_BOUND k, 0),
    (slotFld CELL_MODEL_EPOCH k, 0)] e).showEntry e

/-- Units held by every slot of the cache. -/
def State.unitsHeld (s : State) : Nat :=
  ((List.range 32).map fun e => s.rd pCELL (slotFld CELL_MODEL_UNITS 0) e + s.rd pCELL (slotFld CELL_MODEL_UNITS 1) e).sum

/-! ### The serve table (R286) -/

/-- Whether a slot holds a serve job. -/
def State.serves (s : State) (slot : Nat) : Bool := byteAt (s.job slot).docket 6 == 1

/-- The job offset of a serve job's entry for a model. -/
def State.serveEntry (s : State) (slot model : Nat) : Option Nat :=
  let b := s.tableOff slot + 0x3C0000
  if !s.serves slot || s.jobState slot != 3 then none
  else ((List.range (min 16 (s.jobNat slot b 2))).map fun k => b + 64 + 64 * k).find? fun d => s.jobNat slot d 2 == model

/-- Whether a serve job may use a model: its entry's TENANT is the cache entry's (R296). -/
def State.tenantOk (s : State) (slot d e : Nat) : Bool := s.jobNat slot (d + 40) 8 == s.rd pCELL CELL_MODEL_TENANT e

/-- The piece that a WLOAD of a serve job copies (R294). -/
def State.cachePiece (s : State) (e epoch layer expert lregion tile : Nat) : Option (List Byte) :=
  ((s.cacheEnt e).pieces.find? fun p => s.rd pCELL (slotFld CELL_MODEL_EPOCH p.slot) e == epoch && decide (2 ≤ s.sstate e p.slot)
    && p.layer == layer && p.expert == expert && p.lregion == lregion && p.tile == tile).map (·.data)

/-! ### Manifests (R303) -/

/-- One entry of a manifest. -/
def parseMf (b : List Byte) : MfEntry :=
  ⟨leAt b 0 2, leAt b 2 2, byteAt b 4, byteAt b 5, byteAt b 6, leAt b 8 4, leAt b 12 4⟩

/-- The entries of a manifest. -/
def parseManifest (b : List Byte) : List MfEntry := (List.range (b.length / 16)).map fun k => parseMf (b.drop (16 * k))

/-- The tiles of a manifest entry. -/
def MfEntry.tiles (m : MfEntry) : List Nat := (List.range 256).filter fun t => decide (m.first ≤ t) && decide (t ≤ m.last)

/-- The piece bytes of a manifest. -/
def mfBytes (l : List MfEntry) : Nat := (l.map fun m => m.bytes * m.tiles.length).sum

/-- A manifest's total as R303 counts it. -/
def mfTotal (l : List MfEntry) : Int := (l.map fun m => (m.bytes : Int) * ((m.last : Int) - m.first + 1)).sum

/-- Every position (entry, tile, segment) of a manifest. -/
def mfPositions (l : List MfEntry) : List (Nat × Nat × Nat) :=
  l.zipIdx.flatMap fun p => p.1.tiles.flatMap fun t => (List.range (segCount p.1.bytes)).map fun k => (p.2, t, k)

/-! ### Requests of a load (R297) -/

/-- The KEYED S-ports of a job. -/
def State.keyedS (s : State) (slot : Nat) : List Nat := (s.jobPorts slot).filter fun p => s.isS p && s.portState p == 2

/-- Whether a job can carry a load of an entry: it runs, serves the model as its TENANT, and holds KEYED S-ports. -/
def State.carries (s : State) (e model j : Nat) : Bool :=
  s.jobState j == 3 && (match s.serveEntry j model with | some d => s.tenantOk j d e | none => false) && !(s.keyedS j).isEmpty

/-- The carrier: a running serve job that serves the model, holds KEYED S-ports and has a context left. -/
def State.carrierFor (s : State) (e : Nat) : Option Nat :=
  let model := s.rd pCELL CELL_MODEL_MODEL e
  (List.range 16).find? fun j => s.carries e model j && decide (s.liveCtx j < s.rd pSCT SCT_JOB_LIMIT j)

/-- Replace an entry's load. -/
def State.setCacheLoad (s : State) (e : Nat) (l : Option CacheLoad) : State := (s.setCacheEnt e { s.cacheEnt e with load := l }).showEntry e

/-- Send a request of an entry's load on the carrier's S-ports in turn. -/
def State.cacheAsk (s : State) (e op : Nat) (o : WObj) (lregion rect bytes first last : Nat) : State :=
  match (s.cacheEnt e).load with
  | some l => match l.carrier with
    | some j =>
      let ps := s.keyedS j
      let k := s.rd pCELL CELL_MODEL_KEYSLOT e
      let s := s.setCacheLoad e (some { l with turn := l.turn + 1 })
      s.sendJobOn j (ps.getD (l.turn % max 1 ps.length) 0) 1 (s.rd pWSP WSP_KEYSLOT_ENDPOINT k)
        (s.wsRequest op o lregion rect bytes first last)
    | none => s
  | none => s

/-- Ask for the chunks of the manifest still missing: all of them while its length is unknown. -/
def State.askManifest (s : State) (e : Nat) : State :=
  match (s.cacheEnt e).load with
  | none => s
  | some l =>
    let o : WObj := ⟨s.rd pCELL CELL_MODEL_MODEL e, 0, 0, l.epoch⟩
    match l.total with
    | none => s.cacheAsk e 2 o 0 0 0 0 0xFFFF
    | some n =>
      match (List.range ((n + 4095) / 4096)).filter fun c => !l.chunks.any fun x => x.1 == 4096 * c with
      | [] => s
      | c :: cs => s.cacheAsk e 2 o 0 0 0 (cs.foldl min c) (cs.foldl max c)

/-- Ask for the pieces of the manifest that still miss segments: one READ for each tile. -/
def State.askPieces (s : State) (e : Nat) : State :=
  match (s.cacheEnt e).load with
  | none => s
  | some l =>
    let mf := l.manifest.getD []
    let miss := (mfPositions mf).filter fun p => !l.segs.any fun g => g.entry == p.1 && g.tile == p.2.1 && g.seg == p.2.2
    mf.zipIdx.foldl (fun s m => m.1.tiles.foldl (fun s t =>
      match (miss.filter fun p => p.1 == m.2 && p.2.1 == t).map (·.2.2) with
      | [] => s
      | c :: cs => s.cacheAsk e 1 ⟨s.rd pCELL CELL_MODEL_MODEL e, m.1.layer, m.1.expert, l.epoch⟩ m.1.lregion (tileRect t) m.1.bytes
          (cs.foldl min c) (cs.foldl max c)) s) s

/-! ### Space (R295) -/

/-- Whether an entry may be evicted. -/
def State.evictable (s : State) (e : Nat) : Bool :=
  s.entryValid e && s.cacheState e == 2 && s.bound e 0 == 0 && s.bound e 1 == 0 && (s.cacheEnt e).load.isNone
    && (s.cacheEnt e).waiting.isNone && s.rd pCELL CELL_MODEL_PINNED e == 0

/-- Units of an entry. -/
def State.unitsOf (s : State) (e : Nat) : Nat := s.rd pCELL (slotFld CELL_MODEL_UNITS 0) e + s.rd pCELL (slotFld CELL_MODEL_UNITS 1) e

/-- Evict one entry. -/
def State.evict (s : State) (e : Nat) : State :=
  let s := ((s.freeSlotOf e 0).freeSlotOf e 1).wr pCELL CELL_MODEL_STATE 0 e
  (s.bump pCELL CELL_C_EVICTIONS).raiseEvt pCELL CELL_EVT_STATUS_EVICTED

/-- The candidate that goes first: smallest USE, then LAST_USE, then index. -/
def State.evictFirst (s : State) (cs : List Nat) : Option Nat :=
  let k := fun e => (s.rd pCELL CELL_MODEL_USE e, s.rd pCELL CELL_MODEL_LAST_USE e, e)
  cs.foldl (fun a e => match a with
    | none => some e
    | some b => if (k e).1 < (k b).1 ∨ ((k e).1 = (k b).1 ∧ ((k e).2.1 < (k b).2.1 ∨ ((k e).2.1 = (k b).2.1 ∧ e < b))) then some e
        else some b) none

/-- Evict candidates until `need` units are free. -/
def State.evictUntil (s : State) (self need : Nat) : Nat → State
  | 0 => s
  | n + 1 =>
    if need + s.unitsHeld ≤ s.rd pCELL CELL_CACHE_CFG_SIZE_GB then s
    else match s.evictFirst ((List.range 32).filter fun e => e != self && s.evictable e) with
      | none => s
      | some e => (s.evict e).evictUntil self need n

/-- Give a load its units, evicting where that suffices; then fetch its pieces, or wait in WAIT_SPACE. -/
def State.placeLoad (s : State) (e : Nat) : State :=
  match (s.cacheEnt e).load with
  | none => s
  | some l =>
    let need := (mfBytes (l.manifest.getD []) + 999999999) / 1000000000
    let size := s.rd pCELL CELL_CACHE_CFG_SIZE_GB
    let can := ((List.range 32).filter fun x => x != e && s.evictable x).map s.unitsOf
    if size + can.sum < s.unitsHeld + need then
      let s := if s.cacheState e = 3 then s else s.bump pCELL CELL_C_SPACE_WAITS
      s.setCacheLoad e (some l)
    else
      let s := s.evictUntil e need 32
      let s := (s.wr pCELL (slotFld CELL_MODEL_UNITS l.slot) need e).setCacheLoad e (some { l with placed := true })
      if l.source = 0 then s.askPieces e else s

/-- Loads in WAIT_SPACE try again after units were freed. -/
def State.retrySpace (s : State) : State :=
  ((List.range 32).filter fun e => match (s.cacheEnt e).load with | some l => l.manifest.isSome && !l.placed | none => false).foldl
    (fun s e => s.placeLoad e) s

/-! ### The end of a load (R297, R299, R301) -/

/-- Give up the context of a load. -/
def State.cacheCtxEnd (s : State) (l : CacheLoad) : State := match l.carrier with | some j => s.dropCtx j l.sid | none => s

/-- Answer every queued request of a model with REJECT 5 (R301). -/
def State.rejectQueued (s : State) (model : Nat) : State :=
  (List.range 16).foldl (fun s j =>
    let v := s.srv j
    let (out, rest) := v.queue.partition fun r => r.model == model
    if out.isEmpty then s
    else
      let s := out.foldl (fun s r => s.srvReject j r 5) ((s.setSrv j { v with queue := rest }).wr pCELL CELL_SERVE_QUEUED rest.length j)
      s.freeStreams j) s

/-- A load fails (R301): causes 1 TIMEOUT, 2 NOT_HELD, 3 NO_MODEL, 4 IMAGE_BAD, 5 SEG_TAG, 6 UE, 7 NO_CARRIER, 8 SIZE. -/
def State.cacheFail (s : State) (e cause : Nat) : State :=
  match (s.cacheEnt e).load with
  | none => s
  | some l =>
    let model := s.rd pCELL CELL_MODEL_MODEL e
    let s := (s.cacheCtxEnd l).setCacheLoad e none
    let s := (s.freeSlotOf e l.slot).raiseErr pCELL CELL_ERR_STATUS_LOAD_FAIL
    let s := (s.wrs pCELL [(CELL_LAST_FAIL_EPOCH, l.epoch), (CELL_LAST_FAIL_MODEL, model), (CELL_LAST_FAIL_ENTRY, e),
      (CELL_LAST_FAIL_CAUSE, cause)]).bump pCELL CELL_C_LOAD_FAILS
    (if s.resident e then s.wr pCELL CELL_MODEL_STATE 2 e
    else (s.wr pCELL CELL_MODEL_STATE 4 e).rejectQueued model).retrySpace

/-- Begin a load of an epoch into a FREE slot (R297). From a weight server it asks for the manifest on the carrier's ports;
from the cellar it waits for the cellar controller. -/
def State.startCacheLoad (s : State) (e epoch : Nat) (fromWs : Bool) : State :=
  match [0, 1].find? fun k => s.sstate e k == 0 with
  | none => s
  | some k =>
    let src := s.rd pCELL CELL_MODEL_SOURCE e
    let ws := fromWs || src == 0
    let s := s.wrs pCELL [(slotFld CELL_MODEL_SSTATE k, 1), (slotFld CELL_MODEL_EPOCH k, epoch)] e
    let l : CacheLoad := { epoch := epoch, slot := k, source := if ws then 0 else 1 }
    if !ws then s.setCacheLoad e (some l)
    else match s.carrierFor e with
      | none => (s.setCacheLoad e (some l)).cacheFail e 7
      | some j =>
        let sid := ((List.range 65536).find? fun x => !s.ctxs.any fun c => c.slot == j && c.sid == x).getD 0
        let s := s.takeCtx j 0 sid 5 false
        (s.setCacheLoad e (some { l with carrier := some j, sid := sid })).askManifest e

/-- A load fails, but one of SOURCE 2 that reads the cellar starts again from the weight server (R297). -/
def State.cacheFailOr (s : State) (e cause : Nat) : State :=
  match (s.cacheEnt e).load with
  | none => s
  | some l =>
    if l.source = 1 ∧ s.rd pCELL CELL_MODEL_SOURCE e = 2 then
      (((s.setCacheLoad e none).freeSlotOf e l.slot).startCacheLoad e l.epoch true).retrySpace
    else s.cacheFail e cause

/-- Start the load that an entry's LOAD command left waiting for a slot (R300). -/
def State.startWaiting (s : State) (e : Nat) : State :=
  let c := s.cacheEnt e
  match c.waiting with
  | some ep => if c.load.isNone && [0, 1].any (fun k => s.sstate e k == 0) then
      (s.setCacheEnt e { c with waiting := none }).startCacheLoad e ep false
    else s
  | none => s

/-- An entry whose UNLOAD has been taken is emptied once nothing is bound (R300); a KEY_ERASE then removes it (R296). -/
def State.unloadDone (s : State) (e : Nat) : State :=
  if s.rd pCELL CELL_MODEL_UNLOADING e = 1 ∧ s.bound e 0 = 0 ∧ s.bound e 1 = 0 then
    let erase := (s.cacheEnt e).erase
    let s := match (s.cacheEnt e).load with | some l => s.cacheCtxEnd l | none => s
    let s := ((s.setCacheEnt e {}).freeSlotOf e 0).freeSlotOf e 1
    let s := s.wrs pCELL [(CELL_MODEL_UNLOADING, 0), (CELL_MODEL_STATE, 0)] e
    (if erase then (s.eraseKeySlot (s.rd pCELL CELL_MODEL_KEYSLOT e)).initRegs pCELL (0x1000 + 0x40 * e) 8 else s).retrySpace
  else s

/-- A DRAINING slot with nothing bound becomes FREE (R299). -/
def State.drainSlot (s : State) (e k : Nat) : State :=
  if s.sstate e k = 3 ∧ s.bound e k = 0 then
    ((((s.freeSlotOf e k).raiseEvt pCELL CELL_EVT_STATUS_EPOCH_FREED).startWaiting e).unloadDone e).retrySpace
  else s.unloadDone e

/-- Batches whose epoch a stack fault took from the cache bind the slot that now holds it again (R390). -/
def State.rebind (s : State) (e k epoch : Nat) : State :=
  let lost := (List.range 16).filter fun j => match (s.srv j).batch with
    | some b => b.entry == e && s.rd pCELL CELL_SERVE_EPOCH j == epoch
        && !(decide (2 ≤ s.sstate e b.slot) && s.rd pCELL (slotFld CELL_MODEL_EPOCH b.slot) e == epoch)
    | none => false
  let s := lost.foldl (fun s j => s.setSrv j { s.srv j with batch := (s.srv j).batch.map fun b => { b with slot := k } }) s
  s.wr pCELL (slotFld CELL_MODEL_BOUND k) (s.bound e k + lost.length) e

/-- A slot becomes READY and current (R297, R299). -/
def State.slotReady (s : State) (e : Nat) (l : CacheLoad) (pieces : List CachePiece) (bytes : Nat) : State :=
  let other := 1 - l.slot
  let c := s.cacheEnt e
  let s := ((s.cacheCtxEnd l).setCacheEnt e { c with load := none, pieces := c.pieces ++ pieces }).rebind e l.slot l.epoch
  let s := s.wrs pCELL [(slotFld CELL_MODEL_SSTATE l.slot, 2), (slotFld CELL_MODEL_EPOCH l.slot, l.epoch), (CELL_MODEL_CUR, l.slot)] e
  let s := if s.sstate e other = 2 then s.wr pCELL (slotFld CELL_MODEL_SSTATE other) 3 e else s
  let s := ((s.showEntry e).bump pCELL CELL_C_EPOCH_SWITCHES).bump pCELL (if l.source = 0 then CELL_C_LOADS_WS else CELL_C_LOADS_CELLAR)
  let s := ((s.bump pCELL CELL_C_BYTES_LOADED bytes).raiseEvt pCELL CELL_EVT_STATUS_MODEL_READY).raiseEvt pCELL CELL_EVT_STATUS_EPOCH_SWITCHED
  (s.drainSlot e other).startWaiting e

/-- An uncorrectable stack line in what slot k of an entry holds (R301): a load that fills it fails; a slot with READY pieces
binds no new batch: CUR moves to the other slot if that is READY, and otherwise the entry reloads once the slot drains. -/
def State.cacheLine (s : State) (e k : Nat) : State :=
  if s.sstate e k = 1 then s.cacheFailOr e 6
  else if s.sstate e k < 2 ∨ (s.cacheEnt e).bad.contains k then s
  else
    let c := s.cacheEnt e
    let other := s.sstate e (1 - k) == 2
    let again := !other && c.load.isNone && c.waiting.isNone
    let s := s.setCacheEnt e { c with
      bad := c.bad ++ [k], waiting := if again then some (s.rd pCELL CELL_MODEL_TARGET_EPOCH e) else c.waiting }
    let s := if other && s.rd pCELL CELL_MODEL_CUR e == k then s.wr pCELL CELL_MODEL_CUR (1 - k) e else s
    (s.wr pCELL (slotFld CELL_MODEL_SSTATE k) 3 e).drainSlot e k

/-- A load has all its pieces: they must come to the manifest's total (R297), which counts LTILE_LAST − LTILE_FIRST + 1 pieces
in every entry (R303). -/
def State.loadDone (s : State) (e : Nat) (l : CacheLoad) (pieces : List CachePiece) : State :=
  let got : Nat := (pieces.map fun p => p.data.length).sum
  if Int.ofNat got ≠ mfTotal (l.manifest.getD []) then s.cacheFailOr e 8 else (s.slotReady e l pieces got).retrySpace

/-! ### What arrives for a load (R297) -/

/-- The pieces of a complete load. -/
def CacheLoad.assemble (l : CacheLoad) : List CachePiece :=
  (l.manifest.getD []).zipIdx.flatMap fun m => m.1.tiles.map fun t =>
    let gs := (List.range (segCount m.1.bytes)).flatMap fun k =>
      match l.segs.find? fun g => g.entry == m.2 && g.tile == t && g.seg == k with | some g => g.data | none => []
    ⟨l.slot, m.1.layer, m.1.expert, m.1.lregion, t, gs⟩

/-- A segment for an entry's load: checks 5 and 6 of R178 for its piece, and the landing. -/
def State.cacheSeg (s : State) (e : Nat) (l : CacheLoad) (m : Nat) (w : WSeg) (pt : List Byte) : State :=
  let piece := l.segs.filter fun g => g.entry == m && g.tile == w.ltile
  let top := piece.foldl (fun a g => max a g.gen) 0
  let new : CacheSeg := ⟨m, w.ltile, w.seg, w.gen, pt⟩
  if !piece.isEmpty && decide (w.gen < top) then s.bump pWSP WSP_C_DUP_DROPS
  else if piece.any fun g => g.seg == w.seg && g.gen == w.gen then s.bump pWSP WSP_C_DUP_DROPS
  else
    let up := !piece.isEmpty && decide (top < w.gen)
    let segs := if up then l.segs.filter fun g => !(g.entry == m && g.tile == w.ltile) else l.segs
    let s := if up then s.bump pWSP WSP_C_GEN_RESTARTS else s
    let l := { l with segs := segs ++ [new], tries := 0 }
    let s := (match l.carrier with | some j => s.ctxBytes j l.sid pt.length | none => s).bump pWSP WSP_C_SEGMENTS_IN
    let s := s.setCacheLoad e (some l)
    if (mfPositions (l.manifest.getD [])).all fun p => l.segs.any fun g => g.entry == p.1 && g.tile == p.2.1 && g.seg == p.2.2 then
      s.loadDone e l l.assemble
    else if up then s.askPieces e else s

/-- The manifest entry of a placed load that a segment fills. -/
def CacheLoad.matches (l : CacheLoad) (w : WSeg) : Option Nat :=
  if !l.placed || l.epoch != w.obj.epoch then none
  else ((l.manifest.getD []).zipIdx.find? fun m => m.1.layer == w.obj.layer && m.1.expert == w.obj.expert && m.1.lregion == w.lregion
    && decide (m.1.first ≤ w.ltile) && decide (w.ltile ≤ m.1.last) && decide (w.seg < segCount m.1.bytes)).map (·.2)

/-- Whether a segment has the length that entry m of the manifest gives it there (check 4 of R178). -/
def CacheLoad.fits (l : CacheLoad) (m : Nat) (w : WSeg) : Bool :=
  match (l.manifest.getD [])[m]? with | some x => w.len == segLen x.bytes w.seg | none => false

/-- MANIFEST_CHUNK (R297): an answer to a load's MANIFEST request. -/
def State.manifestChunk (s : State) (slot : Nat) (b : List Byte) : State :=
  let off := leAt b 4 8
  let total := leAt b 16 4
  let len := leAt b 20 2
  let e? := (List.range 32).find? fun e => s.entryValid e && s.rd pCELL CELL_MODEL_MODEL e == leAt b 2 2
    && match (s.cacheEnt e).load with
      | some l => l.carrier == some slot && l.epoch == leAt b 12 4 && l.manifest.isNone && (l.total.isNone || l.total == some total)
      | none => false
  match e? with
  | none => s.bump pWSP WSP_C_HDR_DROPS
  | some e =>
    match (s.cacheEnt e).load with
    | none => s
    | some l =>
      if byteAt b 1 ≠ 0 ∨ leAt b 22 10 ≠ 0 ∨ off % 4096 ≠ 0 ∨ len = 0 ∨ 4096 < len ∨ total < off + len ∨ b.length ≠ 32 + len
          ∨ total % 16 ≠ 0 ∨ len ≠ min 4096 (total - off) then s.bump pWSP WSP_C_HDR_DROPS
      else
        let l := { l with total := some total, tries := 0, chunks := l.chunks.filter (fun x => x.1 != off) ++ [(off, b.drop 32)] }
        let n := (total + 4095) / 4096
        if l.chunks.length < n then s.setCacheLoad e (some l)
        else
          let all := (List.range n).flatMap fun c => match l.chunks.find? (·.1 == 4096 * c) with | some x => x.2 | none => []
          (s.setCacheLoad e (some { l with manifest := some (parseManifest all) })).placeLoad e

/-- MANIFEST_CHUNK (R297). -/
def execManifestChunk (m : Msg) (s : State) : Host.Outcome State Fault Refusal :=
  keep s (match s.admitMsg m with
    | (s, none) => s
    | (s, some slot) => if m.cls = 1 && byteAt m.body 0 == 0x4E then s.manifestChunk slot m.body else s)

/-! ### Sealed images (R302–R304) -/

/-- Whether the header of an image passes R304 for an index. -/
def imageHeaderOk (b : List Byte) : Bool :=
  decide (4096 ≤ b.length) && leAt b 0 4 == 0x49435242 && leAt b 4 2 == 0x0100 && decide (byteAt b 6 ≤ 1) && byteAt b 7 == 0
    && (sha384 (b.take 4048)) == (b.drop 4048).take 48

/-- The manifest, or the program, of a sealed image whose two hashes pass. -/
def imageBody (b : List Byte) : Option (List Byte) :=
  let off := leAt b 24 8
  let body := if byteAt b 6 = 0 then (b.drop off).take (16 * leAt b 32 4) else (b.take (leAt b 16 8)).drop off
  if imageHeaderOk b && sha384 body == (b.drop 48).take 48 then some body else none

/-- A sealed image that is VALID (R302, R393). -/
def State.cellarImage (s : State) (i : Nat) : Option (List Byte) :=
  if 256 ≤ i ∨ s.rd pCELL CELL_IMAGE_VALID i = 0 then none else (s.cellar.images.find? fun x => x.1 == i).map (·.2)

/-- One segment record of an image, at a byte offset. -/
def recordAt (b : List Byte) (o : Nat) : Option WSeg :=
  let n := leAt b (o + 17) 2
  parseWSeg ((b.drop o).take (48 + n))

/-- The bytes of one piece's segment records: each begins on a 4,096-byte boundary (R303). -/
def recordSpan (bytes : Nat) : Nat :=
  ((List.range (segCount bytes)).map fun k => (48 + segLen bytes k + 4095) / 4096 * 4096).sum

/-- The segments of one piece of an image under its key, in order from a byte offset; none where a record is not that piece's
or its tag fails (R297, R304). -/
def readPiece (b key : List Byte) (o : WObj) (m : MfEntry) (entry tile off : Nat) : Option (List CacheSeg) :=
  (List.range (segCount m.bytes)).foldr (fun k acc =>
    match acc, recordAt b (off + 8192 * k) with
    | some l, some w =>
      if w.obj = o ∧ w.lregion = m.lregion ∧ w.ltile = tile ∧ w.seg = k ∧ w.len = segLen m.bytes k then
        (w.unseal key).map fun pt => ⟨entry, tile, k, w.gen, pt⟩ :: l
      else none
    | _, _ => none) (some [])

/-- Checks 5 and 6 of R178 on a piece's segments in the order they are read: what lands, and how many were dropped and how
often a higher generation restarted the piece. -/
def landPiece (l : List CacheSeg) : List CacheSeg × Nat × Nat :=
  l.foldl (fun a g => match a.1 with
    | [] => ([g], a.2)
    | x :: _ =>
      if g.gen < x.gen then (a.1, a.2.1 + 1, a.2.2)
      else if x.gen < g.gen then ([g], a.2.1, a.2.2 + 1)
      else (a.1 ++ [g], a.2)) ([], 0, 0)

/-- Read every piece of a model image under its key: the segments of each piece (R297, R303, R304). -/
def readPieces (b key : List Byte) (model epoch : Nat) (mf : List MfEntry) : Option (List (List CacheSeg)) :=
  (mf.zipIdx.flatMap fun m => m.1.tiles.zipIdx.map fun t => (m, t)).foldr (fun x acc =>
    let m := x.1.1
    match acc, readPiece b key ⟨model, m.layer, m.expert, epoch⟩ m x.1.2 x.2.1 (4096 * m.segOff + x.2.2 * recordSpan m.bytes) with
    | some l, some p => some (p :: l)
    | _, _ => none) (some [])

/-- CELLAR_LOAD_DONE (R297, R301, R304): the cellar controller has read the image of an entry's load. A SOURCE 2 load that
fails goes on from the weight server. -/
def execCellarLoadDone (entry : Fin 32) (s : State) : Host.Outcome State Fault Refusal :=
  let e := entry.val
  keep s (match (s.cacheEnt e).load with
    | none => s
    | some l =>
      if l.source = 0 then s
      else
        let fail := fun (s : State) cause => s.cacheFailOr e cause
        let img := s.cellarImage (s.rd pCELL CELL_MODEL_CELLAR_INDEX e)
        let model := s.rd pCELL CELL_MODEL_MODEL e
        match img with
        | none => fail (s.raiseErr pCELL CELL_ERR_STATUS_IMAGE_BAD) 4
        | some b =>
          match imageBody b with
          | none => fail (s.raiseErr pCELL CELL_ERR_STATUS_IMAGE_BAD) 4
          | some body =>
            let mf := parseManifest body
            if byteAt b 6 ≠ 0 ∨ leAt b 10 2 ≠ model ∨ leAt b 12 4 ≠ l.epoch then fail (s.raiseErr pCELL CELL_ERR_STATUS_IMAGE_BAD) 4
            else
              let s := if l.placed then s else (s.setCacheLoad e (some { l with manifest := some mf })).placeLoad e
              -- a load without units waits for them, whatever the entry's STATE (R295)
              if ((s.cacheEnt e).load.map (·.placed)) ≠ some true then s else
              match readPieces b (s.keyBytes (s.rd pCELL CELL_MODEL_KEYSLOT e)) model l.epoch mf with
              | none => fail (s.raiseErr pCELL CELL_ERR_STATUS_SEG_TAG) 5
              | some ps =>
                let got := ps.map landPiece
                let s := (s.bump pWSP WSP_C_DUP_DROPS (got.map fun x => x.2.1).sum).bump pWSP WSP_C_GEN_RESTARTS (got.map fun x => x.2.2).sum
                let l := { l with manifest := some mf, placed := true, segs := got.flatMap (·.1) }
                -- a piece of two generations never has every segment (DEDUCED, log 154)
                if l.segs.length ≠ (ps.map List.length).sum then fail s 1
                else s.loadDone e l l.assemble)

/-! ### Cache commands (R300) -/

/-- The common part of a CACHE_CMD write: an entry that does not exist, or an unknown OP, sets BAD_CMD. -/
def State.cacheCmd (s : State) (q : Requester) (v : Word) (op : Nat) (run : State → Nat → State) : State :=
  s.serveWrite q (regAddr pCELL 0x108) v fun s =>
    let e := bits v.toNat 12 8
    let o := bits v.toNat 2 0
    if o = 0 ∨ 4 < o ∨ s.entryValid e = false then s.raiseErr pCELL CELL_ERR_STATUS_BAD_CMD
    else if o = op then run s e else s

/-- LOAD on an entry (R300). -/
def State.cacheLoadCmd (s : State) (e epoch : Nat) : State :=
  let s := s.wr pCELL CELL_MODEL_TARGET_EPOCH epoch e
  let c := s.cacheEnt e
  let cur := s.rd pCELL CELL_MODEL_CUR e
  if s.sstate e cur = 2 ∧ s.rd pCELL (slotFld CELL_MODEL_EPOCH cur) e = epoch then s.bump pCELL CELL_C_LOADS_IGNORED
  else match c.load with
    | some l =>
      let s := ((s.cacheCtxEnd l).setCacheLoad e none).freeSlotOf e l.slot
      ((s.bump pCELL CELL_C_LOAD_RESTARTS).startCacheLoad e epoch false).retrySpace
    | none =>
      if [0, 1].any fun k => s.sstate e k == 0 then s.startCacheLoad e epoch false
      else s.setCacheEnt e { c with waiting := some epoch }

/-- CACHE_LOAD (R300). -/
def execCacheLoad (q : Requester) (v : Word) (s : State) : Host.Outcome State Fault Refusal :=
  keep s (s.cacheCmd q v 1 fun s e => s.cacheLoadCmd e (bits v.toNat 63 32))

/-- CACHE_UNLOAD (R300). -/
def execCacheUnload (q : Requester) (v : Word) (s : State) : Host.Outcome State Fault Refusal :=
  keep s (s.cacheCmd q v 2 fun s e => ((s.wr pCELL CELL_MODEL_UNLOADING 1 e).unloadDone e).retrySpace)

/-- CACHE_PIN (R300). -/
def execCachePin (q : Requester) (v : Word) (s : State) : Host.Outcome State Fault Refusal :=
  keep s (s.cacheCmd q v 3 fun s e => s.wr pCELL CELL_MODEL_PINNED 1 e)

/-- CACHE_UNPIN (R300). -/
def execCacheUnpin (q : Requester) (v : Word) (s : State) : Host.Outcome State Fault Refusal :=
  keep s (s.cacheCmd q v 4 fun s e => (s.wr pCELL CELL_MODEL_PINNED 0 e).retrySpace)

/-- CACHE_RETRY (R301): 10 s after a failure. -/
def execCacheRetry (entry : Fin 32) (s : State) : Host.Outcome State Fault Refusal :=
  keep s (if s.entryValid entry && s.cacheState entry == 4 then
    (s.wr pCELL CELL_MODEL_STATE 0 entry).startCacheLoad entry (s.rd pCELL CELL_MODEL_TARGET_EPOCH entry) false else s)

/-- USE_DECAY (R295): every DECAY_S seconds. -/
def execUseDecay (s : State) : Host.Outcome State Fault Refusal :=
  keep s ((List.range 32).foldl (fun s e => s.wr pCELL CELL_MODEL_USE (s.rd pCELL CELL_MODEL_USE e / 2) e) s)

end Sys2Proof.Machine
end

