-- ==== Sys2Proof/Machine/Sequencer.lean ====
section
/-! DEFINITION. The region sequencer (R117–R148): fetch and completion, fences, the anchor check with its reversal, windows
of the deferred stream, micro-batch admission, marks, parameters, the step boundary and step-sync; and the scrub of the
tiles (R80). -/

namespace Sys2Proof.Machine

/-! ### Fetch, completion, scrub -/

/-- The module address's site, for a report (R380): the site that serves slot g mod N. -/
def State.siteOf (s : State) (addr : Nat) : Nat := s.siteOfSlot (addr / 256 % max 1 (s.rd pMEM MEM_MAP_N))

/-- The command that a failed fetch carried is never issued (R118). -/
def State.failFetch (s : State) (r : Nat) (d : Bool) (ix : Nat) : State :=
  s.setSeq r { s.seq r with failed := (s.seq r).failed ++ [(d, ix)] }

/-- COMMAND_FETCH (R118): read the next command of a stream into the buffer. One that the stacks answer poisoned is a program
fault of the job, which halts the region there (R129, R382); one that meets an uncorrectable error is left to the fault unit. -/
def execCommandFetch (r : RegionIx) (deferred ue : Bool) (s : State) : Host.Outcome State Fault Refusal :=
  let q := s.seq r
  let slot := s.jobOf r
  let base := if deferred then s.rd (regPage r) REG_DEF_BASE_ADDR else s.rd (regPage r) REG_SEQ_BASE_ADDR
  let len := if deferred then s.rd (regPage r) REG_SEQ_LEN_DEF_LEN else s.rd (regPage r) REG_SEQ_LEN_MAIN_LEN
  let pc := if deferred then s.rd (regPage r) REG_SEQ_STATUS_DEF_PC else s.rd (regPage r) REG_SEQ_STATUS_PC
  let got := (q.buffer.map fun e => (e.1, e.2.1)) ++ q.failed
  let ix := (got.filter (·.1 == deferred)).foldl (fun a e => max a (e.2 + 1)) pc
  let o := base + 32 * ix
  keep s (if s.seqState r = 0 ∨ s.seqState r = 11 ∨ 2048 ≤ q.buffer.length ∨ len ≤ ix then s
    else match s.jobAddr slot o with
      | none => ((s.failFetch r deferred ix).haltAt r deferred ix MEM_ERR_STATUS_RANGE.lo).rangeFault slot r
      | some a =>
        if ue || (s.jobPoison slot o 32).isSome then
          ((s.failFetch r deferred ix).raiseErr (regPage r) REG_ERR_STATUS_FETCH_UE).reportOn .stack (s.siteOf a) (regPage r) REG_ERR_STATUS_FETCH_UE slot r
        else
          let w := fun k => BitVec.ofNat 64 (s.jobNat slot (o + 8 * k) 8)
          s.setSeq r { q with buffer := q.buffer ++ [(deferred, ix, ⟨w 0, w 1, w 2, w 3⟩)] })

/-- COMMAND_COMPLETE (R125, R131): an array or vat command or a pop completes; pushes, transfers, loads, collectives and
updates complete by their own events. -/
def execCommandComplete (r : RegionIx) (id : Nat) (s : State) : Host.Outcome State Fault Refusal :=
  let rows := s.fab.sends.any fun p => p.src == r && p.outId == id && p.dst.isNone
  keep s (s.finish r id (7 - (if (s.cave r).pushes.any (fun p => p.outId == id) then 4 else 0) - b2n rows))

/-- One SRAM line and 16 vat accumulators of one tile scrubbed (R79, R80). -/
def execScrubTick (r : RegionIx) (tile : Fin 256) (sram vat : MemErr) (s : State) : Host.Outcome State Fault Refusal :=
  keep s (if s.rd (regPage r) REG_TILE_CTRL_SCRUB_EN = 0 ∨ s.regionState r = 3 ∨ s.regionState r = 4 then s
    else
      let t := s.tileMem r
      let pos := tabGet (fun _ => 0) t.scrub tile + 1
      let s := s.setTileMem r { t with scrub := tabSet (fun _ => 0) t.scrub tile (if pos = 32768 then 0 else pos) }
      let s := s.iff (pos == 32768) (·.bump (regPage r) REG_C_SCRUB_PASSES)
      let s := match sram with
        | .ok => s
        | .ce => s.bump (regPage r) REG_C_SRAM_CE
        | .ue => (s.bump (regPage r) REG_C_SRAM_UE_COUNT).tileFault r tile REG_ERR_STATUS_SRAM_UE
      match vat with
      | .ok => s
      | .ce => s.bump (regPage r) REG_C_VAT_CE
      | .ue => (s.bump (regPage r) REG_C_VAT_UE_COUNT).tileFault r tile REG_ERR_STATUS_VAT_UE)

/-- The opcodes of R120. -/
def opcodes : List Nat :=
  [0x10, 0x11, 0x20, 0x21, 0x22, 0x23, 0x24, 0x30, 0x31, 0x40, 0x50, 0x51, 0x60, 0x70, 0x71, 0x72, 0x80, 0x81, 0x82, 0x83, 0x84]

/-- BAD_OPCODE (R120, R488): a command whose opcode the table does not hold. One of a refused micro-batch is skipped like any
other (R135). -/
def execBadOpcode (r : RegionIx) (deferred : Bool) (c : Cmd) (s : State) : Host.Outcome State Fault Refusal :=
  keep s (if opcodes.contains c.op then s
    else s.issue r deferred c c.op { badField := false, badOpcode := true } fun _ s => s)

/-! ### Fences (R130–R132) -/

/-- The participant set of a FENCE. -/
def fenceSet (c : Cmd) : Nat := c.w 1 63 0 + c.w 2 15 0 * 2 ^ 64

/-- The issue checks of FENCE; inside a recompute sequence a local FENCE may stand in either stream (R123, R201). -/
def State.fenceIssue (s : State) (r : Nat) (c : Cmd) : Issue :=
  let self := s.logical r
  { badField := malformed c [(22, 16), (43, 32)] [(63, 0)] [(15, 0)] [] || !bit (fenceSet c) self,
    inSpan := false, inDef := (s.recompAt r).isSome, inRec := fenceSet c == 2 ^ self }

/-- A region comes to its fence (R130). -/
def State.atFence (s : State) (r : Nat) (c : Cmd) : State :=
  let f : FenceAt := ⟨c.w 0 43 32, fenceSet c, c.w 0 22 16, false, s.seqState r⟩
  ((s.setSeq r { s.seq r with fenceAt := some f }).setSeqState r 4).tryFence r

/-- FENCE (R130). -/
def execFence (r : RegionIx) (deferred : Bool) (c : Cmd) (s : State) : Host.Outcome State Fault Refusal :=
  keep s (s.issue r deferred c 0x80 (s.fenceIssue r c) fun a s => s.atFence a.r c)

/-- FENCE_ARRIVAL (R130, R132). -/
def execFenceArrival (r : RegionIx) (peer : Fin 80) (fid : Nat) (setLo : Word) (setHi : Nat) (s : State) :
    Host.Outcome State Fault Refusal :=
  let a : Arrival := ⟨peer, fid, setLo.toNat + setHi % 65536 * 2 ^ 64⟩
  let q := s.seq r
  let clash := match q.fenceAt with | some f => s.seqState r == 4 && f.clash (s.logical r) a | none => false
  keep s (
    let s := (s.setSeq r { q with arrivals := q.arrivals ++ [a] }).tryFence r
    if clash then
      -- the region that sent the arrival is concerned too
      match s.playing (s.jobOf r) peer with
      | some p => s.raiseErr (regPage p) REG_ERR_STATUS_FENCE_MISMATCH
      | none => s
    else s)

/-- FENCE_TIMEOUT (R132): set and reported; the fence neither releases nor skips. -/
def execFenceTimeout (r : RegionIx) (s : State) : Host.Outcome State Fault Refusal :=
  keep s (if s.seqState r = 4 then
      (s.raiseErr (regPage r) REG_ERR_STATUS_FENCE_TIMEOUT).reportOn .program r (regPage r) REG_ERR_STATUS_FENCE_TIMEOUT (s.jobOf r)
    else s)

/-! ### The anchor check (R133, R134) -/

/-- ANCHOR_CHECK (R133): the state becomes CHECK. -/
def execAnchorCheck (r : RegionIx) (deferred : Bool) (c : Cmd) (s : State) : Host.Outcome State Fault Refusal :=
  keep s (s.issue r deferred c 0x81 { badField := malformed c [] [] [] [], inRec := true } fun a s =>
    (s.setSeq a.r { s.seq a.r with checkFrom := s.seqState a.r, checkDef := a.d }).setSeqState a.r 5)

/-- The span's check passed: COUNT of its vat regions advances, ATTEMPT returns to 0, the span is closed (R111, R133). -/
def State.checkPass (s : State) (r : Nat) (d : Bool) : State :=
  let q := s.seq r
  let p := q.span d
  let s := p.vregs.foldl (fun s v =>
    if s.rd (regPage r) REG_VAT_REGION_VALID v = 1 then
      s.wr (regPage r) REG_VAT_REGION_COUNT (min 128 (s.rd (regPage r) REG_VAT_REGION_COUNT v + 1)) v
    else s) s
  let s := s.setSeq r ({ q with vatLog := p.vatLog ++ q.vatLog }.setSpan d {})
  let s := (s.wr (regPage r) (if d then REG_SEQ_STATUS_DEF_SPAN else REG_SEQ_STATUS_SPAN) 0).wr (regPage r) REG_SEQ_STATUS_ATTEMPT 0
  let s := s.caveSpanPass r
  if q.checkFrom = 7 then (s.bump (regPage r) REG_C_ANCHOR_REPLAYS).setSeqState r (if d then 3 else 2)
  else s.setSeqState r q.checkFrom

/-- ANCHOR_CHECK_EVAL (R133): rows 3–7 of the table, once every drain of the span has finished. -/
def execAnchorCheckEval (r : RegionIx) (s : State) : Host.Outcome State Fault Refusal :=
  let q := s.seq r
  let d := q.checkDef
  let p := q.span d
  let ix := if d then s.rd (regPage r) REG_SEQ_STATUS_DEF_PC else s.rd (regPage r) REG_SEQ_STATUS_PC
  keep s (
    if s.seqState r ≠ 5 then s
    else if q.outst.any (fun o => o.deferred == d && Nat.land o.cls 1 != 0) then s
    else if s.anyFlag r (fNonfinite d) then s.anchorFault r d (ix - 1)
    else if !s.anyFlag r (fAnchorSat d) then s.checkPass r d
    else if p.attempt = 2 || decide (127 < p.maxAnchor + 8 * ((p.attempt : Int) + 1)) then s.anchorFault r d (ix - 1)
    else ((s.setSeq r (q.setSpan d { p with attempt := p.attempt + 1 })).wr (regPage r) REG_SEQ_STATUS_ATTEMPT
        (p.attempt + 1)).setSeqState r 6)

/-- REVERSAL_DONE (R134): the span's vat addends are subtracted, its pushes discarded and its pops repeated, the stream's
flags cleared, and issue returns to the span's first command in REPLAY. -/
def execReversalDone (r : RegionIx) (s : State) : Host.Outcome State Fault Refusal :=
  let q := s.seq r
  let d := q.checkDef
  let p := q.span d
  keep s (if s.seqState r ≠ 6 then s
    else
      let s := (s.vatReverse r p.vatLog).caveSpanReverse r
      let s := (s.clearFlag r (fAnchorSat d)).clearFlag r (fNonfinite d)
      let q := s.seq r
      let p' : Span := { opened := true, first := p.first, attempt := p.attempt, restore := p.restore }
      let s := s.setSeq r ({ q with pend := none, restore := p.restore }.setSpan d p')
      let s := match (s.cave r).recomp with
        | some rc => s.setCave r { s.cave r with recomp := some { rc with pc := p.first } }
        | none => s.wr (regPage r) (if d then REG_SEQ_STATUS_DEF_PC else REG_SEQ_STATUS_PC) p.first
      s.setSeqState r 7)

/-! ### Idle windows (R138–R140) -/

/-- The issue checks of IDLE_WINDOW (R123, R138). -/
def State.windowIssue (s : State) (r : Nat) (c : Cmd) : Issue :=
  { badField := malformed c [(63, 32)] [(31, 0)] [] [], inSpan := false, inDef := false,
    defOrder := decide (s.rd (regPage r) REG_SEQ_LEN_DEF_LEN < c.w 1 15 0)
      || decide (max (s.seq r).defRelease (c.w 1 15 0) < c.w 1 31 16) }

/-- IDLE_WINDOW (R138): DEF_RELEASE rises to RELEASE, and the window opens. -/
def execIdleWindow (r : RegionIx) (deferred : Bool) (c : Cmd) (s : State) : Host.Outcome State Fault Refusal :=
  keep s (s.issue r deferred c 0x82 (s.windowIssue r c) fun a s =>
    let q := s.seq a.r
    (s.setSeq a.r { q with defRelease := max q.defRelease (c.w 1 15 0) }).startWindow a.r (c.w 1 31 16) (c.w 0 63 32 == 0))

/-- WINDOW_END (R139). -/
def execWindowEnd (r : RegionIx) (s : State) : Host.Outcome State Fault Refusal :=
  let q := s.seq r
  keep s (match q.window with
  | some w => if s.seqState r = 3 && s.windowEnds r w then (s.setSeq r { q with window := none }).setSeqState r 2 else s
  | none => s)

/-- WINDOW_BUDGET_EXPIRY (R139). -/
def execWindowBudgetExpiry (r : RegionIx) (s : State) : Host.Outcome State Fault Refusal :=
  let q := s.seq r
  keep s (match q.window with
  | some w => s.setSeq r { q with window := some { w with budgetOver := true } }
  | none => s)

/-! ### Micro-batch admission and marks (R135, R136) -/

/-- Write a field in every region of a region's job. -/
def State.wrJob (s : State) (r : Nat) (f : Fld) (v : Nat) (i : Nat := 0) : State :=
  (s.regionsOf (s.jobOf r)).foldl (fun s x => s.wr (regPage x) f v i) s

/-- Record that micro-batches 0 … n − 1 are admitted, in every region of the job (R135). -/
def State.admitUpTo (s : State) (r n : Nat) : State :=
  let s := s.wrJob r REG_STEP_STATUS_OPENED n
  let s := s.wrJob r REG_ADMIT_ADMITTED (2 ^ min n 64 - 1) 0
  s.wrJob r REG_ADMIT_ADMITTED (2 ^ (n - 64) - 1) 1

/-- Decide micro-batch m for the whole job, unless an earlier decision covers it (R135). -/
def State.decideMb (s : State) (r m : Nat) : State :=
  let cur := s.rd (regPage r) REG_STEP_STATUS_N_CUR
  if m < s.rd (regPage r) REG_STEP_STATUS_OPENED ∨ s.rd (regPage r) REG_STEP_STATUS_FINAL = 1 then s
  else if m < cur then
    let s := s.admitUpTo r (m + 1)
    if m + 1 = s.rd (regPage r) REG_STEP_CFG_STEP_MB_MAX then (s.wrJob r REG_STEP_STATUS_FINAL 1).wrJob r REG_STEP_STATUS_N_CUR (m + 1)
    else s
  else (s.admitUpTo r cur).wrJob r REG_STEP_STATUS_FINAL 1

/-- The issue checks of MARK (R123). -/
def markIssue (c : Cmd) (kind : Nat) : Issue :=
  { badField := malformed c [(17, 16), (47, 32)] [(23, 0), (47, 32)] [] [] || decide (1 < c.w 0 17 16)
      || (kind == 0 && c.mb == 0xFF), inSpan := false, inDef := false, openMark := kind == 0 }

/-- MARK with KIND OPEN (R135). -/
def execMarkOpen (r : RegionIx) (deferred : Bool) (c : Cmd) (s : State) : Host.Outcome State Fault Refusal :=
  keep s (if c.w 0 17 16 = 1 then s else s.issue r deferred c 0x83 (markIssue c 0) fun a s =>
    let s := s.decideMb a.r c.mb
    s.setSeq a.r { s.seq a.r with opens := (s.seq a.r).opens ++ [c.mb] })

/-- A segment that a replay has run again is compared with its recorded digest (R347). -/
def State.compareDigest (s : State) (r : Nat) (k : Nat) (now : Word) : State :=
  match (s.seq r).oldDigests[k]? with
  | none => s
  | some old =>
    let s := s.bump pFLT FLT_C_REPLAY_COMPARES
    if old = now then s
    else ((s.raiseErr pFLT FLT_ERR_STATUS_CORRUPTION).bump pFLT FLT_C_REPLAY_MISMATCHES).reportOn .corruption r pFLT
      FLT_ERR_STATUS_CORRUPTION (s.jobOf r)

/-- JOB_SEQ, VALID and CUT_PC over the job's regions (R136). -/
def State.updateCut (s : State) (r : Nat) : State :=
  let rs := s.regionsOf (s.jobOf r)
  if rs.all fun x => !(s.seq x).cuts.isEmpty then
    let low := rs.foldl (fun a x => min a (s.rd (regPage x) REG_MARK_STATUS_LAST_SEQ)) 65535
    rs.foldl (fun s x =>
      let pc := match (s.seq x).cuts.find? (·.seq == low) with | some k => k.pc | none => 0
      s.wrs (regPage x) [(REG_MARK_STATUS_JOB_SEQ, low), (REG_MARK_STATUS_VALID, 1), (REG_MARK_STATUS_CUT_PC, pc)]) s
  else s

/-- A comparison of a primary and its twin (R351); the twin runs the same streams on the same data, so what a difference
would report comes from a detector. -/
def State.pairCheck (s : State) (r : Nat) : State :=
  if s.rd pPLC PLC_REGION_TWIN r < 84 then s.bump pPLC PLC_C_PAIR_CHECKS else s

/-- The cut that a MARK CLOSE records (R136). -/
def State.cutAt (s : State) (a : At) (c : Cmd) : Cut :=
  let q := s.seq a.r
  { seq := c.w 0 47 32, pc := a.ix, defPc := s.rd (regPage a.r) REG_SEQ_STATUS_DEF_PC, release := q.defRelease,
    restorePc := c.w 1 23 0, restoreLen := c.w 1 47 32, opens := q.opens, vatLen := q.vatLog.length,
    digests := q.segDigests.length + 1,
    counts := (List.range 16).map fun v => s.rd (regPage a.r) REG_VAT_REGION_COUNT v, nextId := q.nextId }

/-- What a MARK CLOSE that has issued does: the digest of its segment, its cut, LAST_SEQ, and the job's cut (R136). -/
def State.closeMark (s : State) (a : At) (c : Cmd) : State :=
  let cut := s.cutAt a c
  let q := s.seq a.r
  let s := s.compareDigest a.r q.segDigests.length q.digestSeg
  let q := s.seq a.r
  let segs := if q.segDigests.length < 64 then q.segDigests ++ [q.digestSeg] else q.segDigests
  let s := s.setSeq a.r { q with cuts := q.cuts ++ [cut], segDigests := segs, digestSeg := 0#64 }
  ((s.wr (regPage a.r) REG_MARK_STATUS_LAST_SEQ cut.seq).updateCut a.r).pairCheck a.r

/-- MARK with KIND CLOSE (R136). -/
def execMarkClose (r : RegionIx) (deferred : Bool) (c : Cmd) (s : State) : Host.Outcome State Fault Refusal :=
  keep s (if c.w 0 17 16 = 0 then s else s.issue r deferred c 0x83 (markIssue c 1) fun a s => s.closeMark a c)

/-! ### Parameters (R142) -/

/-- The issue checks of PARAM (R123, R142). -/
def paramIssue (c : Cmd) : Issue :=
  { badField := malformed c [(16, 16), (31, 24), (63, 32)] [(40, 0)] [(63, 0)] [] || c.w 2 63 32 == 0,
    inDef := false, replayed := false }

/-- The job address of the table element that a PARAM with FORM TABLE loads at a step (R142). -/
def paramAddr (c : Cmd) (step : Nat) : Nat := c.w 1 40 0 + 4 * min (step - c.w 2 31 0) (c.w 2 63 32 - 1)

/-- What a PARAM that has issued does (R142). A table word outside the job's extents is a program fault that halts the
region there (R129, R382). -/
def State.setParam (s : State) (a : At) (c : Cmd) : State :=
  let slot := s.jobOf a.r
  let n := s.rd (regPage a.r) REG_STEP_COUNT_COUNT
  let v := if c.w 0 16 16 = 0 then c.w 0 63 32 else s.jobNat slot (paramAddr c n) 4
  if c.w 0 16 16 = 1 && !s.jobHolds slot (paramAddr c n) 4 then
    (s.haltAt a.r a.d a.ix MEM_ERR_STATUS_RANGE.lo).rangeFault slot a.r
  else s.wrs (regPage a.r) [(REG_PARAM_SLOT_VALUE, v), (REG_PARAM_SLOT_STEP_LOW, n)] (c.w 0 31 24)

/-- PARAM (R142). -/
def execParam (r : RegionIx) (deferred : Bool) (c : Cmd) (s : State) : Host.Outcome State Fault Refusal :=
  keep s (s.issue r deferred c 0x71 (paramIssue c) fun a s => s.setParam a c)

/-! ### The step boundary (R143–R146) -/

/-- The issue checks of STEP_END; while deferred commands are left it opens a window for all of them in place of issuing
(R123, R205). -/
def State.stepEndIssue (s : State) (r : Nat) (c : Cmd) : Issue :=
  let len := s.rd (regPage r) REG_SEQ_LEN_DEF_LEN
  { badField := malformed c [(16, 16)] [(23, 0)] [] [], inSpan := false, inDef := false,
    instead := if s.rd (regPage r) REG_SEQ_STATUS_DEF_PC < len then
        some fun a s => (s.setSeq a.r { s.seq a.r with defRelease := len }).startWindow a.r len true
      else none }

/-- What a STEP_END that has issued does: CONV_SAT clears, and the region waits for its job (R92, R143). -/
def State.endStep (s : State) (r : Nat) (c : Cmd) : State :=
  let q := s.seq r
  let s := s.clearFlag r REG_TILE_FLAGS_CONV_SAT
  let q' := { q with lastFlag := c.w 0 16 16 == 1, nextPc := c.w 1 23 0, defRelease := s.rd (regPage r) REG_SEQ_LEN_DEF_LEN }
  ((s.setSeq r q').setSeqState r 8).pairCheck r

/-- STEP_END (R143, R205). -/
def execStepEnd (r : RegionIx) (deferred : Bool) (c : Cmd) (s : State) : Host.Outcome State Fault Refusal :=
  keep s (s.issue r deferred c 0x84 (s.stepEndIssue r c) fun a s => s.endStep a.r c)

/-- Whether every region of a job waits in STEP_WAIT. -/
def State.allStepWait (s : State) (slot : Nat) : Bool :=
  !(s.regionsOf slot).isEmpty && (s.regionsOf slot).all fun r => s.seqState r == 8

/-- A sync signal applied to a job, or ignored (R144, R146): kind 1 END, 2 EXTEND with target t. -/
def State.applySync (s : State) (slot kind t : Nat) : State :=
  match s.regionsOf slot with
  | [] => s
  | r :: _ =>
    let f := fun x => s.rd (regPage r) x
    if f REG_STEP_STATUS_FINAL = 1 ∨ f REG_STEP_STATUS_ENDED = 1 ∨ f REG_STEP_STATUS_REPLAY = 1 then
      (s.regionsOf slot).foldl (fun s x => s.bump (regPage x) REG_C_SYNC_IGNORED) s
    else
      let n := if kind = 1 then max (f REG_STEP_CFG_STEP_MB_MIN) (f REG_STEP_STATUS_OPENED)
        else min (f REG_STEP_CFG_STEP_MB_MAX) (max (f REG_STEP_STATUS_N_CUR) t)
      let s := s.wrJob r REG_STEP_STATUS_N_CUR n
      let s := if kind = 1 then s.wrJob r REG_STEP_STATUS_ENDED 1 else s
      (s.regionsOf slot).foldl (fun s x => s.bump (regPage x) REG_C_SYNC_APPLIED) s

/-- Put a region's stream at the start of its step: streams, spans, fences and windows as they are there, and no micro-batch has
added to a vat entry (R111). -/
def State.startStream (s : State) (r pc : Nat) : State :=
  let q := s.seq r
  let s := s.setTileMem r { s.tileMem r with vatMb := [] }
  let s := s.setSeq r { q with main := {}, dfr := {}, pend := none, rowIn := [], fenceAt := none, window := none,
                               defRelease := 0, cuts := [], opens := [], restore := none, stepPc := pc, vatLog := [],
                               digestSeg := 0#64, digestStep := 0#64, segDigests := [], buffer := [], failed := [], collWait := false }
  s.wrs (regPage r) [(REG_SEQ_STATUS_PC, pc), (REG_SEQ_STATUS_DEF_PC, 0), (REG_SEQ_STATUS_SPAN, 0),
    (REG_SEQ_STATUS_DEF_SPAN, 0), (REG_SEQ_STATUS_ATTEMPT, 0), (REG_MARK_STATUS_VALID, 0)]

/-- Start a step attempt in a region: its stream at the step's start, VAT_SAT clear (R92), RUN. -/
def State.startAttempt (s : State) (r pc : Nat) : State :=
  let s := s.startStream r pc
  let s := (List.range 16).foldl (fun s v => s.wr (regPage r) REG_VAT_LAYER_SAT 0 v) s
  (s.clearFlag r REG_TILE_FLAGS_VAT_SAT).setSeqState r 2

/-- Release one region into its next step (R143). -/
def State.releaseRegion (s : State) (r : Nat) : State :=
  let q := s.seq r
  let was := (q.stepPc, s.rd (regPage r) REG_STEP_STATUS_N_CUR,
    (List.range 16).map fun v => s.rd (regPage r) REG_VAT_REGION_RAISE v)
  let s := s.wrs (regPage r) [(REG_STEP_STATUS_STEP, s.rd (regPage r) REG_STEP_STATUS_STEP + 1),
    (REG_STEP_COUNT_COUNT, s.rd (regPage r) REG_STEP_COUNT_COUNT + 1),
    (REG_STEP_STATUS_N_CUR, s.rd (regPage r) REG_STEP_CFG_STEP_MB), (REG_STEP_STATUS_OPENED, 0), (REG_STEP_STATUS_FINAL, 0),
    (REG_STEP_STATUS_ENDED, 0), (REG_STEP_STATUS_REPLAY, 0)]
  let s := (s.wr (regPage r) REG_ADMIT_ADMITTED 0 0).wr (regPage r) REG_ADMIT_ADMITTED 0 1
  let s := (List.range 16).foldl (fun s v => s.wr (regPage r) REG_VAT_REGION_RAISE 0 v) s
  let s := s.startAttempt r q.nextPc
  let s := s.setSeq r { s.seq r with oldDigests := [], prevs := was :: q.prevs.take 1 }
  (s.caveRelease r).bump (regPage r) REG_C_STEPS

/-- Release a job's step in every region, and apply the message held for the new step (R143, R148). A step with LAST = 1
is committed but has no next step: its regions become IDLE (R128) and no counter advances (DEDUCED, log 17). -/
def State.releaseStep (s : State) (slot : Nat) : State :=
  let rs := s.regionsOf slot
  if rs.any (fun r => (s.seq r).lastFlag) then rs.foldl (fun s r => s.setSeqState r 0) s
  else
    let s := rs.foldl (fun s r => s.releaseRegion r) s
    match rs with
    | [] => s
    | r :: _ =>
      let h := s.rd (regPage r) REG_STEP_STATUS_HELD
      if h = 0 then s else (s.wrJob r REG_STEP_STATUS_HELD 0).applySync slot h (s.job slot).heldT

/-- Replay the step in one region with the named layers raised (R144); a third raise is an anchor fault (R65). -/
def State.replayRegion (s : State) (r : Nat) (layers : List Nat) : State :=
  let q := s.seq r
  let hit := (List.range 16).filter fun v => layers.contains (s.rd (regPage r) REG_VAT_LAYER_LAYER v)
  if hit.any fun v => s.rd (regPage r) REG_VAT_REGION_RAISE v == 2 then s.anchorFault r false q.stepPc
  else
    let s := hit.foldl (fun s v => s.wr (regPage r) REG_VAT_REGION_RAISE (s.rd (regPage r) REG_VAT_REGION_RAISE v + 1) v) s
    let old := q.segDigests
    let s := (s.startAttempt r q.stepPc).caveReturn r 0
    let s := s.setSeq r { s.seq r with oldDigests := old }
    (s.wr (regPage r) REG_STEP_STATUS_REPLAY 1).bump (regPage r) REG_C_STEP_REPLAYS

/-- Drop what the commands of a region with an id from `fromId` on have under way: transfers and contexts. Its WLOADs stay
in flight: only those of a region that lost SRAM are cancelled (R339 event 4). -/
def State.dropFrom (s : State) (r fromId : Nat) : State :=
  let goes := fun (o : Outst) => decide (fromId ≤ o.id) && o.cls != 16
  let gone := (s.seq r).outst.filter goes
  let s := gone.foldl (fun s o => match o.sid with | some sid => s.dropCtx (s.jobOf r) sid | none => s) (s.dropXfers r fromId)
  s.setSeq r { s.seq r with outst := (s.seq r).outst.filter fun o => !goes o }

/-- Return one region to the cut it recorded with a SEQ (R137): streams, marks, vat, digests, cave. What was issued before the
cut stays under way. -/
def State.returnToCut (s : State) (r seq : Nat) : State :=
  let q := s.seq r
  match q.cuts.zipIdx.find? (·.1.seq == seq) with
  | none => s
  | some (c, k) =>
    -- newest first: what the open spans added, then what passed spans added after the cut
    let undo := q.main.vatLog ++ q.dfr.vatLog ++ q.vatLog.take (q.vatLog.length - c.vatLen)
    let s := ((s.vatReverse r undo).caveReturn r (k + 1)).dropFrom r c.nextId
    let s := c.counts.zipIdx.foldl (fun s p => s.wr (regPage r) REG_VAT_REGION_COUNT p.1 p.2) s
    let s := s.setSeq r
      { q with
        main := {}, dfr := {}, pend := none, rowIn := [], outst := (s.seq r).outst, fenceAt := none, arrivals := [],
        window := none, defRelease := c.release, cuts := q.cuts.take (k + 1), opens := c.opens,
        vatLog := q.vatLog.drop (q.vatLog.length - c.vatLen), digestSeg := 0#64, buffer := [], failed := [],
        oldDigests := q.segDigests, segDigests := q.segDigests.take c.digests,
        restore := if c.restoreLen = 0 then none else some (c.restorePc + c.restoreLen, c.pc + 1) }
    let s := s.wrs (regPage r) [(REG_SEQ_STATUS_DEF_PC, c.defPc), (REG_SEQ_STATUS_SPAN, 0), (REG_SEQ_STATUS_DEF_SPAN, 0),
      (REG_SEQ_STATUS_ATTEMPT, 0), (REG_MARK_STATUS_LAST_SEQ, c.seq),
      (REG_SEQ_STATUS_PC, if c.restoreLen = 0 then c.pc + 1 else c.restorePc)]
    if s.seqState r = 10 then s else s.setSeqState r 2

/-- A breakpoint is left by SEQ_CTRL.RESUME; any other HALTED, or any other state, ignores it (R128). -/
def State.resumeBreak (s : State) (r : Nat) : State :=
  if s.seqState r = 10 ∧ s.rd (regPage r) REG_FAULT_INFO_CODE = 0x10 then
    (s.setSeq r { s.seq r with breakSkip := true }).setSeqState r 2
  else s

/-- Job slots in RUNNING. -/
def State.runningJobs (s : State) : List Nat := (List.range 16).filter fun j => s.rd pDOCK DOCK_JOB_STATE j == 3

/-- STEP_SYNC_PULSE (R147): the width selects the signal; `gapNs` is the time since the previous trailing edge. -/
def execStepSyncPulse (widthNs gapNs : Nat) (s : State) : Host.Outcome State Fault Refusal :=
  let kind := if 80 ≤ widthNs ∧ widthNs ≤ 200 then 1 else if 400 ≤ widthNs ∧ widthNs ≤ 800 then 2 else 0
  keep s (s.runningJobs.foldl (fun s j =>
    match s.regionsOf j with
    | [] => s
    | r :: rs =>
      let src := s.rd (regPage r) REG_STEP_CFG_SYNC_SRC
      if src % 2 = 0 then s
      else if gapNs < 2000 ∨ kind = 0 ∨ s.allStepWait j then
        (r :: rs).foldl (fun s x => s.bump (regPage x) REG_C_SYNC_IGNORED) s
      else s.applySync j kind (s.rd (regPage r) REG_STEP_CFG_STEP_MB_MAX)) s)

end Sys2Proof.Machine
end

