-- ==== Sys2Proof/Machine/CollCore.lean ====
section
/-! DEFINITION. The collective engine's data (R235–R259): descriptors, region maps, the parts and chunks of a bucket, packets,
the lanes of each level, digests, and the local result. -/

namespace Sys2Proof.Machine

/-! ### Descriptors (R237) -/

/-- The fields of a bucket's descriptor. -/
def Bucket.op (b : Bucket) : Nat := byteAt b.desc 4
def Bucket.type (b : Bucket) : Nat := byteAt b.desc 5
def Bucket.path (b : Bucket) : Nat := byteAt b.desc 6
def Bucket.levels (b : Bucket) : Nat := byteAt b.desc 7
def Bucket.size (b : Bucket) : Nat := leAt b.desc 8 4
def Bucket.group (b : Bucket) : Nat := leAt b.desc 12 2
def Bucket.root (b : Bucket) : Nat := leAt b.desc 14 2
def Bucket.headroom (b : Bucket) : Nat := byteAt b.desc 16
def Bucket.nsum (b : Bucket) : Nat := byteAt b.desc 17
def Bucket.bs16 (b : Bucket) : Bool := bit b.nsum 3
def Bucket.every (b : Bucket) : Nat := byteAt b.desc 18
def Bucket.phase (b : Bucket) : Nat := byteAt b.desc 19
def Bucket.mapOff (b : Bucket) : Nat := leAt b.desc 20 8

/-- The element format of an RS with TYPE 1–3. -/
def Bucket.fmt (b : Bucket) : Fmt := match b.type with | 1 => .bsi8 | 2 => .bf16 | _ => .f32

/-- The job offset of the descriptor of a tag. -/
def State.descOff (s : State) (slot tag : Nat) : Option Nat :=
  let t := s.tableOff slot + 0x2C0000
  ((List.range (s.jobNat slot t 2)).map fun k => t + 64 + 32 * k).find? fun d => s.jobNat slot d 4 == tag

/-- COMMIT_GROUP of the bucket table in force. -/
def State.commitGroup (s : State) (slot : Nat) : Nat := s.jobNat slot (s.tableOff slot + 0x2C0002) 2

/-- An entry of a bucket's region map (R238): ELEM_BASE, PER_TILE, RECT; none for a region that takes no part. -/
def State.mapEntry (s : State) (slot mapOff lregion : Nat) : Option (Nat × Nat × Nat) :=
  let o := mapOff + 16 * lregion
  let base := s.jobNat slot o 4
  if base = 0xFFFFFFFF ∨ 80 ≤ lregion then none else some (base, s.jobNat slot (o + 4) 4, s.jobNat slot (o + 8) 2)

/-- The logical regions that a bucket's map names. -/
def State.mapRegions (s : State) (slot : Nat) (b : Bucket) : List Nat :=
  (List.range (s.logicalRegions slot)).filter fun l => (s.mapEntry slot b.mapOff l).isSome

/-! ### Levels, parts and chunks (R235, R241, R247) -/

/-- Whether a bucket selects a level. -/
def Bucket.has (b : Bucket) (lvl : Nat) : Bool := bit b.levels lvl

/-- The highest selected level above 0; 0 where there is none. -/
def Bucket.top (b : Bucket) : Nat := if b.has 2 then 2 else if b.has 1 then 1 else 0

/-- The rank list of a level of a bucket's group. -/
def State.bRanks (s : State) (slot : Nat) (b : Bucket) (lvl : Nat) : List Nat := s.rankList slot b.group lvl

/-- MEMBERS of a level: 1 where it is not selected. -/
def State.bMembers (s : State) (slot : Nat) (b : Bucket) (lvl : Nat) : Nat :=
  if b.has lvl && decide (0 < lvl) then max 1 (s.bRanks slot b lvl).length else 1

/-- The ranks of a level that this module plays; rank 0 where the level is not selected. -/
def State.bPlayed (s : State) (slot : Nat) (b : Bucket) (lvl : Nat) : List Nat :=
  if b.has lvl && decide (0 < lvl) then s.ranksPlayed slot (s.bRanks slot b lvl) else [0]

/-- The module's own rank in a level. -/
def State.bSelf (s : State) (slot : Nat) (b : Bucket) (lvl : Nat) : Nat :=
  if b.has lvl && decide (0 < lvl) then ((s.bRanks slot b lvl).findIdx? (· == s.gSelf slot)).getD 0 else 0

/-- Part a of a span of S units among G members, as (first, past the end) (R241). -/
def partOf (span members a : Nat) : Nat × Nat :=
  let p := 32 * ((span + 32 * members - 1) / (32 * members))
  (min (a * p) span, min ((a + 1) * p) span)

/-- The span of a level, as (first, past the end) of the bucket (R241): at level 2 the level-1 part of this member. -/
def State.bSpan (s : State) (slot : Nat) (b : Bucket) (lvl : Nat) : Nat × Nat :=
  if lvl = 2 ∧ b.has 1 ∧ b.op ≠ 3 ∧ b.op ≠ 2 then partOf b.size (s.bMembers slot b 1) (s.bSelf slot b 1) else (0, b.size)

/-- Part a of a level, as positions of the bucket; a broadcast moves its whole span as part 0. -/
def State.bPart (s : State) (slot : Nat) (b : Bucket) (lvl a : Nat) : Nat × Nat :=
  let (lo, hi) := s.bSpan slot b lvl
  if b.op = 2 then (lo, hi)
  else
    let (x, y) := partOf (hi - lo) (s.bMembers slot b lvl) a
    (lo + x, lo + y)

/-- Units in a chunk of a level (R247). -/
def Bucket.chunkUnits (b : Bucket) (lvl : Nat) : Nat :=
  if b.op ≠ 0 then 16384 / 2 ^ b.tune
  else if lvl = 2 then (match b.tune with | 0 => 2730 | 1 => 1365 | _ => 682) else 4096 / 2 ^ b.tune

/-- Chunks of a part. -/
def State.bChunks (s : State) (slot : Nat) (b : Bucket) (lvl a : Nat) : Nat :=
  let (lo, hi) := s.bPart slot b lvl a
  (hi - lo + b.chunkUnits lvl - 1) / b.chunkUnits lvl

/-- The positions of chunk c of part a. -/
def State.bChunk (s : State) (slot : Nat) (b : Bucket) (lvl a c : Nat) : Nat × Nat :=
  let (lo, hi) := s.bPart slot b lvl a
  (min (lo + c * b.chunkUnits lvl) hi, min (lo + (c + 1) * b.chunkUnits lvl) hi)

/-- The ranks of a level in the order in which parts are sent: from the one after the member's own (R248). -/
def State.bOrder (s : State) (slot : Nat) (b : Bucket) (lvl : Nat) : List Nat :=
  let n := s.bMembers slot b lvl
  (List.range n).map fun k => (s.bSelf slot b lvl + 1 + k) % n

/-! ### Packets (R252, R253) -/

/-- CRC-64/ECMA-182 without reflection is `crc64`; DHASH of a bucket (R250). -/
def Bucket.dhash (b : Bucket) : Word := crc64 (b.desc.take 20 ++ leBytes 2 b.gepoch ++ leBytes 1 b.tune ++ leBytes 1 0)

/-- A collective packet. -/
structure CPkt where
  kind : Nat
  level : Nat
  attempt : Nat := 0
  tag : Nat
  step : Nat
  gepoch : Nat
  members : Nat
  src : Nat
  dst : Nat
  laneBytes : Nat := 0
  cause : Nat := 0
  chunk : Nat := 0
  dhash : Word := 0#64
  lanes : Nat := 0
  exp : Int := 0
  cnt : Nat := 0
  ovl : Nat := 0
  nb : Nat := 0
  digest : Word := 0#64
  payload : List Byte := []
  deriving DecidableEq, Repr

/-- Header bytes 0–59. -/
def CPkt.head (p : CPkt) : List Byte :=
  leBytes 1 0x43 ++ leBytes 1 p.kind ++ leBytes 1 p.level ++ leBytes 1 p.attempt ++ leBytes 4 p.tag ++ leBytes 2 p.step
    ++ leBytes 2 p.gepoch ++ leBytes 2 p.members ++ leBytes 2 p.src ++ leBytes 2 p.dst ++ leBytes 1 p.laneBytes
    ++ leBytes 1 p.cause ++ leBytes 4 p.chunk ++ leBytes 8 p.dhash.toNat ++ leBytes 2 p.lanes ++ leBytes 2 (wrap 16 p.exp)
    ++ leBytes 2 p.cnt ++ leBytes 2 p.ovl ++ leBytes 8 p.nb ++ leBytes 8 p.digest.toNat ++ leBytes 4 0

/-- The bytes of a packet, with its CRC-32C. -/
def CPkt.bytes (p : CPkt) : List Byte := p.head ++ leBytes 4 (crc32c (p.head ++ p.payload)).toNat ++ p.payload

/-- Read a packet's fields. -/
def parseCPkt (b : List Byte) : CPkt :=
  { kind := byteAt b 1, level := byteAt b 2, attempt := byteAt b 3, tag := leAt b 4 4, step := leAt b 8 2, gepoch := leAt b 10 2,
    members := leAt b 12 2, src := leAt b 14 2, dst := leAt b 16 2, laneBytes := byteAt b 18, cause := byteAt b 19,
    chunk := leAt b 20 4, dhash := BitVec.ofNat 64 (leAt b 24 8), lanes := leAt b 32 2, exp := signed 16 (leAt b 34 2),
    cnt := leAt b 36 2, ovl := leAt b 38 2, nb := leAt b 40 8, digest := BitVec.ofNat 64 (leAt b 48 8), payload := b.drop 64 }

/-- Whether a packet's CRC passes (R253). -/
def cpktCrcOk (b : List Byte) : Bool := decide (64 ≤ b.length) && leAt b 60 4 == (crc32c (b.take 60 ++ b.drop 64)).toNat

/-- Lanes as a payload of the chunk's full size, unused bytes 0. -/
def lanePayload (b : Bucket) (bytes : Nat) (l : List Int) : List Byte :=
  let p := l.flatMap fun v => leBytes bytes (wrap (8 * bytes) v)
  p ++ List.replicate (16384 / 2 ^ b.tune - p.length) 0#8

/-- Lanes of a payload. -/
def payloadLanes (bytes n : Nat) (p : List Byte) : List Int :=
  (List.range n).map fun k => signed (8 * bytes) (leAt p (bytes * k) bytes)

/-- Bytes of a movement chunk's payload. -/
def payloadBytes (n : Nat) (p : List Byte) : List Int := (p.take n).map fun x => (x.toNat : Int)

/-- Bytes of one lane of a level. -/
def laneBytesOf (b : Bucket) (lvl : Nat) : Nat := if b.op ≠ 0 then 1 else if lvl = 2 then 6 else 4

/-- A packet of a bucket with the fields every packet carries, an RS bucket's count among them (R242). -/
def State.bPkt (s : State) (slot : Nat) (b : Bucket) (kind lvl src dst : Nat) : CPkt :=
  { kind := kind, level := lvl, attempt := b.attempt, tag := b.tag, step := b.step, gepoch := b.gepoch,
    members := s.bMembers slot b lvl, src := src, dst := dst, dhash := b.dhash, nb := if b.op = 0 then b.count else 0 }

/-- The address of a rank of a level: the module that plays it on a W-port, the rank through the switch (R371, log 26). -/
def State.rankAddr (s : State) (slot entry lvl rank : Nat) : Nat :=
  if lvl = 2 then (if rank = 0xFFFF then addrGroup entry else addrRank entry rank)
  else addrModule (s.playerModule slot ((s.rankList slot entry 1).getD rank 0))

/-- Send a packet to one rank of a level of a group. -/
def State.sendCPkt (s : State) (slot entry lvl rank : Nat) (p : CPkt) : State :=
  s.sendJob slot 2 (s.rankAddr slot entry lvl rank) p.bytes

/-- Send a packet to every member of a level that this module does not play: one copy each at level 1, one to the group at
level 2. -/
def State.castCPkt (s : State) (slot entry lvl : Nat) (p : CPkt) : State :=
  let l := s.rankList slot entry lvl
  let mine := s.ranksPlayed slot l
  if l.length ≤ 1 then s
  else if lvl = 2 then s.sendCPkt slot entry 2 0xFFFF p
  else ((List.range l.length).filter fun k => !mine.contains k).foldl (fun s k => s.sendCPkt slot entry 1 k p) s

/-! ### Credit queues (R249) -/

/-- Whether a queued message is a chunk of a level: DATA, RESULT or MOVE. -/
def QMsg.isChunk (m : QMsg) (lvl : Nat) : Bool :=
  m.cls == 2 && byteAt m.body 0 == 0x43 && [2, 3, 10].contains (byteAt m.body 1) && byteAt m.body 2 == lvl

/-- Chunks of a level that wait in the queue toward an address: a level-1 peer's, or the S-port's that the switch is reached by. -/
def State.chunksQueued (s : State) (slot lvl dst : Nat) : Nat :=
  let far := s.unrouted.filter fun x => x.1 == slot && x.2.isChunk lvl && (lvl == 2 || x.2.dst == dst)
  match s.choosePort slot dst with
  | none => far.length
  | some p => ((s.link p).queue.filter fun m => m.isChunk lvl && (lvl == 2 || m.dst == dst && m.key == s.partKey slot)).length

/-- Whether the queue of a level toward a rank, or toward every member, takes no further chunk. A part that this module plays
needs no queue. -/
def State.ceFull (s : State) (slot : Nat) (b : Bucket) (lvl rank : Nat) : Bool :=
  let l := s.rankList slot b.group lvl
  let mine := s.ranksPlayed slot l
  let depth := if lvl = 1 then 16 else 32
  let tos := if rank ≠ 0xFFFF then (if mine.contains rank && !(lvl == 2 && b.path == 1) then [] else [rank])
    else if lvl = 2 then [0xFFFF] else (List.range l.length).filter fun k => !mine.contains k
  tos.any fun k => decide (depth ≤ s.chunksQueued slot lvl (s.rankAddr slot b.group lvl k))

/-- A full queue holds a level; with more than 64 chunks left for level 1, level 0 too. -/
def State.holdLevel (s : State) (slot lvl left : Nat) : State :=
  let v := s.ce slot
  let l := if lvl = 1 ∧ 64 < left then [0, 1] else [lvl]
  s.setCe slot { v with held := (v.held ++ l).eraseDups }

/-! ### Buckets of a job -/

/-- A bucket by tag and STEP. -/
def State.bucket (s : State) (slot tag step : Nat) : Option Bucket := (s.ce slot).buckets.find? fun b => b.tag == tag && b.step == step

/-- STATE of CE.BUCKET (R236). -/
def Bucket.regState (b : Bucket) : Nat :=
  if b.done = 1 then 4 else if b.done = 3 then 5 else if b.done = 2 then 6
  else if !b.level0 then 0 else if b.op = 0 && b.exps.isEmpty then 1 else if b.handed then 3 else 2

/-- Show a bucket in its CE.BUCKET entry. -/
def State.showBucket (s : State) (slot : Nat) (b : Bucket) : State :=
  s.wrs pCE [(CE_BUCKET_VALID, 1), (CE_BUCKET_SLOT, slot), (CE_BUCKET_STATE, b.regState), (CE_BUCKET_ATTEMPT, b.attempt),
    (CE_BUCKET_LEVEL, (b.sent.map (·.level)).foldl max 0), (CE_BUCKET_STEP, b.step), (CE_BUCKET_GEPOCH, b.gepoch),
    (CE_BUCKET_TAG, b.tag)] b.entry

/-- Bytes that a bucket retains (R258): what it sent into the highest selected level. -/
def Bucket.retained (b : Bucket) : Nat :=
  let n := ((b.sent.filter fun c => c.level == b.top).map fun c => c.lanes.length).sum
  if b.op = 0 then 4 * n else n

/-- CE.JOB.RETAIN_BYTES and BUCKETS_OPEN follow the job's buckets. -/
def State.showCe (s : State) (slot : Nat) : State :=
  let l := (s.ce slot).buckets
  s.wrs pCE [(CE_JOB_BUCKETS_OPEN, l.length), (CE_JOB_RETAIN_BYTES, (l.map Bucket.retained).sum)] slot

/-- Replace a bucket. -/
def State.setBucket (s : State) (slot : Nat) (b : Bucket) : State :=
  let v := s.ce slot
  let l := v.buckets.map fun x => if x.tag = b.tag ∧ x.step = b.step then b else x
  ((s.setCe slot { v with buckets := l }).showBucket slot b).showCe slot

/-! ### Lanes (R244, R245) -/

/-- The values of every contribution. -/
def Bucket.exponent (b : Bucket) : Int := voteExp (b.contribs.flatMap fun c => c.map (·.2))

/-- L of a bucket whose vote has ended (R244). -/
def Bucket.scale (b : Bucket) : Int :=
  laneScale (((b.exps.find? fun e => e.1 == b.top).map (·.2.1)).getD (-32768)) b.headroom

/-- The level-0 lanes of positions lo … hi − 1. -/
def Bucket.baseLanes (b : Bucket) (lo hi : Nat) : List Int :=
  let l := b.scale
  (List.range (hi - lo)).map fun k => (b.contribs.map fun c => ((c.filter fun e => e.1 == lo + k).map fun e => laneInt e.2 l).sum).sum

/-- OVL of positions lo … hi − 1 at level 0: the contributions that cover at least one of them. -/
def Bucket.baseOvl (b : Bucket) (lo hi : Nat) : Nat :=
  (b.contribs.filter fun c => c.any fun e => decide (lo ≤ e.1) && decide (e.1 < hi)).length

/-- The result of a chunk at a level. -/
def Bucket.result (b : Bucket) (lvl part c : Nat) : Option Chunk :=
  b.results.find? fun x => x.level == lvl && x.part == part && x.chunk == c

/-- The level-1 results that cover positions lo … hi − 1 of this member's level-1 part, if every one is complete. -/
def State.midLanes (s : State) (slot : Nat) (b : Bucket) (lo hi : Nat) : Option (List Int × Nat × Nat) :=
  if !b.has 1 then some (b.baseLanes lo hi, b.count, b.baseOvl lo hi)
  else
    let me := s.bSelf slot b 1
    let (p, _) := s.bPart slot b 1 me
    let n := b.chunkUnits 1
    let cs := ((List.range ((hi - p + n - 1) / n)).filter fun c => decide (lo < p + (c + 1) * n)).map fun c => b.result 1 me c
    if cs.any (·.isNone) then none
    else
      let rs := cs.filterMap id
      let first := match rs.head? with | some r => p + r.chunk * n | none => lo
      some (((rs.flatMap (·.lanes)).drop (lo - first)).take (hi - lo), (rs.head?.map (·.nb)).getD 0, (rs.map (·.ovl)).foldl max 0)

/-! ### The local result (R246, R256, R268) -/

/-- The lanes and count of part a of the highest level, if every chunk has its result. -/
def State.partLanes (s : State) (slot : Nat) (b : Bucket) (a : Nat) : Option (List Int × Nat) :=
  let cs := (List.range (s.bChunks slot b b.top a)).map fun c => b.result b.top a c
  if cs.any (·.isNone) then none
  else some ((cs.filterMap id).flatMap (·.lanes), (((cs.filterMap id).head?).map (·.nb)).getD b.count)

/-- The ranks whose shards make up this module's local result. -/
def State.ownParts (s : State) (slot : Nat) (b : Bucket) : List Nat := s.bPlayed slot b b.top

/-- The local result: the shards of the ranks this module plays, in ascending rank order, and N_B (R268). -/
def State.localResult (s : State) (slot : Nat) (b : Bucket) : Option (List Int × Nat) :=
  let ps := (s.ownParts slot b).map fun a => s.partLanes slot b a
  if ps.any (·.isNone) then none
  else some ((ps.filterMap id).flatMap (·.1), ((ps.filterMap id).map (·.2)).foldl max 0)

/-- The digest of a result (R256). -/
def resultDigest (lanes : List Int) (nb : Nat) : Word := crc64 ((lanes.flatMap fun v => leBytes 8 (wrap 64 v)) ++ leBytes 8 nb)

/-- Chunks of a movement part as it comes in: in an all-to-all, member a sends the part of its span that is this member's
(R240). -/
def State.inChunks (s : State) (slot : Nat) (b : Bucket) (lvl a : Nat) : Nat :=
  s.bChunks slot b lvl (if b.op = 3 then s.bSelf slot b lvl else a)

/-- The bytes of a movement part, if every chunk is here. -/
def State.partBytes (s : State) (slot : Nat) (b : Bucket) (lvl a : Nat) : Option (List Byte) :=
  let cs := (List.range (s.inChunks slot b lvl a)).map fun c => b.result lvl a c
  if cs.any (·.isNone) then none
  else some ((cs.filterMap id).flatMap fun c => c.lanes.map fun v => BitVec.ofInt 8 v)

end Sys2Proof.Machine
end

