-- ==== Sys2Proof/Machine/ImageCheck.lean ====
section
/-! DEFINITION. The form of a program image (check 4 of R154): its header (R157, R146) and the tables that it carries: cave
policy (R192, R193), update areas (R212), buckets (R237), groups (R266, R267), serving (R286), the stack layout (R384) and
hoops (R334, R335). -/

namespace Sys2Proof.Machine

/-- A little-endian number of n bytes in an image. -/
def imgNat (a : Array Byte) (o n : Nat) : Nat :=
  (List.range n).foldl (fun v k => v + (a.getD (o + k) 0#8).toNat * 256 ^ k) 0

/-- Whether n bytes of an image are all 0. -/
def imgZero (a : Array Byte) (o n : Nat) : Bool := (List.range n).all fun k => a.getD (o + k) 0#8 == 0#8

/-- Whether no element of a list appears twice. -/
def distinct (l : List Nat) : Bool := l.eraseDups.length == l.length

/-- Whether no two ranges (start, past-the-end) of a list overlap. -/
def disjoint : List (Nat × Nat) → Bool
  | [] => true
  | r :: rs => rs.all (fun x => decide (r.2 ≤ x.1) || decide (x.2 ≤ r.1) || decide (r.2 ≤ r.1) || decide (x.2 ≤ x.1)) && disjoint rs

/-- Whether no range of one list overlaps a range of another list of the same family; ranges of one list may. -/
def disjointSets : List (List (Nat × Nat)) → Bool
  | [] => true
  | l :: ls => ls.all (fun m => l.all fun x => m.all fun y => disjoint [x, y]) && disjointSets ls

/-- What the checks know of the docket and the module: IMAGE_BYTES, the bits of REGION_MASK, the allocation in bytes, KIND,
and GLB.MODULE_ID.ID. -/
structure ImgEnv where
  bytes : Nat
  regions : Nat
  stack : Nat
  kind : Nat
  self : Nat
  deriving DecidableEq, Repr

/-! ### The header (R157, R146) -/

/-- The header at offset h for a number of regions. -/
def headerOk (a : Array Byte) (v : ImgEnv) (h regions : Nat) : Bool :=
  let mb := imgNat a (h + 8) 1
  let lo := imgNat a (h + 9) 1
  let hi := imgNat a (h + 10) 1
  let hoop := imgNat a (h + 16) 8
  decide (h + 4096 ≤ v.bytes) && imgNat a h 4 == 0x49505242 && imgNat a (h + 4) 2 == 0x0100
    && imgNat a (h + 6) 1 == regions && decide (imgNat a (h + 7) 1 ≤ 3)
    && decide (1 ≤ lo ∧ lo ≤ mb ∧ mb ≤ hi ∧ hi ≤ 128) && imgZero a (h + 11) 5
    && (hoop == 0 || decide (hoop + 64 + 16 * imgNat a (hoop + 4) 2 ≤ v.bytes))
    && decide (imgNat a (h + 24) 8 + 0x3F0040 ≤ v.bytes)
    && (List.range 80).all fun i =>
      let e := h + 32 + 16 * i
      imgZero a (e + 13) 3
        && (decide (regions ≤ i) || decide (imgNat a e 8 + 32 * (imgNat a (e + 8) 3 + imgNat a (e + 11) 2) ≤ v.bytes))

/-! ### The stack layout and the caves (R384, R192) -/

/-- Field k of the layout table at table offset t. -/
def layoutAt (a : Array Byte) (t k : Nat) : Nat := imgNat a (t + 0x3F0000 + 8 * k) 8

/-- The stack layout table (R384). -/
def layoutOk (a : Array Byte) (v : ImgEnv) (t : Nat) : Bool :=
  let areas := [(0, layoutAt a t 0), (layoutAt a t 1, layoutAt a t 1 + layoutAt a t 2),
    (layoutAt a t 3, layoutAt a t 3 + layoutAt a t 4), (layoutAt a t 5, layoutAt a t 5 + layoutAt a t 6)]
  imgZero a (t + 0x3F0038) 8 && decide (v.bytes ≤ layoutAt a t 0)
    && areas.all (fun x => x.1 % 65536 == 0 && x.2 % 65536 == 0 && decide (x.2 ≤ v.stack)) && disjoint areas

/-- S of R192: the bytes of one region cave. -/
def caveSize (caveBytes regions : Nat) : Nat := caveBytes / max 1 regions / 65536 * 65536

/-- The cave policy headers of the logical regions at table offset t (R192, R193), on the caves of the base layout, whose table
stands at t0 (R384). -/
def caveOk (a : Array Byte) (t0 t regions : Nat) : Bool :=
  (List.range regions).all fun i =>
    let w := imgNat a (t + 32768 * i) 8
    decide ((w / 2 ^ 32 + w % 2 ^ 32) * 65536 ≤ caveSize (layoutAt a t0 2) regions)

/-! ### Update areas (R212, R213) -/

/-- SS of an area: the size of a state image (R213). Rules: 0 MOMENTUM, 1 ADAPTIVE, 2 FACTORED, 3 SIGN. -/
def stateSize (rule blocks rowBlocks : Nat) : Nat :=
  let e := 32 * blocks
  let r := blocks / max 1 rowBlocks
  let arrays := match rule with | 1 => 3 * e | 2 => e + r + 32 * rowBlocks | _ => 2 * e
  (4 * (arrays + r) + 4095) / 4096 * 4096

/-- BS of an area: the size of a block image (R213). -/
def blockSize (blocks : Nat) : Nat := (33 * blocks + 4095) / 4096 * 4096

/-- The two ranges that an area's images take (R213). -/
def areaRanges (a : Array Byte) (d : Nat) : List (Nat × Nat) :=
  let st := imgNat a d 8
  let bl := imgNat a (d + 8) 8
  let blocks := imgNat a (d + 16) 4
  let rb := imgNat a (d + 20) 2
  let rows := blocks / max 1 rb
  [(st, st + 3 * stateSize (imgNat a (d + 24) 1) blocks rb + rows + 2 * ((rows + 7) / 8)), (bl, bl + 3 * blockSize blocks)]

/-- One area descriptor at offset d. -/
def areaOk (a : Array Byte) (v : ImgEnv) (d : Nat) : Bool :=
  let blocks := imgNat a (d + 16) 4
  let rb := imgNat a (d + 20) 2
  let re := imgNat a (d + 22) 2
  let rule := imgNat a (d + 24) 1
  let fl := imgNat a (d + 25) 1
  let off := imgNat a (d + 34) 3
  let pb := imgNat a (d + 37) 3
  let loc := imgNat a (d + 48) 8
  let last := (off + 33 * blocks) % max 1 pb
  decide (1 ≤ blocks) && decide (1 ≤ rb) && blocks % max 1 rb == 0 && decide (1 ≤ re ∧ re ≤ 32 * rb) && decide (rule ≤ 3)
    && decide (fl < 16) && !(rule == 2 && bit fl 0) && off % 4096 == 0 && decide (1 ≤ pb ∧ pb ≤ 2097152) && decide (off < pb)
    && last % 4096 == 0 && (areaRanges a d).all (fun x => decide (x.2 ≤ v.stack)) && imgZero a (d + 56) 8
    && (if bit fl 3 then loc % 2 ^ 16 < 2 ^ 14 && decide (loc < 2 ^ 27)
        else decide (loc + stateSize rule blocks rb + blockSize blocks ≤ v.bytes))

/-- The update area table (R212). -/
def updTableOk (a : Array Byte) (v : ImgEnv) (t : Nat) : Bool :=
  let u := t + 0x280000
  let n := imgNat a u 2
  let ds := (List.range n).map fun k => u + 64 + 64 * k
  decide (n ≤ 2048) && decide (imgNat a (u + 2) 1 ≤ 2) && decide (imgNat a (u + 4) 2 < 2 ^ 14) && imgZero a (u + 6) 2
    && imgZero a (u + 12) 4 && imgZero a (u + 48) 16 && ds.all (areaOk a v) && distinct (ds.map fun d => imgNat a d 8)
    && disjointSets (ds.map (areaRanges a))

/-! ### Buckets (R237) -/

/-- The region map at offset m for a bucket of COUNT units (R238): reserved bytes 0, and for every region that takes part every
position below COUNT; a map that breaks this fails like its descriptor (DEDUCED, log 165). -/
def mapOk (a : Array Byte) (m regions count : Nat) : Bool :=
  (List.range 80).all fun l =>
    let o := m + 16 * l
    let rect := imgNat a (o + 8) 2
    imgZero a (o + 10) 6 && (decide (regions ≤ l) || imgNat a o 4 == 0xFFFFFFFF
      || (decide (bits rect 3 0 ≤ bits rect 11 8) && decide (bits rect 7 4 ≤ bits rect 15 12)
        && decide (imgNat a o 4 + imgNat a (o + 4) 4 * (rectTiles rect).length ≤ count)))

/-- One bucket descriptor at offset d, with the table offset of its group table and the number of logical regions. -/
def bucketOk (a : Array Byte) (v : ImgEnv) (t regions d : Nat) : Bool :=
  let groups := imgNat a (t + 0x380002) 2
  let members := imgNat a (t + 0x380000) 2
  let op := imgNat a (d + 4) 1
  let ty := imgNat a (d + 5) 1
  let path := imgNat a (d + 6) 1
  let lv := imgNat a (d + 7) 1
  let root := imgNat a (d + 14) 2
  let ns := imgNat a (d + 17) 1
  let every := imgNat a (d + 18) 1
  let map := imgNat a (d + 20) 8
  decide (imgNat a d 4 < 2 ^ 20) && decide (op ≤ 3) && (if op = 0 then decide (ty ≤ 3) else ty == 0)
    && (path == 0 || (path == 1 && op == 0 && ty == 0 && bit lv 2)) && decide (lv < 8) && (op != 3 || (bit lv 1 != bit lv 2))
    && decide (imgNat a (d + 12) 2 < max 1 groups) && (if op = 2 then decide (root < max 1 members) else root == 0)
    && decide (imgNat a (d + 16) 1 ≤ 24) && decide (ns < 16) && !bit ns 0 && (!bit ns 3 || (op == 0 && ty == 1))
    && decide (1 ≤ every ∧ every ≤ 64) && decide (imgNat a (d + 19) 1 < every)
    && map % 64 == 0 && decide (map + 1280 ≤ v.bytes) && mapOk a map regions (imgNat a (d + 8) 4) && imgZero a (d + 28) 4

/-- The offsets of the bucket descriptors. -/
def bucketDescs (a : Array Byte) (t : Nat) : List Nat :=
  (List.range (imgNat a (t + 0x2C0000) 2)).map fun k => t + 0x2C0040 + 32 * k

/-- The bucket table at table offset t (R237, R266). -/
def bucketTableOk (a : Array Byte) (v : ImgEnv) (t regions : Nat) : Bool :=
  let b := t + 0x2C0000
  let ds := bucketDescs a t
  decide (imgNat a b 2 ≤ 16384) && decide (imgNat a (b + 2) 2 < max 1 (imgNat a (t + 0x380002) 2)) && imgZero a (b + 4) 60
    && ds.all (bucketOk a v t regions) && distinct (ds.map fun d => imgNat a d 4)

/-! ### Groups (R266, R267) -/

/-- The rank list of group entry e at level 1 or 2, in the group table at offset g. -/
def imgRanks (a : Array Byte) (g e level : Nat) : List Nat :=
  let d := g + 64 + 16 * e
  let n := imgNat a (d + (if level = 1 then 0 else 2)) 2
  let o := imgNat a (d + (if level = 1 then 4 else 8)) 4
  (List.range n).map fun k => imgNat a (g + o + 2 * k) 2

/-- The table ranges that the group table places itself: the membership list and the rank lists. -/
def groupRanges (a : Array Byte) (g : Nat) : List (Nat × Nat) :=
  let m := imgNat a (g + 16) 8
  (m, m + 16 * imgNat a g 2) :: (List.range (imgNat a (g + 2) 2)).flatMap fun e =>
    let d := g + 64 + 16 * e
    [(g + imgNat a (d + 4) 4, g + imgNat a (d + 4) 4 + 2 * imgNat a d 2),
     (g + imgNat a (d + 8) 4, g + imgNat a (d + 8) 4 + 2 * imgNat a (d + 2) 2)]

/-- A table header of zeros is a job without a group (DEDUCED, log 21). -/
def noGroup (a : Array Byte) (g : Nat) : Bool := imgZero a g 64

/-- The form of a group table: header, membership list, entries and rank lists (R266). ENDPOINT is for a holder that is an
endpoint, so 0 where BUDDY names a member. -/
def groupForm (a : Array Byte) (v : ImgEnv) (t : Nat) : Bool :=
  let g := t + 0x380000
  let m := imgNat a g 2
  let n := imgNat a (g + 2) 2
  let lists := (List.range n).flatMap fun e => [imgRanks a g e 1, imgRanks a g e 2]
  noGroup a g || (
    decide (1 ≤ m ∧ m ≤ 16384) && decide (1 ≤ n ∧ n ≤ 1024) && decide (imgNat a (g + 4) 2 < m)
      && decide (imgNat a (g + 6) 1 ≤ 2) && decide (2 ≤ imgNat a (g + 7) 1) && decide (100 ≤ imgNat a (g + 8) 2)
      && decide (1 ≤ imgNat a (g + 10) 2 ∧ imgNat a (g + 10) 2 ≤ 250) && decide (1 ≤ imgNat a (g + 12) 2 ∧ imgNat a (g + 12) 2 ≤ 250)
      && decide (imgNat a (g + 14) 1 ≤ 1) && imgZero a (g + 15) 1 && imgZero a (g + 24) 40
      && (groupRanges a g).all (fun x => decide (x.2 ≤ v.bytes)
        && decide (x.2 ≤ t + 0x3F0000 ∨ t + 0x3F0040 ≤ x.1))
      && (List.range m).all (fun i =>
        let d := imgNat a (g + 16) 8 + 16 * i
        decide (imgNat a d 2 < 2 ^ 14) && (imgNat a (d + 2) 2 == 0xFFFF || decide (imgNat a (d + 2) 2 < m))
          && imgZero a (d + 6) 2 && (imgNat a (d + 2) 2 == 0xFFFF || imgNat a (d + 8) 4 == 0) && imgZero a (d + 12) 4)
      && (List.range n).all (fun e =>
        let d := g + 64 + 16 * e
        decide (1 ≤ imgNat a d 2 ∧ imgNat a d 2 ≤ 64) && decide (1 ≤ imgNat a (d + 2) 2 ∧ imgNat a (d + 2) 2 ≤ 16384)
          && imgZero a (d + 12) 4)
      && lists.all fun l => l.all fun i => decide (i < m))

/-- A field of member i of the group table at table offset t. -/
def imgMember (a : Array Byte) (t i off n : Nat) : Nat := imgNat a (imgNat a (t + 0x380010) 8 + 16 * i + off) n

/-- What every group table must meet beside its form (R266): SELF names this module, its buddy the module that the update area
table names, and its endpoint is 0 unless the buddy is one. -/
def groupSelfOk (a : Array Byte) (v : ImgEnv) (t : Nat) : Bool :=
  let g := t + 0x380000
  let self := imgNat a (g + 4) 2
  let buddy := imgMember a t self 2 2
  let kind := imgNat a (t + 0x280002) 1
  noGroup a g || (
    imgMember a t self 0 2 == v.self
      && (kind != 1 || (buddy != 0xFFFF && imgMember a t buddy 0 2 == imgNat a (t + 0x280004) 2))
      && (kind == 2 || imgMember a t self 8 4 == 0))

/-- What the base table must meet too (R266): no stand-in, no index twice in a rank list. -/
def groupBaseOk (a : Array Byte) (t : Nat) : Bool :=
  let g := t + 0x380000
  noGroup a g || (
    (List.range (imgNat a g 2)).all (fun i => imgMember a t i 4 2 == 0xFFFF)
      && (List.range (imgNat a (g + 2) 2)).all fun e => distinct (imgRanks a g e 1) && distinct (imgRanks a g e 2))

/-- Whether s stands next to d in a rank list of 3 or more, modulo its size (R267). -/
def adjacent (l : List Nat) (d s : Nat) : Bool :=
  let n := l.length
  decide (3 ≤ n) && (List.range n).any fun k => l.getD k 0 == d && (l.getD ((k + 1) % n) 0 == s || l.getD ((k + n - 1) % n) 0 == s)

/-- A membership hoop's group table against the base table (R267); SELF, this module's index, is the same in both. -/
def groupHoopOk (a : Array Byte) (t0 t : Nat) (lost : List Nat) : Bool :=
  let g0 := t0 + 0x380000
  let g := t + 0x380000
  let m := imgNat a g0 2
  let n := imgNat a (g0 + 2) 2
  let stands := lost.map fun d => imgMember a t d 4 2
  imgNat a g 2 == m && imgNat a (g + 2) 2 == n && imgNat a (g + 4) 2 == imgNat a (g0 + 4) 2
    && (List.range m).all (fun i => imgMember a t i 0 2 == imgMember a t0 i 0 2
      && (lost.contains i || imgMember a t i 4 2 == 0xFFFF))
    && (List.range n).all (fun e => imgRanks a g e 1 == imgRanks a g0 e 1 && imgRanks a g e 2 == imgRanks a g0 e 2)
    && distinct stands && lost.all fun d =>
      let st := imgMember a t d 4 2
      decide (d < m) && decide (st < m) && !lost.contains st && (List.range n).all fun e =>
        (!(imgRanks a g e 1).contains d || (imgRanks a g e 1).contains st)
          && !adjacent (imgRanks a g e 1) d st && !adjacent (imgRanks a g e 2) d st

/-! ### Serving (R286) -/

/-- One model entry at offset d, under the image header at h with its number of logical regions. -/
def serveEntryOk (a : Array Byte) (v : ImgEnv) (h regions d : Nat) : Bool :=
  let bmax := imgNat a (d + 2) 2
  let slot := imgNat a (d + 12) 4
  let resp := imgNat a (d + 16) 4
  let hdr := imgNat a (d + 24) 4
  let pay := imgNat a (d + 28) 4
  let out := imgNat a (d + 32) 4
  let ent := imgNat a (d + 48) 8
  let hd := (hdr, hdr + 64 + 16 * bmax)
  let p := (pay, pay + bmax * slot)
  let o := (out, out + bmax * resp)
  let same := imgNat a (d + 20) 2 == imgNat a (d + 22) 2
  decide (1 ≤ bmax ∧ bmax ≤ 256) && decide (imgNat a (d + 4) 4 ≤ 1000000)
    && decide (1 ≤ imgNat a (d + 8) 2 ∧ imgNat a (d + 8) 2 ≤ 4096) && decide (1 ≤ imgNat a (d + 10) 2)
    && decide (1 ≤ slot ∧ slot ≤ 65536) && decide (5 ≤ resp ∧ resp ≤ 65536)
    && decide (imgNat a (d + 20) 1 < regions) && decide (imgNat a (d + 22) 1 < regions)
    && [hdr, pay, out].all (fun x => x % 64 == 0) && [hd, p, o].all (fun x => decide (x.2 ≤ 0x200000))
    && disjoint (if same then [hd, p, o] else [hd, p]) && decide (1 ≤ imgNat a (d + 36) 2) && imgZero a (d + 38) 2
    && imgZero a (d + 56) 8 && decide (ent + 320 ≤ v.bytes)
    && (List.range 80).all (fun i => imgNat a (ent + 4 * i + 3) 1 == 0
      && (decide (regions ≤ i) || decide (imgNat a (ent + 4 * i) 3 < imgNat a (h + 32 + 16 * i + 8) 3)))

/-- The serve table of a table area. -/
def serveRange (a : Array Byte) (t : Nat) : Nat × Nat := (t + 0x3C0000, t + 0x3C0040 + 64 * imgNat a (t + 0x3C0000) 2)

/-- The other tables of a table area with a number of logical regions: cave policy, update areas, buckets with their region maps,
groups with their lists. -/
def otherTables (a : Array Byte) (t regions : Nat) : List (Nat × Nat) :=
  let g := t + 0x380000
  [(t, t + 32768 * regions), (t + 0x280000, t + 0x280040 + 64 * imgNat a (t + 0x280000) 2),
    (t + 0x2C0000, t + 0x2C0040 + 32 * imgNat a (t + 0x2C0000) 2)]
    ++ (bucketDescs a t).map (fun d => (imgNat a (d + 20) 8, imgNat a (d + 20) 8 + 1280))
    ++ (if noGroup a g then [] else (g, g + 64 + 16 * imgNat a (g + 2) 2) :: groupRanges a g)

/-- The hoop section, and the stack layout table of the base image. -/
def baseRanges (a : Array Byte) : List (Nat × Nat) :=
  let o := imgNat a 16 8
  let t := imgNat a 24 8
  (t + 0x3F0000, t + 0x3F0040) :: (if o = 0 then [] else [(o, o + 64 + 16 * imgNat a (o + 4) 2)])

/-- The table areas of an image as (TABLE_OFF, logical regions): the base image's, then those of the hoops that have their own. -/
def tableAreas (a : Array Byte) : List (Nat × Nat) :=
  let o := imgNat a 16 8
  let t := imgNat a 24 8
  let hoops := if o = 0 then [] else (List.range (imgNat a (o + 4) 2)).map fun k =>
    let h := imgNat a (o + 64 + 16 * k + 8) 8
    (imgNat a (h + 24) 8, imgNat a (h + 6) 1)
  (t, imgNat a 6 1) :: (hoops.filter fun x => x.1 != t).eraseDups

/-- The serve table under the header at h (R286): its entries, STEP_MB and SYNC_SRC, and no overlap with another table of the
image. -/
def serveOk (a : Array Byte) (v : ImgEnv) (h regions : Nat) : Bool :=
  let t := imgNat a (h + 24) 8
  let b := t + 0x3C0000
  let n := imgNat a b 2
  let ds := (List.range n).map fun k => b + 64 + 64 * k
  let areas := tableAreas a
  v.kind == 0 || (
    decide (1 ≤ n ∧ n ≤ 16) && imgZero a (b + 2) 62 && ds.all (serveEntryOk a v h regions) && distinct (ds.map fun d => imgNat a d 2)
      && [7, 8, 9, 10].map (fun k => imgNat a (h + k) 1) == [0, 1, 1, 1]
      && (baseRanges a ++ areas.flatMap (fun x => otherTables a x.1 x.2)
          ++ (areas.filter fun x => x.1 != t).map (fun x => serveRange a x.1)).all fun x => disjoint [x, serveRange a t])

/-! ### Hoops (R334, R335) -/

/-- The key of a hoop entry at offset d: REGION, STACK, ENGINE, LOST_A, LOST_B. -/
def hoopKey (a : Array Byte) (d : Nat) : List Nat := [imgNat a d 1, imgNat a (d + 1) 1, imgNat a (d + 2) 1, imgNat a (d + 4) 2, imgNat a (d + 6) 2]

/-- One hoop entry, its header, and the tables it carries: each meets what the base image's must (R192, R212, R237, R266, R267,
R286, R334). -/
def hoopOk (a : Array Byte) (v : ImgEnv) (d : Nat) : Bool :=
  let reg := imgNat a d 1
  let la := imgNat a (d + 4) 2
  let lb := imgNat a (d + 6) 2
  let h := imgNat a (d + 8) 8
  let lost := [la, lb].filter (· != 0xFFFF)
  let t0 := imgNat a 24 8
  let t := imgNat a (h + 24) 8
  let regions := imgNat a (h + 6) 1
  hoopKey a d != [0xFF, 0xFF, 0xFF, 0xFFFF, 0xFFFF] && (reg == 0xFF || decide (reg < v.regions))
    && (imgNat a (d + 1) 1 == 0xFF || decide (imgNat a (d + 1) 1 < 26)) && (imgNat a (d + 2) 1 == 0xFF || decide (imgNat a (d + 2) 1 < 64))
    && imgZero a (d + 3) 1 && (lb == 0xFFFF || decide (la < lb))
    && headerOk a v h (if reg = 0xFF then v.regions else v.regions - 1)
    && [7, 8, 9, 10].all (fun k => imgNat a (h + k) 1 == imgNat a k 1) && imgZero a (h + 16) 8
    && caveOk a t0 t regions && updTableOk a v t && groupForm a v t && groupSelfOk a v t && bucketTableOk a v t regions
    && serveOk a v h regions && (la == 0xFFFF || groupHoopOk a t0 t lost)

/-- The hoop section; HOOP_OFF 0 is an image without hoops (DEDUCED, log 21). -/
def hoopsOk (a : Array Byte) (v : ImgEnv) : Bool :=
  let o := imgNat a 16 8
  let n := imgNat a (o + 4) 2
  let ds := (List.range n).map fun k => o + 64 + 16 * k
  o == 0 || (imgNat a o 4 == 0x50485242 && decide (n ≤ 8192) && imgZero a (o + 6) 58 && ds.all (hoopOk a v)
    && (ds.map (hoopKey a)).eraseDups.length == n)

/-- Whether an image meets every condition whose failure is IMAGE_FORM. -/
def imageOk (a : Array Byte) (v : ImgEnv) : Bool :=
  let t := imgNat a 24 8
  decide (v.bytes ≤ v.stack) && headerOk a v 0 v.regions && layoutOk a v t && caveOk a t t v.regions && updTableOk a v t
    && groupForm a v t && groupSelfOk a v t && groupBaseOk a t && bucketTableOk a v t v.regions && serveOk a v 0 v.regions
    && hoopsOk a v

end Sys2Proof.Machine
end

