-- ==== Sys2Proof/Machine/UpdMath.lean ====
section
/-! DEFINITION. The arithmetic of the update engine (R217–R219): the gradient, the four rules over binary32 codes, and the
fresh blocks of a row. -/

namespace Sys2Proof.Machine

/-! ### Operations with the update engine's flags (R218) -/

/-- Operations limited to the largest finite value so far, and whether one was invalid or divided by zero. -/
structure UAcc where
  sat : Nat := 0
  bad : Bool := false
  deriving DecidableEq, Repr

/-- Run one operation. -/
def uRun (st : UAcc) (r : FOp) : Nat × UAcc := (r.bits, ⟨st.sat + (if r.sat then 1 else 0), st.bad || r.nonfin⟩)

/-- A value read from a C image: an infinity or NaN code is invalid. -/
def uRead (st : UAcc) (x : Nat) : UAcc := match f32Val x with | .fin _ => st | _ => { st with bad := true }

/-- POWN(b, t): the exact power rounded once. -/
def fPown (b t : Nat) : FOp := let v := fDy b; fRound (v.m ^ t) 1 (v.e * t)

/-- MEAN over the given terms. -/
def fMean (ts : List Nat) : FOp := meanOf (rowSum (rowAnchor ts) ts) ts.length

/-- RNE(G / N_B) of a lane sum at scale L (R217). -/
def gradient (q : Int) (l : Int) (nb : Nat) : FOp := let r := roundF32 q nb l; ⟨r.bits, r.ovf, false⟩

/-- Whether a binary32 code is finite. -/
def finite32 (x : Nat) : Bool := match f32Val x with | .fin _ => true | _ => false

/-- x < y and x ≤ y for finite codes. -/
def fLt (x y : Nat) : Bool := !fLe y x

/-- How many parameter slots a rule reads (R215). -/
def ruleSlots (rule : Nat) : Nat := match rule with | 0 => 3 | 1 => 5 | 2 => 5 | _ => 4

/-- The conditions on the slot values (R215). -/
def paramsOk (rule : Nat) (p : List Nat) : Bool :=
  let x := fun k => p.getD k 0
  let nn := fun k => fLe 0 (x k)
  let below1 := fun k => nn k && fLt (x k) fOne
  let pos := fun k => fLt 0 (x k)
  p.length == ruleSlots rule && p.all finite32 && match rule with
    | 0 => nn 0 && below1 1 && nn 2
    | 1 => nn 0 && below1 1 && below1 2 && pos 3 && nn 4
    | 2 => nn 0 && below1 1 && pos 2 && pos 3 && nn 4
    | _ => nn 0 && nn 1 && fLe (x 1) fOne && nn 2 && fLe (x 2) fOne && nn 3

/-! ### One row (R218) -/

/-- What one row holds: its valid weights w, their m and v, and its gradients. -/
structure RowIn where
  g : List Nat
  w : List Nat
  m : List Nat
  v : List Nat
  count : Nat
  deriving DecidableEq, Repr

/-- MOMENTUM for one weight: (w', m'). -/
def updMomentum (nest : Bool) (p : List Nat) (g w m : Nat) (st : UAcc) : Nat × Nat × UAcc :=
  let (d, st) := uRun st (fFma (p.getD 2 0) w g)
  let (m', st) := uRun st (fFma (p.getD 1 0) m d)
  let (u, st) := if nest then uRun st (fFma (p.getD 1 0) m' d) else (m', st)
  let (w', st) := uRun st (fFma (fNeg (p.getD 0 0)) u w)
  (w', m', st)

/-- ADAPTIVE for one weight, with a1, a2, c1, c2 formed before: (w', m', v'). -/
def updAdaptive (p : List Nat) (a1 a2 c1 c2 g w m v : Nat) (st : UAcc) : Nat × Nat × Nat × UAcc :=
  let (x, st) := uRun st (fMul a1 g)
  let (m', st) := uRun st (fFma (p.getD 1 0) m x)
  let (q, st) := uRun st (fMul g g)
  let (r, st) := uRun st (fMul a2 q)
  let (v', st) := uRun st (fFma (p.getD 2 0) v r)
  let (mh, st) := uRun st (fDiv m' c1)
  let (vh, st) := uRun st (fDiv v' c2)
  let (e, st) := uRun st (fSqrt vh)
  let (dn, st) := uRun st (fAdd e (p.getD 3 0))
  let (u, st) := uRun st (fDiv mh dn)
  let (s, st) := uRun st (fFma (p.getD 4 0) w u)
  let (w', st) := uRun st (fFma (fNeg (p.getD 0 0)) s w)
  (w', m', v', st)

/-- The sign of a finite code as +1, −1 or 0. -/
def fSign (c : Nat) : Nat := let v := (fDy c).m; if 0 < v then fOne else if v < 0 then fNeg fOne else 0

/-- SIGN for one weight, with a1, a2 formed before: (w', m'). -/
def updSign (p : List Nat) (a1 a2 g w m : Nat) (st : UAcc) : Nat × Nat × UAcc :=
  let (x, st) := uRun st (fMul a1 g)
  let (c, st) := uRun st (fFma (p.getD 1 0) m x)
  let (s, st) := uRun st (fFma (p.getD 3 0) w (fSign c))
  let (w', st) := uRun st (fFma (fNeg (p.getD 0 0)) s w)
  let (x2, st) := uRun st (fMul a2 g)
  let (m', st) := uRun st (fFma (p.getD 2 0) m x2)
  (w', m', st)

/-- One touched row of MOMENTUM, ADAPTIVE or SIGN: new w, m, v. -/
def updRow (rule : Nat) (nest : Bool) (p : List Nat) (a1 a2 : Nat) (r : RowIn) (st : UAcc) :
    (List Nat × List Nat × List Nat) × UAcc :=
  let st := (r.w ++ r.m ++ r.v).foldl uRead st
  let t := min (r.count + 1) 65535
  let (c1, c2, st) := if rule = 1 then
      let (b, st) := uRun st (fPown (p.getD 1 0) t)
      let (c1, st) := uRun st (fSub fOne b)
      let (b, st) := uRun st (fPown (p.getD 2 0) t)
      let (c2, st) := uRun st (fSub fOne b)
      (c1, c2, st)
    else (0, 0, st)
  (List.range r.g.length).foldl (fun (a : (List Nat × List Nat × List Nat) × UAcc) k =>
    let ((ws, ms, vs), st) := a
    let g := r.g.getD k 0
    let w := r.w.getD k 0
    let m := r.m.getD k 0
    let (w', m', v', st) := match rule with
      | 0 => let (w', m', st) := updMomentum nest p g w m st; (w', m', 0, st)
      | 1 => updAdaptive p a1 a2 c1 c2 g w m (r.v.getD k 0) st
      | _ => let (w', m', st) := updSign p a1 a2 g w m st; (w', m', 0, st)
    ((ws ++ [w'], ms ++ [m'], vs ++ [v']), st)) (([], [], []), st)

/-- a1 and a2 of a UPD: MOMENTUM has none; FACTORED uses β2 alone. -/
def updPre (rule : Nat) (p : List Nat) (st : UAcc) : Nat × Nat × UAcc :=
  match rule with
  | 0 => (0, 0, st)
  | 2 => let (a2, st) := uRun st (fSub fOne (p.getD 1 0)); (0, a2, st)
  | _ =>
    let (a1, st) := uRun st (fSub fOne (p.getD 1 0))
    let (a2, st) := uRun st (fSub fOne (p.getD 2 0))
    (a1, a2, st)

/-! ### FACTORED (R218) -/

/-- Run an operation on every element. -/
def uMap (st : UAcc) (xs : List Nat) (op : Nat → FOp) : List Nat × UAcc :=
  xs.foldl (fun a x => let (r, st) := uRun a.2 (op x); (a.1 ++ [r], st)) ([], st)

/-- Run an operation on every pair. -/
def uZip (st : UAcc) (xs ys : List Nat) (op : Nat → Nat → FOp) : List Nat × UAcc :=
  (xs.zip ys).foldl (fun a p => let (r, st) := uRun a.2 (op p.1 p.2); (a.1 ++ [r], st)) ([], st)

/-- FACTORED over a whole area: gradients and weights by row, Rv and the valid columns of Cv; new w by row, Rv and Cv. -/
def updFactored (p : List Nat) (a2 : Nat) (gs ws : List (List Nat)) (rv cv : List Nat) (st : UAcc) :
    (List (List Nat) × List Nat × List Nat) × UAcc :=
  let st := (ws.flatten ++ rv ++ cv).foldl uRead st
  let eta := fNeg (p.getD 0 0)
  let b2 := p.getD 1 0
  let (q, st) := gs.foldl (fun (a : List (List Nat) × UAcc) g =>
    let (r, st) := uMap a.2 g fun x => fFma x x (p.getD 2 0); (a.1 ++ [r], st)) ([], st)
  let (rm, st) := q.foldl (fun (a : List Nat × UAcc) row => let (r, st) := uRun a.2 (fMean row); (a.1 ++ [r], st)) ([], st)
  let (x, st) := uMap st rm fun y => fMul a2 y
  let (rv', st) := uZip st rv x fun o y => fFma b2 o y
  let cols := (List.range cv.length).map fun j => q.map fun row => row.getD j 0
  let (cm, st) := cols.foldl (fun (a : List Nat × UAcc) col => let (r, st) := uRun a.2 (fMean col); (a.1 ++ [r], st)) ([], st)
  let (y, st) := uMap st cm fun y => fMul a2 y
  let (cv', st) := uZip st cv y fun o y => fFma b2 o y
  let (rb, st) := uRun st (fMean rv')
  let (u, st) := (gs.zip rv').foldl (fun (a : List (List Nat) × UAcc) gr =>
    let (h, st) := uMap a.2 cv' fun c => fMul gr.2 c
    let (vh, st) := uMap st h fun h => fDiv h rb
    let (e, st) := uMap st vh fSqrt
    let (r, st) := uZip st gr.1 e fDiv
    (a.1 ++ [r], st)) ([], st)
  let (sq, st) := uMap st u.flatten fun x => fMul x x
  let (ms, st) := uRun st (fMean sq)
  let (rms, st) := uRun st (fSqrt ms)
  let (k, st) := uRun st (fDiv rms (p.getD 3 0))
  let k := if fLt fOne k then k else fOne
  let (ws', st) := (u.zip ws).foldl (fun (a : List (List Nat) × UAcc) uw =>
    let (u2, st) := uMap a.2 uw.1 fun x => fDiv x k
    let (s, st) := uZip st uw.2 u2 fun w u => fFma (p.getD 4 0) w u
    let (r, st) := uZip st s uw.2 fun s w => fFma eta s w
    (a.1 ++ [r], st)) ([], st)
  ((ws', rv', cv'), st)

/-! ### Fresh blocks (R219) -/

/-- The BSI8 blocks of one row from its new master weights, padding included; `first` is the row's first block index in its
tensor. -/
def rowBlocksOf (sr : Bool) (seed step first : Nat) (ws : List Nat) (blocks : Nat) : List Byte :=
  (List.range blocks).flatMap fun b =>
    let vs := (List.range 32).map fun k => ws.getD (32 * b + k) 0
    if sr then (srBlock seed step (first + b) (vs.map fDy)).1 else (toBlock .bsi8 32 (vs.map f32Val)).1

end Sys2Proof.Machine
end

