-- ==== Sys2Proof/Machine/UpdCore.lean ====
section
/-! DEFINITION. The update engine (R212–R230): areas and their images, the run of one UPD, readiness, commit, rollback,
publication and egress, and what it sends to the buddy. -/

namespace Sys2Proof.Machine

/-! ### Areas (R212, R213) -/

/-- An update area: its descriptor's fields and the offsets of its images in the job's space. -/
structure Area where
  state : Nat
  block : Nat
  blocks : Nat
  rowBlocks : Nat
  rowElems : Nat
  rule : Nat
  flags : Nat
  model : Nat
  layer : Nat
  expert : Nat
  lregion : Nat
  ltile : Nat
  pieceOff : Nat
  pieceBytes : Nat
  firstBlock : Nat
  bucketOff : Nat
  initLoc : Nat
  deriving DecidableEq, Repr

/-- The job offset of the update area table in force. -/
def State.areaTable (s : State) (slot : Nat) : Nat := s.tableOff slot + 0x280000

/-- Area i of the table in force. -/
def State.area (s : State) (slot i : Nat) : Area :=
  let f := fun o n => s.jobNat slot (s.areaTable slot + 64 + 64 * i + o) n
  ⟨f 0 8, f 8 8, f 16 4, f 20 2, f 22 2, f 24 1, f 25 1, f 26 2, f 28 2, f 30 2, f 32 1, f 33 1, f 34 3, f 37 3, f 40 4, f 44 4, f 48 8⟩

def Area.track (a : Area) : Bool := bit a.flags 0
def Area.nesterov (a : Area) : Bool := bit a.flags 1
def Area.sr (a : Area) : Bool := bit a.flags 2
def Area.initBuddy (a : Area) : Bool := bit a.flags 3

/-- Rows, SS and BS of an area. -/
def Area.rows (a : Area) : Nat := a.blocks / max 1 a.rowBlocks
def Area.ss (a : Area) : Nat := stateSize a.rule a.blocks a.rowBlocks
def Area.bs (a : Area) : Nat := blockSize a.blocks

/-- Elements of a row, and the byte offset of the row records in a state image. -/
def Area.rowLen (a : Area) : Nat := 32 * a.rowBlocks
def Area.recOff (a : Area) : Nat :=
  let e := 32 * a.blocks
  4 * (match a.rule with | 1 => 3 * e | 2 => e + a.rows + 32 * a.rowBlocks | _ => 2 * e)

/-- Offsets of the control record: selector bytes, TOUCH_W, TOUCH_C. -/
def Area.selOff (a : Area) (r : Nat) : Nat := a.state + 3 * a.ss + r
def Area.touchW (a : Area) (r : Nat) : Nat := a.state + 3 * a.ss + a.rows + r / 8
def Area.touchC (a : Area) (r : Nat) : Nat := a.state + 3 * a.ss + a.rows + (a.rows + 7) / 8 + r / 8

/-- Read and write one bit of a bitmap in a job's space. -/
def State.jobBit (s : State) (slot o k : Nat) : Bool := bit (s.jobNat slot o 1) k
def State.setJobBit (s : State) (slot o k : Nat) (v : Bool) : State :=
  let x := s.jobNat slot o 1
  s.jobWrite slot o (leBytes 1 (if bit x k = v then x else if v then x + 2 ^ k else x - 2 ^ k))

/-- C_SEL, P_SEL and the third image W of a row. -/
def State.cSel (s : State) (slot : Nat) (a : Area) (r : Nat) : Nat := s.jobNat slot (a.selOff r) 1 % 4
def State.pSel (s : State) (slot : Nat) (a : Area) (r : Nat) : Nat := s.jobNat slot (a.selOff r) 1 / 4 % 4
def State.wSel (s : State) (slot : Nat) (a : Area) (r : Nat) : Nat := 3 - s.cSel slot a r - s.pSel slot a r

/-- n binary32 codes from an offset of a job's space. -/
def State.jobCodes (s : State) (slot o n : Nat) : List Nat := (List.range n).map fun k => s.jobNat slot (o + 4 * k) 4

/-- An array of a row in a state image: arrays of the rule in order, k = 0 for w. -/
def Area.arrayAt (a : Area) (img k r : Nat) : Nat := a.state + img * a.ss + 4 * (k * 32 * a.blocks + r * a.rowLen)

/-- The bytes of a row in image `img`, its state arrays, record and blocks: what the mirror carries (R230). -/
def State.rowImage (s : State) (slot : Nat) (a : Area) (img r : Nat) : List Byte :=
  (List.range (if a.rule = 1 then 3 else 2)).flatMap (fun k => s.jobRead slot (a.arrayAt img k r) (4 * a.rowLen))
    ++ s.jobRead slot (a.state + img * a.ss + a.recOff + 4 * r) 4
    ++ s.jobRead slot (a.block + img * a.bs + 33 * a.rowBlocks * r) (33 * a.rowBlocks)

/-- The area entries of a job, as (entry, index in the area table). -/
def State.areas (s : State) (slot : Nat) : List (Nat × Nat) := (s.upd slot).entries

/-! ### The mirror's messages (R231) -/

/-- A mirror message. -/
structure MirMsg where
  op : Nat
  owner : Nat
  area : Nat
  step : Nat
  mseq : Nat
  seg : Nat
  dir : Nat
  status : Nat := 0
  deriving DecidableEq, Repr

/-- The 32-byte header for a ciphertext length. -/
def MirMsg.head (m : MirMsg) (len : Nat) : List Byte :=
  leBytes 1 0x4D ++ leBytes 1 m.op ++ leBytes 2 m.owner ++ leBytes 2 m.area ++ leBytes 2 0 ++ leBytes 4 m.step ++ leBytes 4 m.mseq
    ++ leBytes 3 m.seg ++ leBytes 1 m.dir ++ leBytes 2 len ++ leBytes 1 m.status ++ leBytes 9 0

/-- The nonce of a mirror message. -/
def MirMsg.nonce (m : MirMsg) : List Byte :=
  leBytes 4 m.mseq ++ leBytes 2 m.owner ++ leBytes 2 m.area ++ leBytes 3 m.seg ++ leBytes 1 (m.op % 128 + 128 * m.dir)

/-- A sealed mirror message. -/
def MirMsg.seal (m : MirMsg) (key pt : List Byte) : List Byte :=
  let h := m.head pt.length
  let (ct, tag) := gcmSeal key m.nonce h pt
  h ++ ct ++ tag

/-- Read a mirror message: its fields and ciphertext with tag. One whose header does not have the form of R231 is none, and is
dropped (log 167). -/
def parseMir (b : List Byte) : Option (MirMsg × List Byte × List Byte) :=
  let len := leAt b 20 2
  let m : MirMsg := ⟨byteAt b 1, leAt b 2 2, leAt b 4 2, leAt b 8 4, leAt b 12 4, leAt b 16 3, byteAt b 19, byteAt b 22⟩
  if byteAt b 0 = 0x4D ∧ 1 ≤ m.op ∧ m.op ≤ 7 ∧ m.dir < 2 ∧ leAt b 6 2 = 0 ∧ leAt b 23 9 = 0 ∧ b.length = 48 + len
      ∧ (if m.op = 1 then 1 ≤ len ∧ len ≤ 4096 else len = 0) then
    some (m, (b.drop 32).take len, b.drop (32 + len))
  else none

/-- The buddy's address: a module or an endpoint. -/
def State.buddyAddr (s : State) (slot : Nat) : Nat :=
  if s.rd pUPD UPD_JOB_BUDDY_KIND slot = 1 then addrModule (s.rd pUPD UPD_JOB_BUDDY_MODULE slot)
  else s.rd pUPD UPD_JOB_BUDDY_ENDPOINT slot

/-- Whether a job has a buddy. -/
def State.hasBuddy (s : State) (slot : Nat) : Bool := s.rd pUPD UPD_JOB_BUDDY_KIND slot != 0

/-- Send mirror bytes to an address on BUDDY_PORT; ciphertext of SEGs counts. -/
def State.sendMirror (s : State) (slot dst : Nat) (b : List Byte) : State :=
  (s.sendJobOn slot (s.rd pUPD UPD_JOB_BUDDY_PORT slot) 3 dst b).bump pUPD UPD_C_MIRROR_BYTES_OUT (leAt b 20 2)

/-- Seal and send one message, while the job has a mirror key. -/
def State.mirrorMsg (s : State) (slot dst : Nat) (m : MirMsg) (pt : List Byte) : State :=
  let k := (s.upd slot).mirrorKey
  if k.isEmpty then s else s.sendMirror slot dst (m.seal k pt)

/-- The modules of the lost members that this one plays. -/
def State.carriedModules (s : State) (slot : Nat) : List Nat := ((s.played slot).drop 1).map (s.memberModule slot)

/-- The owner and area index under which an area is mirrored: a carried area keeps its lost owner's (R282), every other is the
module's own (R231). -/
def State.mirrorName (s : State) (slot i : Nat) : Nat × Nat :=
  let a := s.area slot i
  if a.initBuddy && (s.carriedModules slot).contains (a.initLoc % 2 ^ 14) then (a.initLoc % 2 ^ 14, a.initLoc / 2 ^ 16 % 2048)
  else (s.rd pGLB GLB_MODULE_ID_ID, i)

/-- The owners under which a job's areas are mirrored, its own first. -/
def State.mirrorOwners (s : State) (slot : Nat) : List Nat :=
  (s.rd pGLB GLB_MODULE_ID_ID :: (s.areas slot).map fun x => (s.mirrorName slot x.2).1).eraseDups

/-- Send COMMIT (OP 4) or ROLLBACK (OP 5) of a step to the buddy, under each owner whose areas are mirrored (R221, R223,
R282). -/
def State.mirrorCast (s : State) (slot op step : Nat) : State :=
  if !s.hasBuddy slot then s
  else (s.mirrorOwners slot).foldl (fun s o =>
    s.mirrorMsg slot (s.buddyAddr slot) ⟨op, o, 0xFFFF, step, s.rd pUPD UPD_JOB_MSEQ slot, 0, 0, 0⟩ []) s

/-- The stream of an area in segments of 4,096 bytes: the rows' images in order, each from the image that `sel` picks; only
the segments that touch a row in `rows` (R230, layout DESIGN CHOICE, log 28). FACTORED sends its whole state image. -/
def State.mirrorSegs (s : State) (slot : Nat) (a : Area) (sel : Nat → Nat) (rows : List Nat) : List (Nat × List Byte) :=
  let all := if a.rule = 2 then
      s.jobRead slot (a.state + sel 0 * a.ss) a.ss ++ s.jobRead slot (a.block + sel 0 * a.bs) a.bs
    else (List.range a.rows).flatMap fun r => s.rowImage slot a (sel r) r
  let len := all.length / max 1 a.rows
  let hit := fun k => a.rule == 2 || rows.any fun r => decide (r * len < 4096 * (k + 1)) && decide (4096 * k < (r + 1) * len)
  ((List.range ((all.length + 4095) / 4096)).filter hit).map fun k => (k, (all.drop (4096 * k)).take 4096)

/-- Whether a job runs under the staleness option (R229). -/
def State.stale (s : State) (slot : Nat) : Bool := s.rd pUPD UPD_JOB_STALE slot == 1

/-- STEP_COUNT of the step that commits next: the one that is released and not committed, or the one that runs. -/
def State.nextCommit (s : State) (slot : Nat) : Nat :=
  match (s.ce slot).satSaved, s.regionsOf slot with
  | some x, _ => x.1
  | none, r :: _ => s.rd (regPage r) REG_STEP_COUNT_COUNT
  | none, [] => 0

/-- Whether a region has reached STEP_END of the step that commits next. -/
def State.pastEndOf (s : State) (slot r : Nat) : Bool := (s.ce slot).satSaved.isSome || s.seqState r == 8

/-- Stream an area's new images to the buddy after its UPD (R230). While the job has no mirror key the stream is recorded
and leaves when the key comes. -/
def State.mirrorArea (s : State) (slot i : Nat) (rows : List Nat) : State :=
  let u := s.upd slot
  let note := fun msgs => u.out.filter (fun o => o.area != i)
    ++ [(⟨i, s.nextCommit slot, s.rd pUPD UPD_JOB_MSEQ slot, msgs, 0, false⟩ : MirrorOut)]
  if !s.hasBuddy slot then s
  else if u.mirrorKey.isEmpty then s.setUpd slot { u with out := note [] }
  else
    let a := s.area slot i
    let rows := if u.fullMirror then List.range a.rows else rows
    let touched := fun r => s.jobBit slot (a.touchW r) (r % 8)
    let segs := s.mirrorSegs slot a (fun r => if touched r then s.wSel slot a r else s.cSel slot a r) rows
    let (owner, idx) := s.mirrorName slot i
    let step := s.nextCommit slot
    let mseq := s.rd pUPD UPD_JOB_MSEQ slot
    let msgs := (segs.map fun g => (MirMsg.mk 1 owner idx step mseq g.1 0 0).seal u.mirrorKey g.2)
      ++ [(MirMsg.mk 2 owner idx step mseq segs.length 0 0).seal u.mirrorKey []]
    let s := s.setUpd slot { u with out := note msgs }
    msgs.foldl (fun s b => s.sendMirror slot (s.buddyAddr slot) b) s

/-- A mirror key has come: the streams recorded without one leave, with the rows that TOUCH_W names (R230). -/
def State.mirrorUnsent (s : State) (slot : Nat) : State :=
  ((s.upd slot).out.filter (·.msgs.isEmpty)).foldl (fun s o =>
    s.mirrorArea slot o.area ((List.range (s.area slot o.area).rows).filter fun r => s.jobBit slot ((s.area slot o.area).touchW r) (r % 8))) s

/-! ### Readiness (R220) -/

/-- Whether every UPD of the step that commits next has completed or been skipped, and every redo with it (R220, R222). -/
def State.updsDone (s : State) (slot : Nat) : Bool :=
  let u := s.upd slot
  !(s.regionsOf slot).isEmpty && (s.regionsOf slot).all (s.pastEndOf slot)
    && u.queue.all (fun c => c.count != s.nextCommit slot) && u.redo.isEmpty

/-- The areas that the first step after a change of holder has still to stream whole (R282). -/
def State.mirrorLeft (s : State) (slot : Nat) : List (Nat × Nat) :=
  let u := s.upd slot
  if !s.hasBuddy slot || !u.fullMirror then []
  else (s.areas slot).filter fun x => u.out.all fun o => o.area != x.2 || o.step != s.nextCommit slot

/-- Once the UPDs of that step are done, stream the areas that none of them wrote. -/
def State.mirrorRest (s : State) (slot : Nat) : State :=
  if !s.updsDone slot then s
  else ((s.mirrorLeft slot).filter fun x => s.rd pUPD UPD_AREA_INIT_DONE x.1 == 1).foldl (fun s x => s.mirrorArea slot x.2 []) s

/-- Whether the update engine has the step ready: no UPD of it left, every image out acknowledged. -/
def State.updReady (s : State) (slot : Nat) : Bool :=
  s.updsDone slot && (s.mirrorLeft slot).isEmpty && (s.upd slot).out.all fun o => o.step != s.nextCommit slot || o.acked

/-- Show READY, and raise STEP_READY when it rises. -/
def State.checkReady (s : State) (slot : Nat) : State :=
  let s := s.mirrorRest slot
  let now := s.updReady slot
  let was := s.rd pUPD UPD_JOB_READY slot
  let s := s.wr pUPD UPD_JOB_READY (b2n now) slot
  if now && was == 0 then s.raiseEvt pUPD UPD_EVT_STATUS_STEP_READY else s

/-! ### The run of a UPD (R216–R219) -/

/-- What one run of a UPD leaves: whether it was invalid, operations limited, the rows touched, and the writes to W images as
(job offset, bytes). -/
structure UpdRes where
  acc : UAcc
  rows : List Nat
  writes : List (Nat × List Byte)
  deriving DecidableEq, Repr

/-- A list of binary32 codes as bytes. -/
def codeBytes (l : List Nat) : List Byte := l.flatMap fun x => leBytes 4 x

/-- Pad a row's codes with zeros to its length. -/
def padTo (n : Nat) (l : List Nat) : List Nat := l ++ List.replicate (n - l.length) 0

/-- The blocks of a row's new weights (R219). -/
def State.freshBlocks (s : State) (slot : Nat) (a : Area) (step r : Nat) (ws : List Nat) : List Byte :=
  rowBlocksOf a.sr (s.rd pUPD UPD_JOB_SR_SEED slot) step (a.firstBlock + r * a.rowBlocks) (padTo a.rowLen ws) a.rowBlocks

/-- Run a UPD over an area with a bucket's local lanes, scale and count: everything but its effects. -/
def State.updCompute (s : State) (slot : Nat) (a : Area) (c : UpdCmd) (lanes : List Int) (l : Int) (nb : Nat) : UpdRes :=
  let lane := lanes.toArray
  let qs := fun r => (List.range a.rowElems).map fun j => lane.getD (a.bucketOff + r * a.rowElems + j) 0
  let rows := (List.range a.rows).filter fun r => !a.track || (qs r).any (· != 0)
  let (a1, a2, st) := updPre a.rule c.params {}
  let grads := fun r (st : UAcc) => (qs r).foldl (fun (x : List Nat × UAcc) q =>
    let (g, st) := uRun x.2 (gradient q l nb); (x.1 ++ [g], st)) ([], st)
  let count := fun r => s.jobNat slot (a.state + s.cSel slot a r * a.ss + a.recOff + 4 * r) 2
  let tail := fun r img ws =>
    [(a.state + img * a.ss + a.recOff + 4 * r, leBytes 4 (min (count r + 1) 65535)),
     (a.block + img * a.bs + 33 * a.rowBlocks * r, s.freshBlocks slot a c.count r ws)]
  if a.rule = 2 then
    let img := s.cSel slot a 0
    let w := s.wSel slot a 0
    let rvOff := 4 * 32 * a.blocks
    let cvOff := rvOff + 4 * a.rows
    let (gs, st) := rows.foldl (fun (x : List (List Nat) × UAcc) r => let (g, st) := grads r x.2; (x.1 ++ [g], st)) ([], st)
    let ws := rows.map fun r => s.jobCodes slot (a.arrayAt img 0 r) a.rowElems
    let rv := s.jobCodes slot (a.state + img * a.ss + rvOff) a.rows
    let cv := s.jobCodes slot (a.state + img * a.ss + cvOff) (min a.rowElems a.rowLen)
    let ((ws', rv', cv'), st) := updFactored c.params a2 gs ws rv cv st
    ⟨st, rows, (a.state + w * a.ss + rvOff, codeBytes rv') :: (a.state + w * a.ss + cvOff, codeBytes (padTo a.rowLen cv'))
      :: (rows.zip ws').flatMap fun x => (a.arrayAt w 0 x.1, codeBytes (padTo a.rowLen x.2)) :: tail x.1 w x.2⟩
  else
    rows.foldl (fun (x : UpdRes) r =>
      let img := s.cSel slot a r
      let w := s.wSel slot a r
      let (g, st) := grads r x.acc
      let get := fun k => s.jobCodes slot (a.arrayAt img k r) a.rowElems
      let ((ws, ms, vs), st) := updRow a.rule a.nesterov c.params a1 a2
        ⟨g, get 0, get 1, if a.rule = 1 then get 2 else [], count r⟩ st
      let put := fun k v => (a.arrayAt w k r, codeBytes (padTo a.rowLen v))
      ⟨st, x.rows, x.writes ++ [put 0 ws, put 1 ms] ++ (if a.rule = 1 then [put 2 vs] else []) ++ tail r w ws⟩) ⟨st, rows, []⟩

/-- A fault of the update engine: the bit and the PROGRAM report (R215). -/
def State.updFault (s : State) (slot r : Nat) (f : Fld) : State :=
  (s.raiseErr pUPD f).reportOn .program r pUPD f slot

/-- A fault of a region's UPD: its program fault, at the command's index in the main stream (R128, R129, R215).
FAULT_INFO.CODE holds the UPD bit's number (DEDUCED, log 12). -/
def State.updCmdFault (s : State) (slot r ix : Nat) (f : Fld) : State :=
  (s.iff (decide (2 ≤ s.seqState r) && decide (s.seqState r ≤ 10)) (·.haltAt r false ix f.lo)).updFault slot r f

/-- Write the W images of an area from a bucket's local result (R217–R219). -/
def State.updArea (s : State) (slot : Nat) (c : UpdCmd) (entry i : Nat) (b : Bucket) (lanes : List Int) (nb : Nat) : State :=
  let a := s.area slot i
  let res := s.updCompute slot a c lanes b.scale nb
  let s := s.bump pUPD UPD_C_NUMERIC_SAT res.acc.sat
  if res.acc.bad then s.updCmdFault slot c.region c.ix UPD_ERR_STATUS_NUMERIC
  else
    let s := res.writes.foldl (fun s w => s.jobWrite slot w.1 w.2) s
    let s := res.rows.foldl (fun s r => s.setJobBit slot (a.touchW r) (r % 8) true) s
    let s := s.wrs pUPD [(UPD_AREA_WROTE, 1), (UPD_AREA_ROWS_TOUCHED, res.rows.length)] entry
    let s := ((s.bump pUPD UPD_C_UPDS_DONE).bump pUPD UPD_C_ELEMENTS (res.rows.length * a.rowElems)).bump pUPD
      UPD_C_ROWS_UPDATED res.rows.length
    (s.bump pUPD UPD_C_ROWS_SKIPPED (a.rows - res.rows.length)).mirrorArea slot i res.rows

/-- Discard an area's W images (R222). -/
def State.dropAreaW (s : State) (slot entry i : Nat) : State :=
  let a := s.area slot i
  let s := (List.range ((a.rows + 7) / 8)).foldl (fun s k => s.jobWrite slot (a.touchW (8 * k)) [0#8]) s
  s.wrs pUPD [(UPD_AREA_WROTE, 0), (UPD_AREA_ROWS_TOUCHED, 0)] entry

/-- A step attempt of the update engine ends without a commit (R222): MSEQ advances for the next one. -/
def State.updEnd (s : State) (slot : Nat) : State :=
  let s := (s.areas slot).foldl (fun s x => s.dropAreaW slot x.1 x.2) s
  let u := s.upd slot
  let s := s.setUpd slot { u with queue := [], ran := [], out := [], pubs := [], redo := [] }
  s.wrs pUPD [(UPD_JOB_READY, 0), (UPD_JOB_MSEQ, (s.rd pUPD UPD_JOB_MSEQ slot + 1) % 2 ^ 32)] slot

/-! ### Egress (R188, R227) -/

/-- The segments that an area's blocks cover, as (logical tile, segment index, bytes), read from the C images. -/
def State.areaSegs (s : State) (slot : Nat) (a : Area) : List (Nat × Nat × List Byte) :=
  let all := ((List.range a.rows).flatMap fun r =>
    s.jobRead slot (a.block + s.cSel slot a r * a.bs + 33 * a.rowBlocks * r) (33 * a.rowBlocks)).toArray
  let total := all.size
  -- piece k of the area: the first starts at PIECE_OFF, every later one at byte 0
  let first := a.pieceBytes - a.pieceOff
  let pieces := 1 + (total - first + a.pieceBytes - 1) / max 1 a.pieceBytes
  (List.range pieces).flatMap fun k =>
    let lo := if k = 0 then 0 else first + (k - 1) * a.pieceBytes
    let off := if k = 0 then a.pieceOff else 0
    let len := min (a.pieceBytes - off) (total - lo)
    (List.range ((len + 4095) / 4096)).map fun g =>
      (a.ltile + k, off / 4096 + g, (all.extract (lo + 4096 * g) (min (lo + 4096 * (g + 1)) (lo + len))).toList)

/-- Begin the egress of a published model (R227). -/
def State.startEgress (s : State) (slot model : Nat) (ranges : List (Nat × Nat)) : State :=
  match s.keyOf slot model with
  | none => s
  | some k =>
    let ep := s.epochPub k
    let gen := s.rd pWSP WSP_KEYSLOT_GEN_OUT k
    let mine := ((s.areas slot).map fun x => s.area slot x.2).filter fun a => a.model == model
      && ranges.any fun q => decide (q.1 ≤ a.layer) && decide (a.layer ≤ q.2)
    let s := mine.foldl (fun s a => (s.areaSegs slot a).foldl (fun s g =>
      let b := sealSeg (s.keyBytes k) ⟨model, a.layer, a.expert, ep⟩ gen a.lregion g.1 g.2.1 g.2.2
      (s.sendJobOn slot (s.rd pWSP WSP_KEYSLOT_SPORT k) 1 (s.rd pWSP WSP_KEYSLOT_ENDPOINT k) b).bump pWSP WSP_C_SEGMENTS_OUT) s) s
    let u := s.upd slot
    s.setUpd slot { u with egress := u.egress ++ [(model, ep)], begun := (model, ep) :: u.begun }

/-! ### Publication (R224–R226) -/

/-- Publish the pending models of a step whose areas WROTE (R225), then begin their egress. -/
def State.publish (s : State) (slot : Nat) (pubs : List (Nat × Nat × Nat)) (wrote : List Nat) : State :=
  let models := ((pubs.map (·.1)).eraseDups).filter wrote.contains
  models.foldl (fun s model =>
    match s.keyOf slot model with
    | none => s
    | some k =>
      let ep := (s.epochPub k + 1) % 2 ^ 32
      let u := s.upd slot
      let top := (u.top.find? (·.1 == model)).map (·.2)
      let new := match top with | some t => decide (t < ep) | none => true
      let s := s.wr pWSP WSP_KEYSLOT_EPOCH_PUB ep k
      let s := if new then
          (s.wr pWSP WSP_KEYSLOT_GEN_OUT 0 k).setUpd slot { u with top := (model, ep) :: u.top.filter (·.1 != model) }
        else s
      let s := ((s.raiseEvt pWSP WSP_EVT_STATUS_PUBLISHED).bump pUPD UPD_C_PUBLICATIONS).epochReached slot model
      let ranges := (pubs.filter (·.1 == model)).map (·.2)
      let skew := (s.areas slot).any fun x =>
        let a := s.area slot x.2
        a.model == model && ranges.any (fun q => decide (q.1 ≤ a.layer) && decide (a.layer ≤ q.2))
          && s.rd pUPD UPD_AREA_C_EPOCH x.1 != ep
      let s := if skew then s.updFault slot 255 UPD_ERR_STATUS_EPOCH_SKEW else s
      let u := s.upd slot
      (s.setUpd slot { u with lastPub := u.lastPub ++ [model] }).startEgress slot model ranges) s

/-- The publications that the staleness option put off to this release (R226). -/
def State.publishDue (s : State) (slot : Nat) : State :=
  let u := s.upd slot
  if u.due.isEmpty then s else (s.setUpd slot { u with due := [], dueWrote := [], lastPub := [] }).publish slot u.due u.dueWrote

/-! ### Commit and rollback (R221, R223) -/

/-- Rotate one area at a commit (event 4 of R221). -/
def State.commitArea (s : State) (slot entry i : Nat) : State :=
  let a := s.area slot i
  let s := (List.range a.rows).foldl (fun s r =>
    let t := s.jobBit slot (a.touchW r) (r % 8)
    let s := if t then s.jobWrite slot (a.selOff r) (leBytes 1 (s.wSel slot a r + 4 * s.cSel slot a r)) else s
    (s.setJobBit slot (a.touchC r) (r % 8) t).setJobBit slot (a.touchW r) (r % 8) false) s
  let w := s.rd pUPD UPD_AREA_WROTE entry
  s.wrs pUPD [(UPD_AREA_C_EPOCH, s.rd pUPD UPD_AREA_C_EPOCH entry + w), (UPD_AREA_P_VALID, w), (UPD_AREA_WROTE, 0),
    (UPD_AREA_ROWS_TOUCHED, 0)] entry

/-- The commit of step `count` (R221). Under the staleness option its publication is put off to the next release; a last step
publishes at its own commit, after the step before it (R226). -/
def State.updCommit (s : State) (slot count : Nat) (last : Bool) : State :=
  let s := if last then s.publishDue slot else s
  let u := s.upd slot
  let wrote := (((s.areas slot).filter fun x => s.rd pUPD UPD_AREA_WROTE x.1 == 1).map fun x => (s.area slot x.2).model).eraseDups
  let pubs := (u.pubs.filter (·.1 == count)).map (·.2)
  let rest := u.pubs.filter (·.1 != count)
  let mseq := s.rd pUPD UPD_JOB_MSEQ slot
  let s := s.mirrorCast slot 4 count
  let s := (s.areas slot).foldl (fun s x => s.commitArea slot x.1 x.2) s
  let s := ((s.wrs pUPD [(UPD_JOB_COMMITTED_STEP, count), (UPD_JOB_READY, 0), (UPD_JOB_MSEQ, (mseq + 1) % 2 ^ 32)] slot).raiseEvt
    pUPD UPD_EVT_STATUS_COMMITTED).bump pUPD UPD_C_COMMITS
  let out := u.out.filter fun o => o.step != count
  if s.stale slot && !last then
    s.setUpd slot { s.upd slot with
      pubs := rest, ran := [], due := pubs, dueWrote := wrote, lastPub := [], out := out, fullMirror := false }
  else
    (s.setUpd slot { s.upd slot with pubs := rest, ran := [], lastPub := [], out := out, fullMirror := false }).publish slot pubs wrote

/-- Whether a queued message carries a segment of one of these (model, epoch) (R188). -/
def QMsg.segOf (m : QMsg) (key : Word) (gone : List (Nat × Nat)) : Bool :=
  m.cls == 1 && m.key == key && byteAt m.body 0 == 0x57 && byteAt m.body 1 == 0 && gone.contains (leAt m.body 2 2, leAt m.body 8 4)

/-- The egress of these (model, epoch) stops: what waits at a port of the job is not sent (R225). -/
def State.stopEgress (s : State) (slot : Nat) (gone : List (Nat × Nat)) : State :=
  let key := s.partKey slot
  let s := { s with unrouted := s.unrouted.filter fun x => !(x.1 == slot && x.2.segOf key gone) }
  let s := (s.jobPorts slot).foldl (fun s p =>
    let l := s.link p
    s.setLink p { l with queue := l.queue.filter fun m => !m.segOf key gone }) s
  let u := s.upd slot
  s.setUpd slot { u with egress := u.egress.filter fun x => !gone.contains x }

/-- Withdraw the epochs that the last commit published (R225). -/
def State.withdraw (s : State) (slot : Nat) : State :=
  let u := s.upd slot
  let s := u.lastPub.foldl (fun s model =>
    match s.keyOf slot model with
    | none => s
    | some k =>
      let ep := s.epochPub k
      let gen := s.rd pWSP WSP_KEYSLOT_GEN_OUT k
      let s := s.wr pWSP WSP_KEYSLOT_EPOCH_PUB ((ep + 2 ^ 32 - 1) % 2 ^ 32) k
      if !u.begun.contains (model, ep) then s
      else if gen = 255 then s.updFault slot 255 UPD_ERR_STATUS_GEN_EXHAUSTED
      else s.wr pWSP WSP_KEYSLOT_GEN_OUT (gen + 1) k) s
  let gone := u.lastPub.filterMap fun m => (s.keyOf slot m).map fun k => (m, (s.epochPub k + 1) % 2 ^ 32)
  let s := s.stopEgress slot gone
  s.setUpd slot { s.upd slot with lastPub := [], due := [], dueWrote := [] }

/-- The rollback of the step last committed (R223), after the attempt has ended under R222; with no area holding
P_VALID it changes nothing. -/
def State.updRollback (s : State) (slot : Nat) : State :=
  let k := s.rd pUPD UPD_JOB_COMMITTED_STEP slot
  if !(s.areas slot).any (fun x => s.rd pUPD UPD_AREA_P_VALID x.1 == 1) then s else
  let s := (s.areas slot).foldl (fun s x =>
    if s.rd pUPD UPD_AREA_P_VALID x.1 = 0 then s
    else
      let a := s.area slot x.2
      let s := (List.range a.rows).foldl (fun s r =>
        let s := if s.jobBit slot (a.touchC r) (r % 8) then
            -- C takes P's image; W stays the third image beside them
            s.jobWrite slot (a.selOff r) (leBytes 1 (s.pSel slot a r + 4 * s.cSel slot a r))
          else s
        s.setJobBit slot (a.touchC r) (r % 8) false) s
      s.wrs pUPD [(UPD_AREA_C_EPOCH, s.rd pUPD UPD_AREA_C_EPOCH x.1 + 2 ^ 32 - 1), (UPD_AREA_P_VALID, 0)] x.1) s
  let s := s.wr pUPD UPD_JOB_COMMITTED_STEP (k + 2 ^ 32 - 1) slot
  let s := s.withdraw slot
  let s := s.mirrorCast slot 5 k
  (s.raiseEvt pUPD UPD_EVT_STATUS_ROLLED_BACK).bump pUPD UPD_C_ROLLBACKS

/-! ### Restores (R233, R281) -/

/-- Ask a holder for an area's image of the step last committed (R233). -/
def State.askRestore (s : State) (slot entry owner area dst : Nat) : State :=
  let step := s.rd pUPD UPD_JOB_COMMITTED_STEP slot
  let u := s.upd slot
  let s := s.setUpd slot { u with restores := u.restores.filter (fun x => x.entry != entry) ++ [⟨entry, owner, area, step, [], dst⟩] }
  s.mirrorMsg slot dst ⟨6, owner, area, step, s.rd pUPD UPD_JOB_MSEQ slot, 0, 0, 0⟩ []

/-- Put a received stream into image 0 of an area, every row with C_SEL 0 and P_SEL 1 (R233). -/
def State.installArea (s : State) (slot entry i : Nat) (stream : List Byte) : State :=
  let a := s.area slot i
  let s := if a.rule = 2 then (s.jobWrite slot a.state (stream.take a.ss)).jobWrite slot a.block ((stream.drop a.ss).take a.bs)
    else
      let len := stream.length / max 1 a.rows
      (List.range a.rows).foldl (fun s r =>
        let b := (stream.drop (r * len)).take len
        let n := if a.rule = 1 then 3 else 2
        let s := (List.range n).foldl (fun s k => s.jobWrite slot (a.arrayAt 0 k r) ((b.drop (k * 4 * a.rowLen)).take (4 * a.rowLen))) s
        let b := b.drop (n * 4 * a.rowLen)
        (s.jobWrite slot (a.state + a.recOff + 4 * r) (b.take 4)).jobWrite slot (a.block + 33 * a.rowBlocks * r) (b.drop 4)) s
  let s := (List.range a.rows).foldl (fun s r => s.jobWrite slot (a.selOff r) [4#8]) s
  let s := (List.range ((a.rows + 7) / 8)).foldl (fun s k =>
    (s.jobWrite slot (a.touchW (8 * k)) [0#8]).jobWrite slot (a.touchC (8 * k)) [0#8]) s
  let ep := match s.keyOf slot a.model with | some k => s.epochPub k | none => 0
  let s := (s.wrs pUPD [(UPD_AREA_C_EPOCH, ep), (UPD_AREA_INIT_DONE, 1), (UPD_AREA_P_VALID, 0), (UPD_AREA_WROTE, 0)] entry).raiseEvt
    pUPD UPD_EVT_STATUS_RESTORED
  s.bump pUPD UPD_C_RESTORES

/-- A model's key has been installed: C_EPOCH of its areas (R214). -/
def State.updKeyInstalled (s : State) (slot model : Nat) : State :=
  match s.keyOf slot model with
  | none => s
  | some k => (s.areas slot).foldl (fun s x =>
      if (s.area slot x.2).model = model then s.wr pUPD UPD_AREA_C_EPOCH (s.epochPub k) x.1 else s) s

end Sys2Proof.Machine
end

