-- ==== Sys2Proof/Machine/Update.lean ====
section
/-! DEFINITION. The update commands (R215, R216, R224, R227, R230–R233): UPD, EPOCH with OP PUBLISH, the run of a UPD, egress,
the holder's side of mirroring, and restores. -/

namespace Sys2Proof.Machine

/-! ### UPD and EPOCH (R215, R224) -/

/-- The entry of a job's area at a STATE_ADDR. -/
def State.areaBy (s : State) (slot addr : Nat) : Option (Nat × Nat) := (s.areas slot).find? fun x => (s.area slot x.2).state == addr

/-- The issue checks of UPD (R123, R215). -/
def updIssue (c : Cmd) : Issue :=
  let rule := c.w 0 18 16
  { badField := malformed c [(20, 16), (31, 24)] [(40, 0)] [(40, 0)] [(51, 0)] || decide (3 < rule)
      || (c.w 0 19 19 == 1 && rule != 0) || decide (255 < c.w 0 31 24 + ruleSlots rule - 1),
    inSpan := false, inDef := false, cls := 64, block := some pUPD }

/-- The parameters that a UPD reads from PARAM_SLOT at its issue (R215). -/
def State.updParams (s : State) (r : Nat) (c : Cmd) : List Nat :=
  (List.range (ruleSlots (c.w 0 18 16))).map fun k => s.rd (regPage r) REG_PARAM_SLOT_VALUE (c.w 0 31 24 + k)

/-- Whether an area has the rule, the options, the length and the blocks that a UPD names (R215). -/
def State.areaMatches (s : State) (slot ix : Nat) (c : Cmd) : Bool :=
  let x := s.area slot ix
  x.rule == c.w 0 18 16 && b2n x.nesterov == c.w 0 19 19 && b2n x.sr == c.w 0 20 20 && x.blocks == c.w 3 31 0
    && x.block == c.w 2 40 0

/-- Queue a UPD of a job for an area (R215). -/
def State.queueUpd (s : State) (a : At) (c : Cmd) (e : Nat) : State :=
  let slot := s.jobOf a.r
  let u := s.upd slot
  let q : UpdCmd := ⟨u.nextId, a.r, s.lastId a.r, e, s.updParams a.r c, c.w 3 51 32, s.rd (regPage a.r) REG_STEP_STATUS_STEP,
    s.rd (regPage a.r) REG_STEP_COUNT_COUNT, a.ix, false⟩
  s.setUpd slot { u with queue := u.queue ++ [q], nextId := u.nextId + 1 }

/-- Whether a step restart kept an area's W images: a UPD of this very step has written them (R341). -/
def State.updKept (s : State) (slot e count : Nat) : Bool :=
  s.rd pUPD UPD_AREA_WROTE e == 1 && (s.upd slot).ran.any fun c => c.area == e && c.count == count

/-- What a UPD that has issued does (R215). For an area that a step restart kept it completes without effect (R341); every
other UPD waits in the engine, under the staleness option for the commit before it as well (R216, R229). -/
def State.startUpd (s : State) (a : At) (c : Cmd) : State :=
  let slot := s.jobOf a.r
  let id := s.lastId a.r
  match s.areaBy slot (c.w 1 40 0) with
  | none => (s.finish a.r id 64).updCmdFault slot a.r a.ix UPD_ERR_STATUS_BAD_AREA
  | some (e, ix) =>
    if !s.areaMatches slot ix c then (s.finish a.r id 64).updCmdFault slot a.r a.ix UPD_ERR_STATUS_BAD_AREA
    else if !paramsOk (c.w 0 18 16) (s.updParams a.r c) then (s.finish a.r id 64).updCmdFault slot a.r a.ix UPD_ERR_STATUS_BAD_PARAM
    else if s.updKept slot e (s.rd (regPage a.r) REG_STEP_COUNT_COUNT) then s.finish a.r id 64
    else s.queueUpd a c e

/-- UPD (R215). -/
def execUpd (r : RegionIx) (deferred : Bool) (c : Cmd) (s : State) : Host.Outcome State Fault Refusal :=
  keep s (s.issue r deferred c 0x70 (updIssue c) fun a s => s.startUpd a c)

/-- EPOCH_PUBLISH (R224). -/
def execEpochPublish (r : RegionIx) (deferred : Bool) (c : Cmd) (s : State) : Host.Outcome State Fault Refusal :=
  keep s (if c.w 0 17 16 ≠ 1 then s else s.issue r deferred c 0x72 (epochIssue c pUPD) fun a s =>
    let u := s.upd (s.jobOf a.r)
    s.setUpd (s.jobOf a.r) { u with
      pubs := u.pubs ++ [(s.rd (regPage a.r) REG_STEP_COUNT_COUNT, c.w 0 47 32, c.w 1 15 0, c.w 1 31 16)] })

/-- A queued UPD leaves the engine and its command completes. -/
def State.updDone (s : State) (slot : Nat) (c : UpdCmd) : State :=
  let u := s.upd slot
  ((s.setUpd slot { u with queue := u.queue.filter fun x => x.id != c.id }).finish c.region c.outId 64).checkReady slot

/-- A UPD waits under the staleness option: counted once (R216). -/
def State.updWaits (s : State) (slot : Nat) (c : UpdCmd) : State :=
  if c.waited then s
  else
    let u := s.upd slot
    (s.setUpd slot { u with queue := u.queue.map fun x => if x.id = c.id then { x with waited := true } else x }).bump pUPD UPD_C_STALE_WAITS

/-- UPD_RUN (R216): UPD number n of slot j is named 16 n + j. -/
def execUpdRun (upd : Nat) (s : State) : Host.Outcome State Fault Refusal :=
  let slot := upd % 16
  keepQ s (match (s.upd slot).queue.find? fun c => c.id == upd / 16 with
  | none => s
  | some c =>
    match s.bucket slot c.tag c.step, (s.areas slot).find? fun x => x.1 == c.area with
    | some b, some (e, ix) =>
      if s.stale slot && s.nextCommit slot != c.count then s.updWaits slot c
      else if s.rd pUPD UPD_AREA_INIT_DONE e = 0 then s
      else if b.done = 2 then (s.bump pUPD UPD_C_UPD_SKIPS).updDone slot c
      else if !b.handed then s
      else match s.localResult slot b with
        | none => s
        | some (lanes, nb) =>
          if nb = 0 then (s.bump pUPD UPD_C_UPD_SKIPS).updDone slot c
          else
            -- kept for a redo under R222, which runs it again without a new issue
            let u := s.upd slot
            let s := s.setUpd slot { u with ran := u.ran.filter (fun x => x.area != c.area) ++ [c] }
            (s.updArea slot c e ix b lanes nb).updDone slot c
    | _, _ => s)

/-- A bucket has a new local result after a failed vote: every area that read it is updated again from C (R222). -/
def State.updRedo (s : State) (slot : Nat) (b : Bucket) : State :=
  match s.localResult slot b with
  | none => s
  | some (lanes, nb) =>
    let u := s.upd slot
    let s := s.setUpd slot { u with redo := u.redo.filter (· != (b.tag, b.step)) }
    ((s.upd slot).ran.filter fun c => c.tag == b.tag && c.step == b.step).foldl (fun s c =>
      match (s.areas slot).find? fun x => x.1 == c.area with
      | none => s
      | some (e, ix) => ((s.dropAreaW slot e ix).updArea slot c e ix b lanes nb).bump pUPD UPD_C_REDOS) s

/-- The start of a redo: the areas' W images go, what they mirrored with them, and MSEQ advances; the step is not ready until the
redo has run (R222). -/
def State.updRedoStart (s : State) (slot tag step : Nat) : State :=
  let mine := (s.upd slot).ran.filter fun c => c.tag == tag && c.step == step
  if mine.isEmpty then s
  else
    let s := mine.foldl (fun s c => match (s.areas slot).find? fun x => x.1 == c.area with
      | some (e, ix) => s.dropAreaW slot e ix
      | none => s) s
    let gone := (s.areas slot).filterMap fun x => if mine.any fun c => c.area == x.1 then some x.2 else none
    let u := s.upd slot
    let s := s.setUpd slot { u with
      redo := u.redo.filter (· != (tag, step)) ++ [(tag, step)], out := u.out.filter fun o => !gone.contains o.area }
    s.wrs pUPD [(UPD_JOB_READY, 0), (UPD_JOB_MSEQ, (s.rd pUPD UPD_JOB_MSEQ slot + 1) % 2 ^ 32)] slot

/-! ### Egress (R227) -/

/-- Whether a last step waits for nothing but its egress, and none is left. -/
def State.lastEgress (s : State) (slot : Nat) : State :=
  if (s.job slot).lastDone && (s.upd slot).egress.isEmpty then
    if (s.upd slot).egressFail then s.abortFault slot else s.endJob slot 0x40 0
  else s

/-- EGRESS_DONE (R227). -/
def execEgressDone (slot : SlotIx) (model epoch : Nat) (s : State) : Host.Outcome State Fault Refusal :=
  let u := s.upd slot
  keep s (if u.egress.contains (model, epoch) then
    (s.setUpd slot { u with egress := u.egress.filter (· != (model, epoch)) }).lastEgress slot else s)

/-- EGRESS_TIMEOUT (R227). -/
def execEgressTimeout (slot : SlotIx) (model epoch : Nat) (s : State) : Host.Outcome State Fault Refusal :=
  let u := s.upd slot
  keep s (if u.egress.contains (model, epoch) then
    let s := s.setUpd slot { u with egress := u.egress.filter (· != (model, epoch)), egressFail := (s.job slot).lastDone }
    let s := (s.raiseErr pUPD UPD_ERR_STATUS_EGRESS_FAIL).reportOn .load 255 pUPD UPD_ERR_STATUS_EGRESS_FAIL slot
    s.lastEgress slot else s)

/-! ### The holder (R232) -/

/-- The place of an owner in OWNERS (R212). -/
def State.ownerPlace (s : State) (slot owner : Nat) : Option Nat :=
  (List.range 4).find? fun k => s.jobNat slot (s.areaTable slot + 40 + 2 * k) 2 == owner && owner != 0xFFFF

/-- Bytes of an image. -/
def HeldImg.size (h : HeldImg) : Nat := (h.segs.map fun g => g.2.length).sum

/-- Show what is held for the owners of a job (UPD.MIRROR_IN). -/
def State.showHeld (s : State) (slot : Nat) : State :=
  let held := (s.upd slot).held
  (List.range 4).foldl (fun s k =>
    let owner := s.jobNat slot (s.areaTable slot + 40 + 2 * k) 2
    let mine := held.filter fun h => h.owner == owner
    let stepOf := fun kind => ((mine.filter (·.kind == kind)).map (·.step)).foldl max 0
    if owner = 0xFFFF ∨ mine.isEmpty then s
    else s.wrs pUPD [(UPD_MIRROR_IN_VALID, 1), (UPD_MIRROR_IN_SLOT, slot), (UPD_MIRROR_IN_OWNER, owner),
      (UPD_MIRROR_IN_P_STEP, stepOf 2), (UPD_MIRROR_IN_C_STEP, stepOf 1), (UPD_MIRROR_IN_P_HELD, b2n (mine.any (·.kind == 2))),
      (UPD_MIRROR_IN_W_COMPLETE, b2n (mine.any (·.kind == 0) && mine.all fun h => h.kind != 0 || h.complete)),
      (UPD_MIRROR_IN_W_STEP, stepOf 0), (UPD_MIRROR_IN_BYTES_HELD, (mine.map HeldImg.size).sum)] k) s

/-- Replace the images held. -/
def State.setHeld (s : State) (slot : Nat) (l : List HeldImg) : State := (s.setUpd slot { s.upd slot with held := l }).showHeld slot

/-- The image of a kind (0 W, 1 C, 2 P) of an owner's area. -/
def heldOf (l : List HeldImg) (owner area kind : Nat) : Option HeldImg :=
  l.find? fun h => h.owner == owner && h.area == area && h.kind == kind

/-- The images without one. -/
def dropHeld (l : List HeldImg) (owner area kind : Nat) : List HeldImg :=
  l.filter fun h => !(h.owner == owner && h.area == area && h.kind == kind)

/-- Whether a segment more fits in MIRROR_IN space. -/
def State.mirrorRoom (s : State) (slot n : Nat) : Bool :=
  decide ((((s.upd slot).held.map HeldImg.size).sum) + n ≤ s.jobNat slot (s.areaTable slot + 32) 8)

/-- A SEG for the holder: into W of its STEP; a new STEP or MSEQ empties W first. -/
def State.holdSeg (s : State) (slot : Nat) (m : MirMsg) (pt : List Byte) : State :=
  let l := (s.upd slot).held
  let new : HeldImg := ⟨m.owner, m.area, 0, m.step, m.mseq, [], false⟩
  let w := match heldOf l m.owner m.area 0 with
    | some h => if h.step = m.step ∧ h.mseq = m.mseq then h else new
    | none => new
  let rest := dropHeld l m.owner m.area 0
  if !s.mirrorRoom slot pt.length then s.setHeld slot (rest ++ [w])
  else (s.setHeld slot (rest ++ [{ w with segs := w.segs.filter (fun g => g.1 != m.seg) ++ [(m.seg, pt)] }])).bump pUPD
    UPD_C_MIRROR_BYTES_IN pt.length

/-- C takes W at a COMMIT: W's segments over C's (DESIGN CHOICE, log 28). -/
def mergeImg (c : Option HeldImg) (w : HeldImg) : HeldImg :=
  let old := match c with | some c => c.segs.filter fun g => !w.segs.any fun x => x.1 == g.1 | none => []
  { w with kind := 1, segs := old ++ w.segs, complete := true }

/-- Rotate an owner's images at a COMMIT for a step. -/
def commitHeld (l : List HeldImg) (owner step : Nat) : List HeldImg :=
  (l.filter fun h => h.owner == owner && h.kind == 0 && h.step == step && h.complete).foldl (fun l w =>
    let c := heldOf l owner w.area 1
    let l := dropHeld (dropHeld (dropHeld l owner w.area 0) owner w.area 1) owner w.area 2
    l ++ (match c with | some c => [{ c with kind := 2 }] | none => []) ++ [mergeImg c w]) l

/-- C takes P at a ROLLBACK, where P exists. -/
def rollbackHeld (l : List HeldImg) (owner : Nat) : List HeldImg :=
  (l.filter fun h => h.owner == owner && h.kind == 2).foldl (fun l p =>
    dropHeld (dropHeld l owner p.area 1) owner p.area 2 ++ [{ p with kind := 1 }]) l

/-- Answer a mirror message to its sender. -/
def State.mirrorAnswer (s : State) (slot : Nat) (m : Msg) (x : MirMsg) (pt : List Byte) : State :=
  let k := (s.upd slot).mirrorKey
  s.sendJobOn slot m.port 3 m.src (x.seal k pt)

/-- A mirror message that passes the port's checks and its tag (R231). -/
def State.mirrorIn (s : State) (m : Msg) (op : Nat) (run : State → Nat → MirMsg → List Byte → State) : State :=
  match s.admitMsg m with
  | (s, none) => s
  | (s, some slot) =>
    if m.cls ≠ 3 then s
    else match parseMir m.body with
      | none => s
      | some (x, ct, tag) =>
        if x.op ≠ op then s
        else
          let k := (s.upd slot).mirrorKey
          match if k.isEmpty then none else gcmOpen k x.nonce (m.body.take 32) ct tag with
          | none => (s.raiseErr pUPD UPD_ERR_STATUS_MIRROR_TAG).bump pUPD UPD_C_MIRROR_TAG_FAILS
          | some pt => run s slot x pt

/-- MIRROR_SEG (R232): for the holder, or a segment of a restore (R233). -/
def execMirrorSeg (m : Msg) (s : State) : Host.Outcome State Fault Refusal :=
  keep s (s.mirrorIn m 1 fun s slot x pt =>
    if x.dir = 0 then match s.ownerPlace slot x.owner with
      | some _ => s.holdSeg slot x pt
      | none => s
    else
      let u := s.upd slot
      s.setUpd slot { u with restores := u.restores.map fun t =>
        if t.owner = x.owner ∧ t.area = x.area ∧ t.step = x.step then
          { t with segs := t.segs.filter (fun g => g.1 != x.seg) ++ [(x.seg, pt)] } else t })

/-- MIRROR_DONE (R232, R344). -/
def execMirrorDone (m : Msg) (s : State) : Host.Outcome State Fault Refusal :=
  keep s (s.mirrorIn m 2 fun s slot x _ =>
    let l := (s.upd slot).held
    let ack := fun (s : State) st => s.mirrorAnswer slot m { x with op := 3, dir := 1, status := st } []
    if (s.ownerPlace slot x.owner).isNone then ack s 2
    else if (s.upd slot).rebuild.any fun r => r.1 == x.owner then ack s 0
    else
      -- an attempt of which no segment has come holds none
      let w := match (heldOf l x.owner x.area 0).filter fun w => w.step == x.step && w.mseq == x.mseq with
        | some w => w
        | none => ⟨x.owner, x.area, 0, x.step, x.mseq, [], false⟩
      if w.segs.length = x.seg then ack (s.setHeld slot (dropHeld l x.owner x.area 0 ++ [{ w with complete := true }])) 0
      else ack s (if s.mirrorRoom slot 4096 then 1 else 3))

/-- MIRROR_COMMIT (R232). -/
def execMirrorCommit (m : Msg) (s : State) : Host.Outcome State Fault Refusal :=
  keep s (s.mirrorIn m 4 fun s slot x _ => s.setHeld slot (commitHeld (s.upd slot).held x.owner x.step))

/-- MIRROR_ROLLBACK (R232). -/
def execMirrorRollback (m : Msg) (s : State) : Host.Outcome State Fault Refusal :=
  keep s (s.mirrorIn m 5 fun s slot x _ => s.setHeld slot (rollbackHeld (s.upd slot).held x.owner))

/-- The image that answers a RESTORE_REQ: STEP s, preferring C, then complete W, then P. -/
def restoreImage (l : List HeldImg) (owner area step : Nat) : Option HeldImg :=
  ([1, 0, 2].filterMap fun k => heldOf l owner area k).find? fun h => h.step == step && (h.kind != 0 || h.complete)

/-- What a RESTORE_REQ does: the holder, or the member itself, streams the image that it asks for (R232, R233). -/
def State.takeRestoreReq (s : State) (slot : Nat) (m : Msg) (x : MirMsg) : State :=
  let u := s.upd slot
  if x.dir = 0 then
    let q := u.holdSeq
    let s := s.setUpd slot { u with holdSeq := (q + 1) % 2 ^ 32 }
    let img := if u.rebuild.any (fun r => r.1 == x.owner) then none else restoreImage u.held x.owner x.area x.step
    match img with
    | none => s.mirrorAnswer slot m ⟨7, x.owner, x.area, x.step, q, 0, 1, 2⟩ []
    | some h =>
      let s := h.segs.foldl (fun s g => s.mirrorAnswer slot m ⟨1, x.owner, x.area, x.step, q, g.1, 1, 0⟩ g.2) s
      s.mirrorAnswer slot m ⟨7, x.owner, x.area, x.step, q, h.segs.length, 1, 0⟩ []
  else match (s.areas slot).find? fun y => s.mirrorName slot y.2 == (x.owner, x.area) with
    | none => s
    | some (_, ix) =>
      let a := s.area slot ix
      let q := (s.rd pUPD UPD_JOB_MSEQ slot + 1) % 2 ^ 32
      let s := s.wr pUPD UPD_JOB_MSEQ q slot
      let segs := s.mirrorSegs slot a (s.cSel slot a) (List.range a.rows)
      let s := segs.foldl (fun s g => s.mirrorAnswer slot m ⟨1, x.owner, x.area, x.step, q, g.1, 0, 0⟩ g.2) s
      s.mirrorAnswer slot m ⟨7, x.owner, x.area, x.step, q, segs.length, 0, 0⟩ []

/-- RESTORE_REQ (R232, R344): as holder, or as owner of images that a holder rebuilds. -/
def execRestoreReq (m : Msg) (s : State) : Host.Outcome State Fault Refusal :=
  keep s (s.mirrorIn m 6 fun s slot x _ => s.takeRestoreReq slot m x)

/-- A restore that cannot be completed (R233, R281). -/
def State.initFail (s : State) (slot : Nat) : State :=
  (s.raiseErr pUPD UPD_ERR_STATUS_INIT_FAIL).reportOn .load 255 pUPD UPD_ERR_STATUS_INIT_FAIL slot

/-- The bytes of segments in order, if none is missing. -/
def segStream (l : List (Nat × List Byte)) (n : Nat) : Option (List Byte) :=
  let gs := (List.range n).map fun k => (l.find? (·.1 == k)).map (·.2)
  if gs.any (·.isNone) then none else some ((gs.filterMap id).flatten)

/-- RESTORE_END (R233, R344). -/
def execRestoreEnd (m : Msg) (s : State) : Host.Outcome State Fault Refusal :=
  keepQ s (s.mirrorIn m 7 fun s slot x _ =>
    let u := s.upd slot
    if x.dir = 1 then match u.restores.find? fun t => t.owner == x.owner && t.area == x.area && t.step == x.step with
      | none => s
      | some t =>
        let drop := fun (s : State) => s.setUpd slot { u with restores := u.restores.filter (· != t) }
        if x.status ≠ 0 then (drop s).initFail slot
        else match segStream t.segs x.seg, (s.areas slot).find? (·.1 == t.entry) with
          | some b, some (e, ix) => ((drop s).installArea slot e ix b).checkReady slot
          | _, _ => s
    else match heldOf u.held x.owner x.area 0 with
      | some w =>
        if w.segs.length = x.seg then
          let l := dropHeld (dropHeld u.held x.owner x.area 0) x.owner x.area 1
          (s.setUpd slot { u with rebuild := u.rebuild.filter (· != (x.owner, x.area)) }).setHeld slot
            (l ++ [{ w with kind := 1, complete := true }])
        else s
      | none => s)

/-- INIT_TIMEOUT (R233): a restore of the area with this index has not completed. -/
def execInitTimeout (slot : SlotIx) (area : Nat) (s : State) : Host.Outcome State Fault Refusal :=
  let u := s.upd slot
  keep s (match (s.areas slot).find? fun x => x.2 == area with
  | none => s
  | some (e, _) =>
    if u.restores.any fun t => t.entry == e then
      (s.setUpd slot { u with restores := u.restores.filter fun t => t.entry != e }).initFail slot
    else s)

end Sys2Proof.Machine
end

