-- ==== Sys2Proof/Machine/Coll.lean ====
section
/-! DEFINITION. The collective engine's protocol (R236–R261): how buckets open, COLL and VDRAIN with FORM CE, votes, the lanes of
each level, results and digests, movement, re-reduction and aborts. -/

namespace Sys2Proof.Machine

/-! ### Opening and closing buckets (R236, R243) -/

/-- A program fault of the CE for a region's command: refused with BAD_DESC (R239). -/
def State.ceFault (s : State) (a : At) (f : Fld) : State :=
  ((s.haltAt a.r a.d a.ix f.lo).raiseErr pCE f).reportOn .program a.r pCE f (s.jobOf a.r)

/-- Whether a step is a send step of a bucket (R243). -/
def sendStep (desc : List Byte) (count : Nat) : Bool := count % max 1 (byteAt desc 18) == byteAt desc 19

/-- The descriptor bytes of a tag. -/
def State.descOf (s : State) (slot tag : Nat) : Option (List Byte) := (s.descOff slot tag).map fun d => s.jobRead slot d 32

/-- Whether a job may open one more bucket. -/
def State.bucketRoom (s : State) (slot : Nat) : Bool := decide ((s.ce slot).buckets.length < s.docketAt slot 94 2)

/-- Open a bucket in the lowest free entry. -/
def State.openBucket (s : State) (slot tag step : Nat) (desc : List Byte) : State × Bucket :=
  let e := ((List.range 4096).find? fun e => s.rd pCE CE_BUCKET_VALID e == 0).getD 0
  let b : Bucket := { entry := e, tag := tag, step := step, gepoch := s.gepoch slot, tune := s.rd pCE CE_TUNE_CHUNK, desc := desc }
  let v := s.ce slot
  let s := if v.buckets.isEmpty then s.wr pCE CE_JOB_BARRIER 0 slot else s
  (((s.setCe slot { v with buckets := v.buckets ++ [b] }).showBucket slot b).showCe slot, b)

/-- End buckets: their entries are cleared (R236). -/
def State.closeBuckets (s : State) (slot : Nat) (which : Bucket → Bool) : State :=
  let v := s.ce slot
  let s := (v.buckets.filter which).foldl (fun s b => s.initRegs pCE (0x8000 + 8 * b.entry) 1) s
  let left := v.buckets.filter fun b => !which b
  (s.setCe slot { v with
    buckets := left, line := v.line.filter (fun x => left.any fun b => b.tag == x.1 && b.step == x.2), held := [] }).showCe slot

/-- The held count of a bucket (R243). -/
def State.heldCount (s : State) (slot tag : Nat) : HeldCount :=
  ((s.ce slot).counts.find? fun h => h.tag == tag).getD { tag := tag }

/-- Replace a held count. -/
def State.setHeldCount (s : State) (slot : Nat) (h : HeldCount) : State :=
  let v := s.ce slot
  s.setCe slot { v with counts := v.counts.filter (fun x => x.tag != h.tag) ++ [h] }

/-- The held counts at a commit, at the end of an attempt without one, and at a rollback (R243, R208, R209). -/
def HeldCount.commit (h : HeldCount) : HeldCount := match h.w with | some w => ⟨h.tag, w, some h.c, none⟩ | none => { h with p := none }
def HeldCount.drop (h : HeldCount) : HeldCount := { h with w := none }
def HeldCount.rollback (h : HeldCount) : HeldCount := match h.p with | some p => ⟨h.tag, p, none, none⟩ | none => { h with w := none }

/-- Apply one of them to every held count of a job. -/
def State.mapCounts (s : State) (slot : Nat) (f : HeldCount → HeldCount) : State :=
  s.setCe slot { s.ce slot with counts := (s.ce slot).counts.map f }

/-! ### Aborts (R251) -/

/-- The bit of an abort's cause. -/
def abortBit (cause : Nat) : Fld := match cause with | 1 => CE_ERR_STATUS_MISMATCH | 6 => CE_ERR_STATUS_RETAIN_FULL | _ => CE_ERR_STATUS_HEADROOM

/-- Record a bucket in CE.LAST_ABORT. -/
def State.lastAbort (s : State) (slot : Nat) (b : Bucket) (cause : Nat) : State :=
  s.wrs pCE [(CE_LAST_ABORT_TAG, b.tag), (CE_LAST_ABORT_GEPOCH, b.gepoch), (CE_LAST_ABORT_STEP, b.step), (CE_LAST_ABORT_SLOT, slot),
    (CE_LAST_ABORT_CAUSE, cause)]

/-- End the COLLs of a bucket in its regions. -/
def State.endColls (s : State) (b : Bucket) : State := b.colls.foldl (fun s c => s.finish c.region c.outId 32) s

/-- The SRAM that a bucket's results have been written to, as (region, tile, address, length). -/
def State.resultRanges (s : State) (slot : Nat) (b : Bucket) : List (Nat × Nat × Nat × Nat) :=
  b.colls.flatMap fun c => match s.mapEntry slot b.mapOff (s.logical c.region) with
    | none => []
    | some (base, per, rect) =>
      if b.op ≠ 0 then (rectTiles rect).map fun t => (c.region, t, c.addr, per)
      else
        let n := blockElems b.fmt b.bs16
        let m := blockBytes b.fmt b.bs16
        let own := (s.ownParts slot b).map fun a => s.bPart slot b b.top a
        (rectTiles rect).zipIdx.flatMap fun t =>
          ((List.range ((per + n - 1) / n)).filter fun k =>
            let lo := base + per * t.2 + n * k
            own.any fun p => decide (max p.1 lo < min p.2 (min (lo + n) (base + per * (t.2 + 1))))).map fun k => (c.region, t.1, c.addr + m * k, m)

/-- What an aborted bucket had written there is not specified any more (R251; log 9). -/
def State.freeResults (s : State) (slot : Nat) (b : Bucket) : State :=
  if (if b.op = 0 then b.type ≠ 0 ∧ b.handed = true else b.done = 1) then
    (s.resultRanges slot b).foldl (fun s x => let (v, s) := s.drawBytes x.2.2.2; s.sramWrite x.1 x.2.1 x.2.2.1 v) s
  else s

/-- Abort a bucket here (R251); ABORT goes to the members of the given levels. -/
def State.abortBucket (s : State) (slot : Nat) (b : Bucket) (cause : Nat) (levels : List Nat) : State :=
  if b.done = 3 then s
  else
    let f := abortBit cause
    let s := s.freeResults slot b
    let s := (levels.filter b.has).foldl (fun s l => s.castCPkt slot b.group l
      { s.bPkt slot b 4 l (s.bSelf slot b l) 0xFFFF with cause := cause, chunk := 0xFFFFFFFF }) s
    let s := (s.raiseErr pCE f).lastAbort slot b cause
    let s := (s.bump pCE CE_C_ABORTS).reportOn .program ((b.colls.head?.map (·.region)).getD 255) pCE f slot
    (s.endColls b).setBucket slot { b with contribs := [], data := [], results := [], sent := [], digests := [], done := 3 }

/-! ### Votes (R244) -/

/-- Use the bucket as it stands now. -/
def State.withB (s : State) (slot tag step : Nat) (f : State → Bucket → State) : State :=
  match s.bucket slot tag step with | some b => if b.done = 3 then s else f s b | none => s

/-- Send a level's votes: the own exponent and count for the own rank, −32,768 and the count of R268 for carried ranks. They go to
rank 0, or to the stream switch on PATH 1; what this module combines itself is recorded. -/
def State.castVotes (s : State) (slot : Nat) (b : Bucket) (lvl : Nat) (e : Int) (nb : Nat) : State :=
  let me := s.bSelf slot b lvl
  let played := s.bPlayed slot b lvl
  let switched := lvl == 2 && b.path == 1
  let votes := played.map fun k => if k = me then (lvl, k, e, nb) else (lvl, k, (-32768 : Int), if bit b.nsum lvl then 0 else nb)
  let s := if switched || !played.contains 0 then votes.foldl (fun s v => s.sendCPkt slot b.group lvl 0
      { s.bPkt slot b 1 lvl v.2.1 0 with chunk := 0xFFFFFFFF, exp := v.2.2.1, nb := v.2.2.2 }) s else s
  if switched then s else s.withB slot b.tag b.step fun s b => s.setBucket slot { b with votes := b.votes ++ votes }

/-- At a combining CE: the maximum and the combined count (R242), when every member has voted, which go back to all of them. -/
def State.combineVotes (s : State) (slot : Nat) (b : Bucket) (lvl : Nat) : State × Option (Int × Nat) :=
  let n := s.bMembers slot b lvl
  let vs := b.votes.filter fun v => v.1 == lvl
  if (b.exps.any (·.1 == lvl)) || !(s.bPlayed slot b lvl).contains 0 || !((List.range n).all fun k => vs.any fun v => v.2.1 == k) then
    (s, none)
  else
    let e := (vs.map (·.2.2.1)).foldl max (-32768)
    let nbs := vs.map (·.2.2.2)
    let nb := if bit b.nsum lvl then nbs.sum else nbs.headD 0
    if !bit b.nsum lvl && nbs.any (· != nb) then (s.abortBucket slot b 2 [1, 2], none)
    else (s.castCPkt slot b.group lvl { s.bPkt slot b 1 lvl 0 0xFFFF with chunk := 0xFFFFFFFF, exp := e, nb := nb }, some (e, nb))

/-! ### Sums (R245) -/

/-- Add a DATA or local chunk to a bucket. -/
def Bucket.addData (b : Bucket) (c : Chunk) : Bucket :=
  if b.data.any fun x => x.level == c.level && x.part == c.part && x.chunk == c.chunk && x.src == c.src then b
  else { b with data := b.data ++ [c] }

/-- Send one chunk of a level to the owner of its part, for every rank this module plays: the lanes for its own rank, zeros
for carried ranks (R268). -/
def State.sendChunk (s : State) (slot : Nat) (b : Bucket) (c : Chunk) : State :=
  let me := s.bSelf slot b c.level
  let played := s.bPlayed slot b c.level
  let switched := c.level == 2 && b.path == 1
  played.foldl (fun s k =>
    let x := if k = me then { c with src := k }
      else { c with src := k, lanes := c.lanes.map fun _ => 0, ovl := 0, nb := if bit b.nsum c.level then 0 else c.nb }
    if !switched && played.contains c.part then s.withB slot b.tag b.step fun s b => s.setBucket slot (b.addData x)
    else
      let lb := laneBytesOf b c.level
      (s.sendCPkt slot b.group c.level c.part { s.bPkt slot b 2 c.level k c.part with
        laneBytes := lb, chunk := c.chunk, lanes := c.lanes.length, ovl := x.ovl, nb := x.nb,
        payload := lanePayload b lb x.lanes }).bump pCE (if c.level = 1 then CE_C_CHUNKS_OUT_L1 else CE_C_CHUNKS_OUT_L2)) s

/-- Combine the members' chunks of one result: the abort cause of a broken rule, or the result (R242, R245). -/
def combineChunk (b : Bucket) (n : Nat) (lvl part c : Nat) : Option (Nat ⊕ Chunk) :=
  let ds := b.data.filter fun x => x.level == lvl && x.part == part && x.chunk == c
  if !((List.range n).all fun k => ds.any fun d => d.src == k) then none
  else
    let nbs := ds.map (·.nb)
    let ovl := (ds.map (·.ovl)).sum
    let len := (ds.map fun d => d.lanes.length).foldl max 0
    if lvl = 1 ∧ 2 ^ b.headroom < ovl then some (.inl 3)
    else if !bit b.nsum lvl && nbs.any (· != nbs.headD 0) then some (.inl 2)
    else some (.inr ⟨lvl, part, c, part, (List.range len).map fun i => (ds.map fun d => d.lanes.getD i 0).sum,
      if bit b.nsum lvl then nbs.sum else nbs.headD 0, ovl⟩)

/-- The owner forwards a result chunk to its witness on the CE path (R257). -/
def State.toWitness (s : State) (slot : Nat) (b : Bucket) (c : Chunk) : State :=
  let n := s.bMembers slot b c.level
  let w := (c.part + 1) % n
  if c.level ≠ b.top ∨ n = 1 ∨ (s.bPlayed slot b c.level).contains w then s
  else
    let lb := laneBytesOf b c.level
    s.sendCPkt slot b.group c.level w { s.bPkt slot b 3 c.level c.part c.part with
      laneBytes := lb, chunk := c.chunk, lanes := c.lanes.length, cnt := n, ovl := c.ovl, nb := c.nb, payload := lanePayload b lb c.lanes }

/-- Results of a level that the CE adds itself: every chunk of the parts this module owns whose inputs are all here. -/
def State.sumLevel (s : State) (slot tag step lvl : Nat) : State :=
  s.withB slot tag step fun s b =>
    (s.bPlayed slot b lvl).foldl (fun s a => (List.range (s.bChunks slot b lvl a)).foldl (fun s c =>
      s.withB slot tag step fun s b =>
        if (b.result lvl a c).isSome then s
        else match combineChunk b (s.bMembers slot b lvl) lvl a c with
          | none => s
          | some (.inl cause) => s.abortBucket slot b cause [1, 2]
          | some (.inr x) => (s.setBucket slot { b with results := b.results ++ [x] }).toWitness slot b x) s) s

/-- Every position range that a level's members send, in the order of R248, as (part, chunk). -/
def State.sendOrder (s : State) (slot : Nat) (b : Bucket) (lvl : Nat) : List (Nat × Nat) :=
  (s.bOrder slot b lvl).flatMap fun a => (List.range (s.bChunks slot b lvl a)).map fun c => (a, c)

/-- Send these chunks of a level in order, as far as they go: up to the first whose inputs are not complete, or whose queue is
full (R248, R249). -/
def State.feedChunks (slot tag step lvl : Nat) : List (Nat × Nat) → State → State
  | [], s => s
  | p :: ps, s => match s.bucket slot tag step with
    | none => s
    | some b =>
      if b.done = 3 then s
      else if b.sent.any fun x => x.level == lvl && x.part == p.1 && x.chunk == p.2 then State.feedChunks slot tag step lvl ps s
      else
        let (lo, hi) := s.bChunk slot b lvl p.1 p.2
        let src := if lvl = 2 then s.midLanes slot b lo hi else some (b.baseLanes lo hi, b.count, b.baseOvl lo hi)
        match src with
        | none => s
        | some (ls, nb, ovl) =>
          if (decide (lvl < 2) || !b.has 1) && decide (2 ^ b.headroom < b.baseOvl lo hi) then s.abortBucket slot b 3 [1, 2]
          else if s.ceFull slot b lvl p.1 then s.holdLevel slot lvl (1 + ps.length)
          else
            let x : Chunk := ⟨lvl, p.1, p.2, s.bSelf slot b lvl, ls, nb, ovl⟩
            State.feedChunks slot tag step lvl ps ((s.setBucket slot { b with sent := b.sent ++ [x] }).sendChunk slot b x)

/-- Whether a bucket may enter a level: every RS bucket whose level-0 input was complete before its own has entered it, or does
not go there (R248; of RS buckets only, DEDUCED, log 170). -/
def State.mayEnter (s : State) (slot : Nat) (b : Bucket) (lvl : Nat) : Bool :=
  ((s.ce slot).line.takeWhile (· != (b.tag, b.step))).all fun e => match s.bucket slot e.1 e.2 with
    | none => true
    | some x => x.op != 0 || x.done != 0 || !x.has lvl || x.sent.any (·.level == lvl) || (s.sendOrder slot x lvl).isEmpty

/-- Send the chunks of a level whose inputs are complete and that have not been sent. -/
def State.feedLevel (s : State) (slot tag step lvl : Nat) : State :=
  s.withB slot tag step fun s b =>
    if s.mayEnter slot b lvl then State.feedChunks slot tag step lvl (s.sendOrder slot b lvl) s else s

/-- A bucket that selects level 0 alone: its result is the level-0 sum. -/
def State.localSum (s : State) (slot tag step : Nat) : State :=
  s.withB slot tag step fun s b =>
    let cs := (List.range (s.bChunks slot b 0 0)).map fun c =>
      let (lo, hi) := s.bChunk slot b 0 0 c
      (⟨0, 0, c, 0, b.baseLanes lo hi, b.count, b.baseOvl lo hi⟩ : Chunk)
    if cs.any fun c => decide (2 ^ b.headroom < c.ovl) then s.abortBucket slot b 3 []
    else s.setBucket slot { b with results := cs }

/-- As witness, digest each part whose result chunks are all here and send it to the owner (R257). -/
def State.witness (s : State) (slot tag step : Nat) : State :=
  s.withB slot tag step fun s b =>
    let n := s.bMembers slot b b.top
    if n = 1 then s
    else
      let played := s.bPlayed slot b b.top
      ((List.range n).filter fun a => played.contains ((a + 1) % n)).foldl (fun s a => s.withB slot tag step fun s b =>
        if b.digests.any fun d => d.1 == b.top && d.2.1 == a && d.2.2.2 then s
        else match s.partLanes slot b a with
          | none => s
          | some (ls, nb) =>
            let d := resultDigest ls nb
            let s := s.setBucket slot { b with digests := b.digests ++ [(b.top, a, d, true)] }
            if played.contains a then s
            else s.sendCPkt slot b.group b.top a { s.bPkt slot b 5 b.top ((a + 1) % n) a with chunk := 0xFFFFFFFF, digest := d }) s

/-- The bucket's retained copies must fit the collective area (R258). -/
def State.checkRetain (s : State) (slot tag step : Nat) : State :=
  s.withB slot tag step fun s b =>
    if s.layout slot 6 < (((s.ce slot).buckets.map Bucket.retained).sum) ∧ 0 < b.retained then s.abortBucket slot b 6 [1, 2] else s

/-- Move an RS bucket on as far as its inputs allow, once its scale is known (R248). -/
def State.pumpRs (s : State) (slot tag step : Nat) : State :=
  s.withB slot tag step fun s b =>
    if !(b.exps.any (·.1 == b.top)) || !b.level0 then s
    else
      let s := if b.top = 0 then (if b.results.isEmpty then s.localSum slot tag step else s) else s
      let s := if b.has 1 then (s.feedLevel slot tag step 1).sumLevel slot tag step 1 else s
      let s := if b.has 2 then
          let s := s.feedLevel slot tag step 2
          if b.path = 1 then s else s.sumLevel slot tag step 2
        else s
      (s.witness slot tag step).checkRetain slot tag step

/-- A level's vote is known: the next level votes, or the sum begins. -/
def State.voteKnown (s : State) (slot tag step lvl : Nat) (e : Int) (nb : Nat) : State :=
  s.withB slot tag step fun s b =>
    if b.exps.any (·.1 == lvl) then s
    else
      let b := { b with exps := b.exps ++ [(lvl, e, nb)] }
      let s := s.setBucket slot b
      if lvl = 1 ∧ b.has 2 then
        let s := s.castVotes slot b 2 e nb
        match s.bucket slot tag step with
        | none => s
        | some b => match s.combineVotes slot b 2 with
          | (s, some e2) => (s.setBucket slot { b with exps := b.exps ++ [(2, e2)] }).pumpRs slot tag step
          | (s, none) => s
      else s.pumpRs slot tag step

/-- Combine a level's votes if this module is its combining point and all are here. -/
def State.tryVotes (s : State) (slot tag step lvl : Nat) : State :=
  s.withB slot tag step fun s b => match s.combineVotes slot b lvl with
    | (s, some e) => s.voteKnown slot tag step lvl e.1 e.2
    | (s, none) => s

/-- The vote of a bucket whose level-0 input is complete. -/
def State.startVote (s : State) (slot tag step : Nat) : State :=
  s.withB slot tag step fun s b =>
    let e := b.exponent
    if b.top = 0 then s.voteKnown slot tag step 0 e b.count
    else
      let lvl := if b.has 1 then 1 else 2
      (s.castVotes slot b lvl e b.count).tryVotes slot tag step lvl

/-! ### Movement (R240, R241, R257) -/

/-- The tile and address that hold position p of a bucket in a region's COLL. -/
def mapPlace (base per rect addr p : Nat) : Option (Nat × Nat) :=
  if p < base ∨ per = 0 then none
  else ((rectTiles rect)[(p - base) / per]?).map fun t => (t, addr + (p - base) % per)

/-- One byte at a position of a bucket, from the tiles of its COLLs. -/
def State.readPos (s : State) (slot : Nat) (b : Bucket) (p : Nat) : Byte :=
  (b.colls.findSome? fun c => match s.mapEntry slot b.mapOff (s.logical c.region) with
    | some (base, per, rect) => (mapPlace base per rect c.addr p).map fun x => ((s.sramRead c.region x.1 x.2 1).headD 0#8)
    | none => none).getD 0#8

/-- Write the bytes of positions lo … into every tile that holds them. -/
def State.writePos (s : State) (slot : Nat) (b : Bucket) (lo : Nat) (bytes : List Byte) : State :=
  b.colls.foldl (fun s c => match s.mapEntry slot b.mapOff (s.logical c.region) with
    | none => s
    | some (base, per, rect) => bytes.zipIdx.foldl (fun s x => match mapPlace base per rect c.addr (lo + x.2) with
        | some (t, a) => s.sramWrite c.region t a [x.1]
        | none => s) s) s

/-- The chunks of a part made from its bytes. -/
def State.cutPart (_s : State) (_slot : Nat) (b : Bucket) (lvl part src : Nat) (bytes : List Byte) : List Chunk :=
  let n := b.chunkUnits lvl
  (List.range ((bytes.length + n - 1) / n)).map fun c =>
    ⟨lvl, part, c, src, ((bytes.drop (c * n)).take n).map fun x => (x.toNat : Int), 0, 0⟩

/-- Send a packet of a part to one rank, or to every member. -/
def State.sendTo (s : State) (slot : Nat) (b : Bucket) (lvl dst : Nat) (p : CPkt) : State :=
  if dst = 0xFFFF then s.castCPkt slot b.group lvl p else s.sendCPkt slot b.group lvl dst p

/-- Send one chunk of a movement part. -/
def State.sendMove (s : State) (slot : Nat) (b : Bucket) (lvl src dst : Nat) (c : Chunk) : State :=
  (s.sendTo slot b lvl dst { s.bPkt slot b 10 lvl src dst with
    chunk := c.chunk, lanes := c.lanes.length, payload := lanePayload b 1 c.lanes }).bump pCE
      (if lvl = 1 then CE_C_CHUNKS_OUT_L1 else CE_C_CHUNKS_OUT_L2)

/-- Send the digest of a part (R257). -/
def State.sendSum (s : State) (slot : Nat) (b : Bucket) (lvl src dst : Nat) (cs : List Chunk) : State :=
  s.sendTo slot b lvl dst { s.bPkt slot b 5 lvl src dst with
    chunk := 0xFFFFFFFF, digest := crc64 (cs.flatMap fun c => c.lanes.map fun v => BitVec.ofInt 8 v) }

/-- Send the chunks of a part again, with the part's digest (R259). -/
def State.sendPart (s : State) (slot : Nat) (b : Bucket) (lvl src dst : Nat) (cs : List Chunk) : State :=
  (cs.foldl (fun s c => s.sendMove slot b lvl src dst c) s).sendSum slot b lvl src dst cs

/-- Send the chunks of a part in order, as far as the queue takes them; the digest of the whole part follows the last. -/
def State.moveChunks (slot tag step lvl src dst : Nat) (all : List Chunk) : List Chunk → State → State
  | [], s => s
  | c :: cs, s => match s.bucket slot tag step with
    | none => s
    | some b =>
      if b.done = 3 then s
      else if b.sent.any fun x => x.level == lvl && x.part == c.part && x.src == src && x.chunk == c.chunk then
        State.moveChunks slot tag step lvl src dst all cs s
      else if s.ceFull slot b lvl dst then s.holdLevel slot lvl (1 + cs.length)
      else
        let s := (s.setBucket slot { b with sent := b.sent ++ [c] }).sendMove slot b lvl src dst c
        State.moveChunks slot tag step lvl src dst all cs (s.iff cs.isEmpty (·.sendSum slot b lvl src dst all))

/-- Send a part once: its chunks join what the bucket retains. -/
def State.movePart (s : State) (slot tag step lvl src dst : Nat) (bytes : List Byte) : State :=
  s.withB slot tag step fun s b =>
    if s.bMembers slot b lvl = 1 then s
    else
      let cs := s.cutPart slot b lvl (if dst = 0xFFFF then src else dst) src bytes
      (State.moveChunks slot tag step lvl src dst cs cs s).checkRetain slot tag step

/-- Add the chunks of a part that is held here. -/
def State.holdPart (s : State) (slot tag step lvl part : Nat) (bytes : List Byte) : State :=
  s.withB slot tag step fun s b =>
    if (s.partBytes slot b lvl part).isSome && decide (0 < s.inChunks slot b lvl part) then s
    else s.setBucket slot { b with
      results := (b.results.filter fun x => !(x.level == lvl && x.part == part)) ++ s.cutPart slot b lvl part part bytes }

/-- Whether the digest of a part that came in has come too and agrees (R257). -/
def State.partAgrees (s : State) (slot : Nat) (b : Bucket) (lvl a : Nat) : Option Bool :=
  if s.inChunks slot b lvl a = 0 then some true
  else match s.partBytes slot b lvl a, b.digests.find? fun d => d.1 == lvl && d.2.1 == a with
    | some x, some d => some (crc64 x == d.2.2.1)
    | _, _ => none

/-- Whether a level of a movement has delivered parts whose digests must agree: (level, part) received from others. -/
def State.movedIn (s : State) (slot : Nat) (b : Bucket) (root : Bool) : List (Nat × Nat) :=
  if b.op = 2 then (if root then [] else if b.has 2 && (s.partBytes slot b 2 0).isSome then [(2, 0)] else [(1, 0)])
  else ([1, 2].filter fun l => b.has l && decide (1 < s.bMembers slot b l) && (b.op == 1 || l == b.top)).flatMap fun l =>
    ((List.range (s.bMembers slot b l)).filter fun a => !(s.bPlayed slot b l).contains a).map fun a => (l, a)

/-- Whether everything that came in on level 2 is here and agrees: it goes on to level 1 only then (DEDUCED, log 171). -/
def State.level2Good (s : State) (slot : Nat) (b : Bucket) (root : Bool) : Bool :=
  ((s.movedIn slot b root).filter (·.1 == 2)).all fun x => s.partAgrees slot b x.1 x.2 == some true

/-- Every part of a level, in order, if all are here. -/
def State.allParts (s : State) (slot : Nat) (b : Bucket) (lvl : Nat) : Option (List Byte) :=
  let ps := (List.range (s.bMembers slot b lvl)).map fun a => s.partBytes slot b lvl a
  if ps.any (·.isNone) then none else some ((ps.filterMap id).flatten)

/-- The bytes of a part as the tiles hold them. -/
def State.tilePart (s : State) (slot : Nat) (b : Bucket) (lvl a : Nat) : List Byte :=
  let (lo, hi) := s.bPart slot b lvl a
  (List.range (hi - lo)).map fun k => s.readPos slot b (lo + k)

/-- All-gather: shards at the highest level, then down the levels (R240). -/
def State.pumpAg (s : State) (slot tag step : Nat) : State :=
  s.withB slot tag step fun s b =>
    let s := (s.bPlayed slot b b.top).foldl (fun s a => s.holdPart slot tag step b.top a (s.tilePart slot b b.top a)) s
    let give := fun (s : State) lvl => (s.bPlayed slot b lvl).foldl (fun s a => s.withB slot tag step fun s b =>
      match s.partBytes slot b lvl a with
      | some x => s.movePart slot tag step lvl a 0xFFFF x
      | none => s) s
    let s := if b.has 2 then give s 2 else s
    if b.has 2 && b.has 1 then s.withB slot tag step fun s b =>
      match s.allParts slot b 2 with
      | some x => if s.level2Good slot b false then give (s.holdPart slot tag step 1 (s.bSelf slot b 1) x) 1 else s
      | none => s
    else if b.has 1 then give s 1 else s

/-- Whether this module plays the root of a broadcast. -/
def State.isRoot (s : State) (slot : Nat) (b : Bucket) : Bool := (s.played slot).contains b.root

/-- What a member of a broadcast holds: its own bytes at the root, else what came in on a level. -/
def State.bcastBytes (s : State) (slot : Nat) (b : Bucket) : Option (List Byte) :=
  if s.isRoot slot b then some (s.tilePart slot b 0 0)
  else match s.partBytes slot b 2 0 with
    | some x => if b.has 2 then some x else s.partBytes slot b 1 0
    | none => if b.has 1 then s.partBytes slot b 1 0 else none

/-- Broadcast: the root to level 2, and whoever holds the bytes from there to level 1 (R240). -/
def State.pumpBcast (s : State) (slot tag step : Nat) : State :=
  s.withB slot tag step fun s b =>
    let root := s.isRoot slot b
    let s := if b.has 2 && root then s.movePart slot tag step 2 (s.bSelf slot b 2) 0xFFFF (s.tilePart slot b 0 0) else s
    if b.has 1 && (root || (b.has 2 && (s.partBytes slot b 2 0).isSome && s.level2Good slot b false)) then s.withB slot tag step fun s b =>
      match s.bcastBytes slot b with
      | some x => s.movePart slot tag step 1 (s.bSelf slot b 1) 0xFFFF x
      | none => s
    else s

/-- The bytes that rank k of an all-to-all sends to member j: the tiles' for the own rank, bytes that the spec does not state for
a rank played for a lost member (log 172). -/
def State.a2aPart (s : State) (slot : Nat) (b : Bucket) (k j : Nat) : List Byte :=
  if k = s.bSelf slot b b.top then s.tilePart slot b b.top j
  else
    let (lo, hi) := s.bPart slot b b.top j
    (List.range (hi - lo)).map fun i => Config.carriedByte b.tag b.step k (lo + i)

/-- All-to-all: part j of every rank played to member j of the selected level (R240, R268). What is sent to a lost member that
this module plays has no tiles to go to. -/
def State.pumpA2a (s : State) (slot tag step : Nat) : State :=
  s.withB slot tag step fun s b =>
    let me := s.bSelf slot b b.top
    let played := s.bPlayed slot b b.top
    played.foldl (fun s k => (s.bOrder slot b b.top).foldl (fun s j => s.withB slot tag step fun s b =>
      if j = me then s.holdPart slot tag step b.top k (s.a2aPart slot b k j)
      else if played.contains j then s
      else s.movePart slot tag step b.top k j (s.a2aPart slot b k j)) s) s

/-- What a movement delivers here, as (first position, bytes), once every part is in. What member j sends fills part j of the span
as far as it reaches (log 172). -/
def State.movedBytes (s : State) (slot : Nat) (b : Bucket) : Option (List (Nat × List Byte)) :=
  match b.op with
  | 1 => if b.top = 0 then some [] else (s.allParts slot b (if b.has 1 then 1 else 2)).map fun x => [(0, x)]
  | 2 => (s.bcastBytes slot b).map fun x => [(0, x)]
  | _ =>
    let ps := (List.range (s.bMembers slot b b.top)).map fun a => (s.bPart slot b b.top a, s.partBytes slot b b.top a)
    if ps.any (fun p => p.2.isNone) then none else some (ps.filterMap fun p => p.2.map fun x => (p.1.1, x.take (p.1.2 - p.1.1)))

/-! ### The end of a bucket (R239, R246, R257) -/

/-- A bucket is VOTED. -/
def State.bucketVoted (s : State) (slot : Nat) (b : Bucket) : State :=
  let s := (s.setBucket slot { b with done := 1 }).bump pCE CE_C_BUCKETS_DONE
  let s := if b.attempt = 0 then s else s.raiseEvt pCE CE_EVT_STATUS_REREDUCED
  s.checkReady slot

/-- Begin a re-reduction at the next attempt (R259): results of the highest level go, and of a gather over both levels what was
made from them. -/
def State.applyRedo (s : State) (slot : Nat) (b : Bucket) (attempt : Nat) : State :=
  let top := b.top
  let b := { b with
    attempt := attempt, handed := false, done := 0, digests := [], data := b.data.filter (fun x => x.level != top),
    results := b.results.filter (fun x => if x.level = top then b.op != 0 && x.src == x.part && (s.bPlayed slot b top).contains x.part
      else !(b.op == 1 && x.level == 1 && (s.bPlayed slot b 1).contains x.part)) }
  let s := ((s.setBucket slot b).bump pCE CE_C_REREDUCES).updRedoStart slot b.tag b.step
  if b.op = 0 then (b.sent.filter fun x => x.level == top).foldl (fun s x => s.sendChunk slot b x) s |>.pumpRs slot b.tag b.step
  else
    let mine := b.sent.filter fun x => x.level == top
    ((mine.map fun x => (x.src, x.part)).eraseDups).foldl (fun s p =>
      s.sendPart slot b top p.1 (if b.op = 3 then p.2 else 0xFFFF) (mine.filter fun x => x.src == p.1 && x.part == p.2)) s

/-- The owner or receiver of a bad or missing result starts a re-reduction (R259). -/
def State.startRedo (s : State) (slot : Nat) (b : Bucket) : State :=
  if b.attempt = 2 then
    ((s.raiseErr pCE CE_ERR_STATUS_VOTE_LIMIT).lastAbort slot b 5).reportOn .corruption 255 pCE CE_ERR_STATUS_VOTE_LIMIT slot
  else
    let p := { s.bPkt slot b 7 b.top (s.bSelf slot b b.top) 0xFFFF with attempt := b.attempt + 1, chunk := 0xFFFFFFFF }
    (s.castCPkt slot b.group b.top p).applyRedo slot b (b.attempt + 1)

/-- A vote that failed. -/
def State.voteFailed (s : State) (slot : Nat) (b : Bucket) : State :=
  ((s.raiseErr pCE CE_ERR_STATUS_VOTE_FAIL).bump pCE CE_C_VOTE_FAILS).startRedo slot b

/-- Compare the digests of an RS result that has been handed over (R257). -/
def State.judgeRs (s : State) (slot tag step : Nat) : State :=
  s.withB slot tag step fun s b =>
    if b.op ≠ 0 || !b.handed || b.done != 0 then s
    else if s.bMembers slot b b.top = 1 then s.bucketVoted slot b
    else
      let ps := (s.ownParts slot b).map fun a =>
        ((s.partLanes slot b a).map fun x => resultDigest x.1 x.2, (b.digests.find? fun d => d.1 == b.top && d.2.1 == a).map (·.2.2.1))
      if ps.any fun p => p.2.isNone then s
      else
        let s := s.bump pCE CE_C_VOTES
        if ps.all fun p => p.1 == p.2 then s.bucketVoted slot b else s.voteFailed slot b

/-- Deliver a movement that is complete and whose digests agree. -/
def State.judgeMove (s : State) (slot tag step : Nat) : State :=
  s.withB slot tag step fun s b =>
    if b.done ≠ 0 then s
    else
      let ins := s.movedIn slot b (s.isRoot slot b)
      let ds := ins.map fun x => s.partAgrees slot b x.1 x.2
      if ds.contains (some false) then (s.bump pCE CE_C_VOTES).voteFailed slot b
      else match s.movedBytes slot b with
        | none => s
        | some l =>
          if ds.any (·.isNone) then s
          else
            let s := if ins.isEmpty then s else s.bump pCE CE_C_VOTES
            ((l.foldl (fun s x => s.writePos slot b x.1 x.2) s).endColls b).bucketVoted slot b

/-- Move one bucket on as far as its inputs and the queues allow. -/
def State.pumpOne (s : State) (slot tag step : Nat) : State :=
  s.withB slot tag step fun s b =>
    if !b.level0 || b.done != 0 then s
    else match b.op with
      | 0 => (s.pumpRs slot tag step).judgeRs slot tag step
      | 1 => (s.pumpAg slot tag step).judgeMove slot tag step
      | 2 => (s.pumpBcast slot tag step).judgeMove slot tag step
      | _ => (s.pumpA2a slot tag step).judgeMove slot tag step

/-- Move a job's buckets on after any of their inputs, in the order in which their level-0 inputs were complete (R248, R249). -/
def State.pump (s : State) (slot : Nat) : State :=
  let v := s.ce slot
  v.line.foldl (fun s x => s.pumpOne slot x.1 x.2) (s.setCe slot { v with held := [] })

/-- A nanosecond passes for the levels that a full queue holds: their time is counted, and they go on where a credit has come
back (R249). -/
def State.tickCe (s : State) : State :=
  let held := s.ces.filter fun x => !x.2.held.isEmpty
  if held.isEmpty then s
  else
    let t := (held.flatMap (·.2.held)).eraseDups.foldl (fun s l =>
      s.bump pCE (match l with | 0 => CE_C_STALL_NS_L0 | 1 => CE_C_STALL_NS_L1 | _ => CE_C_STALL_NS_L2)) s
    let t := held.foldl (fun s x => s.pump x.1) t
    { t with mem := Memory.canon t.mem, pending := s.pending }

/-- Convert the local result of an RS with TYPE 1–3 into the tiles (R246). A block of a row that holds no element of the
local shard keeps its bytes; an element clamped under R68 or limited under R69 sets the tile's CONV_SAT flag. -/
def State.writeResult (s : State) (slot : Nat) (b : Bucket) : State :=
  let sc := b.scale
  let parts := (s.ownParts slot b).filterMap fun a => (s.partLanes slot b a).map fun x => ((s.bPart slot b b.top a).1, x.1.toArray)
  let at_ := fun p => parts.findSome? fun x => if x.1 ≤ p then (x.2[p - x.1]?) else none
  let n := blockElems b.fmt b.bs16
  let nb := blockBytes b.fmt b.bs16
  b.colls.foldl (fun s c => match s.mapEntry slot b.mapOff (s.logical c.region) with
    | none => s
    | some (base, per, rect) => (rectTiles rect).zipIdx.foldl (fun s t =>
        let raw := s.sramRead c.region t.1 c.addr (rowBytes b.fmt b.bs16 per)
        let old := (decodeRow b.fmt b.bs16 raw per).map fun v => (v, false)
        let res := (List.range per).map fun j =>
          (at_ (base + per * t.2 + j)).map fun q => (FVal.fin ⟨q, sc⟩, floatLimited b.fmt ⟨q, sc⟩)
        let blocks := (chunksOf n per (res.zip old)).zipIdx.map fun x =>
          if x.1.all (·.1.isNone) then ((raw.drop (nb * x.2)).take nb, false)
          else
            let vs := x.1.map fun e => e.1.getD e.2
            let r := encodeRow b.fmt b.bs16 (vs.map (·.1))
            (r.1, r.2 || vs.any (·.2))
        if res.all (·.isNone) then s
        else (s.iff (blocks.any (·.2)) (·.setConvSat c.region t.1)).sramWrite c.region t.1 c.addr (blocks.flatMap (·.1))) s) s

/-- RESULT_READBACK_DONE (R246): the local shard is read back and handed over. -/
def State.readback (s : State) (slot : Nat) (b : Bucket) : State :=
  match s.localResult slot b with
  | none => s
  | some _ =>
    let s := s.setBucket slot { b with handed := true }
    let s := if b.type = 0 then (if b.attempt = 0 then s else s.updRedo slot b) else (s.writeResult slot b).endColls b
    s.judgeRs slot b.tag b.step

/-! ### COLL and VDRAIN with FORM CE (R112, R238, R239, R243) -/

/-- Whether a COLL agrees with its descriptor and map (R239). -/
def State.collAgrees (s : State) (slot r : Nat) (c : Cmd) (desc : List Byte) : Bool :=
  match s.mapEntry slot (leAt desc 20 8) (s.logical r) with
  | none => false
  | some (_, _, rect) =>
    c.w 0 17 16 == byteAt desc 4 && c.w 0 18 18 == byteAt desc 6 && c.w 0 21 19 == byteAt desc 7 && c.w 0 23 22 == byteAt desc 5
      && c.w 1 63 32 == leAt desc 8 4 && c.w 2 15 0 == leAt desc 12 2 && c.w 2 31 16 == leAt desc 14 2 && c.w 3 15 0 == rect
      && (byteAt desc 4 != 0 || byteAt desc 5 != 0 || c.w 0 52 32 == 0)

/-- Bytes per tile that a COLL moves at ADDR. -/
def State.collBytes (s : State) (slot r : Nat) (desc : List Byte) : Nat :=
  match s.mapEntry slot (leAt desc 20 8) (s.logical r) with
  | none => 0
  | some (_, per, _) =>
    let b : Bucket := { entry := 0, tag := 0, step := 0, gepoch := 0, tune := 0, desc := desc }
    if b.op ≠ 0 then per else if b.type = 0 then 0 else rowBytes b.fmt b.bs16 per

/-- A COLL waits for a free bucket of the reservation: counted once (R236). -/
def State.collWaits (s : State) (r : Nat) : State :=
  if (s.seq r).collWait then s else (s.setSeq r { s.seq r with collWait := true }).bump pCE CE_C_BUCKET_WAITS

/-- The issue of a COLL. -/
def State.collIssue (s : State) (r : Nat) (c : Cmd) : Issue :=
  let slot := s.jobOf r
  let tag := c.w 1 19 0
  let desc := (s.descOf slot tag).getD []
  let addr := c.w 0 52 32
  let n := s.collBytes slot r desc
  let step := s.rd (regPage r) REG_STEP_STATUS_STEP
  let b := s.bucket slot tag step
  let bad := desc.isEmpty || !s.collAgrees slot r c desc
    || (match b with | some b => !b.kept && b.colls.any (fun x => x.region == r) | none => false)
  let range := if n = 0 then [] else [(addr, addr + n)]
  { badField := malformed c [(23, 16), (52, 32)] [(19, 0), (63, 32)] [(31, 0)] [(15, 0)] || rectBad (c.w 3 15 0)
      || (c.w 0 18 18 == 1 && (c.w 0 17 16 != 0 || c.w 0 23 22 != 0 || c.w 0 21 21 == 0)) || pastEnd addr n
      || (!desc.isEmpty && bit (byteAt desc 17) 3 && !s.bs16En r),
    inSpan := false, inDef := false, cls := 32, block := some pCE, reads := range, writes := range,
    wait := s.rd (regPage r) REG_STEP_STATUS_FINAL == 0,
    instead := if bad then some fun a s => s.ceFault a CE_ERR_STATUS_BAD_DESC
      else if b.isNone && !s.bucketRoom slot then some fun a s => s.collWaits a.r else none }

/-- The contribution of a region's COLL for an RS with TYPE 1–3 (R238). -/
def State.collValues (s : State) (slot r addr : Nat) (b : Bucket) : State × List (Nat × Dy) :=
  match s.mapEntry slot b.mapOff (s.logical r) with
  | none => (s, [])
  | some (base, per, rect) =>
    (rectTiles rect).zipIdx.foldl (fun (x : State × List (Nat × Dy)) t =>
      let vs := decodeRow b.fmt b.bs16 (x.1.sramRead r t.1 addr (rowBytes b.fmt b.bs16 per)) per
      let odd := (vs.filter fun v => match v with | .fin _ => false | _ => true).length
      (x.1.bump pCE CE_C_NONFINITE_IN odd, x.2 ++ vs.zipIdx.map fun v => (base + per * t.2 + v.2, (finVal v.1).1))) (s, [])

/-- The bucket that a command names, opened if it is not. -/
def State.joinBucket (s : State) (slot tag step : Nat) : State × Option Bucket :=
  match s.bucket slot tag step, s.descOf slot tag with
  | some b, _ => (s, some b)
  | none, some d => let (s, b) := s.openBucket slot tag step d; (s, some b)
  | none, none => (s, none)

/-- A COLL that has issued. -/
def State.runColl (s : State) (a : At) (c : Cmd) : State :=
  let s := s.setSeq a.r { s.seq a.r with collWait := false }
  let slot := s.jobOf a.r
  let id := s.lastId a.r
  let n := s.rd (regPage a.r) REG_STEP_STATUS_N_CUR
  let count := s.rd (regPage a.r) REG_STEP_COUNT_COUNT
  match s.joinBucket slot (c.w 1 19 0) (s.rd (regPage a.r) REG_STEP_STATUS_STEP) with
  | (s, none) => s
  | (s, some b) =>
    if b.kept then s.finish a.r id 32
    else if b.done = 3 then s.finish a.r id 32
    else
      let h := s.heldCount slot b.tag
      if 1 < b.every && !sendStep b.desc count then
        let s := if b.done = 2 then s else s.bump pCE CE_C_BUCKETS_HELD
        let s := s.setHeldCount slot { h with w := some (h.c + n) }
        (s.setBucket slot { b with done := 2, colls := b.colls ++ [⟨a.r, id, 0⟩] }).finish a.r id 32
      else
        let s := if 1 < b.every then s.setHeldCount slot { h with w := some 0 } else s
        let (s, vals) := if b.op = 0 && b.type != 0 then s.collValues slot a.r (c.w 0 52 32) b else (s, [])
        let cs := if b.op = 0 && b.type != 0 then b.contribs ++ [vals] else b.contribs
        s.setBucket slot { b with
          colls := b.colls ++ [⟨a.r, id, c.w 0 52 32⟩], contribs := cs, count := n + (if 1 < b.every then h.c else 0) }

/-- COLL with OP RS (R240). -/
def execCollRs (r : RegionIx) (deferred : Bool) (c : Cmd) (s : State) : Host.Outcome State Fault Refusal :=
  keep s (if c.w 0 17 16 ≠ 0 then s else s.issue r deferred c 0x60 (s.collIssue r c) fun a s => s.runColl a c)

/-- COLL with OP AG (R240). -/
def execCollAg (r : RegionIx) (deferred : Bool) (c : Cmd) (s : State) : Host.Outcome State Fault Refusal :=
  keep s (if c.w 0 17 16 ≠ 1 then s else s.issue r deferred c 0x60 (s.collIssue r c) fun a s => s.runColl a c)

/-- COLL with OP BCAST (R240). -/
def execCollBcast (r : RegionIx) (deferred : Bool) (c : Cmd) (s : State) : Host.Outcome State Fault Refusal :=
  keep s (if c.w 0 17 16 ≠ 2 then s else s.issue r deferred c 0x60 (s.collIssue r c) fun a s => s.runColl a c)

/-- COLL with OP A2A (R240). -/
def execCollA2a (r : RegionIx) (deferred : Bool) (c : Cmd) (s : State) : Host.Outcome State Fault Refusal :=
  keep s (if c.w 0 17 16 ≠ 3 then s else s.issue r deferred c 0x60 (s.collIssue r c) fun a s => s.runColl a c)

/-- Whether a VDRAIN with FORM CE breaks R238 or R239. -/
def State.vdrainBad (s : State) (r : Nat) (o : VdrainOp) : Bool :=
  let slot := s.jobOf r
  match s.descOf slot o.tag with
  | none => true
  | some d => match s.mapEntry slot (leAt d 20 8) (s.logical r) with
    | none => true
    | some (_, per, rect) =>
      byteAt d 4 != 0 || byteAt d 5 != 0 || !((rectTiles o.rect).all fun t => (rectTiles rect).contains t) || decide (per < o.offset + o.count)
        || (match s.bucket slot o.tag (s.rd (regPage r) REG_STEP_STATUS_STEP) with
          | some b => !b.kept && b.colls.any (fun x => x.region == r)
          | none => false)

/-- Hand a VDRAIN's values to a bucket as one contribution (R238). -/
def State.contribute (s : State) (slot r : Nat) (o : VdrainOp) (vals : List (List Int)) (weight : Int) : State :=
  match s.joinBucket slot o.tag (s.rd (regPage r) REG_STEP_STATUS_STEP) with
  | (s, none) => s
  | (s, some b) =>
    if b.level0 || b.done != 0 then s
    else match s.mapEntry slot b.mapOff (s.logical r) with
      | none => s
      | some (base, per, rect) =>
        let place := fun t => ((rectTiles rect).findIdx? (· == t)).getD 0
        let es := ((rectTiles o.rect).zip vals).flatMap fun x => x.2.zipIdx.map fun v =>
          (base + per * place x.1 + o.offset + v.2, (⟨v.1, weight - 24⟩ : Dy))
        let s := s.setBucket slot { b with contribs := b.contribs ++ [es] }
        (rectTiles o.rect).foldl (fun s t => s.sendPackets (.tile r t) (.unit 4 0) 2 (4 * o.count) slot) s

/-- Whether the step of a region is a send step of a VDRAIN's bucket (R207). -/
def State.sendsAt (s : State) (r : Nat) (o : VdrainOp) : Bool :=
  sendStep ((s.descOf (s.jobOf r) o.tag).getD []) (s.rd (regPage r) REG_STEP_COUNT_COUNT)

/-- The issue checks of VDRAIN with FORM CE (R112, R207, R236). -/
def State.vdrainCeIssue (s : State) (r : Nat) (c : Cmd) : Issue :=
  let o := vdrainOp c
  let slot := s.jobOf r
  let hold := o.holdAddr % 2 == 0
  let send := s.sendsAt r o
  let step := s.rd (regPage r) REG_STEP_STATUS_STEP
  { s.vdrainIssue r c with
    block := some pCE,
    wait := (s.seq r).vatPending o.vreg || s.rd (regPage r) REG_STEP_STATUS_FINAL == 0
      || (!s.vdrainBad r o && send && (s.bucket slot o.tag step).isNone && !s.bucketRoom slot),
    instead := if s.vdrainBad r o then some fun a s => s.ceFault a CE_ERR_STATUS_BAD_DESC
      else if !send && !hold then some fun a s =>
        s.caveFault a.r a.d a.ix CAVE_ERR_STATUS_HOLD_NONE a.mb 0 (s.rd (regPage a.r) REG_VAT_LAYER_LAYER o.vreg)
      else none }

/-- What VDRAIN with FORM CE does: into the hold outside a send step, to the bucket at one (R207). -/
def State.vdrainToCe (s : State) (a : At) (o : VdrainOp) : State :=
  let slot := s.jobOf a.r
  let step := s.rd (regPage a.r) REG_STEP_STATUS_STEP
  let v := s.rd (regPage a.r) REG_VAT_REGION_V o.vreg
  let kept := match s.bucket slot o.tag step with | some b => b.kept && b.level0 | none => false
  if !s.sendsAt a.r o then s.vdrainToHold a o
  else if kept then s.vdrainClear a.r o
  else if o.holdAddr % 2 = 1 then
    ((s.contribute slot a.r o ((s.vatRead a.r o).map (·.2)) (s.vatAnchor a.r o.vreg))).vdrainClear a.r o
  else match s.holdFor slot o v with
    | .inl f => s.caveFault a.r a.d a.ix f a.mb 0 (s.rd (regPage a.r) REG_VAT_LAYER_LAYER o.vreg)
    | .inr (h, s) =>
      match s.holdPoison slot h ((s.ce slot).heldKept.contains h) with
      | some site => s.entryUe slot site 1
      | none =>
      let sums := s.holdSum a.r slot h o ((s.ce slot).heldKept.contains h)
      let s := s.contribute slot a.r o (chunksOf o.count (sums.length + 1) sums) (sgn 8 v)
      let s := (s.wrs pCAVE [(CAVE_HOLD_W_WRITTEN, 1), (CAVE_HOLD_W_ZERO, 1), (CAVE_HOLD_LAST_STEP, step)] h).bump pCAVE CAVE_C_HOLD_SENDS
      s.vdrainClear a.r o

/-- VDRAIN with FORM CE (R112, R207). -/
def execVdrainCe (r : RegionIx) (deferred : Bool) (c : Cmd) (s : State) : Host.Outcome State Fault Refusal :=
  let o := vdrainOp c
  keepQ s (if o.form ≠ 1 then s else s.issue r deferred c 0x23 (s.vdrainCeIssue r c) fun a s => s.vdrainToCe a o)

/-! ### The engine's own moments -/

/-- Whether every region that a bucket's map names has issued its COLL (R239). -/
def State.level0Ready (s : State) (slot : Nat) (b : Bucket) : Bool :=
  (s.mapRegions slot b).all fun l => b.colls.any fun c => s.logical c.region == l

/-- RESULT_READBACK_DONE (R246). -/
def execResultReadbackDone (slot : SlotIx) (tag : Nat) (s : State) : Host.Outcome State Fault Refusal :=
  keepQ s (match (s.ce slot).buckets.find? fun b => b.tag == tag && b.op == 0 && b.level0 && !b.handed && b.done == 0 with
  | none => s
  | some b => s.readback slot b)

/-- RESULT_MISSING_TIMEOUT (R259): a chunk of the local result is missing after the retry period. -/
def execResultMissingTimeout (slot : SlotIx) (tag : Nat) (s : State) : Host.Outcome State Fault Refusal :=
  keepQ s (match (s.ce slot).buckets.find? fun b => b.tag == tag && b.op == 0 && b.done == 0 && b.exps.any (·.1 == b.top)
      && decide (0 < b.top) && (s.localResult slot b).isNone with
  | none => s
  | some b => s.startRedo slot b)

/-- COLL_TIMEOUT (R260): a COLL of a region has not completed in time. -/
def execCollTimeout (r : RegionIx) (tag : Nat) (s : State) : Host.Outcome State Fault Refusal :=
  let slot := s.jobOf r
  keep s (match (s.ce slot).buckets.find? fun b => b.tag == tag && b.done == 0 && b.colls.any fun c => c.region == r with
  | none => s
  | some b => (((s.raiseErr pCE CE_ERR_STATUS_COLL_TIMEOUT).bump pCE CE_C_TIMEOUTS).lastAbort slot b 4).reportOn .program r pCE
      CE_ERR_STATUS_COLL_TIMEOUT slot)

/-! ### Packets that arrive (R251–R255) -/

/-- The bucket that a packet names, as it is open here or as it would open. -/
def State.bucketOr (s : State) (slot tag step : Nat) : Option Bucket :=
  match s.bucket slot tag step with
  | some b => some b
  | none => (s.descOf slot tag).map fun d =>
    { entry := 0, tag := tag, step := step, gepoch := s.gepoch slot, tune := s.rd pCE CE_TUNE_CHUNK, desc := d }

/-- Ask for a damaged DATA or MOVE chunk again (R253). -/
def State.askChunk (s : State) (slot : Nat) (p : CPkt) (lvl : Nat) : State :=
  match s.bucketOr slot p.tag p.step with
  | none => s
  | some b =>
    let me := if p.dst = 0xFFFF then s.bSelf slot b lvl else p.dst
    s.sendCPkt slot b.group lvl p.src { s.bPkt slot b 6 lvl me p.src with chunk := p.chunk }

/-- Take a packet of a kind past the port, its CRC and its descriptor; one whose bucket is not open here waits for it. -/
def State.collIn (s : State) (m : Msg) (kind : Nat) (run : State → Nat → Bucket → CPkt → State) : State :=
  match s.admitMsg m with
  | (s, none) => s
  | (s, some slot) =>
    let p := parseCPkt m.body
    if m.cls ≠ 2 ∨ byteAt m.body 0 ≠ 0x43 ∨ p.kind ≠ kind then s
    else if !cpktCrcOk m.body then
      let s := (s.raiseErr pCE CE_ERR_STATUS_CHUNK_CRC).bump pCE CE_C_CRC_ERRS
      if kind = 2 ∨ kind = 10 then s.askChunk slot p p.level else s
    else if p.gepoch ≠ s.gepoch slot then s.bump pPLC PLC_C_STALE_EPOCH_DROPS
    else match s.bucket slot p.tag p.step with
      | none =>
        let old := (s.regionsOf slot).any fun r => decide ((p.step + 65536 - s.rd (regPage r) REG_STEP_STATUS_STEP) % 65536 < 2)
        if kind = 3 then (s.raiseErr pCE CE_ERR_STATUS_SWITCH_PROTO).reportOn .notice 255 pCE CE_ERR_STATUS_SWITCH_PROTO slot
        else if old && (s.descOff slot p.tag).isSome then
          s.setCe slot { s.ce slot with early := (s.ce slot).early ++ [m.body] }
        else s
      | some b =>
        if b.done = 3 then s
        else if kind ≠ 4 ∧ (p.dhash ≠ b.dhash ∨ (b.has p.level ∧ p.members ≠ s.bMembers slot b p.level)) then
          s.abortBucket slot b 1 [1, 2]
        else if !b.has p.level ∨ p.level = 0 then s
        else run s slot b p

/-- A VOTE (R244): an input for the combining point, or the maximum that it returns. At a level whose NSUM bit is clear, a count
other than the first one held breaks R242 (R251). -/
def State.takeVote (s : State) (slot : Nat) (b : Bucket) (p : CPkt) : State :=
  let vs := b.votes.filter fun v => v.1 == p.level
  if p.dst = 0xFFFF then (s.voteKnown slot b.tag b.step p.level p.exp p.nb).pump slot
  else if vs.any fun v => v.2.1 == p.src then s
  else if !bit b.nsum p.level && vs.any (fun v => v.2.2.2 != p.nb) then s.abortBucket slot b 2 [1, 2]
  else
    let s := s.setBucket slot { b with votes := b.votes ++ [(p.level, p.src, p.exp, p.nb)] }
    (s.tryVotes slot b.tag b.step p.level).pump slot

/-- A DATA chunk (R245). -/
def State.takeData (s : State) (slot : Nat) (b : Bucket) (p : CPkt) : State :=
  let (lo, hi) := s.bChunk slot b p.level p.dst p.chunk
  if p.attempt ≠ b.attempt ∨ !(s.bPlayed slot b p.level).contains p.dst ∨ p.lanes ≠ hi - lo then s
  else
    let s := (s.setBucket slot (b.addData ⟨p.level, p.dst, p.chunk, p.src, payloadLanes p.laneBytes p.lanes p.payload, p.nb, p.ovl⟩)).bump pCE
      CE_C_CHUNKS_IN
    s.pump slot

/-- A RESULT chunk (R246, R254, R255). One that is malformed is dropped, and where a chunk is still missing here the
re-reduction starts (R259). -/
def State.takeResult (s : State) (slot : Nat) (b : Bucket) (p : CPkt) : State :=
  let n := s.bMembers slot b p.level
  let played := s.bPlayed slot b p.level
  let (lo, hi) := s.bChunk slot b p.level p.dst p.chunk
  let mine := played.contains p.dst || played.contains ((p.dst + 1) % max 1 n)
  if p.attempt ≠ b.attempt then s
  else if p.cnt ≠ n ∨ p.lanes ≠ hi - lo ∨ p.lanes = 0 ∨ mine = false ∨ p.level ≠ b.top then
    let s := (s.raiseErr pCE CE_ERR_STATUS_SWITCH_PROTO).reportOn .notice 255 pCE CE_ERR_STATUS_SWITCH_PROTO slot
    if b.op = 0 ∧ b.done = 0 ∧ b.exps.any (·.1 == b.top) = true ∧ (s.localResult slot b).isNone = true then s.startRedo slot b else s
  else if (b.result p.level p.dst p.chunk).isSome then s
  else
    -- the switch adds every member's count; without NSUM each must have carried the same one (DEDUCED, log 30)
    let sums := b.path = 1 ∧ bit b.nsum 2 = false
    let own := ((b.sent.find? fun x => x.level == 2).map (·.nb)).getD b.count
    if sums ∧ p.nb ≠ n * own then s.abortBucket slot b 2 [1, 2]
    else
      let x : Chunk := ⟨p.level, p.dst, p.chunk, p.src, payloadLanes p.laneBytes p.lanes p.payload, if sums then own else p.nb, p.ovl⟩
      let s := (s.setBucket slot { b with results := b.results ++ [x] }).bump pCE CE_C_CHUNKS_IN
      s.pump slot

/-- A MOVE chunk (R240). -/
def State.takeMove (s : State) (slot : Nat) (b : Bucket) (p : CPkt) : State :=
  let part := if b.op = 2 then 0 else p.src
  if b.op = 0 ∨ p.attempt ≠ b.attempt ∨ (s.bPlayed slot b p.level).contains p.src ∨ (b.result p.level part p.chunk).isSome
      ∨ s.inChunks slot b p.level part ≤ p.chunk ∨ (b.op = 3 ∧ p.dst ≠ s.bSelf slot b p.level) then s
  else
    let x : Chunk := ⟨p.level, part, p.chunk, p.src, payloadBytes p.lanes p.payload, 0, 0⟩
    let s := (s.setBucket slot { b with results := b.results ++ [x] }).bump pCE CE_C_CHUNKS_IN
    s.pump slot

/-- A DIGEST (R257). -/
def State.takeDigest (s : State) (slot : Nat) (b : Bucket) (p : CPkt) : State :=
  let part := if b.op = 0 then p.dst else if b.op = 2 then 0 else p.src
  if p.attempt ≠ b.attempt ∨ b.digests.any (fun d => d.1 == p.level && d.2.1 == part)
      ∨ (b.op = 3 ∧ p.dst ≠ s.bSelf slot b p.level) then s
  else (s.setBucket slot { b with digests := b.digests ++ [(p.level, part, p.digest, false)] }).pump slot

/-- Take the packets of a bucket that came before it opened. -/
def State.takeEarly (s : State) (slot tag step : Nat) : State :=
  let v := s.ce slot
  let mine := (v.early.map parseCPkt).filter fun p => p.tag == tag && p.step == step
  let s := s.setCe slot { v with early := v.early.filter fun x => let p := parseCPkt x; !(p.tag == tag && p.step == step) }
  mine.foldl (fun s p => s.withB slot tag step fun s b =>
    if p.kind = 4 then s.abortBucket slot b p.cause ([1, 2].filter (· != p.level))
    else if p.dhash ≠ b.dhash ∨ (b.has p.level ∧ p.members ≠ s.bMembers slot b p.level) then s.abortBucket slot b 1 [1, 2]
    else if !b.has p.level ∨ p.level = 0 then s
    else match p.kind with
      | 1 => s.takeVote slot b p
      | 2 => s.takeData slot b p
      | 5 => s.takeDigest slot b p
      | 10 => s.takeMove slot b p
      | _ => s) s

/-- LEVEL0_COMPLETE (R239, R244). -/
def execLevel0Complete (slot : SlotIx) (tag : Nat) (s : State) : Host.Outcome State Fault Refusal :=
  keepQ s (match (s.ce slot).buckets.find? fun b => b.tag == tag && !b.level0 && b.done == 0 && s.level0Ready slot b with
  | none => s
  | some b =>
    let s := s.setBucket slot { b with level0 := true }
    let s := (s.setCe slot { s.ce slot with line := (s.ce slot).line ++ [(tag, b.step)] }).takeEarly slot tag b.step
    s.withB slot tag b.step fun s b => if b.op = 0 then
      let s := if b.type = 0 then s.endColls b else s
      (s.startVote slot tag b.step).pump slot
    else s.pump slot)

/-- COLL_VOTE (R244). -/
def execCollVote (m : Msg) (s : State) : Host.Outcome State Fault Refusal := keepQ s (s.collIn m 1 fun s slot b p => s.takeVote slot b p)

/-- COLL_DATA (R245). -/
def execCollData (m : Msg) (s : State) : Host.Outcome State Fault Refusal := keepQ s (s.collIn m 2 fun s slot b p => s.takeData slot b p)

/-- COLL_RESULT (R246). -/
def execCollResult (m : Msg) (s : State) : Host.Outcome State Fault Refusal := keepQ s (s.collIn m 3 fun s slot b p => s.takeResult slot b p)

/-- COLL_DIGEST (R257). -/
def execCollDigest (m : Msg) (s : State) : Host.Outcome State Fault Refusal := keepQ s (s.collIn m 5 fun s slot b p => s.takeDigest slot b p)

/-- COLL_MOVE (R240). -/
def execCollMove (m : Msg) (s : State) : Host.Outcome State Fault Refusal := keepQ s (s.collIn m 10 fun s slot b p => s.takeMove slot b p)

/-- COLL_ABORT (R251): forwarded once to the bucket's other levels. -/
def execCollAbort (m : Msg) (s : State) : Host.Outcome State Fault Refusal :=
  keep s (s.collIn m 4 fun s slot b p => s.abortBucket slot b p.cause ([1, 2].filter (· != p.level)))

/-- What a RESEND does: every packet that it names and that was sent goes out again (R259). -/
def State.takeResend (s : State) (slot : Nat) (b : Bucket) (p : CPkt) : State :=
  let mine := b.sent.filter fun x => x.level == p.level && x.chunk == p.chunk
  let named := mine.filter fun x => b.op == 1 || b.op == 2 || x.part == p.src
  let named := if named.isEmpty then mine.filter fun x => x.part == p.dst else named
  named.foldl (fun s x =>
    let s := s.bump pCE CE_C_RESENDS
    let lb := laneBytesOf b x.level
    let dst := if b.op = 0 ∨ b.op = 3 then x.part else 0xFFFF
    let dest := if b.op = 0 then x.part else p.src
    s.sendCPkt slot b.group x.level dest { s.bPkt slot b (if b.op = 0 then 2 else 10) x.level x.src dst with
      laneBytes := if b.op = 0 then lb else 0, chunk := x.chunk, lanes := x.lanes.length, ovl := x.ovl, nb := x.nb,
      payload := lanePayload b lb x.lanes }) s

/-- COLL_RESEND (R253): the named chunk again, unchanged. -/
def execCollResend (m : Msg) (s : State) : Host.Outcome State Fault Refusal :=
  keep s (s.collIn m 6 fun s slot b p => s.takeResend slot b p)

/-- COLL_REDO (R259). -/
def execCollRedo (m : Msg) (s : State) : Host.Outcome State Fault Refusal :=
  keepQ s (s.collIn m 7 fun s slot b p => if b.attempt < p.attempt ∧ p.attempt ≤ 2 ∧ p.level = b.top then s.applyRedo slot b p.attempt else s)

end Sys2Proof.Machine
end

