-- ==== Sys2Proof/Machine/Barrier.lean ====
section
/-! DEFINITION. The end of a step and the commit barrier (R143, R144, R229, R262–R265): the comparison of LAST, release,
barrier entry, OUTCOME with commit or replay, and the rollback of the step last committed. -/

namespace Sys2Proof.Machine

/-! ### The step that the barrier decides -/

/-- STEP (16 bits) of the step that commits next: under the staleness option the one before the step that runs (R229). -/
def State.barrierStep (s : State) (slot : Nat) : Nat :=
  match s.regionsOf slot with
  | [] => 0
  | r :: _ =>
    let n := s.rd (regPage r) REG_STEP_STATUS_STEP
    if (s.ce slot).satSaved.isSome then (n + 65535) % 65536 else n

/-- The layers that a vat region of the job has saturated, with the region (R262). -/
def State.satLayers (s : State) (slot : Nat) : List (Nat × Nat) :=
  (s.regionsOf slot).flatMap fun r => ((List.range 16).filter fun v => s.rd (regPage r) REG_VAT_LAYER_SAT v == 1).map fun v => (r, s.rd (regPage r) REG_VAT_LAYER_LAYER v)

/-- The 512-byte payload of a list of layers (R262). -/
def layerBits (l : List Nat) : List Byte :=
  (List.range 512).map fun k => BitVec.ofNat 8 (maskOf ((l.filter fun n => n / 8 == k).map (· % 8)))

/-- The layers of a payload. -/
def payloadLayers (b : List Byte) : List Nat := (List.range 4096).filter fun n => bit (byteAt b (n / 8)) (n % 8)

/-- The OR of payloads (R263). -/
def orPayloads (l : List (List Byte)) : List Byte :=
  (List.range 512).map fun k => l.foldl (fun a b => a ||| b.getD k 0#8) 0#8

/-- A layer of 4,096 or above that saturated is an anchor fault of its region (R65, R262). -/
def State.satFault (s : State) (slot : Nat) : Option State :=
  match (s.satLayers slot).find? fun x => decide (4096 ≤ x.2) with
  | some (r, _) => some (s.anchorFault r false (s.seq r).stepPc)
  | none => none

/-! ### The end of a step (R143) -/

/-- Release the job's step: staged prefetches go (R186), due publications are made (R226), regions that have cooled are STANDBY
(R414), a change of UPD.STALE takes effect (R229). -/
def State.releaseJob (s : State) (slot : Nat) : State :=
  let s := ((s.publishDue slot).stageRelease slot).readmitCooled.releaseStep slot
  s.wr pUPD UPD_JOB_STALE (b2n (bit (s.rd pUPD UPD_STALE_SLOTS) slot)) slot

/-- STEP_ENDED (R143, R229): LAST is compared; under the staleness option the step is released at once, once the commit
before it has passed. A serve job has no barrier: its step ends with its batch (R292). -/
def execStepEnded (slot : SlotIx) (s : State) : Host.Outcome State Fault Refusal :=
  let rs := s.regionsOf slot
  let last := rs.map fun r => (s.seq r).lastFlag
  keep s (
    if !s.allStepWait slot || s.serves slot then s
    else if last.any (· != last.headD false) then
      rs.foldl (fun s r => s.progFault r false (s.rd (regPage r) REG_SEQ_STATUS_PC - 1) REG_ERR_STATUS_LAST_MISMATCH) s
    else if s.stale slot && !last.headD false && (s.ce slot).satSaved.isNone then
      match s.satFault slot with
      | some s => s
      | none =>
        let count := s.nextCommit slot
        let x := layerBits ((s.satLayers slot).map (·.2))
        ((s.setCe slot { s.ce slot with satSaved := some (count, x) }).releaseJob slot).checkReady slot
    else s.checkReady slot)

/-! ### The barrier (R262, R263) -/

/-- A BARRIER, OUTCOME or ROLLBACK packet of a step on the commit group (R252). -/
def State.barPkt (s : State) (slot kind lvl src dst step : Nat) (payload : List Byte) : CPkt :=
  { kind := kind, level := lvl, tag := 0, step := step, gepoch := s.gepoch slot,
    members := (s.rankList slot (s.commitGroup slot) lvl).length, src := src, dst := dst, chunk := 0xFFFFFFFF, payload := payload }

/-- Record the payload of a rank, once. -/
def State.barPut (s : State) (slot step lvl rank : Nat) (x : List Byte) : State :=
  let v := s.ce slot
  if v.barrier.any fun e => e.1 == step && e.2.1 == lvl && e.2.2.1 == rank then s
  else s.setCe slot { v with barrier := v.barrier ++ [(step, lvl, rank, x)] }

/-- Send this member's payload on a level for every rank it plays: its own for its own rank, zeros for carried ranks. They go
to rank 0, at level 2 through the switch too (log 27). -/
def State.barSend (s : State) (slot step lvl : Nat) (x : List Byte) : State :=
  let g := s.commitGroup slot
  let l := s.rankList slot g lvl
  let mine := s.ranksPlayed slot l
  mine.foldl (fun s k =>
    let x := if l.getD k 0 = s.gSelf slot then x else List.replicate 512 0#8
    let s := if mine.contains 0 then s.barPut slot step lvl k x else s
    if mine.contains 0 && lvl == 1 then s else s.sendCPkt slot g lvl 0 (s.barPkt slot 8 lvl k 0 step x)) s

/-- The OR of a level, once this module combines it and every rank has sent. -/
def State.barSum (s : State) (slot step lvl : Nat) : Option (List Byte) :=
  let l := s.rankList slot (s.commitGroup slot) lvl
  let got := (s.ce slot).barrier.filter fun e => e.1 == step && e.2.1 == lvl
  if (s.ranksPlayed slot l).contains 0 && ((List.range l.length).all fun k => got.any fun e => e.2.2.1 == k) then
    some (orPayloads (got.map (·.2.2.2)))
  else none

/-! ### Commit, replay and rollback (R264, R265) -/

/-- Work in flight of a region ends without completing: its commands, contexts and what its cave was to do; its WLOADs stay
in flight where `keepLoads` says so (R339 event 4). -/
def State.dropWork (s : State) (r : Nat) (keepLoads : Bool) : State :=
  let w := s.wsp
  -- a WLOAD whose load has failed is taken back (R330)
  let stays := fun (o : Outst) => keepLoads && o.cls == 16
    && s.wsp.loads.any fun l => l.region == r && l.outId == some o.id
  let out := (s.seq r).outst
  let sids := (out.filter fun o => !stays o).filterMap (·.sid)
  let slot := s.jobOf r
  let w := { w with loads := w.loads.filter (fun l => keepLoads || l.region != r || l.outId.isNone), binds := w.binds.filter fun b => b.region != r }
  let s := { s with wsp := w }
  let s := sids.foldl (fun s sid => s.dropCtx slot sid) s
  let s := (s.setSeq r { s.seq r with outst := out.filter stays, arrivals := [] }).dropXfers r 0
  s.setCave r { s.cave r with pushes := [], pops := [], recomp := none }

/-- Every entry and every COUNT of a region's valid vat regions becomes 0 (R341). -/
def State.zeroVats (s : State) (r : Nat) : State :=
  let p := regPage r
  let vs := (List.range 16).filter fun v => s.rd p REG_VAT_REGION_VALID v == 1
  let inside := fun e => vs.any fun v => s.vatInside r v e
  let t := s.tileMem r
  let s := s.setTileMem r { t with vat := t.vat.filter (fun e => !inside (e.1 % vatSize)),
                                   vatMb := t.vatMb.filter fun e => !inside (e.1 % vatSize) }
  vs.foldl (fun s v => s.wr p REG_VAT_REGION_COUNT 0 v) s

/-- Put a region back by m steps that it has released since (R229, R265): where that step began, with its final N and its
admission record. -/
def State.stepBack (s : State) (r m : Nat) (raise : Bool) : State :=
  let q := s.seq r
  match q.prevs[m - 1]? with
  | none => s
  | some (pc, n, rs) =>
    let p := regPage r
    let s := ((s.caveStepBack r m).dropWork r false).zeroVats r
    let s := s.setSeq r { s.seq r with stepPc := pc, prevs := q.prevs.drop m, segDigests := [], oldDigests := [] }
    let s := s.wrs p [(REG_STEP_STATUS_STEP, s.rd p REG_STEP_STATUS_STEP + 65536 - m), (REG_STEP_COUNT_COUNT, s.rd p REG_STEP_COUNT_COUNT - m),
      (REG_STEP_STATUS_N_CUR, n), (REG_STEP_STATUS_OPENED, n), (REG_STEP_STATUS_FINAL, 1), (REG_STEP_STATUS_ENDED, 0)]
    let s := (s.wr p REG_ADMIT_ADMITTED (2 ^ min n 64 - 1) 0).wr p REG_ADMIT_ADMITTED (2 ^ (n - 64) - 1) 1
    (List.range 16).foldl (fun s v => s.wr p REG_VAT_REGION_RAISE (if raise then rs.getD v 0 else 0) v) s

/-- The attempt under way ends without a commit (R209, R222, R236, R243). -/
def State.endAttempt (s : State) (slot : Nat) : State :=
  let s := ((s.updEnd slot).holdDrop slot).mapCounts slot HeldCount.drop
  let s := (s.closeBuckets slot fun _ => true).dropXPosts slot
  let v := s.ce slot
  s.setCe slot { v with entered := false, satSaved := none, early := [], barrier := [], resends := [], heldKept := [], due := none }

/-- An OUTCOME for the step that this member has entered the barrier of (R264). -/
def State.applyOutcome (s : State) (slot step : Nat) (x : List Byte) : State :=
  let v := s.ce slot
  let count := s.nextCommit slot
  let layers := payloadLayers x
  let rs := s.regionsOf slot
  let released := v.satSaved.isSome
  let s := s.wrs pCE [(CE_JOB_OUTCOME_STEP, step), (CE_JOB_T_OUTCOME, s.tb.count)] slot
  let s := s.setCe slot { v with outcome := some (step, x) }
  if layers.isEmpty then
    let last := !released && rs.any fun r => (s.seq r).lastFlag
    let s := ((s.updCommit slot count last).holdCommit slot).mapCounts slot HeldCount.commit
    let s := s.closeBuckets slot fun b => b.step == step
    let v := s.ce slot
    let s := s.setCe slot { v with
      entered := false, satSaved := none, barrier := v.barrier.filter (fun e => e.1 != step), resends := [], heldKept := [] }
    let s := (s.wr pCE CE_JOB_BARRIER 2 slot).raiseEvt pCE CE_EVT_STATUS_COMMITTED |>.bump pCE CE_C_COMMITS
    if last then ((s.releaseJob slot).setJob slot { s.job slot with lastDone := true }).lastEgress slot
    else if released then s.checkReady slot
    else s.releaseJob slot
  else
    let s := s.endAttempt slot
    let s := (s.wr pCE CE_JOB_BARRIER 3 slot).raiseEvt pCE CE_EVT_STATUS_REPLAY_ORDERED |>.bump pCE CE_C_REPLAYS_ORDERED
    let s := if released then rs.foldl (fun s r => s.stepBack r 1 true) s else s
    rs.foldl (fun s r => s.replayRegion r layers) s

/-- The decision of the highest level of the commit group: act on it, if this member waits for it. While this module
restarts the step it is kept until every region has reached STEP_END again (R341; DEDUCED, log 33). -/
def State.barDecide (s : State) (slot step : Nat) (x : List Byte) : State :=
  let v := s.ce slot
  if !v.entered || s.barrierStep slot != step then s
  else if v.satSaved.isSome || s.allStepWait slot then (s.setCe slot { v with due := none }).applyOutcome slot step x
  else s.setCe slot { v with due := some (step, x) }

/-- The level-2 part of the barrier, or the decision where the commit group has no level 2 of several members. -/
def State.barLevel2 (s : State) (slot step : Nat) (x : List Byte) : State :=
  let g := s.commitGroup slot
  if (s.rankList slot g 2).length ≤ 1 then s.barDecide slot step x
  else
    let s := s.barSend slot step 2 x
    match s.barSum slot step 2 with
    | some y => (s.castCPkt slot g 2 (s.barPkt slot 9 2 0 0xFFFF step y)).barDecide slot step y
    | none => s

/-- The level-1 result is known at its combining CE. -/
def State.barLevel1 (s : State) (slot step : Nat) : State :=
  match s.barSum slot step 1 with
  | some y => (s.castCPkt slot (s.commitGroup slot) 1 (s.barPkt slot 9 1 0 0xFFFF step y)).barLevel2 slot step y
  | none => s

/-- Whether a member may enter the barrier (R262). -/
def State.barReady (s : State) (slot : Nat) : Bool :=
  let step := s.barrierStep slot
  let v := s.ce slot
  !v.entered && s.jobState slot == 3 && !s.serves slot && s.updReady slot
    && (let last := (s.regionsOf slot).map fun r => (s.seq r).lastFlag
        v.satSaved.isSome || !last.any (· != last.headD false))
    && v.buckets.all (fun b => b.step != step || b.done == 1 || b.done == 2)
    && (v.satSaved.isSome || (s.regionsOf slot).all fun r => (s.seq r).outst.all fun o => !bit o.cls 5)

/-- Enter the barrier, or act on an OUTCOME that waited (R262, R341). -/
def State.enterBarrier (s : State) (slot : Nat) : State :=
    if !s.barReady slot then
      match (s.ce slot).due with
      | some y => s.barDecide slot y.1 y.2
      | none => s
    else
      let v := s.ce slot
      let step := s.barrierStep slot
      let enter := fun (x : List Byte) =>
        let s := s.setCe slot { v with entered := true }
        let s := s.wrs pCE [(CE_JOB_BARRIER, 1), (CE_JOB_T_ENTER, s.tb.count)] slot
        if (s.rankList slot (s.commitGroup slot) 1).length ≤ 1 then s.barLevel2 slot step x
        else (s.barSend slot step 1 x).barLevel1 slot step
      match v.satSaved with
      | some y => enter y.2
      | none => match s.satFault slot with
        | some s => s
        | none => enter (layerBits ((s.satLayers slot).map (·.2)))

/-- A packet of the commit group past the port, its CRC and its epoch: kind 8, 9 or 11 (R252, R253). -/
def State.barIn (s : State) (m : Msg) (kind : Nat) (run : State → Nat → CPkt → State) : State :=
  match s.admitMsg m with
  | (s, none) => s
  | (s, some slot) =>
    let p := parseCPkt m.body
    if m.cls ≠ 2 ∨ byteAt m.body 0 ≠ 0x43 ∨ p.kind ≠ kind then s
    else if !cpktCrcOk m.body then (s.raiseErr pCE CE_ERR_STATUS_CHUNK_CRC).bump pCE CE_C_CRC_ERRS
    else if p.gepoch ≠ s.gepoch slot then s.bump pPLC PLC_C_STALE_EPOCH_DROPS
    else if p.tag ≠ 0 ∨ p.payload.length ≠ 512 ∨ 2 < p.level ∨ p.level = 0 then s
    else run s slot p

/-- A BARRIER for the level that this module combines (R263). -/
def State.takeBarrier (s : State) (m : Msg) : State :=
  s.barIn m 8 fun s slot p =>
    if !(s.ranksPlayed slot (s.rankList slot (s.commitGroup slot) p.level)).contains 0 then s
    else
      let s := s.barPut slot p.step p.level p.src p.payload
      if p.level = 1 then s.barLevel1 slot p.step
      else match s.barSum slot p.step 2 with
        | some y => (s.castCPkt slot (s.commitGroup slot) 2 (s.barPkt slot 9 2 0 0xFFFF p.step y)).barDecide slot p.step y
        | none => s

/-- An OUTCOME (R263, R264): at level 1 the level's result, at level 2 the decision. -/
def State.takeOutcome (s : State) (m : Msg) : State :=
  s.barIn m 9 fun s slot p =>
    if p.level = 1 then (if (s.ce slot).entered && s.barrierStep slot == p.step then s.barLevel2 slot p.step p.payload else s)
    else s.barDecide slot p.step p.payload

/-- Roll back the step last committed and replay it (R265). -/
def State.rollback (s : State) (slot : Nat) : State :=
  let back := if (s.ce slot).satSaved.isSome then 2 else 1
  let s := s.endAttempt slot
  let s := ((s.updRollback slot).holdRollback slot).mapCounts slot HeldCount.rollback
  let s := (s.wr pCE CE_JOB_BARRIER 4 slot).raiseEvt pCE CE_EVT_STATUS_ROLLBACK |>.bump pCE CE_C_ROLLBACKS
  (s.regionsOf slot).foldl (fun s r => (s.stepBack r back false).replayRegion r []) s

/-- Whether a step is the one last committed, so that it can be rolled back (R265). -/
def State.canRollback (s : State) (slot step : Nat) : Bool :=
  let back := if (s.ce slot).satSaved.isSome then 2 else 1
  !(s.regionsOf slot).isEmpty && step == (s.barrierStep slot + 65535) % 65536
    && (s.regionsOf slot).all fun r => decide (back ≤ (s.seq r).prevs.length)

/-- Send ROLLBACK for a step to every other member of the commit group. -/
def State.castRollback (s : State) (slot step : Nat) : State :=
  let g := s.commitGroup slot
  [1, 2].foldl (fun s l =>
    let me := ((s.rankList slot g l).findIdx? (· == s.gSelf slot)).getD 0
    s.castCPkt slot g l (s.barPkt slot 11 l me 0xFFFF step (List.replicate 512 0#8))) s

/-- COLL_ROLLBACK (R265): forwarded once, then carried out, unless the next step has committed. -/
def execCollRollback (m : Msg) (s : State) : Host.Outcome State Fault Refusal :=
  keepQ s (s.barIn m 11 fun s slot p =>
    if s.canRollback slot p.step then (s.castRollback slot p.step).rollback slot else s)

end Sys2Proof.Machine
end

