-- ==== Sys2Proof/Machine/Docket.lean ====
section
/-! DEFINITION. The docket unit (R149–R167): fetching, admission checks 1 to 3, allocation (R383), job control messages and
the ports' keys. Check 4 and the start of a job stand in JobLoad. -/

namespace Sys2Proof.Machine

/-- Slots in FREE. -/
def State.freeSlots (s : State) : List Nat := (List.range 16).filter fun j => s.jobState j == 0

/-! ### Signatures (R153) -/

/-- Forty-eight big-endian bytes held in six words from an offset of the DOCK page. -/
def State.signerCoord (s : State) (off : Nat) : Nat :=
  (List.range 6).foldl (fun v k => v * 2 ^ 64 + (s.getReg (regAddr pDOCK (off + 8 * k))).toNat) 0

/-- The key of a signer entry; an entry that is VALID and not a point of P-384 sets SIGNER_BAD and is invalid. -/
def State.signerKey (s : State) (k : Nat) : State × Option (Nat × Nat) :=
  if 3 < k ∨ s.rd pDOCK DOCK_SIGNER_VALID k = 0 then (s, none)
  else
    let p := (s.signerCoord (0x1008 + 0x80 * k), s.signerCoord (0x1038 + 0x80 * k))
    if onCurve p then (s, some p) else (s.raiseErr pDOCK DOCK_ERR_STATUS_SIGNER_BAD, none)

/-- Whether a message of `n` signed bytes followed by its signature verifies. -/
def State.signedBy (s : State) (b : List Byte) (signer n : Nat) : State × Bool :=
  match s.signerKey signer with
  | (s, none) => (s, false)
  | (s, some k) => (s, ecdsaVerify k (sha384 (b.take n)) (b.drop n))

/-- Whether NOT_AFTER has not passed: 0, or a locked time base at or before it. -/
def State.notAfter (s : State) (t : Nat) : Bool := t == 0 || (s.rd pTBASE TBASE_STATUS_LOCKED == 1 && decide (s.tb.count ≤ t))

/-! ### The docket (R151) -/

/-- The form test of check 1. -/
def docketForm (b : List Byte) : Bool :=
  let z := fun o n => (List.range n).all fun k => byteAt b (o + k) == 0
  b.length == 512 && leAt b 0 4 == 0x4B445242 && byteAt b 4 == 1 && decide (byteAt b 6 ≤ 1)
    && (byteAt b 5 != 0 || (decide (leAt b 20 2 < 2 ^ 14) && decide (leAt b 22 2 < 2) && z 97 1 && z 168 248))
    && leAt b 8 8 != 0 && decide (leAt b 40 16 < 2 ^ 84) && decide (1 ≤ leAt b 88 4 ∧ leAt b 88 4 ≤ 1536)
    && decide (leAt b 94 2 ≤ 4096) && decide (byteAt b 96 ≤ 64)

/-- The regions and the ports that a docket names. -/
def docketRegions (b : List Byte) : List Nat := maskList 84 (leAt b 40 16)
def docketPorts (b : List Byte) : List Nat := maskList 256 (leAt b 56 32)

/-! ### Resource fit (R155) -/

/-- Whether a slot's resources count as held: LOADING and RUNNING, and TEARDOWN unless it is disregarded. -/
def State.counts (s : State) (tear : Bool) (j : Nat) : Bool :=
  s.jobState j == 2 || s.jobState j == 3 || (!tear && s.jobState j == 4)

/-- Free stack space in GB (R155, R379). -/
def State.freeGb (s : State) (tear : Bool) : Nat :=
  s.rd pMEM MEM_MAP_CACHE_BASE_GB - (((List.range 16).filter (s.counts tear)).map s.jobGb).sum

/-- Free stream contexts, buckets and weight key slots. -/
def State.freeCtx (s : State) (tear : Bool) : Nat :=
  65536 - (((List.range 16).filter (s.counts tear)).map fun j => s.rd pSCT SCT_JOB_LIMIT j).sum
def State.freeBuckets (s : State) (tear : Bool) : Nat :=
  4096 - (((List.range 16).filter (s.counts tear)).map fun j => s.docketAt j 94 2).sum
def State.freeKeys (s : State) (tear : Bool) : Nat :=
  ((List.range 64).filter fun k => s.rd pWSP WSP_KEYSLOT_VALID k == 0
    || (tear && s.jobState (s.rd pWSP WSP_KEYSLOT_OWNER k) == 4 && decide (s.rd pWSP WSP_KEYSLOT_OWNER k < 16))).length

/-- Whether a region is ACTIVE and free. -/
def State.regionFree (s : State) (tear : Bool) (r : Nat) : Bool :=
  s.regionState r == 0 && match s.slotOf r with | none => true | some j => tear && s.jobState j == 4

/-- Whether a port exists and is free. -/
def State.portFree (s : State) (tear : Bool) (p : Nat) : Bool :=
  s.portExists p && match s.portSlot p with | none => true | some j => tear && s.jobState j == 4

/-- Whether a docket that names these ports names every member of a port's bond (R374). -/
def State.bondNamed (s : State) (ps : List Nat) (p : Nat) : Bool :=
  s.rd (portPage p) OPT_PORT_CFG_IN_BOND (p % 4) == 0
    || (s.bondPorts (s.rd (portPage p) OPT_PORT_CFG_BOND (p % 4))).all ps.contains

/-- The twins of a paired job: as many free ACTIVE regions outside its mask, the lowest first (R351). -/
def State.twinsFor (s : State) (tear : Bool) (b : List Byte) : List Nat :=
  let rs := docketRegions b
  ((List.range 84).filter fun r => !rs.contains r && s.regionFree tear r).take rs.length

/-- Whether a docket fits. -/
def State.fits (s : State) (slot : Nat) (b : List Byte) (tear : Bool) : Bool :=
  let rs := docketRegions b
  let ps := docketPorts b
  let sport := leAt b 98 2
  decide (1 ≤ rs.length ∧ rs.length ≤ 80) && rs.all (s.regionFree tear) && ps.all (s.portFree tear) && ps.all (s.bondNamed ps)
    && (if leAt b 22 2 % 2 = 0 then ps.contains sport && s.isS sport
        else decide (leAt b 112 8 < 256) && s.rd pCELL CELL_IMAGE_VALID (leAt b 112 8) == 1)
    && decide (leAt b 88 4 ≤ s.freeGb tear) && decide (leAt b 92 2 ≤ s.freeCtx tear)
    && decide (leAt b 94 2 ≤ s.freeBuckets tear) && decide (byteAt b 96 ≤ s.freeKeys tear)
    && (!bit (s.rd pPLC PLC_PAIR_SLOTS) slot || (s.twinsFor tear b).length == rs.length)

/-! ### Allocation (R383) -/

/-- The GB of the job range that no allocation holds, ascending. -/
def State.freeRuns (s : State) : List Nat :=
  let used := ((List.range 16).filter fun j => s.jobState j != 0).flatMap s.extents
  (List.range (s.rd pMEM MEM_MAP_CACHE_BASE_GB)).filter fun g => !used.any fun e => decide (e.2.2 ≤ g) && decide (g < e.2.2 + e.2.1)

/-- Ascending GB numbers as maximal runs (first, length). -/
def runsOf : List Nat → List (Nat × Nat)
  | [] => []
  | g :: gs => match runsOf gs with
    | (h, n) :: rest => if h = g + 1 then (g, n + 1) :: rest else (g, 1) :: (h, n) :: rest
    | [] => [(g, 1)]

/-- Zero the module addresses lo to hi − 1: unlisted bytes read 0. -/
def State.memZero (s : State) (lo hi : Nat) : State := { s with mem := s.mem.filter fun c => decide (c.1 < lo) || decide (hi ≤ c.1) }

/-- Give a slot its stack space, zeroed. -/
def State.allocStack (s : State) (slot size : Nat) : State :=
  let runs := runsOf (s.freeRuns.take size)
  (runs.zipIdx.foldl (fun (a : State × Nat) x =>
    let e := 32 * slot + x.2
    let s := a.1.wrs pMEM [(MEM_EXTENT_VALID, 1), (MEM_EXTENT_START_GB, a.2), (MEM_EXTENT_LEN_GB, x.1.2),
      (MEM_EXTENT_BASE_GB, x.1.1)] e
    (s.memZero (x.1.1 * gb) ((x.1.1 + x.1.2) * gb), a.2 + x.1.2)) (s, 0)).1

/-! ### Keys of ports (R160, R161, R163) -/

/-- The slot whose job has a JOB_ID, from check 3 until it is FREE. -/
def State.slotOfJob (s : State) (id : Nat) : Option Nat :=
  (List.range 16).find? fun j => decide (2 ≤ s.jobState j) && s.rd pDOCK DOCK_JOB_JOB_ID j == id

/-- INSTALL on a job's slot: its named ports in AWAIT_KEY become KEYED; the rest are counted as skipped. -/
def State.installKeys (s : State) (slot key : Nat) (ports : List Nat) : State :=
  let go := fun p => s.portSlot p == some slot && s.portState p == 1 && s.rd pDOCK DOCK_JOB_PART_KEY slot == key
  let s' := s.bump pDOCK DOCK_C_KEY_MSG_SKIPPED (ports.filter fun p => !go p).length
  (ports.filter go).foldl (fun s p => (s.wrs pDOCK [(DOCK_PORT_STATE, 2), (DOCK_PORT_KEY_TAG, key % 65536)] p).flushPort p) s'

/-- Apply every pending INSTALL of a job that has just been admitted, once each. -/
def State.applyPending (s : State) (slot : Nat) : State :=
  let id := s.rd pDOCK DOCK_JOB_JOB_ID slot
  let mine := s.dock.installs.filter fun x => x.2.job == id
  let s := { s with dock := { s.dock with installs := s.dock.installs.filter fun x => x.2.job != id } }
  mine.foldl (fun s x => s.installKeys slot x.2.key (maskList 256 x.2.ports)) s

/-- Hold an INSTALL for a job that no slot holds; a full table drops its oldest entry. -/
def State.holdInstall (s : State) (e : PendInstall) : State :=
  let l := s.dock.installs
  let l := if 16 ≤ l.length then l.drop 1 else l
  let n := ((List.range 16).find? fun k => !l.any fun x => x.1 == k).getD 0
  { s with dock := { s.dock with installs := l ++ [(n, e)] } }

/-- INSTALL_PENDING_EXPIRY (R163): an entry that no admission used within 30 s. -/
def execInstallPendingExpiry (entry : Fin 16) (s : State) : Host.Outcome State Fault Refusal :=
  let l := s.dock.installs.filter fun x => x.1 != entry.val
  keep s { s with dock := { s.dock with installs := l } }

/-! ### Admission (R154) -/

/-- Refuse a docket (R154, R166, R167): its record, its counter and, past the signature test, its report; the slot is FREE. -/
def State.refuseDocket (s : State) (slot : Nat) (b : List Byte) (outcome cause : Nat) (cnt : Fld) : State :=
  let path := (s.job slot).path
  let s := s.wrs pDOCK [(DOCK_LAST_REFUSAL_DOCKET_ID_LOW, leAt b 8 6), (DOCK_LAST_REFUSAL_CAUSE, cause), (DOCK_LAST_REFUSAL_OUTCOME, outcome)]
  let s := ((s.bump pDOCK cnt).raiseEvt pDOCK DOCK_EVT_STATUS_REFUSED).wr pDOCK DOCK_JOB_STATE 0 slot
  if outcome ≤ 2 then s.setJob slot {}
  else
    let (v, s) := s.draw
    let (rep, s) := s.reportBytes outcome cause (leAt b 8 8) (leAt b 16 4) (v.toNat % 2 ^ 32) 0 s.tb.count
    (s.setJob slot { path := path, report := rep }).sendReport slot

/-- Check 3 passes: the docket's resources are the slot's, its ports enter AWAIT_KEY, and the load begins (R156, R159). -/
def State.takeDocket (s : State) (slot : Nat) (b : List Byte) : State :=
  let paired := bit (s.rd pPLC PLC_PAIR_SLOTS) slot
  let rs := docketRegions b
  let twins := if paired then s.twinsFor false b else []
  let s := s.wrs pDOCK [(DOCK_JOB_STATE, 2), (DOCK_JOB_JOB_ID, leAt b 16 4),
    (DOCK_JOB_DOCKET_ID, leAt b 8 8), (DOCK_JOB_PART_KEY, leAt b 32 8), (DOCK_JOB_T_ADMIT, 0)] slot
  let s := (rs ++ twins).foldl (fun s r => s.wrs pPLC [(PLC_REGION_HELD, 1), (PLC_REGION_SLOT, slot)] r) s
  let s := (rs.zip twins).foldl (fun s x => (s.wr pPLC PLC_REGION_TWIN x.2 x.1).wr pPLC PLC_REGION_TWIN x.1 x.2) s
  let s := s.wrs pPLC [(PLC_JOB_VALID, 1), (PLC_JOB_PAIRED, b2n paired)] slot
  let s := (s.wr pSCT SCT_JOB_LIMIT (leAt b 92 2) slot).allocStack slot (leAt b 88 4)
  let keys := ((List.range 64).filter fun k => s.rd pWSP WSP_KEYSLOT_VALID k == 0).take (byteAt b 96)
  let s := keys.foldl (fun s k => s.wrs pWSP [(WSP_KEYSLOT_VALID, 1), (WSP_KEYSLOT_OWNER, slot)] k) s
  let s := (docketPorts b).foldl (fun s p =>
    s.wrs pDOCK [(DOCK_PORT_STATE, 1), (DOCK_PORT_HELD, 1), (DOCK_PORT_SLOT, slot), (DOCK_PORT_KEY_TAG, 0)] p) s
  s.applyPending slot

/-- Check 3; `last` is its second and last run. -/
def State.check3 (s : State) (slot : Nat) (b : List Byte) (last : Bool) : State :=
  if (s.slotOfJob (leAt b 16 4)).isSome then s.refuseDocket slot b 0x20 0 DOCK_C_REFUSED_FIT
  else if s.fits slot b false then s.takeDocket slot b
  else if !last && s.fits slot b true then (s.setJob slot { s.job slot with fitWait := true }).bump pDOCK DOCK_C_FIT_WAITS
  else s.refuseDocket slot b 0x21 0 DOCK_C_REFUSED_FIT

/-- The next docket uses a slot: a report that still waits there for its path is no longer in the slot's entry, and one given
up is gone (R166). -/
def State.reuseSlot (s : State) (slot : Nat) : State :=
  let j := s.job slot
  if j.report.isEmpty || j.lost then s
  else { s with dock := { s.dock with reports := s.dock.reports ++ [(slot, j.path, j.report)] } }

/-- Checks 1 to 3 on a docket in a slot (R154). A RETIRED module admits none: it is dropped unanswered (R44, DEDUCED, log
89). -/
def State.admitDocket (s : State) (slot : Nat) (path : CtlPath) (b : List Byte) : State :=
  if s.lifecycle = 3 then s
  else
  let s := ((s.reuseSlot slot).setJob slot { docket := b, path := path }).wr pDOCK DOCK_JOB_STATE 1 slot
  -- held in ADMITTING while a route check runs (R317)
  if s.rd pFAB FAB_STATUS_CHECK = 1 then s
  else
  let id := leAt b 8 8
  let key := leAt b 32 8
  let sig := fun (s : State) o => s.refuseDocket slot b o 0 DOCK_C_REFUSED_SIG
  let bad := fun (s : State) c => s.refuseDocket slot b 0x10 c DOCK_C_REFUSED_KEY
  if !docketForm b then sig s 1
  else match s.signedBy b (byteAt b 7) 416 with
    | (s, false) => sig s 2
    | (s, true) =>
      let seen := s.dock.ids.contains id
      let ids := (s.dock.ids ++ [id]).drop (s.dock.ids.length + 1 - 1024)
      let s := { s with dock := { s.dock with ids := ids } }
      if s.rd pGLB GLB_MODULE_ID_VALID = 0 ∨ leAt b 20 2 % 2 ^ 14 ≠ s.rd pGLB GLB_MODULE_ID_ID then sig s 3
      else if !s.notAfter (leAt b 24 8) then sig s 4
      else if seen then sig s 5
      else if key = 0 then bad s 1
      else if (List.range 16).any fun j => decide (2 ≤ s.jobState j) && s.rd pDOCK DOCK_JOB_PART_KEY j == key then bad s 2
      else if s.dock.revoked.contains key then bad s 3
      else s.check3 slot b false

/-- Admit the dockets that wait, in arrival order, one at a time (R159). -/
def State.admitNext (s : State) : State :=
  s.dock.behind.foldl (fun s _ =>
    if !s.dock.pmbusDone || (List.range 16).any fun j => s.jobState j == 1 then s
    else match s.freeSlots, s.dock.behind with
      | j :: _, (p, b) :: rest => { s with dock := { s.dock with behind := rest } }.admitDocket j p b
      | _, _ => s) s

/-! ### Fetching (R149) -/

/-- Whether the cluster controller can be asked on a path (R149): the S-port of that number is there, whatever its state, or the
management path has a key and an address (DEDUCED, log 152). -/
def State.canAsk (s : State) (p : CtlPath) : Bool :=
  match p with
  | .mgmt => s.rd pMGT MGT_STATUS_KEY_VALID == 1 && s.rd pMGT MGT_CLUSTER_MAC_MAC != 0
  | .port p => s.portExists p && s.isS p

/-- DOCKET_FETCH (R149): each period. -/
def execDocketFetch (s : State) : Host.Outcome State Fault Refusal :=
  keep s (
    let path : CtlPath := if s.rd pDOCK DOCK_FETCH_CFG_SOURCE = 0 then .mgmt else .port (s.rd pDOCK DOCK_FETCH_CFG_SPORT)
    let n := s.freeSlots.length
    if s.rd pDOCK DOCK_CTRL_FETCH_EN = 0 ∨ n = 0 ∨ s.dock.fetch.isSome ∨ s.stage ≠ 0x0A ∨ s.on pDOCK = false
        ∨ s.rd pFLT FLT_STATUS_MODULE_FAILED = 1 ∨ s.canAsk path = false ∨ s.lifecycle = 3 then s
    else
      let body := leBytes 2 (s.rd pGLB GLB_MODULE_ID_ID + 2 ^ 15 * s.rd pGLB GLB_MODULE_ID_VALID) ++ leBytes 1 n ++ leBytes 5 0
      let (q, s) := s.sendControl path 1 body
      ({ s with dock := { s.dock with fetch := some (path, q) } }.wr pDOCK DOCK_STATUS_FETCH_OUT 1).bump pDOCK DOCK_C_FETCHES)

/-- End the outstanding fetch. -/
def State.endFetch (s : State) : State := { s with dock := { s.dock with fetch := none } }.wr pDOCK DOCK_STATUS_FETCH_OUT 0

/-- Take an answer to the outstanding fetch, or count it as refused (R149). -/
def State.fetchAnswer (s : State) (c : CtlMsg) (ctype : Nat) (run : State → State) : State :=
  let (s, ok) := s.ctlArrive c
  if !ok then s
  else match s.dock.fetch with
    | some f => if s.ctlAnswers c f && c.ctype == ctype then run s.endFetch else s.bump pDOCK DOCK_C_CONTROL_REFUSED
    | none => s.bump pDOCK DOCK_C_CONTROL_REFUSED

/-- DOCKET (R149, R154). The allocation is zeroed in stack memory. -/
def execDocket (c : CtlMsg) (s : State) : Host.Outcome State Fault Refusal :=
  keepQ s (s.fetchAnswer c 2 fun s =>
    let s := { s with dock := { s.dock with behind := s.dock.behind ++ [(c.path, c.body)] } }
    s.admitNext)

/-- EMPTY (R149). -/
def execEmpty (c : CtlMsg) (s : State) : Host.Outcome State Fault Refusal := keep s (s.fetchAnswer c 3 id)

/-- FETCH_TIMEOUT (R149): 1 s without an answer. -/
def execFetchTimeout (s : State) : Host.Outcome State Fault Refusal := keep s (if s.dock.fetch.isSome then s.endFetch else s)

/-- FIT_RECHECK (R155): check 3 runs again, once, when the resources of TEARDOWN slots are free or FIT_WAIT has passed. -/
def execFitRecheck (slot : SlotIx) (waitOver : Bool) (s : State) : Host.Outcome State Fault Refusal :=
  let b := (s.job slot).docket
  keepQ s (
    if s.jobState slot ≠ 1 ∨ (s.job slot).fitWait = false ∨ s.rd pFAB FAB_STATUS_CHECK = 1 then s
    else if !waitOver && !s.fits slot b false && s.fits slot b true then s
    else ((s.setJob slot { s.job slot with fitWait := false }).check3 slot b true).admitNext)

/-- PORT_QUIESCE_DONE (R164): event 4 for one port; a docket that waits for a slot is taken when one is FREE. -/
def execPortQuiesceDone (port : PortIx) (s : State) : Host.Outcome State Fault Refusal :=
  keepQ s (match s.portSlot port with
    | none => s
    | some j => if s.portState port = 3 then ((s.fencePort port).tearDone j).admitNext else s)

/-- A failure at check 4 (R156, R167). -/
def State.loadFail (s : State) (slot outcome : Nat) : State :=
  let b := (s.job slot).docket
  let s := s.wrs pDOCK [(DOCK_LAST_REFUSAL_DOCKET_ID_LOW, leAt b 8 6), (DOCK_LAST_REFUSAL_CAUSE, 0), (DOCK_LAST_REFUSAL_OUTCOME, outcome)]
  ((s.bump pDOCK DOCK_C_REFUSED_IMAGE).raiseEvt pDOCK DOCK_EVT_STATUS_REFUSED).endJob slot outcome 0

/-- KEY_WAIT_TIMEOUT (R161). -/
def execKeyWaitTimeout (port : PortIx) (s : State) : Host.Outcome State Fault Refusal :=
  keep s (match s.portSlot port with
    | some j => if s.portState port = 1 && s.jobState j == 3 then s.endJob j 0x41 4 else s
    | none => s)

/-! ### Job control messages (R162, R163) -/

/-- Whether a job control message is accepted; a signer entry that is no point sets SIGNER_BAD. -/
def State.jobCtlOk (s : State) (b : List Byte) : State × Bool :=
  let z := fun o n => (List.range n).all fun k => byteAt b (o + k) == 0
  let form := b.length == 256 && leAt b 0 4 == 0x4D4B5242 && byteAt b 4 == 1 && byteAt b 5 == 0
    && decide (1 ≤ byteAt b 6 ∧ byteAt b 6 ≤ 3) && decide (byteAt b 7 ≤ 3) && z 20 4 && z 72 88
  if !form then (s, false)
  else
    let (s, ok) := s.signedBy b (byteAt b 7) 160
    (s, ok && decide (s.rd pDOCK DOCK_KEY_SEQ_SEQ < leAt b 8 8) && s.notAfter (leAt b 64 8))

/-- The effect of an accepted message, and whether it is answered TOO_LATE (R163). -/
def State.jobCtlRun (s : State) (b : List Byte) : State × Bool :=
  let id := leAt b 16 4
  let ports := maskList 256 (leAt b 32 32)
  match byteAt b 6, s.slotOfJob id with
  | 1, some j => (s.installKeys j (leAt b 24 8) ports, false)
  | 1, none => (s.holdInstall ⟨id, leAt b 24 8, leAt b 32 32⟩, false)
  | 2, j =>
    let go := fun p => j.isSome && s.portSlot p == j && s.portState p == 2
    let s' := s.bump pDOCK DOCK_C_KEY_MSG_SKIPPED (ports.filter fun p => !go p).length
    ((ports.filter go).foldl (fun s p => s.wrs pDOCK [(DOCK_PORT_STATE, 1), (DOCK_PORT_KEY_TAG, 0)] p) s', false)
  | _, some j => (s.endJob j 0x41 1, s.jobState j == 4)
  | _, none => (s.bump pFLT FLT_C_TOO_LATE_COUNT, true)

/-- A status that the spec does not state: a free value. -/
def State.freeStatus (s : State) : State × Nat :=
  let (v, s) := s.draw
  (s, v.toNat % 256)

/-- What a job control message with a body does, and its status; none is stated for a refused message or for TOO_LATE: a free
value (log 22). -/
def State.jobCtlAct (s : State) (b : List Byte) : State × Nat :=
  match s.jobCtlOk b with
  | (s, false) => (s.bump pDOCK DOCK_C_CONTROL_REFUSED).freeStatus
  | (s, true) =>
    match (s.wr pDOCK DOCK_KEY_SEQ_SEQ (leAt b 8 8)).jobCtlRun b with
    | (s, false) => (s, stOk)
    | (s, true) => s.freeStatus

/-- A job control message on either path. -/
def State.jobCtl (s : State) (c : CtlMsg) : State := s.ctlRequest c 4 fun s => s.jobCtlAct c.body

/-- INSTALL (R163). -/
def execInstall (c : CtlMsg) (s : State) : Host.Outcome State Fault Refusal := keep s (s.jobCtl c)

/-- REVOKE (R163). -/
def execRevoke (c : CtlMsg) (s : State) : Host.Outcome State Fault Refusal := keep s (s.jobCtl c)

/-- CANCEL (R163). -/
def execCancel (c : CtlMsg) (s : State) : Host.Outcome State Fault Refusal := keep s (s.jobCtl c)

end Sys2Proof.Machine
end

