-- ==== Sys2Proof/Machine/Fabric.lean ====
section
/-! DEFINITION. The wafer fabric (R305–R326): the region grid, the route table and its check, bypassed regions and the detour
table, the stall watchdog. The packets themselves are in Machine/Packets.lean. -/

namespace Sys2Proof.Machine

/-! ### Route tables (R314, R315) -/

/-- The default entry for s and d (R315): CLASS in bits 1…0, MID in bits 5…2. -/
def defaultRoute (s d : Nat) : Nat :=
  let row := (regionPos s).2
  let edge := (regionPos d).1 < 2 || (regionPos d).1 ≥ 8
  if row < 2 && edge then 2 + 4 * 2 else if 8 ≤ row && edge then 2 + 4 * 7 else 0

/-- Load the default table into bank 0, which boot does (R315). -/
def State.loadDefaultRoutes (s : State) : State :=
  (List.range 882).foldl (fun s w =>
    let v := (List.range 8).foldl (fun a k => a + defaultRoute ((8 * w + k) / 84) ((8 * w + k) % 84) * 256 ^ k) 0
    s.wr pFAB FAB_ROUTE_BANK0_WORD v w) s

/-! ### The route check (R316) -/

/-- A leg of a route family: along X or along Y, from a band of coordinates to a band; a tied leg keeps its offset in the band. -/
structure Leg where
  alongX : Bool
  src : Nat
  dst : Nat
  tied : Bool
  deriving DecidableEq, Repr

/-- The legs of the routes from region s to region d (R314). -/
def routeLegs (s d e : Nat) : List Leg :=
  let (cs, rs) := regionPos s
  let (cd, rd) := regionPos d
  let mid := bits e 5 2
  match e % 4 with
  | 0 => [⟨true, cs, cd, false⟩, ⟨false, rs, rd, false⟩]
  | 1 => [⟨false, rs, rd, false⟩, ⟨true, cs, cd, false⟩]
  | 2 => [⟨false, rs, mid, false⟩, ⟨true, cs, cd, false⟩, ⟨false, mid, rd, true⟩]
  | _ => [⟨true, cs, mid, false⟩, ⟨false, rs, rd, false⟩, ⟨true, mid, cd, true⟩]

/-- The numbers from a to b in either order. -/
def between (a b : Nat) : List Nat := (List.range (max a b + 1)).filter fun k => decide (min a b ≤ k)

/-- The regions positions that the legs cross, from a position on. -/
def legsCross : Nat × Nat → List Leg → List (Nat × Nat)
  | p, [] => [p]
  | (c, r), l :: ls =>
    if l.alongX then (between c l.dst).map (fun k => (k, r)) ++ legsCross (l.dst, r) ls
    else (between r l.dst).map (fun k => (c, k)) ++ legsCross (c, l.dst) ls

/-- Tiles of a band along an axis: 17 per region column, 16 per region row. -/
def bandSize (alongX : Bool) : Nat := if alongX then 17 else 16

/-- Travel directions: 0 N, 1 E, 2 S, 3 W. -/
def legDirs (l : Leg) : List Nat :=
  let up := if l.alongX then 1 else 2
  let down := if l.alongX then 3 else 0
  if l.src < l.dst then [up] else if l.dst < l.src then [down] else if l.tied then [] else [up, down]

/-- Whether the leg can have length 0. -/
def Leg.mayRest (l : Leg) : Bool := l.src == l.dst

/-- Whether a route of the leg can arrive at offset v of its last band moving in direction d; and leave offset u of its first
band moving in d. -/
def Leg.arrives (l : Leg) (d v : Nat) : Bool :=
  (legDirs l).contains d && (l.src != l.dst || (if d = 1 ∨ d = 2 then decide (0 < v) else decide (v + 1 < bandSize l.alongX)))
def Leg.leaves (l : Leg) (d u : Nat) : Bool :=
  (legDirs l).contains d && (l.src != l.dst || (if d = 1 ∨ d = 2 then decide (u + 1 < bandSize l.alongX) else decide (0 < u)))

/-- The straight transitions of a leg whose other axis lies in a band: (X, Y, direction, direction). -/
def legStraights (l : Leg) (other : Nat) : List (Nat × Nat × Nat × Nat) :=
  let n := bandSize l.alongX
  let m := bandSize (!l.alongX)
  let lo := n * min l.src l.dst + 1
  let hi := n * max l.src l.dst + n - 1
  (legDirs l).flatMap fun d => ((List.range hi).filter fun k => decide (lo ≤ k)).flatMap fun k => (List.range m).map fun j =>
    if l.alongX then (k, m * other + j, d, d) else (m * other + j, k, d, d)

/-- The transitions from leg a to leg b at the tiles of the position where a ends; the legs between them rest. -/
def legTurns (a b : Leg) (at_ : Nat × Nat) : List (Nat × Nat × Nat × Nat) :=
  (List.range 17).flatMap fun i => (List.range 16).flatMap fun j =>
    (legDirs a).flatMap fun da => (legDirs b).filterMap fun db =>
      if a.arrives da (if a.alongX then i else j) && b.leaves db (if b.alongX then i else j) then
        some (17 * at_.1 + i, 16 * at_.2 + j, da, db)
      else none

/-- The position reached after a leg. -/
def Leg.step (l : Leg) (p : Nat × Nat) : Nat × Nat := if l.alongX then (l.dst, p.2) else (p.1, l.dst)

/-- The transitions that a leg and the legs after it make: each says that the link into tile (X, Y) in the first direction is
followed by the link out of it in the second. -/
def legsTrans : Nat × Nat → List Leg → List (Nat × Nat × Nat × Nat)
  | _, [] => []
  | p, a :: ls =>
    let q := a.step p
    let turns := match ls with
      | [] => []
      | b :: rest => legTurns a b q ++ (match rest with
        | [] => []
        | c :: _ => if b.mayRest then legTurns a c q else [])
    legStraights a (if a.alongX then p.2 else p.1) ++ turns ++ legsTrans q ls

/-- The node of a link: the tile it enters and its direction. -/
def linkNode (x y d : Nat) : Nat := (y * 170 + x) * 4 + d

/-- The node of the link out of a tile in a direction. -/
def linkOut (x y d : Nat) : Nat :=
  match d with
  | 0 => linkNode x (y - 1) 0
  | 1 => linkNode (x + 1) y 1
  | 2 => linkNode x (y + 1) 2
  | _ => linkNode (x - 1) y 3

/-- Take away the edges whose source has no edge into it, n times: what is left has a cycle. -/
def peel : Nat → List (Nat × Nat) → List (Nat × Nat)
  | 0, l => l
  | n + 1, l =>
    let heads : Array Bool := l.foldl (fun a e => a.set! e.2 true) (Array.replicate 108800 false)
    let l' := l.filter fun e => heads.getD e.1 false
    if l'.length = l.length then l else peel n l'

/-- Whether the dependency graph of the first n entries of a table has a cycle. -/
def routeCyclic (entry : Nat → Nat) (n : Nat) : Bool :=
  let trans := (List.range n).flatMap fun e => legsTrans (regionPos (e / 84)) (routeLegs (e / 84) (e % 84) (entry e))
  let marks : Array Bool := trans.foldl (fun a t => a.set! (linkNode t.1 t.2.1 t.2.2.1 * 4 + t.2.2.2) true) (Array.replicate 435200 false)
  let edges := (List.range 435200).filterMap fun k =>
    if marks.getD k false then
      let v := k / 4
      some (v, linkOut (v / 4 % 170) (v / 680) (k % 4))
    else none
  !(peel 108801 edges).isEmpty

/-- A failure of one entry by itself: 4 FIELD or 2 ABSENT. No route of these classes exceeds 1,024 hops, so LENGTH never
occurs. An entry for s = d that is not 0 is a FIELD failure (R314; DEDUCED, log 32). -/
def entryFails (s d e : Nat) : Option Nat :=
  if 64 ≤ e || decide (9 < bits e 5 2) || (s == d && e != 0) then some 4
  else if (legsCross (regionPos s) (routeLegs s d e)).all fun p => posPresent p.1 p.2 then none else some 2

/-- The first failure of a table in ascending s and d: (KIND, s, d). A cycle belongs to the entry that closes it (DEDUCED,
log 32). -/
def routeCheck (entry : Nat → Nat) : Option (Nat × Nat × Nat) :=
  let own := (List.range 7056).findSome? fun e => (entryFails (e / 84) (e % 84) (entry e)).map fun k => (e, k)
  let lim := match own with | some (e, _) => e | none => 7056
  if routeCyclic entry lim then
    ((List.range lim).find? fun e => routeCyclic entry (e + 1)).map fun e => (1, e / 84, e % 84)
  else own.map fun p => (p.2, p.1 / 84, p.1 % 84)

/-- ROUTE_COMMIT (R317): accepted while every job slot is FREE and no flit is held on channels 0–3. -/
def execRouteCommit (q : Requester) (v : Word) (s : State) : Host.Outcome State Fault Refusal :=
  keep s (s.serveWrite q (regAddr pFAB 0x100) v fun s =>
    if FAB_ROUTE_CTRL_COMMIT.of v = 0 then s
    else if (List.range 16).any (fun j => s.jobState j != 0) || s.net.busy || s.rd pFAB FAB_STATUS_CHECK == 1 then
      s.raiseErr pFAB FAB_ERR_STATUS_ROUTE_BUSY
    else s.wr pFAB FAB_STATUS_CHECK 1)

/-- ROUTE_CHECK_DONE (R316, R317): the inactive bank becomes active on a pass. A docket that the check held goes on. -/
def execRouteCheckDone (s : State) : Host.Outcome State Fault Refusal :=
  keepQ s (
    if s.rd pFAB FAB_STATUS_CHECK ≠ 1 then s
    else
      let bank := 1 - s.rd pFAB FAB_STATUS_ACTIVE_BANK
      let s := s.bump pFAB FAB_C_ROUTE_CHECKS
      let s := match routeCheck (s.routeEntry bank) with
        | none => (s.wrs pFAB [(FAB_STATUS_ACTIVE_BANK, bank), (FAB_STATUS_CHECK, 2), (FAB_ROUTE_RESULT_KIND, 0),
            (FAB_ROUTE_RESULT_SRC, 0), (FAB_ROUTE_RESULT_DST, 0)]).raiseEvt pFAB FAB_EVT_STATUS_ROUTE_COMMITTED
        | some (k, a, d) => (s.wrs pFAB [(FAB_STATUS_CHECK, 3), (FAB_ROUTE_RESULT_KIND, k), (FAB_ROUTE_RESULT_SRC, a),
            (FAB_ROUTE_RESULT_DST, d)]).raiseErr pFAB FAB_ERR_STATUS_ROUTE_CHECK_FAIL
      let s := match (List.range 16).find? fun j => s.jobState j == 1 with
        | some j => if (s.job j).fitWait then s.check3 j (s.job j).docket false else s.admitDocket j (s.job j).path (s.job j).docket
        | none => s
      s.admitNext)

/-! ### Bypassed regions and the detour table (R318–R321) -/

/-- Set which regions are bypassed: those FENCED or FUSED_OFF; a change stops their routers and starts a detour update (R321). -/
def State.updateBypass (s : State) : State :=
  let off := fun r => s.regionState r == 3 || s.regionState r == 4
  let l := (List.range 84).filter off
  if (List.range 84).all fun r => off r == s.bypassed r then s
  else
    let s := s.wr pFAB FAB_BYPASS_REGIONS (maskOf (l.filter (· < 64))) 0
    let s := s.wr pFAB FAB_BYPASS_REGIONS (maskOf ((l.filter (64 ≤ ·)).map (· - 64))) 1
    (s.wrs pFAB [(FAB_STATUS_BYPASSED, l.length), (FAB_STATUS_DETOUR_BUSY, 1)]).stopRouters

/-- The live neighbours of a region, as (side, region). -/
def liveSides (live : Nat → Bool) (a : Nat) : List (Nat × Nat) :=
  (List.range 4).filterMap fun k => match neighbour a k with | some b => if live b then some (k, b) else none | none => none

/-- An unreachable distance. -/
def farAway : Nat := 1000

/-- Level of each live region: its hop count from the root, the lowest live region (R319). -/
def detourLevels (live : Nat → Bool) : Array Nat :=
  let root := ((List.range 84).find? live).getD 0
  (List.range 84).foldl (fun (lv : Array Nat) k =>
    (List.range 84).foldl (fun (a : Array Nat) n =>
      if live n && a.getD n farAway == farAway && (liveSides live n).any (fun p => lv.getD p.2 farAway == k) then a.set! n (k + 1) else a) lv)
    ((Array.replicate 84 farAway).set! root (if live root then 0 else farAway))

/-- Whether the link from a to b points up: to the lower level, or to the lower index on one level (R319). -/
def linkUp (lv : Array Nat) (a b : Nat) : Bool :=
  decide (lv.getD b farAway < lv.getD a farAway) || (lv.getD b farAway == lv.getD a farAway && decide (b < a))

/-- Distances to d over paths without an up link after a down link: index n while up links are allowed, 84 + n after a down
link. -/
def detourDist (live : Nat → Bool) (lv : Array Nat) (d : Nat) : Array Nat :=
  (List.range 168).foldl (fun (dist : Array Nat) _ =>
    (List.range 84).foldl (fun (a : Array Nat) n =>
      if !live n || lv.getD n farAway == farAway then a
      else
        (liveSides live n).foldl (fun (a : Array Nat) p =>
          if linkUp lv n p.2 then a.set! n (min (a.getD n farAway) (a.getD p.2 farAway + 1))
          else
            let v := a.getD (84 + p.2) farAway + 1
            (a.set! n (min (a.getD n farAway) v)).set! (84 + n) (min (a.getD (84 + n) farAway) v)) a) dist)
    (((Array.replicate 168 farAway).set! d 0).set! (84 + d) 0)

/-- EXIT of entry (a, d): the side of the lowest-indexed next region on a shortest path (R319). -/
def detourExit (live : Nat → Bool) (lv dist : Array Nat) (a d : Nat) : Nat :=
  if a = d then 4
  else if !live a || !live d || farAway ≤ dist.getD a farAway then 7
  else
    let next := (liveSides live a).filter fun p =>
      (if linkUp lv a p.2 then dist.getD p.2 farAway else dist.getD (84 + p.2) farAway) + 1 == dist.getD a farAway
    match next with
    | [] => 7
    | p :: ps => (ps.foldl (fun b q => if q.2 < b.2 then q else b) p).1

/-- The detour table, by destination and then source. -/
def detourTable (live : Nat → Bool) : Array Nat :=
  let lv := detourLevels live
  (List.range 84).foldl (fun t d =>
    let dist := detourDist live lv d
    (List.range 84).foldl (fun (t : Array Nat) a => t.set! (84 * a + d) (detourExit live lv dist a d)) t) (Array.replicate 7056 7)

/-- A unit whose attachments are both bypassed is reported as failed (R322): a stack, an engine, or a module-level block. -/
def State.reportLost (s : State) (e : Nat) : State :=
  let v := (Config.attach e).toNat
  let ix := bits v 55 48
  let rep := fun cls unit => s.report { cls := cls, unit := unit, page := pFAB, code := FAB_ERR_STATUS_UNREACHABLE.lo, count := s.tb.count }
  match bits v 63 56 with
  | 1 => rep .stack ix
  | 2 => rep .engine ix
  | _ => rep .module 0

/-- Install the detour table of the live regions (R319, R321 events 5 and 6). -/
def State.installDetour (s : State) : State :=
  let live := fun r => decide (r < 84) && !s.bypassed r
  let t := detourTable live
  let lv := detourLevels live
  let s := (List.range 882).foldl (fun s w =>
    let v := (List.range 8).foldl (fun a k => a + t.getD (8 * w + k) 7 * 256 ^ k) 0
    s.setReg (regAddr pFAB (0x5000 + 8 * w)) (BitVec.ofNat 64 v)) s
  let s := ((s.wr pFAB FAB_STATUS_DETOUR_BUSY 0).bump pFAB FAB_C_DETOUR_UPDATES).raiseEvt pFAB FAB_EVT_STATUS_DETOUR_UPDATED
  let cut := (List.range 84).filter fun r => live r && lv.getD r farAway == farAway
  let s := cut.foldl (fun s r =>
    (s.raiseErr pFAB FAB_ERR_STATUS_ISOLATED).reportOn .region r pFAB FAB_ERR_STATUS_ISOLATED (s.jobOf r)) s
  ((List.range 128).filter fun e => s.attachUsing e == 2).foldl (fun s e => s.reportLost e) s

/-- DETOUR_DRAIN_TIMEOUT (R321): channel 4 has drained, or what was left on it is discarded; the new table is installed. -/
def execDetourDrainTimeout (discarded : Nat) (s : State) : Host.Outcome State Fault Refusal :=
  keep s (if s.rd pFAB FAB_STATUS_DETOUR_BUSY = 0 then s
    else (s.bump pFAB FAB_C_BYPASS_DISCARDS discarded).clearDetour.installDetour)

/-- VC_STALL (R326): set, counted and reported as a NOTICE naming the router's region. -/
def execVcStall (r : RegionIx) (s : State) : Host.Outcome State Fault Refusal :=
  keep s (((s.raiseErr pFAB FAB_ERR_STATUS_VC_STALL).bump pFAB FAB_C_VC_STALLS).reportOn .notice r pFAB FAB_ERR_STATUS_VC_STALL)

end Sys2Proof.Machine
end

