-- ==== Sys2Proof/Machine/JobLoad.lean ====
section
/-! DEFINITION. Check 4 and the start of a job (R154, R156–R158): the streams, caves and update areas of the header in force, and
what the other blocks show of a new job. -/

namespace Sys2Proof.Machine

/-! ### Streams and caves of the header in force (R157, R158, R192) -/

/-- A field of the header in force. -/
def State.hdrNat (s : State) (slot o n : Nat) : Nat := s.jobNat slot (s.hdrOff slot + o) n

/-- The streams of logical region i on region r; the deferred stream follows the main stream. -/
def State.loadStream (s : State) (slot r i : Nat) : State :=
  let o := 32 + 16 * i
  let main := s.hdrNat slot o 8
  let len := s.hdrNat slot (o + 8) 3
  s.wrs (regPage r) [(REG_SEQ_BASE_ADDR, main), (REG_DEF_BASE_ADDR, main + 32 * len), (REG_SEQ_LEN_MAIN_LEN, len),
    (REG_SEQ_LEN_DEF_LEN, s.hdrNat slot (o + 11) 2), (REG_STEP_CFG_SYNC_SRC, s.hdrNat slot 7 1), (REG_STEP_CFG_STEP_MB, s.hdrNat slot 8 1),
    (REG_STEP_CFG_STEP_MB_MIN, s.hdrNat slot 9 1), (REG_STEP_CFG_STEP_MB_MAX, s.hdrNat slot 10 1)]

/-- A region plays logical region i. -/
def State.place (s : State) (r i : Nat) : State :=
  (s.wr pPLC PLC_REGION_LOGICAL i r).wr (regPage r) REG_SEQ_STATUS_LOGICAL i

/-- The region cave of logical region i, empty, under region r (R192). -/
def State.newCave (s : State) (slot r i : Nat) : State :=
  let size := caveSize (s.layout slot 2) (s.logicalRegions slot)
  let base := s.layout slot 1 + i * size
  let pol := s.tableOff slot + 32768 * i
  let w := s.jobNat slot pol 8
  let limit := base + size - w / 2 ^ 32 * 65536
  let s := (s.setCave r {}).clearRegs pCAVE (0x1000 + 0x80 * r) 16
  let s := s.wrs pCAVE [(CAVE_REGION_VALID, 1), (CAVE_REGION_SLOT, slot), (CAVE_REGION_BASE, base), (CAVE_REGION_LIMIT, limit),
    (CAVE_REGION_DROP_LIMIT, limit - w % 2 ^ 32 * 65536), (CAVE_REGION_END, base + size), (CAVE_REGION_POLICY_ADDR, pol),
    (CAVE_REGION_STEP_TOP, base)] r
  s.caveRegs r

/-! ### Update areas (R212, R214, R233) -/

/-- A header field of the update area table in force. -/
def State.areaHdr (s : State) (slot o n : Nat) : Nat := s.jobNat slot (s.areaTable slot + o) n

/-- UPD.JOB's part from the table in force. -/
def State.loadBuddy (s : State) (slot : Nat) : State :=
  let f := s.areaHdr slot
  let s := s.wrs pUPD [(UPD_JOB_SR_SEED, f 16 8), (UPD_JOB_BUDDY_KIND, f 2 1), (UPD_JOB_BUDDY_PORT, f 3 1),
    (UPD_JOB_BUDDY_MODULE, f 4 2), (UPD_JOB_BUDDY_ENDPOINT, f 8 4)] slot
  -- one UPD.MIRROR_IN entry per owner: entries are shared by the jobs, the lowest free one is taken
  let old := (List.range 4).filter fun e => s.rd pUPD UPD_MIRROR_IN_VALID e == 1 && s.rd pUPD UPD_MIRROR_IN_SLOT e == slot
  let owners := ((List.range 4).map fun k => f (40 + 2 * k) 2).filter (· != 0xFFFF)
  let s := (old.filter fun e => !owners.contains (s.rd pUPD UPD_MIRROR_IN_OWNER e)).foldl (fun s e => s.initRegs pUPD (0xA000 + 0x20 * e) 4) s
  let has := fun (s : State) o => (List.range 4).any fun e => s.rd pUPD UPD_MIRROR_IN_VALID e == 1
    && s.rd pUPD UPD_MIRROR_IN_SLOT e == slot && s.rd pUPD UPD_MIRROR_IN_OWNER e == o
  owners.foldl (fun s o =>
    if has s o then s
    else match (List.range 4).find? fun e => s.rd pUPD UPD_MIRROR_IN_VALID e == 0 with
      | some e => s.wrs pUPD [(UPD_MIRROR_IN_VALID, 1), (UPD_MIRROR_IN_SLOT, slot), (UPD_MIRROR_IN_OWNER, o)] e
      | none => s) s

/-- Free entries of UPD.AREA, ascending. -/
def State.freeAreas (s : State) : List Nat := (List.range 2048).filter fun e => s.rd pUPD UPD_AREA_VALID e == 0

/-- Take an entry for area i of the table in force. With INIT = IMAGE its images are copied from the program image; every row
gets C_SEL 0 and P_SEL 1, and the bitmaps are cleared (R214). -/
def State.openArea (s : State) (slot entry i : Nat) : State :=
  let a := s.area slot i
  let ep := match s.keyOf slot a.model with | some k => s.epochPub k | none => 0
  let s := s.wrs pUPD [(UPD_AREA_VALID, 1), (UPD_AREA_INIT_DONE, b2n (!a.initBuddy)), (UPD_AREA_WROTE, 0), (UPD_AREA_P_VALID, 0),
    (UPD_AREA_SLOT, slot), (UPD_AREA_RULE, a.rule), (UPD_AREA_STATE_ADDR, a.state), (UPD_AREA_C_EPOCH, ep), (UPD_AREA_ROWS_TOUCHED, 0)] entry
  if a.initBuddy then s
  else
    let s := (s.jobWrite slot a.state (s.jobRead slot a.initLoc a.ss)).jobWrite slot a.block (s.jobRead slot (a.initLoc + a.ss) a.bs)
    let s := s.jobWrite slot (a.selOff 0) (List.replicate a.rows 4#8)
    s.jobWrite slot (a.touchW 0) (List.replicate (2 * ((a.rows + 7) / 8)) 0#8)

/-- Put the area table in force. An area of the table before with the same STATE_ADDR keeps its entry and its images; every
other entry is freed; the indices of the areas newly taken are answered. -/
def State.loadAreas (s : State) (slot : Nat) : State × List Nat :=
  let old := s.areas slot
  let n := s.areaHdr slot 0 2
  let at_ := fun (s : State) e => s.rd pUPD UPD_AREA_STATE_ADDR e
  let keep := (List.range n).filterMap fun i => (old.find? fun x => at_ s x.1 == (s.area slot i).state).map fun x => (x.1, i)
  let s := (old.filter fun x => !keep.any fun y => y.1 == x.1).foldl (fun s x => s.initRegs pUPD (0x2000 + 0x10 * x.1) 2) s
  let new := (List.range n).filter fun i => !keep.any fun y => y.2 == i
  let opened := new.zip s.freeAreas
  let s := opened.foldl (fun s x => s.openArea slot x.2 x.1) s
  (s.setUpd slot { s.upd slot with entries := keep ++ opened.map fun x => (x.2, x.1) }, new)

/-- Ask for the images of the areas with INIT = BUDDY among some indices: INIT_LOC names owner and area, `dst` the holder. -/
def State.restoreAreas (s : State) (slot : Nat) (ixs : List Nat) (dst : Nat) : State :=
  ((s.areas slot).filter fun x => ixs.contains x.2 && (s.area slot x.2).initBuddy && s.rd pUPD UPD_AREA_INIT_DONE x.1 == 0).foldl (fun s x =>
    let l := (s.area slot x.2).initLoc
    s.askRestore slot x.1 (l % 2 ^ 14) (l / 2 ^ 16 % 2 ^ 11) dst) s

/-! ### The start of a job (R158) -/

/-- The checks of the image beyond IMAGE_FORM's own tables: BUDDY_PORT is a port of the job (R230). -/
def buddyPortOk (a : Array Byte) (ports : List Nat) : Bool :=
  let u := imgNat a 24 8 + 0x280000
  imgNat a (u + 2) 1 == 0 || ports.contains (imgNat a (u + 3) 1)

/-- Whether a job waits in LOADED for its admission as a hot spare (R283). -/
def State.joining (s : State) (slot : Nat) : Bool := s.grouped slot && s.gJoin slot && !(s.grp slot).joined

/-- The CRC of a membership list's MODULE fields with member d's replaced (R283). -/
def State.mlistCrc (s : State) (slot d module : Nat) : Nat :=
  (crc32c ((List.range (s.gMembers slot)).flatMap fun i => leBytes 2 (if i = d then module else s.memberModule slot i))).toNat

/-- A spare asks to join: JOIN to index 0 (R283). -/
def State.sendJoin (s : State) (slot : Nat) : State :=
  let me := s.gSelf slot
  let id := s.rd pGLB GLB_MODULE_ID_ID
  s.sendMember slot 0 { op := 9, gepoch := s.gepoch slot, src := me, dst := 0, subject := me, step := s.committed slot,
                        module := id, mlist := s.mlistCrc slot me id }

/-- The regions of a job go from LOADED to RUN. -/
def State.startRegions (s : State) (slot : Nat) : State :=
  (s.regionsOf slot).foldl (fun s r => if s.seqState r = 1 then s.setSeqState r 2 else s) s

/-- One region of a job that loads (R158): its registers, its tiles zeroed, LOADED. -/
def State.loadRegion (s : State) (slot r i step : Nat) : State :=
  let s := ((s.place r i).setSeq r {}).loadStream slot r i
  let s := s.wrs (regPage r) [(REG_STEP_COUNT_COUNT, step), (REG_STEP_STATUS_STEP, step % 65536),
    (REG_STEP_STATUS_N_CUR, s.hdrNat slot 8 1), (REG_STEP_STATUS_OPENED, 0), (REG_STEP_STATUS_FINAL, 0), (REG_STEP_STATUS_ENDED, 0),
    (REG_STEP_STATUS_REPLAY, 0), (REG_STEP_STATUS_HELD, 0)]
  let s := (s.wr (regPage r) REG_ADMIT_ADMITTED 0 0).wr (regPage r) REG_ADMIT_ADMITTED 0 1
  (((s.zeroTiles r).newCave slot r i).startAttempt r 0).setSeqState r 1

/-- Start a job whose image has passed check 4. -/
def State.startJob (s : State) (slot : Nat) (img : List Byte) : State :=
  let d := (s.job slot).docket
  let step := leAt d 100 4
  let s := s.jobWrite slot 0 img
  let twins := (docketRegions d).map fun r => s.rd pPLC PLC_REGION_TWIN r
  let s := (docketRegions d).zipIdx.foldl (fun s x => s.loadRegion slot x.1 x.2 step) s
  let s := (twins.filter (· < 84)).foldl (fun s r => s.zeroTiles r) s
  let stale := bit (s.rd pUPD UPD_STALE_SLOTS) slot
  let s := s.wrs pUPD [(UPD_JOB_VALID, 1), (UPD_JOB_STALE, b2n stale), (UPD_JOB_READY, 0), (UPD_JOB_MSEQ, 0),
    (UPD_JOB_COMMITTED_STEP, (step + 2 ^ 32 - 1) % 2 ^ 32)] slot
  let (s, new) := (s.loadBuddy slot).loadAreas slot
  let s := s.wrs pCE [(CE_JOB_VALID, 1), (CE_JOB_COMMIT_GROUP, s.commitGroup slot)] slot
  let s := s.wrs pPLC [(PLC_JOB_GEPOCH, 0), (PLC_JOB_MSTATE, 0), (PLC_JOB_CARRIED, 0xFFFF)] slot
  let s := s.showLeader slot
  let serve := byteAt d 6 == 1
  let s := if serve then s.wr pCELL CELL_SERVE_VALID 1 slot else s
  let s := ((s.wrs pDOCK [(DOCK_JOB_T_ADMIT, s.tb.count), (DOCK_JOB_STATE, 3)] slot).bump pDOCK DOCK_C_ADMITTED_COUNT).raiseEvt
    pDOCK DOCK_EVT_STATUS_ADMITTED
  if s.joining slot then s.sendJoin slot
  else
    let s := s.restoreAreas slot new (s.buddyAddr slot)
    if serve then s else s.startRegions slot

/-- Check 4 on an image that has been read (R154, R156, R158). -/
def State.programLoaded (s : State) (slot : Nat) (img : List Byte) : State :=
  let d := (s.job slot).docket
  let n := leAt d 104 8
  let a := img.toArray
  let env : ImgEnv := ⟨n, (docketRegions d).length, leAt d 88 4 * gb, byteAt d 6, s.rd pGLB GLB_MODULE_ID_ID⟩
  if s.jobState slot ≠ 2 then s
  else if img.length ≠ n then s.loadFail slot 0x32
  else if sha384 img ≠ (d.drop 120).take 48 then s.loadFail slot 0x30
  else if !imageOk a env || !buddyPortOk a (docketPorts d) then s.loadFail slot 0x31
  else if s.freeAreas.length < imgNat a (imgNat a 24 8 + 0x280000) 2 then
    (s.raiseErr pUPD UPD_ERR_STATUS_AREA_FULL).loadFail slot 0x32
  else s.startJob slot img

end Sys2Proof.Machine
end

