-- ==== Sys2Proof/Machine/Weights.lean ====
section
/-! DEFINITION. The weight commands of a region and what arrives for its loads (R171–R187, R294): WLOAD, EPOCH with OP BIND,
segments, answers of the weight server, and the timers of loads and binds. -/

namespace Sys2Proof.Machine

/-! ### WLOAD (R171–R175, R183–R186, R294) -/

/-- What a WLOAD names (R123). -/
structure WCmd where
  lead : Bool
  layer : Nat
  expert : Nat
  sid : Nat
  model : Nat
  dst : Nat
  bytes : Nat
  rect : Nat
  deriving DecidableEq, Repr

/-- Read the fields of a WLOAD. -/
def wcmd (c : Cmd) : WCmd :=
  ⟨c.w 0 17 17 == 1, c.w 0 47 32, c.w 0 63 48, c.w 1 15 0, c.w 1 31 16, c.w 1 52 32, c.w 2 31 0, c.w 2 47 32⟩

/-- The refusals of a WLOAD (R119, R171). -/
def wloadBad (c : Cmd) : Bool :=
  let w := wcmd c
  malformed c [(16, 16), (17, 17), (47, 32), (63, 48)] [(31, 0), (52, 32)] [(47, 0)] [] || rectBad w.rect || w.bytes == 0
    || decide (2097152 < w.bytes) || pastEnd w.dst w.bytes || (decide (1024 ≤ w.expert) && w.expert != 0xFFFF)

/-- The tile address of the routing mask (R184). -/
def maskAddr : Nat := 0x1FFF80

/-- The routing mask of a region (R184). -/
def State.routingMask (s : State) (r : Nat) : Nat := leAt (s.sramRead r 0 maskAddr 128) 0 128

/-- The loads of a region that WLOADs with SPEC = 0 have in flight (R172). -/
def State.inFlight (s : State) (r : Nat) : List Load := s.wsp.loads.filter fun l => l.region == r && !l.spec

/-- Whether a load in flight expects a piece that a WLOAD would also expect (R172); two whose epoch is not resolved yet
resolve to the same one (DEDUCED, log 24). -/
def State.samePiece (s : State) (r : Nat) (w : WCmd) : Bool :=
  let e := s.wouldResolve r w.model w.layer
  (s.inFlight r).any fun l => l.obj.model == w.model && l.obj.layer == w.layer && l.obj.expert == w.expert
    && (if l.unbound && l.keyWait then e.isNone else e == some l.obj.epoch)
    && (rectTiles l.rect).any fun t => (rectTiles w.rect).contains t

/-- Whether a WLOAD reads the model cache: a serve job whose serve table holds its MODEL (R294). -/
def State.wloadServed (s : State) (r : Nat) (w : WCmd) : Bool := (s.serveEntry (s.jobOf r) w.model).isSome

/-- EPOCH_PUB of the model cache's key slot for a model (R175, R187). -/
def State.servedEpoch (s : State) (model : Nat) : Nat := match s.keyOf 31 model with | some k => s.epochPub k | none => 0

/-- Whether a batch's WLOAD waits for a slot that holds its epoch again, after a stack fault emptied the cache (R390). -/
def State.cacheGone (s : State) (r : Nat) (w : WCmd) : Bool :=
  let epoch := (s.boundEpoch r w.model w.layer).getD (s.servedEpoch w.model)
  s.wloadServed r w && match s.entryOf w.model with
    | some e => [0, 1].all fun k => decide (s.sstate e k < 2) || s.rd pCELL (slotFld CELL_MODEL_EPOCH k) e != epoch
    | none => false

/-- What a WLOAD with SPEC = 0 does at issue to wait (R172). -/
def State.wloadIssue (s : State) (r : Nat) (c : Cmd) : Issue :=
  let w := wcmd c
  { badField := wloadBad c, inDef := false, replayed := false, cls := 16, ctx := some (w.sid, 1),
    reads := if w.expert < 1024 then [(maskAddr, maskAddr + 128)] else [], writes := [(w.dst, w.dst + w.bytes)],
    block := some pWSP,
    instead := if s.rd pWSP WSP_DEPTH_RUN_AHEAD ≤ (s.inFlight r).length then some fun _ s => s.bump pWSP WSP_C_DEPTH_STALLS
      else if s.samePiece r w || s.cacheGone r w then some fun _ s => s else none }

/-- The entry of the model cache that a serve job's WLOAD may read: its TENANT is the serve table's (R296). -/
def State.servedBy (s : State) (slot model : Nat) : Option Nat :=
  match s.serveEntry slot model, s.entryOf model with
  | some d, some e => if s.tenantOk slot d e then some e else none
  | _, _ => none

/-- Whether a WLOAD reads pieces of a slot that met an uncorrectable stack line (R301). -/
def State.readsBad (s : State) (e epoch : Nat) : Bool :=
  (s.cacheEnt e).bad.any fun k => decide (2 ≤ s.sstate e k) && s.rd pCELL (slotFld CELL_MODEL_EPOCH k) e == epoch

/-- The copy of a serve job's pieces from the model cache (R294). Pieces that cannot be read fail it with a report of the stack;
the cause that LAST_FAIL records is a free value (R301, log 155). -/
def State.wloadCopy (s : State) (l : Load) : State :=
  let e := s.servedBy l.slot l.obj.model
  let ps := match e with
    | none => []
    | some e => (rectTiles l.rect).map fun t => (t, s.cachePiece e l.obj.epoch l.obj.layer l.obj.expert l.lregion t)
  if e.any fun e => s.readsBad e l.obj.epoch then
    let (v, s) := s.draw
    s.loadFails l (v.toNat % 16) .stack
  else if ps.isEmpty || ps.any (fun p => match p.2 with | some b => b.length != l.bytes | none => true) then s.failLoad l 3
  else (ps.foldl (fun s p => (s.landBytes l.region p.1 l.dst (p.2.getD [])).ctxBytes l.slot l.sid l.bytes) s
    |>.bump pWSP WSP_C_BYTES_LANDED (l.bytes * ps.length)).makeResident l

/-- A WLOAD that has issued: the routing mask, the epoch, residency, then its load. -/
def State.startWload (s : State) (a : At) (w : WCmd) : State :=
  let slot := s.jobOf a.r
  let id := s.lastId a.r
  let mask := s.routingMask a.r
  let s := if w.expert < 1024 then
      let m := tabSet (fun _ => 0) s.wsp.masks (64 * a.r + w.layer % 64) mask
      { s with wsp := { s.wsp with masks := m } }
    else s
  if w.expert < 1024 && !bit mask w.expert then (s.bump pWSP WSP_C_EXPERT_SKIPS).finish a.r id 16
  else
    let l : Load :=
      { id := 0, slot := slot, region := a.r, lregion := s.logical a.r, obj := ⟨w.model, w.layer, w.expert, 0⟩, dst := w.dst,
        bytes := w.bytes, rect := w.rect, sid := w.sid, outId := some id, lead := w.lead, spec := false, reads := false }
    let hit := fun (s : State) (o : WObj) => (tabGet (fun _ => []) s.wsp.resident a.r).contains ⟨o, w.dst, w.bytes, w.rect⟩
    let done := fun (s : State) => (s.bump pWSP WSP_C_RESIDENT_HITS).finish a.r id 16
    if s.wloadServed a.r w then
      -- R175: without a binding the EPOCH_PUB of the model's key slot
      let b := s.boundEpoch a.r w.model w.layer
      let s := if b.isNone then s.bump pWSP WSP_C_UNBOUND_LOADS else s
      let e := b.getD (s.servedEpoch w.model)
      let o : WObj := ⟨w.model, w.layer, w.expert, e⟩
      if hit s o then done s
      else
        let (s, l) := s.addLoad { l with obj := o }
        s.wloadCopy l
    else
      let unb := (s.boundEpoch a.r w.model w.layer).isNone
      match s.wouldResolve a.r w.model w.layer with
      | none =>
        s.addLoad { l with keyWait := true, unbound := true } |>.1
      | some e =>
        let s := if unb then s.bump pWSP WSP_C_UNBOUND_LOADS else s
        let o : WObj := ⟨w.model, w.layer, w.expert, e⟩
        if hit s o then done s
        else
          let wait := (s.keyOf slot w.model).isNone
          let (s, l) := s.addLoad { l with obj := o, keyWait := wait }
          if wait then s else s.beginLoad l

/-- WLOAD with SPEC = 0 (R171). -/
def execWload (r : RegionIx) (deferred : Bool) (c : Cmd) (s : State) : Host.Outcome State Fault Refusal :=
  keep s (if c.w 0 16 16 = 1 then s
    else s.issue r deferred c 0x40 (s.wloadIssue r c) fun a s => s.startWload a (wcmd c))

/-- The issue checks of WLOAD with SPEC = 1 (R185, R190). -/
def State.specIssue (s : State) (r : Nat) (c : Cmd) : Issue :=
  { badField := wloadBad c || s.rd pSCT SCT_JOB_LIMIT (s.jobOf r) == 0, inDef := false, replayed := false, block := some pWSP,
    instead := if s.ctxWaits (s.jobOf r) r (wcmd c).sid 1 then some fun _ s => s.bump pSCT SCT_C_CTX_WAITS else none }

/-- A WLOAD with SPEC = 1 that has issued (R185): it fetches, or waits for its model's key (R187). -/
def State.runSpec (s : State) (a : At) (w : WCmd) : State :=
  let slot := s.jobOf a.r
  let x : SpecWait := ⟨s.wsp.nextLoad, slot, a.r, w.model, w.layer, w.expert, w.sid, w.bytes, w.rect⟩
  let s := s.takeCtx slot a.r w.sid 1 true
  if (s.keyOf slot w.model).isSome then s.fetchSpec x
  else
    let v := s.wsp
    { s with wsp := { v with specs := v.specs ++ [x], nextLoad := v.nextLoad + 1 } }

/-- WLOAD with SPEC = 1 (R185, R186): it completes at issue; its context stays live while a fetch holds it. For a model of
the model cache SPEC is ignored (R294). -/
def execWloadSpec (r : RegionIx) (deferred : Bool) (c : Cmd) (s : State) : Host.Outcome State Fault Refusal :=
  let w := wcmd c
  keep s (if c.w 0 16 16 = 0 then s
    else if s.wloadServed r w then s.issue r deferred c 0x40 (s.wloadIssue r c) fun a s => s.startWload a w
    else s.issue r deferred c 0x40 (s.specIssue r c) fun a s => s.runSpec a w)

/-! ### The input of a batch (R292) -/

/-- A field of a serve table entry at job offset d (R286). -/
def State.srvFld (s : State) (slot d off n : Nat) : Nat := s.jobNat slot (d + off) n

/-- The batch header and the records of its requests (R292 event 2). -/
def batchHeader (model epoch bseq : Nat) (reqs : List SrvReq) : List Byte :=
  leBytes 2 model ++ leBytes 2 reqs.length ++ leBytes 4 epoch ++ leBytes 4 bseq ++ leBytes 52 0
    ++ reqs.flatMap fun r => leBytes 2 r.sid ++ leBytes 2 0 ++ leBytes 4 r.seq ++ leBytes 4 r.payload.length ++ leBytes 2 r.port ++ leBytes 2 0

/-- Write bytes of a batch into a tile from the fabric. -/
def State.fabricWrite (s : State) (r tile addr : Nat) (b : List Byte) : State :=
  s.landBytes r tile addr b

/-- Event 2 of R292: the header and the payloads reach the input tile. -/
def State.writeBatch (s : State) (slot d : Nat) (hdr : List Byte) (reqs : List SrvReq) : State :=
  match s.playing slot (s.srvFld slot d 20 1) with
  | none => s
  | some r =>
    let t := s.srvFld slot d 21 1
    let s := s.fabricWrite r t (s.srvFld slot d 24 4 % 2 ^ 21) hdr
    reqs.zipIdx.foldl (fun s x =>
      s.fabricWrite r t (s.srvFld slot d 28 4 % 2 ^ 21 + x.2 * s.srvFld slot d 12 4) x.1.payload) s

/-- A recovery keeps the batch's input: header and payloads are written again (R292). -/
def State.rewriteBatch (s : State) (slot : Nat) : State :=
  match (s.srv slot).batch with
  | none => s
  | some b => match s.serveEntry slot b.model with
    | none => s
    | some d => s.writeBatch slot d
        (batchHeader b.model (s.rd pCELL CELL_SERVE_EPOCH slot) (s.rd pCELL CELL_SERVE_BATCH_SEQ slot) b.reqs) b.reqs

/-! ### EPOCH with OP BIND (R174) -/

/-- What a BIND asks for (R174). -/
def State.bindOf (s : State) (a : At) (c : Cmd) : BindWait :=
  ⟨s.jobOf a.r, a.r, c.w 0 47 32, c.w 1 15 0, c.w 1 31 16, c.w 1 32 32 == 1, a.ix⟩

/-- EPOCH_BIND (R174): it waits while its model has no key slot (R187). -/
def execEpochBind (r : RegionIx) (deferred : Bool) (c : Cmd) (s : State) : Host.Outcome State Fault Refusal :=
  keep s (if c.w 0 17 16 = 1 then s else s.issue r deferred c 0x72 (epochIssue c pWSP) fun a s =>
    let b := s.bindOf a c
    match s.keyOf b.slot b.model with
    | some _ => s.runBind b
    | none => { s with wsp := { s.wsp with binds := s.wsp.binds ++ [b] } })

/-! ### Segments (R178–R183) -/

/-- A segment or answer dropped with HDR_BAD. -/
def State.hdrBad (s : State) : State := (s.raiseErr pWSP WSP_ERR_STATUS_HDR_BAD).bump pWSP WSP_C_HDR_DROPS

/-- Whether a load expects a segment's object and position (check 4 of R178). -/
def Load.expects (l : Load) (slot : Nat) (w : WSeg) : Bool :=
  l.slot == slot && !(l.keyWait && l.unbound) && !l.epochWait && l.obj == w.obj && l.lregion == w.lregion
    && (rectTiles l.rect).contains w.ltile && decide (w.seg < segCount l.bytes)

/-- Whether checks 5 and 6 of R178 let a segment land. -/
def Load.takes (l : Load) (w : WSeg) : Bool :=
  match l.gen with
  | none => true
  | some g => decide (g < w.gen) || (g == w.gen && !l.landed.contains (w.ltile, w.seg))

/-- The cache load that a segment fills. -/
def State.cacheTakes (s : State) (w : WSeg) : Option (Nat × CacheLoad × Nat) :=
  match s.entryOf w.obj.model with
  | none => none
  | some e => match (s.cacheEnt e).load with
    | some l => if l.source = 0 then (l.matches w).map fun m => (e, l, m) else none
    | none => none

/-- A weight segment for a job (R178). -/
def State.weightSegment (s : State) (slot : Nat) (b : List Byte) : State :=
  match parseWSeg b with
  | none => s.hdrBad
  | some w =>
    let served := (s.serveEntry slot w.obj.model).isSome
    match (if served then s.keyOf 31 w.obj.model else s.keyOf slot w.obj.model) with
    | none => s.hdrBad
    | some k => match w.unseal (s.keyBytes k) with
      | none => (s.raiseErr pWSP WSP_ERR_STATUS_TAG_FAIL).bump pWSP WSP_C_TAG_FAILS
      | some pt =>
        if served then match s.cacheTakes w with
          | some (e, l, m) => if l.fits m w then s.cacheSeg e l m w pt else s.hdrBad
          | none => s.bump pSCT SCT_C_ORPHAN_DROPS
        else match s.wsp.loads.find? fun l => l.expects slot w with
          | none =>
            if bit w.flags 0 then (s.stageSeg slot w.lregion w.obj ⟨w.ltile, w.seg, w.gen, pt⟩).bump pWSP WSP_C_STAGED_UNSOLICITED
            else s.bump pSCT SCT_C_ORPHAN_DROPS
          | some l =>
            if w.len ≠ segLen l.bytes w.seg then s.hdrBad
            else
              let s := if l.lead && l.takes w then s.rebroadcast slot b else s
              s.acceptSeg l w.ltile w.seg w.gen pt

/-- WEIGHT_SEGMENT (R178). -/
def execWeightSegment (m : Msg) (s : State) : Host.Outcome State Fault Refusal :=
  keep s (match s.admitMsg m with
    | (s, none) => s
    | (s, some slot) => if m.cls = 1 then s.weightSegment slot m.body else s)

/-! ### Answers of the weight server (R177) -/

/-- The causes of a cache load under the causes of R180: EPOCH_WAIT has no code of its own in CELL.LAST_FAIL and is recorded
as TIMEOUT (DEDUCED, log 25). -/
def cacheCause (cause : Nat) : Nat := if cause = 2 ∨ cause = 3 then cause else 1

/-- The cache load that an answer belongs to. -/
def State.cacheAnswered (s : State) (slot : Nat) (o : WObj) : Option (Nat × CacheLoad) :=
  match s.entryOf o.model with
  | none => none
  | some e => match (s.cacheEnt e).load with
    | some l =>
      let asked := match l.manifest with
        | none => o.layer == 0 && o.expert == 0
        | some mf => mf.any fun m => m.layer == o.layer && m.expert == o.expert
      if l.carrier == some slot && l.epoch == o.epoch && asked then some (e, l) else none
    | none => none

/-- WS_ANSWER (R177). -/
def State.wsAnswer (s : State) (slot : Nat) (b : List Byte) : State :=
  let code := byteAt b 1
  let o : WObj := ⟨leAt b 2 2, leAt b 4 2, leAt b 6 2, leAt b 8 4⟩
  let hits := s.wsp.loads.filter fun l => l.slot == slot && l.obj == o && l.reads && !l.keyWait
  let cache := s.cacheAnswered slot o
  if b.length ≠ 16 ∨ code = 0 ∨ 3 < code ∨ (hits.isEmpty ∧ cache.isNone) then s.bump pWSP WSP_C_HDR_DROPS
  else
    let s := hits.foldl (fun s l => if code = 1 then s.setLoad { l with notReady := true } else s.failLoad l code) s
    match cache with
    | none => s
    | some (e, l) => if code = 1 then s.setCacheLoad e (some { l with notReady := true }) else s.cacheFail e code

/-- WS_ANSWER (R177). -/
def execWsAnswer (m : Msg) (s : State) : Host.Outcome State Fault Refusal :=
  keep s (match s.admitMsg m with
    | (s, none) => s
    | (s, some slot) => if m.cls = 1 && byteAt m.body 0 == 0x52 then s.wsAnswer slot m.body else s)

/-! ### Timers. A load's number is its id; 2^32 + e names the load of cache entry e, 2^33 + r a BIND of region r. -/

/-- The cache entry that a timer's number names. -/
def timerEntry (n : Nat) : Option Nat := if 2 ^ 32 ≤ n ∧ n < 2 ^ 32 + 32 then some (n - 2 ^ 32) else none

/-- Ask again for what an entry's load misses. -/
def State.cacheAgain (s : State) (e : Nat) : State :=
  match (s.cacheEnt e).load with
  | none => s
  | some l => if l.manifest.isNone then s.askManifest e else if l.placed then s.askPieces e else s

/-- The load of an entry whose carrier has ended moves to another carrier, or fails with NO_CARRIER (R297). -/
def State.moveCarrier (s : State) (e : Nat) : State :=
  match (s.cacheEnt e).load with
  | none => s
  | some l => match l.carrier with
    | none => s
    | some j =>
      if s.carries e (s.rd pCELL CELL_MODEL_MODEL e) j then s
      else match s.carrierFor e with
        | none => s.cacheFail e 7
        | some k =>
          let sid := ((List.range 65536).find? fun x => !s.ctxs.any fun c => c.slot == k && c.sid == x).getD 0
          (s.takeCtx k 0 sid 5 false).setCacheLoad e (some { l with carrier := some k, sid := sid })

/-- NOT_READY_RETRY (R177). -/
def execNotReadyRetry (load : Nat) (s : State) : Host.Outcome State Fault Refusal :=
  keep s (match timerEntry load, s.loadAt load with
    | some e, _ => match (s.cacheEnt e).load with
      | some l => if l.notReady then (s.moveCarrier e).cacheAgain e else s
      | none => s
    | none, some l => if l.notReady then s.requestMissing l else s
    | none, none => s)

/-- EPOCH_WAIT_TIMEOUT (R175, R177). -/
def execEpochWaitTimeout (load : Nat) (s : State) : Host.Outcome State Fault Refusal :=
  keep s (match timerEntry load, s.loadAt load with
    | some e, _ => match (s.cacheEnt e).load with
      | some l => if l.notReady then s.cacheFail e (cacheCause 5) else s
      | none => s
    | none, some l => if l.epochWait || l.notReady then s.failLoad l 5 else s
    | none, none => s)

/-- SEG_TIMEOUT (R180): ask again, or fail after RETRIES without progress. -/
def execSegTimeout (load : Nat) (s : State) : Host.Outcome State Fault Refusal :=
  let most := s.rd pWSP WSP_LIMITS_RETRIES
  keep s (match timerEntry load, s.loadAt load with
    | some e, _ =>
      let s := s.moveCarrier e
      match (s.cacheEnt e).load with
      | some l =>
        if l.carrier.isNone ∨ (l.manifest.isSome ∧ l.placed = false) then s
        else if most ≤ l.tries then s.cacheFail e 1
        else ((s.setCacheLoad e (some { l with tries := l.tries + 1 })).bump pWSP WSP_C_RE_REQUESTS).cacheAgain e
      | none => s
    | none, some l =>
      if !l.reads || l.keyWait || l.epochWait then s
      else if most ≤ l.tries then s.failLoad l 1
      else
        let l := { l with tries := l.tries + 1 }
        ((s.setLoad l).bump pWSP WSP_C_RE_REQUESTS).askTiles l l.missing
    | none, none => s)

/-- LEADER_WAIT_TIMEOUT (R183). -/
def execLeaderWaitTimeout (load : Nat) (s : State) : Host.Outcome State Fault Refusal :=
  keep s (match s.loadAt load with
    | some l =>
      if l.reads || l.lead || l.keyWait || l.epochWait then s
      else
        let l := { l with reads := true }
        ((s.setLoad l).bump pWSP WSP_C_LEADER_FALLBACKS).requestMissing l
    | none => s)

/-- KEY_MISSING_TIMEOUT (R187): a WLOAD, or a BIND, has waited KEY_WAIT for its model's key. -/
def execKeyMissingTimeout (load : Nat) (s : State) : Host.Outcome State Fault Refusal :=
  keep s (if 2 ^ 33 ≤ load then
      let r := load - 2 ^ 33
      match s.wsp.binds.find? fun b => b.region == r with
      | none => s
      | some b =>
        let s := { s with wsp := { s.wsp with binds := s.wsp.binds.filter fun x => x.region != r } }
        let s := (s.raiseErr pWSP WSP_ERR_STATUS_LOAD_FAIL).wrs pWSP [(WSP_LAST_FAIL_SID, 0), (WSP_LAST_FAIL_SLOT, b.slot),
          (WSP_LAST_FAIL_CAUSE, 4), (WSP_LAST_FAIL_MODEL, b.model), (WSP_LAST_FAIL_LAYER, b.first)]
        s.reportOn .program r pWSP WSP_ERR_STATUS_LOAD_FAIL b.slot
    else match s.loadAt load with
      | some l => if l.keyWait then s.failLoad l 4 else s
      | none => match s.wsp.specs.find? fun x => x.id == load with
        -- a speculative WLOAD stops without a fault (R185)
        | some x => { s with wsp := { s.wsp with specs := s.wsp.specs.filter fun y => y.id != load } }.dropCtx x.slot x.sid
        | none => s)

end Sys2Proof.Machine
end

