-- ==== Sys2Proof/Machine/Placement.lean ====
section
/-! DEFINITION. The placement unit (R333–R342): columns that shift, regions that fail, substitution, the hoop in force and its
selection, and the two points from which a job resumes. -/

namespace Sys2Proof.Machine

/-! ### Columns (R19, R20, R340) -/

/-- Shift the logical columns from f on by one. -/
def State.shiftCols (s : State) (r f : Nat) : State :=
  let s := s.wrs (regPage r) [(REG_TILE_MAP_SHIFTED, 1), (REG_TILE_MAP_FAILED_COL, f)]
  ((List.range 256).filter fun t => decide (f ≤ t % 16)).foldl (fun s t => s.wr (regPage r) REG_TILE_FLAGS_PHYS_COL (t % 16 + 1) t) s

/-- Zero the SRAM of the tiles whose physical column changed; their vat has moved with them (R340). -/
def State.zeroCols (s : State) (r f : Nat) : State :=
  let t := s.tileMem r
  let kept := fun (p : Nat × Byte) => decide (p.1 / sramSize % 16 < f)
  let s := s.setTileMem r { t with sram := t.sram.filter kept }
  let q := s.seq r
  let w := s.wsp
  let s : State := { s.setSeq r { q with pend := none, rowIn := [] } with
    wsp := { w with resident := tabSet (fun _ => []) w.resident r [] } }
  match s.slotOf r with
  | some slot => s.rewriteBatch slot
  | none => s

/-- In-flight loads of a region that lost its SRAM are cancelled without a fault (R339 event 4). -/
def State.cancelLoads (s : State) (r : Nat) : State :=
  (s.wsp.loads.filter fun l => l.region == r && !l.spec).foldl (fun s l => s.dropLoad l) s

/-! ### Recovery (R337–R339, R341) -/

/-- Put every region of a RUNNING job into RECOVER and choose the point: the cut only where every fault so far allows it. A
HALTED region stays so: the table of R128 gives it no way to RECOVER (log 139). A fault that joins a recovery under way leaves
the moment of event 1. -/
def State.startRecovery (s : State) (slot : Nat) (cutOk : Bool) : State :=
  if s.jobState slot ≠ 3 then s
  else
    let again := s.rd pPLC PLC_JOB_RECOVERING slot == 1
    let cut := cutOk && (!again || s.rd pPLC PLC_JOB_POINT slot == 1)
    let s := (s.regionsOf slot).foldl (fun s r =>
      let st := s.seqState r
      if 2 ≤ st ∧ st ≤ 8 then s.setSeqState r 9 else s) s
    let s := s.wrs pPLC [(PLC_JOB_RECOVERING, 1), (PLC_JOB_POINT, if cut then 1 else 2)] slot
    if again then s else s.wr pPLC PLC_JOB_T_FAULT s.tb.count slot

/-- One region back at the start of its step attempt (R341): vats zeroed, RAISE and ADMIT cleared, the cave as
it was; its WLOADs stay in flight (R339 event 4). The attempt does not end: VAT_SAT stays (log 77). A region HALTED at a
breakpoint waits there for SEQ_CTRL.RESUME (R128). -/
def State.restartRegion (s : State) (r : Nat) : State :=
  let q := s.seq r
  let p := regPage r
  let s := (s.dropWork r true).zeroVats r
  let s := (List.range 16).foldl (fun s v => s.wr p REG_VAT_REGION_RAISE 0 v) s
  let s := (s.wr p REG_ADMIT_ADMITTED 0 0).wr p REG_ADMIT_ADMITTED 0 1
  let s := (s.caveReturn r 0).startStream r q.stepPc
  let s := if s.seqState r = 10 then s else s.setSeqState r 2
  s.setSeq r { s.seq r with oldDigests := q.segDigests ++ q.oldDigests.drop q.segDigests.length }

/-- A bucket at a step restart (R341): kept once its level-0 input is complete, otherwise rebuilt by the replay. A bucket HELD
stays so, and its COLLs issue again (R239). -/
def Bucket.restart (b : Bucket) : Bucket :=
  if b.level0 then { b with kept := true }
  else if b.done = 2 then { b with colls := [] }
  else { b with contribs := [], colls := [], count := 0 }

/-- The step restart of R341. -/
def State.restartStep (s : State) (slot : Nat) : State :=
  let rs := (s.regionsOf slot).filter fun r => s.seqState r != 1
  let step := match rs with | r :: _ => s.rd (regPage r) REG_STEP_STATUS_STEP | [] => 0
  let count := match rs with | r :: _ => s.rd (regPage r) REG_STEP_COUNT_COUNT | [] => 0
  let s := (rs.foldl (fun s r => s.restartRegion r) s).rewriteBatch slot
  let v := s.ce slot
  let holds := (s.holdAreas slot).filter fun a => s.rd pCAVE CAVE_HOLD_W_WRITTEN a == 1
  let s := s.setCe slot { v with
    buckets := v.buckets.map (fun b => if b.step = step then b.restart else b), heldKept := holds }
  let s := ((s.ce slot).buckets.foldl (fun s b => s.showBucket slot b) s).showCe slot
  let u := s.upd slot
  let s := s.setUpd slot { u with queue := u.queue.filter (fun c => c.count != count), pubs := u.pubs.filter fun p => p.1 != count }
  s.checkReady slot

/-- Event 8 of R339: the job goes on from its point. By then every packet of the job in the fabric has landed (event 4). -/
def State.resumeJob (s : State) (slot : Nat) : State :=
  let s := s.landPackets slot
  let rs := s.regionsOf slot
  let s :=
    if s.rd pPLC PLC_JOB_POINT slot = 1 then
      (rs.foldl (fun s r => s.returnToCut r (s.rd (regPage r) REG_MARK_STATUS_JOB_SEQ)) s).bump pFLT FLT_C_RECOVERIES_CUT
    else (s.restartStep slot).bump pFLT FLT_C_RECOVERIES_STEP
  (s.wrs pPLC [(PLC_JOB_RECOVERING, 0), (PLC_JOB_T_RESUME, s.tb.count)] slot).raiseEvt pFLT FLT_EVT_STATUS_RECOVERED

/-! ### Hoops (R334–R336, R276, R281, R282, R490) -/

/-- A job's loss key. -/
def State.lossKey (s : State) (slot : Nat) : List Nat :=
  [s.rd pPLC PLC_JOB_REGION_KEY slot, s.rd pPLC PLC_JOB_STACK_KEY slot, s.rd pPLC PLC_JOB_ENGINE_KEY slot,
    s.rd pPLC PLC_JOB_LOST_A slot, s.rd pPLC PLC_JOB_LOST_B slot]

/-- The key at which nothing is lost. -/
def noLoss : List Nat := [0xFF, 0xFF, 0xFF, 0xFFFF, 0xFFFF]

/-- The hoop entry of a job's image with a key. -/
def State.hoopFor (s : State) (slot : Nat) (key : List Nat) : Option Nat :=
  let o := s.jobNat slot 16 8
  if o = 0 then none
  else (List.range (s.jobNat slot (o + 4) 2)).find? fun k =>
    let e := o + 64 + 16 * k
    let f := fun d n => s.jobNat slot (e + d) n
    [f 0 1, f 1 1, f 2 1, f 4 2, f 6 2] == key

/-- The holder of a lost member's areas as the table in force names it (R281): its module address, or its endpoint; none
where it has no holder that is live. The second part says that this module is the holder. -/
def State.holderOf (s : State) (slot owner : Nat) : Option (Nat × Bool) :=
  match (List.range (s.gMembers slot)).find? fun i => s.memberModule slot i == owner with
  | none => some (s.buddyAddr slot, false)
  | some d =>
    let h := s.memberBuddy slot d
    let ep := s.memberAt slot d 8 4
    if ep ≠ 0 then some (addrEndpoint ep, false)
    else if h = 0xFFFF ∨ (s.lostSet slot).contains h then none
    else some (addrModule (s.memberModule slot h), h == s.gSelf slot)

/-- Restore the areas newly taken of a hoop's table: from this module's own MIRROR_IN space, from the holder that the table
before named, or not at all (R281). -/
def State.restoreNew (s : State) (slot : Nat) (ixs : List Nat) (holder : Nat → Option (Nat × Bool)) : State :=
  ((s.areas slot).filter fun x => ixs.contains x.2 && (s.area slot x.2).initBuddy && s.rd pUPD UPD_AREA_INIT_DONE x.1 == 0).foldl (fun s x =>
    let l := (s.area slot x.2).initLoc
    let owner := l % 2 ^ 14
    let ix := l / 2 ^ 16 % 2 ^ 11
    match holder owner with
    | none => s.initFail slot
    | some (_, true) =>
      match (restoreImage (s.upd slot).held owner ix (s.rd pUPD UPD_JOB_COMMITTED_STEP slot)).bind fun h =>
          segStream h.segs h.segs.length with
      | some b => s.installArea slot x.1 x.2 b
      | none => s.initFail slot
    | some (dst, false) => s.askRestore slot x.1 owner ix dst) s

/-- Put the header in force into effect on the job's regions, its caves, its update areas and its commit group. The regions
that remain play the logical regions in ascending order. `holder` names holders by the table before. -/
def State.applyHeader (s : State) (slot oldRegions : Nat) (holder : Nat → Option (Nat × Bool)) : State :=
  let rs := s.regionsOf slot
  let same := s.logicalRegions slot == oldRegions
  let s := rs.zipIdx.foldl (fun s x =>
    let q := s.seq x.1
    let i := if same then s.logical x.1 else x.2
    let q := { q with stepPc := 0, prevs := q.prevs.map (fun p => (0, p.2)), oldDigests := [], segDigests := [] }
    let s := (s.loadStream slot x.1 i).setSeq x.1 q
    if same then
      let p := s.tableOff slot + 32768 * i
      let w := s.jobNat slot p 8
      let limit := s.rd pCAVE CAVE_REGION_END x.1 - w / 2 ^ 32 * 65536
      s.wrs pCAVE [(CAVE_REGION_LIMIT, limit), (CAVE_REGION_DROP_LIMIT, limit - w % 2 ^ 32 * 65536), (CAVE_REGION_POLICY_ADDR, p)] x.1
    else (s.place x.1 i).newCave slot x.1 i) s
  let before := [UPD_JOB_BUDDY_KIND, UPD_JOB_BUDDY_MODULE, UPD_JOB_BUDDY_ENDPOINT].map fun f => s.rd pUPD f slot
  let (s, new) := (s.loadBuddy slot).loadAreas slot
  let after := [UPD_JOB_BUDDY_KIND, UPD_JOB_BUDDY_MODULE, UPD_JOB_BUDDY_ENDPOINT].map fun f => s.rd pUPD f slot
  let s := if before = after then s else s.setUpd slot { s.upd slot with fullMirror := true }
  (s.wr pCE CE_JOB_COMMIT_GROUP (s.commitGroup slot) slot).restoreNew slot new holder

/-- Select the hoop of the job's loss key and put it in force; without one NO_HOOP is set and the job ends (R336). -/
def State.selectHoop (s : State) (slot : Nat) : State :=
  let old := s.logicalRegions slot
  let s0 := s
  let holder := fun o => s0.holderOf slot o
  let key := s.lossKey slot
  let go := fun (s : State) (valid ix : Nat) =>
    let s := (s.wrs pPLC [(PLC_JOB_HOOP_VALID, valid), (PLC_JOB_HOOP, ix)] slot).bump pPLC PLC_C_HOOP_SELECTS
    (s.applyHeader slot old holder).raiseEvt pPLC PLC_EVT_STATUS_HOOP_SELECTED
  if key = noLoss then go s 0 0
  else match s.hoopFor slot key with
    | some k => go s 1 k
    | none => (s.raiseErr pFLT FLT_ERR_STATUS_NO_HOOP).abortFault slot

/-- A key field takes a unit: none before, or the job cannot go on (R336). -/
def State.takeKey (s : State) (slot : Nat) (f : Fld) (v : Nat) : State × Bool :=
  if s.rd pPLC f slot = 0xFF then (s.wr pPLC f v slot, true)
  else ((s.raiseErr pFLT FLT_ERR_STATUS_NO_HOOP).abortFault slot, false)

/-! ### Regions (R15, R333, R336) -/

/-- Fence a region (state 3), whose control complex goes OFF (R424), or turn it off for heat (state 2). -/
def State.fenceRegion (s : State) (r dest : Nat) : State :=
  let s := if dest = 3 then (s.killPage (regPage r)).wr pFWC FWC_RCC_STATE 0 r else s
  ((s.wr pPLC PLC_REGION_STATE dest r).updateBypass).raiseEvt pFLT FLT_EVT_STATUS_FENCED

/-- The registers of a REG page that belong to the logical region it plays: sequencer, marks, layers, admission, parameters,
vat regions. -/
def logicalRegs : List Nat :=
  (List.range 8).map (fun k => 0x100 + 8 * k) ++ (List.range 16).map (fun k => 0x1000 + 8 * k) ++ [0x1100, 0x1108]
    ++ (List.range 256).map (fun k => 0x2000 + 8 * k) ++ (List.range 32).map fun k => 0x4000 + 8 * k

/-- Region b takes over what region a plays: its registers, sequencer, cave and bindings, on zeroed tiles (R336, R490). -/
def State.moveRegion (s : State) (slot a b : Nat) : State :=
  let s := logicalRegs.foldl (fun s o => s.setReg (regAddr (regPage b) o) (s.getReg (regAddr (regPage a) o))) s
  let s := (List.range 16).foldl (fun s k =>
    s.setReg (regAddr pCAVE (0x1000 + 0x80 * b + 8 * k)) (s.getReg (regAddr pCAVE (0x1000 + 0x80 * a + 8 * k)))) s
  let s := (List.range 32).foldl (fun s k =>
    s.setReg (regAddr pWSP (0x2000 + 0x100 * b + 8 * k)) (s.getReg (regAddr pWSP (0x2000 + 0x100 * a + 8 * k)))) s
  let s := ((s.setSeq b (s.seq a)).setCave b (s.cave a)).zeroTiles b
  let s := s.wrs pPLC [(PLC_REGION_STATE, 0), (PLC_REGION_HELD, 1), (PLC_REGION_SLOT, slot), (PLC_REGION_LOGICAL, s.logical a),
    (PLC_REGION_TWIN, s.rd pPLC PLC_REGION_TWIN a)] b
  let t := s.rd pPLC PLC_REGION_TWIN a
  let s := if t < 84 then s.wr pPLC PLC_REGION_TWIN b t else s
  let v := s.ce slot
  s.setCe slot { v with buckets := v.buckets.map fun k => { k with colls := k.colls.map fun c => if c.region = a then { c with region := b } else c } }

/-- Take a region out of its job. -/
def State.leaveJob (s : State) (r : Nat) : State := ((((s.dropWork r false).cancelLoads r).setSeq r {}).setCave r {}).freeRegion r

/-- A region that a job holds is lost: a twin only ends its pair; a primary is replaced by the lowest STANDBY region, or leaves
the job to a hoop (R336). -/
def State.loseRegion (s : State) (slot r : Nat) : State :=
  let l := s.logical r
  let stand := (List.range 84).find? fun b => s.regionState b == 1
  if s.jobState slot = 2 then
    -- the image is still loading: the docket's region is replaced before the streams are set up
    match stand with
    | none => (s.raiseErr pPLC PLC_ERR_STATUS_NO_STANDBY).abortFault slot
    | some b =>
      let d := (s.job slot).docket
      let m := leAt d 40 16
      let m' := if bit m r then m - 2 ^ r + 2 ^ b else m
      let s := s.setJob slot { s.job slot with docket := d.take 40 ++ leBytes 16 m' ++ d.drop 56 }
      let t := s.rd pPLC PLC_REGION_TWIN r
      let s := s.wrs pPLC [(PLC_REGION_STATE, 0), (PLC_REGION_HELD, 1), (PLC_REGION_SLOT, slot), (PLC_REGION_TWIN, t)] b
      let s := if t < 84 then s.wr pPLC PLC_REGION_TWIN b t else s
      ((s.freeRegion r).bump pPLC PLC_C_SUBSTITUTIONS).raiseEvt pPLC PLC_EVT_STATUS_HOOP_SELECTED
  else if l = 255 then
    let t := s.rd pPLC PLC_REGION_TWIN r
    let s := if t < 84 then s.wr pPLC PLC_REGION_TWIN 0xFF t else s
    s.freeRegion r
  else match stand with
    | some b =>
      let s := (s.cancelLoads r).moveRegion slot r b
      let s := ((s.leaveJob r).bump pPLC PLC_C_SUBSTITUTIONS).raiseEvt pPLC PLC_EVT_STATUS_HOOP_SELECTED
      s.updateBypass
    | none =>
      let t := s.rd pPLC PLC_REGION_TWIN r
      let s := s.raiseErr pPLC PLC_ERR_STATUS_NO_STANDBY
      let s := if t < 84 then s.freeRegion t else s
      let (s, ok) := (s.leaveJob r).takeKey slot PLC_JOB_REGION_KEY l
      if ok then s.selectHoop slot else s

/-- A region fails: it is fenced, or turned off for heat, and the job that holds it recovers from the step's start. -/
def State.regionFault (s : State) (r dest : Nat) : State :=
  let st := s.regionState r
  if st = 3 ∨ st = 4 ∨ (st = 2 ∧ dest = 2) then s
  else
    let held := s.slotOf r
    -- a STANDBY region that overheats is fenced (R15)
    let s := s.fenceRegion r (if st = 1 then 3 else dest)
    match held with
    | none => s
    | some slot =>
      if s.jobState slot = 4 then s
      else (s.startRecovery slot false).loseRegion slot r

end Sys2Proof.Machine
end

