-- ==== Sys2Proof/Machine/Groups.lean ====
section
/-! DEFINITION. Groups (R269–R285): heartbeats and suspicion, the leader's confirmation of a loss, proposals and their commit,
abandonment, hot spares; and the timers of the commit barrier, the collectives and the mirror that end in a suspicion. -/

namespace Sys2Proof.Machine

/-! ### A member's view -/

/-- Show MSTATE (R285): 0 STABLE, 1 CONFIRMING, 2 PROPOSING, 3 ACCEPTED, 4 JOIN_PENDING. -/
def State.showGrp (s : State) (slot : Nat) : State :=
  let g := s.grp slot
  let st := if g.prop.isSome then 2 else if g.accepted.isSome then 3 else if !g.probes.isEmpty then 1
    else if g.joinPend.isSome then 4 else 0
  (s.wr pPLC PLC_JOB_MSTATE st slot).showLeader slot

/-- A message of this member with its epoch and its committed step (R272). -/
def State.memMsg (s : State) (slot op : Nat) : MemMsg :=
  { op := op, gepoch := s.gepoch slot, src := s.gSelf slot, dst := 0, step := s.committed slot }

/-- The target epoch of the next re-form. -/
def State.target (s : State) (slot : Nat) : Nat := (s.gepoch slot + 1) % 4096

/-- The next proposal sequence number. -/
def State.nextProp (s : State) (slot : Nat) : Nat × State :=
  let g := s.grp slot
  (g.seqNo, s.setGrp slot { g with seqNo := g.seqNo + 1 })

/-- A copy of a COMMIT or an ABANDON for the cluster controller, on the path that the docket came by (R276; form on the
management port DESIGN CHOICE, log 37). -/
def State.copyToCluster (s : State) (slot : Nat) (m : MemMsg) : State :=
  match (s.job slot).path with
  | .mgmt => s.sendMgt 0x30 28 m.bytes
  | .port p => s.sendPort p ⟨4, s.partKey slot, addrEndpoint 0, s.ownAddr, none, m.bytes⟩

/-! ### Ending (R278) -/

/-- The leader, or a member that cannot go on, abandons the job on every member. -/
def State.castAbandon (s : State) (slot : Nat) : State :=
  let m := s.memMsg slot 11
  let s := (s.bump pPLC PLC_C_ABANDONS).sendMembers slot (s.liveMembers slot) m
  (s.copyToCluster slot m).endJob slot 0x41 2

/-! ### Proposals (R275) -/

/-- The fault unit stops the job for a re-form, and its attempt ends, except that of a member inside the barrier, which the
COMMIT decides (R275, R276; DEDUCED, log 34). -/
def State.stopForReform (s : State) (slot : Nat) : State :=
  let s := (s.regionsOf slot).foldl (fun s r => let st := s.seqState r; if 2 ≤ st ∧ st ≤ 8 ∨ st = 10 then s.setSeqState r 9 else s) s
  let s := s.wr pPLC PLC_JOB_RECOVERING 0 slot
  if (s.ce slot).entered then s
  else
    -- the caves return too; the start of the step after the COMMIT counts it (R199)
    (s.regionsOf slot).foldl (fun s r => s.caveUndo r 0) (s.endAttempt slot)

/-- The OUTCOME that a member holds for a barrier it entered, with its whole step: the last one it acted on, or one that came
while it restarted. -/
def State.heldOutcome (s : State) (slot : Nat) : Option (Nat × List Byte) :=
  let v := s.ce slot
  let c := s.committed slot
  match v.due, v.outcome with
  | some y, _ => some (s.nextCommit slot, y.2)
  | none, some y => if y.1 = c % 65536 then some (c, y.2) else if y.1 = (c + 1) % 65536 then some (c + 1, y.2) else none
  | none, none => none

/-- Whether every member that must accept has, and what the COMMIT then says (R276): the highest COMMITTED_STEP, and the OUTCOME
of the highest step that some member has not committed (DEDUCED, log 36). -/
def State.propReady (s : State) (slot : Nat) (p : Proposal) : Option (Nat × Option (Nat × List Byte)) :=
  let need := (List.range (s.gMembers slot)).filter fun i => !p.lost.contains i
  if need.all fun i => p.accepts.any fun a => a.1 == i then
    let step := (p.accepts.map (·.2.1)).foldl max 0
    let low := (p.accepts.map (·.2.1)).foldl min step
    let outs := (p.accepts.filterMap (·.2.2)).filter fun o => decide (low < o.1)
    let best := outs.foldl (fun (b : Option (Nat × List Byte)) o => match b with
      | some x => if x.1 < o.1 then some o else b
      | none => some o) none
    some (step, best)
  else none

/-- Announce to the stream switch the level-2 ranks newly played (R276 event 4, R370). -/
def State.announce (s : State) (slot : Nat) (before : List (Nat × Nat)) : State :=
  let now := (List.range (s.gGroups slot)).flatMap fun e => (s.ranksPlayed slot (s.rankList slot e 2)).map fun k => (e, k)
  let new := now.filter fun x => !before.contains x
  if new.isEmpty then s
  else
    let (c, s) := s.nextCseq
    s.sendJob slot 0 (addrEndpoint 1) (ctlHdr 8 c ++ leBytes 2 new.length ++ new.flatMap fun x => leBytes 2 x.1 ++ leBytes 2 x.2)

/-- Start the step after the last committed one from its beginning (R276 event 5). -/
def State.restartAll (s : State) (slot : Nat) : State :=
  let rs := s.regionsOf slot
  let next := (s.committed slot + 1) % 2 ^ 32
  let s := s.wr pPLC PLC_JOB_RECOVERING 0 slot
  rs.foldl (fun s r =>
    let back := s.rd (regPage r) REG_STEP_COUNT_COUNT - next
    let s := if back = 0 then (s.dropWork r false).zeroVats r else s.stepBack r back true
    let s := s.replayRegion r []
    s.setSeq r { s.seq r with oldDigests := [] }) s

/-- What a member does at a COMMIT for its next epoch (R276, R284). -/
def State.applyMember (s : State) (slot : Nat) (m : MemMsg) : State :=
  let join := bit m.flags 1
  let ranks := (List.range (s.gGroups slot)).flatMap fun e => (s.ranksPlayed slot (s.rankList slot e 2)).map fun k => (e, k)
  let s :=
    if (s.ce slot).entered then
      if bit m.flags 0 && m.ostep == s.nextCommit slot then s.applyOutcome slot (s.barrierStep slot) m.payload else s.endAttempt slot
    else s
  if s.jobState slot ≠ 3 then s
  else
    let spare := s.joining slot && (s.regionsOf slot).any fun r => s.seqState r == 1
    let g := s.grp slot
    let pend := if join then none else g.joinPend
    let s := s.setGrp slot { seqNo := g.seqNo, replaced := g.replaced, joinPend := pend, joined := g.joined || spare }
    let s := s.wrs pPLC [(PLC_JOB_GEPOCH, m.gepoch), (PLC_JOB_LOST_A, m.lostA), (PLC_JOB_LOST_B, m.lostB)] slot
    let s := s.selectHoop slot
    if s.jobState slot ≠ 3 then s
    else
      let carried := ((s.played slot).drop 1).headD 0xFFFF
      let s := (s.wr pPLC PLC_JOB_CARRIED carried slot).showGrp slot
      let s := if join then (s.bump pPLC PLC_C_JOINS).raiseEvt pPLC PLC_EVT_STATUS_JOINED
        else (s.bump pPLC PLC_C_REFORMS).raiseEvt pPLC PLC_EVT_STATUS_REFORMED
      let s := s.announce slot (if spare then [] else ranks)
      if spare then
        let s := s.wr pUPD UPD_JOB_COMMITTED_STEP m.step slot
        let s := (s.regionsOf slot).foldl (fun s r => s.wrs (regPage r) [(REG_STEP_COUNT_COUNT, m.step + 1), (REG_STEP_STATUS_STEP, m.step + 1)]) s
        (s.restoreAreas slot ((s.areas slot).map (·.2)) (addrModule m.module)).startRegions slot
      else if s.flt.reload.contains slot || !s.flt.remaps.isEmpty then s.startRecovery slot false
      else s.restartAll slot

/-- The leader commits a proposal that every member has accepted (R276). -/
def State.commitProp (s : State) (slot : Nat) (p : Proposal) (step : Nat) (out : Option (Nat × List Byte)) : State :=
  let holder := match p.join with
    | some (d, _) => s.memberModule slot (s.memberBuddy slot (s.memberStandIn slot d))
    | none => 0
  let m : MemMsg := { s.memMsg slot 7 with
    gepoch := p.target, lostA := p.lost.headD 0xFFFF, lostB := (p.lost.drop 1).headD 0xFFFF, step := step, seq := p.seq,
    subject := match p.join with | some (d, _) => d | none => 0xFFFF, module := holder,
    flags := b2n out.isSome + 2 * b2n p.join.isSome, ostep := (out.map (·.1)).getD 0, payload := (out.map (·.2)).getD [] }
  let tos := (List.range (s.gMembers slot)).filter fun i => !p.lost.contains i
  ((s.sendMembers slot tos { m with dst := 0xFFFF }).copyToCluster slot m).applyMember slot m

/-- Open a proposal for a lost set, or a join (R275, R279, R284): sent to every live member and the spare, accepted here. A
leader that the lost set names ends its job. -/
def State.openProp (s : State) (slot : Nat) (lost : List Nat) (join : Option (Nat × Nat)) : State :=
  let lost := lost.mergeSort (· ≤ ·)
  let hoop := lost.isEmpty || (s.hoopFor slot [0xFF, 0xFF, 0xFF, lost.headD 0xFFFF, (lost.drop 1).headD 0xFFFF]).isSome
  if s.gLostMax slot < lost.length || !hoop then s.castAbandon slot
  else
    let target := s.target slot
    let (q, s) := s.nextProp slot
    let live := s.liveMembers slot
    let tos := match join with | some (d, _) => live ++ [d] | none => live
    let s := match join with
      | some x => s.setGrp slot { s.grp slot with replaced := x :: (s.grp slot).replaced.filter fun y => y.1 != x.1 }
      | none => s
    let m : MemMsg := { s.memMsg slot 5 with
      gepoch := target, lostA := lost.headD 0xFFFF, lostB := (lost.drop 1).headD 0xFFFF, seq := q,
      subject := match join with | some (d, _) => d | none => 0xFFFF, module := match join with | some (_, k) => k | none => 0,
      flags := 2 * b2n join.isSome }
    let s := s.sendMembers slot tos m
    let own := (s.gSelf slot, s.committed slot, s.heldOutcome slot)
    let p : Proposal := ⟨target, lost, q, join, [own]⟩
    let g := s.grp slot
    let s := (s.setGrp slot { g with
      prop := some p, accepted := some (target, s.gSelf slot, join.map (·.1)), silent := [] }).stopForReform slot
    if lost.contains (s.gSelf slot) then s.endJob slot 0x41 2
    else match s.propReady slot p with
      | some (step, out) => s.commitProp slot p step out
      | none => s.showGrp slot

/-- Propose every loss confirmed so far, unless a lower proposer that is not lost itself has been accepted for this target (R275,
R279). -/
def State.proposeLoss (s : State) (slot : Nat) : State :=
  let g := s.grp slot
  let lost := (s.lostSet slot ++ g.confirmed).eraseDups
  let below := match g.accepted with
    | some (t, q, _) => t == s.target slot && decide (q < s.gSelf slot) && !lost.contains q
    | none => false
  if below then s else s.openProp slot lost none

/-- Whether this member leads in its own view. -/
def State.leads (s : State) (slot : Nat) : Bool := s.leaderOf slot == s.gSelf slot

/-- After an OUTCOME that committed a step, the leader proposes a pending join (R284). -/
def State.afterCommit (s : State) (slot before : Nat) : State :=
  match (s.grp slot).joinPend with
  | some (d, k) =>
    if s.jobState slot = 3 ∧ s.committed slot ≠ before ∧ s.leads slot = true ∧ (s.grp slot).prop = none then
      s.openProp slot ((s.lostSet slot).filter (· != d)) (some (d, k))
    else s
  | none => s

/-- The joins that the commits of a command let the leader propose. -/
def State.afterCommits (s before : State) : State :=
  (List.range 16).foldl (fun s j => s.afterCommit j (before.committed j)) s

/-! ### Confirming a loss (R274) -/

/-- A loss is confirmed. -/
def State.confirmLoss (s : State) (slot d : Nat) : State :=
  let g := s.grp slot
  if g.confirmed.contains d || (s.lostSet slot).contains d then s
  else
    let s := s.setGrp slot { g with
      confirmed := g.confirmed ++ [d], probes := g.probes.filter (·.1 != d), seen := g.seen.filter (·.1 != d), stall := false }
    (s.bump pPLC PLC_C_CONFIRMS).proposeLoss slot

/-- PROBE to a member, on every W-port that joins it and through the stream switch. -/
def State.sendProbe (s : State) (slot d : Nat) : State :=
  let (q, s) := s.nextProp slot
  let b := { s.memMsg slot 3 with dst := d, subject := d, seq := q }.bytes
  let a := addrModule (s.memberModule slot d)
  let ws := (s.jobWPorts slot).filter fun p => s.portUp p && s.rd (portPage p) OPT_PORT_NADDR (p % 4) == a
  let s := ws.foldl (fun s p => s.sendJobOn slot p 4 a b) s
  let s := match (s.jobPorts slot).find? fun p => s.isS p && s.portUp p with
    | some p => s.sendJobOn slot p 4 a b
    | none => if ws.isEmpty then s.sendJob slot 4 a b else s
  let g := s.grp slot
  s.setGrp slot { g with probes := g.probes.filter (·.1 != d) ++ [(d, q)] }

/-- The leader takes a SUSPECT: confirmed at once, a probe, or nothing (R274). -/
def State.takeSuspect (s : State) (slot src d cause : Nat) : State :=
  let g := s.grp slot
  if (s.lostSet slot).contains d || g.confirmed.contains d then s
  else if d = 0xFFFF then
    let others := (s.liveMembers slot).filter (· != s.gSelf slot)
    if g.stall then s
    else if others.isEmpty then s.castAbandon slot
    else ((others.foldl (fun s i => s.sendProbe slot i) (s.setGrp slot { g with stall := true }))).showGrp slot
  else if !(s.liveMembers slot).contains d then s
  else
    let seen := if g.seen.contains (d, src) then g.seen else g.seen ++ [(d, src)]
    let s := s.setGrp slot { g with seen := seen }
    if cause = 5 ∨ cause = 6 ∨ 2 ≤ (seen.filter (·.1 == d)).length then s.confirmLoss slot d
    else if g.probes.any (·.1 == d) then s
    else (s.sendProbe slot d).showGrp slot

/-- Give a SUSPECT or LEAVE to the leader: itself, or by message. -/
def State.toLeader (s : State) (slot op d cause : Nat) : State :=
  let dest := s.leaderOf slot
  if dest = s.gSelf slot then s.takeSuspect slot (s.gSelf slot) d cause
  else s.sendMember slot dest { s.memMsg slot op with dst := dest, subject := d, cause := cause }

/-- This member suspects another (R271): once per subject and cause in each epoch. -/
def State.suspect (s : State) (slot d cause : Nat) : State :=
  let g := s.grp slot
  if s.jobState slot ≠ 3 || !s.grouped slot || g.sent.contains (d, cause) || (s.lostSet slot).contains d || d == s.gSelf slot then s
  else
    let s := s.setGrp slot { g with sent := g.sent ++ [(d, cause)], silent := g.silent ++ [(d, cause)] }
    ((s.bump pPLC PLC_C_SUSPECTS_SENT).showLeader slot).toLeader slot 2 d cause

/-! ### Messages (R272, R279) -/

/-- Take a membership message of an OP past the port's checks and its own (R272); `anyEpoch` for those that carry a target
epoch or come from outside the membership. -/
def State.memberIn (s : State) (m : Msg) (op : Nat) (anyEpoch : Bool) (run : State → Nat → MemMsg → State) : State :=
  match s.admitMsg m with
  | (s, none) => s
  | (s, some slot) =>
    if m.cls ≠ 4 then s
    else match parseMember m.body with
      | none => s.bump pPLC PLC_C_MEMBER_MSG_DROPS
      | some x =>
        if x.op ≠ op then s
        else if !anyEpoch && x.gepoch != s.gepoch slot then s.bump pPLC PLC_C_STALE_EPOCH_DROPS
        else run s slot x

/-- Pass a message on to the leader, unchanged (R273). -/
def State.forward (s : State) (slot : Nat) (x : MemMsg) : State :=
  s.sendJob slot 4 (addrModule (s.memberModule slot (s.leaderOf slot))) x.bytes

/-- The members from which HEARTBEATs are expected: those whose next two live indices include this one (R270). -/
def State.heartSenders (s : State) (slot : Nat) : List Nat :=
  let n := s.gMembers slot
  let me := s.gSelf slot
  let live := s.liveMembers slot
  (((List.range n).map fun k => (me + n - 1 - k) % n).filter fun i => live.contains i && i != me).take 2

/-- HEARTBEAT_SEND (R270). -/
def execHeartbeatSend (slot : SlotIx) (s : State) : Host.Outcome State Fault Refusal :=
  keep s (if s.jobState slot ≠ 3 || !s.grouped slot || s.joining slot && (s.regionsOf slot).any (fun r => s.seqState r == 1) then s
    else s.sendMembers slot (s.heartTargets slot) (s.memMsg slot 1))

/-- HEARTBEAT (R270). -/
def execHeartbeat (m : Msg) (s : State) : Host.Outcome State Fault Refusal :=
  keep s (s.memberIn m 1 false fun s slot x =>
    if (s.heartSenders slot).contains x.src then
      let g := s.grp slot
      s.setGrp slot { g with heard := tabSet (fun _ => 0) g.heard x.src s.tb.ref }
    else s)

/-- HEARTBEAT_MISS (R270, R271): HB_MISS whole periods without a HEARTBEAT from an expected sender. -/
def execHeartbeatMiss (slot : SlotIx) (sender : Nat) (s : State) : Host.Outcome State Fault Refusal :=
  keepQ s (if s.jobState slot = 3 ∧ (s.heartSenders slot).contains sender = true then
    ((s.bump pPLC PLC_C_HB_MISSES).suspect slot sender 2).afterCommits s else s)

/-- SUSPECT (R273, R274). -/
def execSuspect (m : Msg) (s : State) : Host.Outcome State Fault Refusal :=
  keepQ s ((s.memberIn m 2 false fun s slot x =>
    if s.leads slot then s.takeSuspect slot x.src x.subject x.cause else s.forward slot x).afterCommits s)

/-- PROBE (R274): answered with its SEQ; it answers a SUSPECT about its subject, and one about no known member (R273). -/
def execProbe (m : Msg) (s : State) : Host.Outcome State Fault Refusal :=
  keep s (s.memberIn m 3 false fun s slot x =>
    let g := s.grp slot
    let s := s.setGrp slot { g with silent := g.silent.filter fun y => y.1 != x.subject && y.1 != 0xFFFF }
    s.sendMember slot x.src { s.memMsg slot 4 with dst := x.src, subject := s.gSelf slot, seq := x.seq })

/-- What a PROBE_ACK does: it dismisses the suspicion that its probe was for; answers to every probe of a stall abandon the job (R274). -/
def State.takeProbeAck (s : State) (slot : Nat) (x : MemMsg) : State :=
  let g := s.grp slot
  if g.probes.contains (x.src, x.seq) then
    let named := g.seen.any (·.1 == x.src)
    let probes := g.probes.filter (·.1 != x.src)
    let s := s.setGrp slot { g with probes := probes }
    let s := s.iff (named || g.stall) (·.bump pPLC PLC_C_SUSPECTS_DISMISSED)
    if g.stall && probes.isEmpty then s.castAbandon slot else s.showGrp slot
  else s

/-- PROBE_ACK (R274). -/
def execProbeAck (m : Msg) (s : State) : Host.Outcome State Fault Refusal :=
  keep s (s.memberIn m 4 false fun s slot x => s.takeProbeAck slot x)

/-- PROBE_WAIT_EXPIRY (R274). -/
def execProbeWaitExpiry (slot : SlotIx) (subject : Nat) (s : State) : Host.Outcome State Fault Refusal :=
  keepQ s ((if (s.grp slot).probes.any (·.1 == subject) then s.confirmLoss slot subject else s).afterCommits s)

/-- What the leader's silence does: it is suspected, and the SUSPECTs that it left unanswered go to the next leader (R273). -/
def State.leaderSilent (s : State) (slot : Nat) : State :=
  let again := (s.grp slot).silent
  if s.jobState slot ≠ 3 || again.isEmpty || s.leads slot then s
  else
    let s := s.suspect slot (s.leaderOf slot) 2
    again.foldl (fun s x => if (s.grp slot).silent.isEmpty || s.jobState slot != 3 then s else s.toLeader slot 2 x.1 x.2) s

/-- LEADER_SILENCE (R273): the leader answered neither with PROPOSE, COMMIT nor a PROBE. -/
def execLeaderSilence (slot : SlotIx) (s : State) : Host.Outcome State Fault Refusal :=
  keepQ s ((s.leaderSilent slot).afterCommits s)

/-- What a PROPOSE does (the table of R275). -/
def State.takePropose (s : State) (slot : Nat) (x : MemMsg) : State :=
  let me := s.gSelf slot
  let spare := s.joining slot && bit x.flags 1 && x.subject == me
  let g := s.grp slot
  if !spare && x.gepoch != s.target slot then s.bump pPLC PLC_C_STALE_EPOCH_DROPS
  else if x.lostA = me ∨ x.lostB = me then s.endJob slot 0x41 2
  else
    let taken := match g.accepted with | some (t, q, _) => t == x.gepoch && decide (q < x.src) | none => false
    if taken then s
    else
      let s := s.setGrp slot { g with
        prop := none, accepted := some (x.gepoch, x.src, if bit x.flags 1 then some x.subject else none), silent := [],
        replaced := if bit x.flags 1 then (x.subject, x.module) :: g.replaced.filter (fun y => y.1 != x.subject) else g.replaced }
      let out := s.heldOutcome slot
      let s := if spare then s else s.stopForReform slot
      let a : MemMsg := { s.memMsg slot 6 with
        gepoch := x.gepoch, dst := x.src, seq := x.seq, flags := b2n out.isSome, ostep := (out.map (·.1)).getD 0,
        payload := (out.map (·.2)).getD [] }
      (s.sendMember slot x.src a).showGrp slot

/-- PROPOSE (R275, R279). -/
def execPropose (m : Msg) (s : State) : Host.Outcome State Fault Refusal :=
  keepQ s (s.memberIn m 5 true fun s slot x => s.takePropose slot x)

/-- What an ACCEPT does: the last one that is missing leads to COMMIT (R276); one for another target is stale (R269). -/
def State.takeAccept (s : State) (slot : Nat) (x : MemMsg) : State :=
  let g := s.grp slot
  if x.gepoch ≠ s.target slot then s.bump pPLC PLC_C_STALE_EPOCH_DROPS
  else match g.prop with
  | none => s
  | some p =>
    if p.target ≠ x.gepoch ∨ p.seq ≠ x.seq ∨ p.lost.contains x.src = true then s
    else
      let a := (x.src, x.step, if bit x.flags 0 then some (x.ostep, x.payload) else none)
      let p := { p with accepts := p.accepts.filter (fun y => y.1 != x.src) ++ [a] }
      let s := s.setGrp slot { g with prop := some p }
      match s.propReady slot p with
      | some (step, out) => s.commitProp slot p step out
      | none => s

/-- ACCEPT (R276). -/
def execAccept (m : Msg) (s : State) : Host.Outcome State Fault Refusal :=
  keepQ s ((s.memberIn m 6 true fun s slot x => s.takeAccept slot x).afterCommits s)

/-- What a COMMIT does: it is forwarded once and then carried out (R276). -/
def State.takeCommit (s : State) (slot : Nat) (x : MemMsg) : State :=
  let me := s.gSelf slot
  let spare := s.joining slot && bit x.flags 1 && x.subject == me
  if !spare && x.gepoch != s.target slot then s.bump pPLC PLC_C_STALE_EPOCH_DROPS
  else
    let s := s.sendMembers slot (s.heartTargets slot) x
    if x.lostA = me ∨ x.lostB = me then s.endJob slot 0x41 2
    else
      let s := if (s.grp slot).accepted.isSome then s else if spare then s else s.stopForReform slot
      s.applyMember slot x

/-- MEMBER_COMMIT (R276, R279): forwarded once, then applied, where its target is the next epoch. -/
def execMemberCommit (m : Msg) (s : State) : Host.Outcome State Fault Refusal :=
  keepQ s ((s.memberIn m 7 true fun s slot x => s.takeCommit slot x).afterCommits s)

/-- What the end of ACCEPT_WAIT does: without a quorum the job is abandoned; with it the silent members are lost (R278). -/
def State.acceptExpired (s : State) (slot : Nat) : State :=
  let g := s.grp slot
  match g.prop with
  | none => s
  | some p =>
    let live := s.liveMembers slot
    let acc := live.filter fun i => p.accepts.any fun a => a.1 == i
    let low := live.headD 0
    if 2 * acc.length < live.length || (2 * acc.length == live.length && !acc.contains low) then s.castAbandon slot
    else
      let silent := live.filter fun i => !acc.contains i && !p.lost.contains i
      let lost := (s.lostSet slot ++ g.confirmed ++ silent).eraseDups
      let s := s.bump pPLC PLC_C_CONFIRMS silent.length
      (s.setGrp slot { g with confirmed := g.confirmed ++ silent }).openProp slot lost none

/-- ACCEPT_WAIT_EXPIRY (R278). -/
def execAcceptWaitExpiry (slot : SlotIx) (s : State) : Host.Outcome State Fault Refusal :=
  keepQ s ((s.acceptExpired slot).afterCommits s)

/-- LEAVE (R271, R274). -/
def execLeave (m : Msg) (s : State) : Host.Outcome State Fault Refusal :=
  keepQ s ((s.memberIn m 8 false fun s slot x =>
    if s.leads slot then s.takeSuspect slot x.src x.src 6 else s.forward slot x).afterCommits s)

/-- ABANDON (R278): forwarded once. -/
def execAbandon (m : Msg) (s : State) : Host.Outcome State Fault Refusal :=
  keep s (s.memberIn m 11 false fun s slot x =>
    ((s.bump pPLC PLC_C_ABANDONS).sendMembers slot (s.heartTargets slot) x).endJob slot 0x41 2)

/-! ### Hot spares (R283, R284) -/

/-- What a JOIN does (the table of R283). -/
def State.takeJoin (s : State) (slot : Nat) (x : MemMsg) : State :=
  if !s.leads slot then s.forward slot x
  else
    let g := s.grp slot
    let d := x.src
    let cause :=
      if !(s.lostSet slot).contains d then 1
      else if s.mlistCrc slot d x.module ≠ x.mlist then 2
      else match g.joinPend with | some y => if y = (d, x.module) then 0 else 3 | none => 0
    let s := if cause = 0 then s.setGrp slot { g with joinPend := some (d, x.module) } else s
    let a := { s.memMsg slot 10 with dst := d, subject := d, cause := cause, seq := x.seq }
    (s.sendJob slot 4 (addrModule x.module) a.bytes).showGrp slot

/-- JOIN (R283). -/
def execJoin (m : Msg) (s : State) : Host.Outcome State Fault Refusal :=
  keep s (s.memberIn m 9 true fun s slot x => s.takeJoin slot x)

/-- JOIN_ACK (R283): an accepted spare takes the group's epoch and waits; any other ends its job. -/
def execJoinAck (m : Msg) (s : State) : Host.Outcome State Fault Refusal :=
  keep s (s.memberIn m 10 true fun s slot x =>
    if !s.joining slot then s
    else if x.cause = 0 then s.wr pPLC PLC_JOB_GEPOCH x.gepoch slot
    else s.endJob slot 0x41 2)

/-- BARRIER_ENTER (R262). -/
def execBarrierEnter (slot : SlotIx) (s : State) : Host.Outcome State Fault Refusal := keepQ s ((s.enterBarrier slot).afterCommits s)

/-- COLL_BARRIER (R263). -/
def execCollBarrier (m : Msg) (s : State) : Host.Outcome State Fault Refusal := keepQ s ((s.takeBarrier m).afterCommits s)

/-- OUTCOME (R263, R264). -/
def execOutcome (m : Msg) (s : State) : Host.Outcome State Fault Refusal := keepQ s ((s.takeOutcome m).afterCommits s)

/-! ### Timers that end in a suspicion (R230, R232, R260, R263) -/

/-- A bucket's chunks that are missing from a member of level 1, as (part, chunk). -/
def State.missingFrom (s : State) (slot : Nat) (b : Bucket) (rank : Nat) : List (Nat × Nat) :=
  (s.bPlayed slot b 1).flatMap fun a => ((List.range (s.bChunks slot b 1 a)).filter fun c =>
    (b.result 1 a c).isNone && !b.data.any fun x => x.level == 1 && x.part == a && x.chunk == c && x.src == rank).map fun c => (a, c)

/-- The membership index of a rank of a bucket's level-1 list. -/
def State.rankMember (s : State) (slot : Nat) (b : Bucket) (rank : Nat) : Nat :=
  s.playerOf slot ((s.bRanks slot b 1).getD rank 0xFFFF)

/-- CHUNK_TIMEOUT (R260): RESEND for each chunk the member owes, then the report that it is unresponsive, a notice since the group
takes over (DEDUCED, log 168). -/
def execChunkTimeout (slot : SlotIx) (tag rank : Nat) (s : State) : Host.Outcome State Fault Refusal :=
  keepQ s (match (s.ce slot).buckets.find? fun b => b.tag == tag && b.has 1 && b.op == 0 && b.done == 0 with
  | none => s
  | some b =>
    let miss := s.missingFrom slot b rank
    let v := s.ce slot
    let n := ((v.resends.find? fun x => x.1 == tag && x.2.1 == rank).map (·.2.2)).getD 0
    if miss.isEmpty || (s.bPlayed slot b 1).contains rank || decide ((s.bRanks slot b 1).length ≤ rank) then s
    else if s.rd pCE CE_LIMITS_CHUNK_RETRIES ≤ n then
      ((s.bump pCE CE_C_TIMEOUTS).reportOn .notice 255 pCE CE_ERR_STATUS_COLL_TIMEOUT slot rank).suspect slot (s.rankMember slot b rank) 3 |>.afterCommits s
    else
      let s := s.setCe slot { v with resends := v.resends.filter (fun x => x.1 != tag || x.2.1 != rank) ++ [(tag, rank, n + 1)] }
      miss.foldl (fun s x => s.sendCPkt slot b.group 1 rank { s.bPkt slot b 6 1 x.1 rank with chunk := x.2 }) s)

/-- BARRIER_TIMEOUT (R263, R271): reported, as a notice since the group decides what follows (DEDUCED, log 168). -/
def execBarrierTimeout (slot : SlotIx) (s : State) : Host.Outcome State Fault Refusal :=
  let f := CE_ERR_STATUS_BARRIER_TIMEOUT
  keepQ s (if (s.ce slot).entered then ((s.raiseErr pCE f).reportOn .notice 255 pCE f slot).suspect slot 0xFFFF 4 |>.afterCommits s else s)

/-- An area's mirror failed (R232), which the fault unit hears of (R215). Where the buddy is a member of the job's group it is
suspected, and what follows is the group's: the report is a notice. Otherwise it is a PROGRAM fault (R328; DEDUCED, log 168). -/
def State.mirrorFail (s : State) (slot : Nat) : State :=
  let f := UPD_ERR_STATUS_MIRROR_FAIL
  if s.grouped slot && s.rd pUPD UPD_JOB_BUDDY_KIND slot == 1 then
    ((s.raiseErr pUPD f).reportOn .notice 255 pUPD f slot).suspect slot (s.memberBuddy slot (s.gSelf slot)) 5
  else s.updFault slot 255 f

/-- Send an area's messages again, or fail after MIRROR_RETRIES (R232). -/
def State.mirrorResend (s : State) (slot : Nat) (o : MirrorOut) : State :=
  if o.msgs.isEmpty then s
  else if s.rd pUPD UPD_LIMITS_MIRROR_RETRIES ≤ o.tries then s.mirrorFail slot
  else
    let u := s.upd slot
    let s := s.setUpd slot { u with out := u.out.map fun x => if x.area = o.area then { x with tries := x.tries + 1 } else x }
    o.msgs.foldl (fun s b => s.sendMirror slot (s.buddyAddr slot) b) (s.bump pUPD UPD_C_MIRROR_RESENDS)

/-- MIRROR_ACK (R232). -/
def execMirrorAck (m : Msg) (s : State) : Host.Outcome State Fault Refusal :=
  keepQ s (s.mirrorIn m 3 fun s slot x _ =>
    let u := s.upd slot
    match u.out.find? fun o => s.mirrorName slot o.area == (x.owner, x.area) && o.step == x.step && o.mseq == x.mseq && !o.acked with
    | none => s
    | some o =>
      if x.status = 0 then
        (s.setUpd slot { u with out := u.out.map fun y => if y.area = o.area then { y with acked := true } else y }).checkReady slot
      else (if x.status = 1 then s.mirrorResend slot o else s.mirrorFail slot).afterCommits s)

/-- MIRROR_TIMEOUT (R232). -/
def execMirrorTimeout (slot : SlotIx) (area : Nat) (s : State) : Host.Outcome State Fault Refusal :=
  keepQ s (match (s.upd slot).out.find? fun o => o.area == area && !o.acked with
  | none => s
  | some o => (s.mirrorResend slot o).afterCommits s)

end Sys2Proof.Machine
end

