-- ==== Sys2Proof/Machine/Registration.lean ====
section
/-! DEFINITION. Registration with the cluster controller (R455–R458): HELLO, ASSIGN, UPDATE and its ACK. -/

namespace Sys2Proof.Machine

/-- Regions in a state (R13). -/
def State.regionCount (s : State) (v : Nat) : Nat := ((List.range 84).filter fun r => s.regionState r == v).length

/-- Stack sites in a state (MEM.STATUS.STATE). -/
def State.siteCount (s : State) (v : Nat) : Nat :=
  ((List.range 26).filter fun i => s.rd (memPage i) MEM_STATUS_STATE == v).length

/-- The port records of R456: every existing port of a W or S engine. -/
def State.portRecords (s : State) : List Byte :=
  ((List.range 256).filter s.portExists).flatMap fun p =>
    let e := portPage p
    let k := p % 4
    let kind := s.rd e OPT_PORT_NKIND k
    leBytes 1 p ++ leBytes 1 (s.lstate p + 8 * kind + 32 * b2n (s.isS p))
      ++ leBytes 2 (if kind = 1 then s.rd e OPT_PORT_NPORT k else 0xFFFF) ++ leBytes 8 (s.rd e OPT_PORT_NSERIAL k)

/-- The body of a HELLO (RTYPE 1) or an UPDATE (RTYPE 3) (R456). -/
def State.regBody (s : State) (rtype : Nat) (recs : List Byte) : List Byte :=
  leBytes 1 rtype ++ leBytes 1 s.stage
    ++ leBytes 2 (s.rd pGLB GLB_MODULE_ID_ID + 2 ^ 15 * s.rd pGLB GLB_MODULE_ID_VALID)
    ++ leBytes 1 (16 * s.rd pGLB GLB_RESET_CAUSE_SOURCE + s.rd pGLB GLB_RESET_CAUSE_KIND)
    ++ leBytes 1 (s.regionCount 0) ++ leBytes 1 (s.regionCount 1)
    ++ leBytes 1 (s.rd (memPage 0) MEM_MAP_N + 32 * s.siteCount 1) ++ leBytes 8 (s.rd pSEC SEC_SERIAL_SERIAL)
    ++ leBytes 4 (s.rd pGLB GLB_C_WARM_RESETS) ++ leBytes 4 (s.rd pFWC FWC_IMAGE_RELEASE)
    ++ leBytes 2 s.boot.linkWait ++ leBytes 2 (recs.length / 12)
    ++ leBytes 2 (s.rd pMGT MGT_STATUS_KEY_VALID + 2 * s.rd pTBASE TBASE_STATUS_LOCKED
        + 4 * b2n (s.boot.jobReset && rtype == 3))
    ++ leBytes 2 0 ++ recs

/-- The path of a registration message: the management port, else the lowest-numbered UP S-port (R455). -/
def State.regPath (s : State) : Option CtlPath :=
  if s.mgtPath then some .mgmt
  else ((List.range 256).find? fun p => s.portExists p && s.isS p && s.portUp p).map .port

/-- Send a HELLO on the path chosen afresh; with none the send waits for the next period (R455). -/
def State.sendHello (s : State) : State :=
  match s.regPath with
  | none => s
  | some path =>
    let recs := s.portRecords
    let (q, s) := s.sendControl path 6 (s.regBody 1 recs)
    { s with boot := { s.boot with hello := some (path, q), ports := recs } }

/-- Send a CONTROL message of CTYPE 6 again under its own CSEQ. -/
def State.resendReg (s : State) (cseq : Nat) (body : List Byte) : State :=
  match s.regPath with
  | none => s
  | some .mgmt => s.sendMgt 0x30 28 (ctlHdr 6 cseq ++ body)
  | some (.port p) => s.sendCtl p 6 cseq (addrEndpoint 0) body

/-- Send an UPDATE that carries the whole port table; it replaces one not yet acknowledged (R457). It takes the path that a
HELLO would take (DEDUCED, log 19). -/
def State.sendUpdate (s : State) : State :=
  let recs := s.portRecords
  let body := s.regBody 3 recs
  let (c, s) := s.nextCseq
  let b := { s.boot with
    update := some (.mgmt, c, body, s.boot.jobReset), ports := recs, updateDue := false, updateGap := true }
  ({ s with boot := b }).resendReg c body

/-- An UPDATE when a port record has changed since the last table sent, once registered (R457). -/
def State.checkUpdate (s : State) : State :=
  if s.stage < 0x08 ∨ 0x0A < s.stage ∨ s.portRecords = s.boot.ports then s
  else if s.boot.updateGap then { s with boot := { s.boot with updateDue := true } }
  else s.sendUpdate

/-- HELLO_TICK (R455): a HELLO while in REGISTER. -/
def execHelloTick (s : State) : Host.Outcome State Fault Refusal :=
  keep s (if s.stage = 0x07 then s.sendHello else s)

/-- Whether an ASSIGN's every field is in range: a valid MODULE_ID, LINK_WAIT_S and UPDATE_MIN_MS, of which 0 means unchanged. -/
def assignGood (c : CtlMsg) : Bool :=
  let lw := leAt c.body 4 2
  let um := leAt c.body 6 2
  c.ctype == 6 && c.body.length == 16 && byteAt c.body 0 == 2 && leAt c.body 2 2 / 2 ^ 14 == 2
    && (lw == 0 || decide (60 ≤ lw ∧ lw ≤ 3600)) && (um == 0 || decide (10 ≤ um ∧ um ≤ 60000))

/-- The identity and the timers that an ASSIGN gives. -/
def State.assignIdentity (s : State) (b : List Byte) : State :=
  let s := s.wrs pGLB [(GLB_MODULE_ID_ID, leAt b 2 2 % 2 ^ 14), (GLB_MODULE_ID_VALID, 1)]
  { s with boot := { s.boot with
      hello := none, linkWait := (if leAt b 4 2 = 0 then s.boot.linkWait else leAt b 4 2),
      updateMin := (if leAt b 6 2 = 0 then s.boot.updateMin else leAt b 6 2) } }

/-- ASSIGN (R457): the answer to the current HELLO, every field in range. -/
def execAssign (c : CtlMsg) (s : State) : Host.Outcome State Fault Refusal :=
  keep s (
    let (s, ok) := s.ctlArrive c
    match s.boot.hello with
    | none => s
    | some h =>
      if ok && s.stage == 0x07 && s.ctlAnswers c h && assignGood c then
        (((s.assignIdentity c.body).resendIdent).setStage 0x08).checkUpdate
      else s)

/-- UPDATE_RESEND (R457): each second without an ACK. -/
def execUpdateResend (s : State) : Host.Outcome State Fault Refusal :=
  keep s (match s.boot.update with
    | none => s
    | some (_, c, body, _) => s.resendReg c body)

/-- UPDATE_ACK (R457): an ACK with the UPDATE's CSEQ. -/
def execUpdateAck (c : CtlMsg) (s : State) : Host.Outcome State Fault Refusal :=
  keep s (
    let (s, ok) := s.ctlArrive c
    match s.boot.update with
    | none => s
    | some (_, q, _, flag) =>
      if ok && c.ctype == 6 && byteAt c.body 0 == 4 && c.cseq == q && s.ctlAuth c then
        let b := { s.boot with update := none, jobReset := s.boot.jobReset && !flag }
        { s with boot := b }
      else s)

/-- UPDATE_GAP_EXPIRY (R457): UPDATE_MIN_MS has passed since the last UPDATE. -/
def execUpdateGapExpiry (s : State) : Host.Outcome State Fault Refusal :=
  keep s (
    let s := { s with boot := { s.boot with updateGap := false } }
    if s.boot.updateDue then s.sendUpdate else s)

end Sys2Proof.Machine
end

