-- ==== Sys2Proof/Machine/Reset.lean ====
section
/-! DEFINITION. The reset kinds (R36–R39, R81, R165), the common control register with disabling and draining (R33, R355,
R356), the expert gate (R40–R42), and forced error bits (R34). -/

namespace Sys2Proof.Machine

/-! ### What a reset leaves in the registers (R36, R37) -/

/-- Whether a field of a reset form keeps its value at a reset of a kind. A boot field keeps it until the boot that follows
changes it; a random field is drawn by the reset itself. -/
def keptAt (k : ResetKind) : ResetForm → Bool
  | .num _ => false
  | .fuse _ => true
  | .cold _ | .boot _ | .random => k != .cold

/-- The bits that show failed sensors, which stay excluded until the next cold reset (R415). -/
def sensorBits (addr : Nat) : Option (Nat × Nat) :=
  let o := offOf addr
  if pREG ≤ pageOf addr then (if o = 0x618 then some (15, 0) else if 0x8000 ≤ o ∧ o < 0x8080 then some (63, 63) else none)
  else if pageOf addr = pTHM ∧ 0x2000 ≤ o ∧ o < 0x2360 then some (63, 63)
  else none

/-- What a register holds after a reset of a kind that covers it. -/
def resetWord (k : ResetKind) (addr : Nat) (cur : Word) : Word :=
  let sticky := fun (w : Word) => match sensorBits addr with
    | some (hi, lo) => if k = .cold then w else BitVec.ofNat 64 (putBits w.toNat hi lo (bits cur.toNat hi lo))
    | none => w
  sticky <| match regDefAt (pageOf addr) (offOf addr) with
  | none => regInit addr
  | some d => BitVec.ofNat 64 (d.fields.foldl (fun a f =>
      if keptAt k f.rst then putBits a f.hi f.lo (bits cur.toNat f.hi f.lo) else a) (regInit addr).toNat)

/-- The pages that a job reset covers whole (R36). -/
def jobPages : List Nat := [pDOCK, pSCT, pCE, pUPD, pCAVE, pPLC]

/-- Whether an offset of a REG page is a sequencer register that a job reset covers whole (R36, R116). -/
def seqReg (off : Nat) : Bool :=
  decide (0x100 ≤ off ∧ off < 0x400) || decide (0xC00 ≤ off ∧ off < 0xD00) || decide (0x1000 ≤ off ∧ off < 0x6000)

/-- Whether a reset covers a register whole. -/
def covers (k : ResetKind) (page addr : Nat) : Bool :=
  let o := offOf addr
  match k with
  | .cold | .warm => true
  | .block => pageOf addr == page
  | .job => jobPages.contains (pageOf addr) || decide (0x800 ≤ o ∧ o < 0xC00) || (decide (pREG ≤ pageOf addr) && seqReg o)

/-- What a job reset leaves of a register that it covers in part: CTRL.EXPERT of every page, the sequencer bits of a REG
page's ERR_STATUS, MATCHED. -/
def jobPart (addr : Nat) (cur : Word) : Word :=
  let v := cur.toNat
  BitVec.ofNat 64 (
    if offOf addr = 0x10 then putBits v 1 1 0
    else if offOf addr = 0x20 ∧ pREG ≤ pageOf addr then putBits v 15 0 0
    else if addr = regAddr pGLB 0x128 then putBits v 0 0 0
    else v)

/-- Load the reset values of every register that a reset covers. -/
def State.loadReset (s : State) (k : ResetKind) (page : Nat) : State :=
  let l := s.regs.filterMap fun (e : Nat × Word) =>
    let v := if covers k page e.1 then resetWord k e.1 e.2 else if k = .job then jobPart e.1 e.2 else e.2
    if v = regInit e.1 then none else some (e.1, v)
  { s with regs := l }

/-! ### Starting a reset (R38, R39) -/

/-- A new EXPERT_NONCE (R41, R42). -/
def State.newExpertNonce (s : State) : State :=
  let (v, s) := s.draw
  s.setReg (regAddr pGLB GLB_EXPERT_NONCE_NONCE.off) v

/-- A new PROV_NONCE (R443). -/
def State.newProvNonce (s : State) : State :=
  let (v, s) := s.draw
  s.setReg (regAddr pMGT MGT_PROV_NONCE_NONCE.off) v

/-- Start a warm reset (R39 events 1 to 3): every block stops, every job ends, every optical port goes down. It takes over
from every other reset but one as wide. -/
def State.startWarm (s : State) (source : Nat) : State :=
  if s.wholeReset ∨ s.stage = 1 ∨ s.stage = 0xFE then s
  else
    let s := ({ s with resets := [(ResetKind.warm, source)] } : State).resetJobs
    let s := ((List.range 256).filter fun p => s.portExists p && s.lstate p != 0).foldl (fun s p => s.portLeave p 1) s
    { s with unrouted := [] }

/-- Start a job reset: every job ends; its tiles are zeroed (R36, R81). -/
def State.startJobReset (s : State) (source : Nat) : State :=
  if s.wholeReset ∨ s.stage = 1 ∨ s.resets.any (fun x => x.1 == .job) then s
  else
    let rest := s.resets.filter fun x => !(x.1 == .block && jobPages.contains x.2)
    ({ s with resets := rest ++ [(ResetKind.job, source)] } : State).resetJobs

/-- Start a block reset of a page. -/
def State.startBlockReset (s : State) (page : Nat) : State :=
  if s.wholeReset ∨ s.stage = 1 ∨ s.resets.contains (.block, page)
      ∨ (s.resets.any (fun x => x.1 == .job) ∧ jobPages.contains page) then s
  else { s with resets := s.resets ++ [(.block, page)] }

/-- SOURCE of a reset that a requester asked for (GLB.RESET_CAUSE). -/
def resetSource (q : Requester) : Nat := match q with | .jtag => 4 | _ => 2

/-- A write of GLB.RESET_REQ. -/
def State.resetReq (q : Requester) (v : Word) (s : State) : State :=
  s.serveWrite q (regAddr pGLB 0x108) v fun s =>
    if GLB_RESET_REQ_CONFIRM.of v ≠ 0xA5C3 then s
    else match GLB_RESET_REQ_KIND.of v with
      | 1 => s.startWarm (resetSource q)
      | 2 => s.startJobReset (resetSource q)
      | _ => s

/-- WARM_RESET_REQ (R39). -/
def execWarmResetReq (q : Requester) (v : Word) (s : State) : Host.Outcome State Fault Refusal :=
  keep s (s.resetReq q v)

/-- JOB_RESET_REQ (R36). -/
def execJobResetReq (q : Requester) (v : Word) (s : State) : Host.Outcome State Fault Refusal :=
  keep s (s.resetReq q v)

/-! ### The end of a reset -/

/-- Record a reset in GLB.RESET_CAUSE. -/
def State.resetCause (s : State) (source kind : Nat) : State :=
  s.wrs pGLB [(GLB_RESET_CAUSE_SOURCE, source), (GLB_RESET_CAUSE_KIND, kind)]

/-- Warm reset, events 4 and 5 of R39: what the blocks held is gone but for what R449, R165 and R445 keep; boot resumes at
IMAGE_LOAD and R451's NOTIFY goes out. -/
def State.warmDone (s : State) (source : Nat) : State :=
  -- the management link stays up (R39), and a slew of the time base goes on (R45)
  let up := [MGT_STATUS_LANE0_UP, MGT_STATUS_LANE1_UP].map fun f => (f, s.rd pMGT f)
  let s := ((s.loadReset .warm 0).wrs pMGT up).wr pTBASE TBASE_STATUS_SLEWING (b2n (s.tb.slew != 0))
  let boot : Boot := { linkWait := s.boot.linkWait, updateMin := s.boot.updateMin, cseq := s.boot.cseq }
  let dock : DockSt := { ids := s.dock.ids, revoked := s.dock.revoked }
  let wsp : Wsp := { keys := s.wsp.keys }
  let power : PowerSt := {
    alert := if s.power.alertLow then 0 else 34, alertLow := s.power.alertLow, energy := s.power.energy,
    zoneEnergy := s.power.zoneEnergy, tripped := s.power.tripped, near := s.power.near, syncSeq := s.power.syncSeq }
  let s := { s with
    resets := [], seqs := [], tiles := [], caves := [], ctxs := [], wsp := wsp, links := [], bonds := [], engines := [],
    unrouted := [], jobs := [], dock := dock, boot := boot, fw := {}, grps := [], upds := [], ces := [], srvs := [],
    caches := [], cellar := { s.cellar with session := none }, fab := {}, net := {}, flt := { strikes := s.flt.strikes, ues := s.flt.ues, lines := s.flt.lines }, notify := {}, power := power, reports := [] }
  let s := s.newExpertNonce.newProvNonce
  let s := (s.resetCause source 1).bump pGLB GLB_C_WARM_RESETS
  let s := (s.clearRegs pSEC 0x140 6).setReg (regAddr pFWC FWC_IMAGE_RELEASE.off) 0#64
  let s := s.setStage 2
  if s.rd pMGT MGT_STATUS_KEY_VALID = 1 ∧ s.rd pMGT MGT_RACK_MAC_MAC ≠ 0 then s.sendNotify 2 else s

/-- The end of a job reset (R36, R457). -/
def State.jobResetDone (s : State) (source : Nat) : State :=
  let s := s.loadReset .job 0
  let s := (List.range 84).foldl (fun (s : State) r => (s.setSeq r {}).zeroTiles r) s
  let s := (s.resetCause source 2).bump pGLB GLB_C_JOB_RESETS
  let rest := s.resets.filter fun x => x.1 != .job
  let dock := { s.dock with behind := [], fetch := none, installs := [] }
  let s : State := { s with resets := rest, dock := dock, caves := [], ctxs := [], fab := {} }
  if s.stage < 0x08 ∨ 0x0A < s.stage then s
  else
    let s := { s with boot := { s.boot with jobReset := true } }
    s.sendUpdate

/-- The end of a block reset: the registers of its page, nothing else (DEDUCED, log 38). -/
def State.blockResetDone (s : State) (page : Nat) : State :=
  let s := s.loadReset .block page
  { s with resets := s.resets.filter fun x => x != (.block, page) }

/-- RESET_DONE (R36): the reset of that kind, and for a block reset of that page, ends. A cold reset ends with its
self-test. -/
def execResetDone (kind : ResetKind) (page : Nat) (s : State) : Host.Outcome State Fault Refusal :=
  keep s (match s.resets.find? fun x => x.1 == kind && (kind != .block || x.2 == page) with
    | none => s
    | some (k, n) => match k with
      | .warm => s.warmDone n
      | .job => s.jobResetDone n
      | .block => s.blockResetDone n
      | .cold => s)

/-! ### Disabling (R355, R356) -/

/-- The job slot of each item that a block has accepted and not finished (DEDUCED, log 39); 16 for an item of no job. -/
def State.blockItems (s : State) (page : Nat) : List Nat :=
  let cmds := fun (mask : Nat) => (List.range 84).flatMap fun r =>
    ((s.seq r).outst.filter fun o => Nat.land o.cls mask != 0).map fun _ => s.jobOf r
  if page = pWSP then (s.wsp.loads.map (·.slot)) ++ s.wsp.binds.map (·.slot)
  else if page = pSCT then s.ctxs.map (·.slot)
  else if page = pCE then cmds 32
  else if page = pUPD then (List.range 16).flatMap fun j => (s.upd j).queue.map fun _ => j
  else if page = pCAVE then (List.range 84).flatMap fun r =>
    ((s.cave r).pushes.map fun _ => s.jobOf r) ++ (s.cave r).pops.map fun _ => s.jobOf r
  else if page = pDOCK then (List.range 16).filter fun j => s.jobState j == 1 || s.jobState j == 2
  else if page = pCELL then ((List.range 32).filter fun e => (s.cacheEnt e).load.isSome).map fun _ => 16
  else if pREG ≤ page then (s.seq (page - pREG)).outst.map fun _ => s.jobOf (page - pREG)
  else if pOPT ≤ page ∧ page < pOPT + 64 then (List.range 4).flatMap fun k =>
    let p := 4 * (page - pOPT) + k
    let l := s.link p
    (l.replay.map (·.2) ++ l.queue).map fun m => if m.key = 0#64 then 16 else (s.portSlot p).getD 16
  else []

/-- Start to disable a block. -/
def State.startDrain (s : State) (page : Nat) : State := s.wr page cDraining 1

/-- The job of a disabled region ends ABORTED with cause 5. -/
def State.endRegionJob (s : State) (page : Nat) : State :=
  if page < pREG then s
  else match s.slotOf (page - pREG) with
    | some slot => if s.jobState slot = 4 then s else s.endJob slot 0x41 5
    | none => s

/-- DRAIN_DONE (R355): every item accepted before is finished. -/
def execDrainDone (page : Nat) (s : State) : Host.Outcome State Fault Refusal :=
  keep s (
    if pageAssigned page && s.rd page cDraining == 1 && (s.blockItems page).isEmpty then
      ((s.wr page cEnabled 0).wr page cDraining 0).endRegionJob page
    else s)

/-- DRAIN_TIMEOUT (R355): still draining after DRAIN_MS; the draining goes on. -/
def execDrainTimeout (page : Nat) (s : State) : Host.Outcome State Fault Refusal :=
  keep s (if pageAssigned page && s.rd page cDraining == 1 then s.raiseErr pFLT FLT_ERR_STATUS_DRAIN_TIMEOUT else s)

/-- Run a block again; what waited for it goes on. -/
def State.enableBlock (s : State) (page : Nat) : State :=
  let s := (s.wr page cDraining 0).wr page cEnabled 1
  if pOPT ≤ page ∧ page < pOPT + 64 then
    ((List.range 4).foldl (fun s k => s.flushPort (4 * (page - pOPT) + k)) s).flushUnrouted
  else if page = pDOCK then s.admitNext
  else s

/-- Whether a page's CTRL has a field that requesters may write (R33, R38, R355). -/
def ctrlHas (page n : Nat) : Bool :=
  match regDefAt page 0x10 with
  | none => false
  | some d => d.fields.any fun f => f.lo == n && (f.acc == .rw || f.acc == .w1s)

/-- A write of a page's CTRL: every field after its type; ENABLE starts or ends draining, BLOCK_RESET starts a block reset. -/
def State.writeCtrl (q : Requester) (page : Nat) (v : Word) (s : State) : State :=
  s.serveWrite q (regAddr page 0x10) v fun s =>
    let was := s.rd page cEnable
    let s := s.plainWrite (regAddr page 0x10) v
    let now := s.rd page cEnable
    let s := if was = 1 ∧ now = 0 then s.startDrain page else if was = 0 ∧ now = 1 then s.enableBlock page else s
    if bit v.toNat 2 && ctrlHas page 2 then s.startBlockReset page else s

/-- BLOCK_RESET (R36). -/
def execBlockReset (q : Requester) (page : Nat) (v : Word) (s : State) : Host.Outcome State Fault Refusal :=
  keepQ s (s.writeCtrl q page v)

/-- BLOCK_DISABLE (R355). -/
def execBlockDisable (q : Requester) (page : Nat) (v : Word) (s : State) : Host.Outcome State Fault Refusal :=
  keepQ s (s.writeCtrl q page v)

/-- BLOCK_ENABLE (R33). -/
def execBlockEnable (q : Requester) (page : Nat) (v : Word) (s : State) : Host.Outcome State Fault Refusal :=
  keepQ s (s.writeCtrl q page v)

/-- EXPERT_OPEN (R40). -/
def execExpertOpen (q : Requester) (page : Nat) (v : Word) (s : State) : Host.Outcome State Fault Refusal :=
  keepQ s (s.writeCtrl q page v)

/-- Abandon the load of a cache entry: its units return, its requests stay queued. -/
def State.abandonCacheLoad (s : State) (e : Nat) : State :=
  match (s.cacheEnt e).load with
  | none => s
  | some l =>
    let s := ((s.cacheCtxEnd l).setCacheLoad e none).freeSlotOf e l.slot
    (s.wr pCELL CELL_MODEL_STATE (if s.resident e then 2 else 0) e).retrySpace

/-- FORCE_DISABLE (R356): the page is disabled at once; each item in flight there ends ABORTED, and a job that loses one ends
ABORTED with cause 5. -/
def State.forceDisable (s : State) (page : Nat) : State :=
  if !(pageAssigned page && ctrlHas page 0) then s
  else
    let items := s.blockItems page
    let s := ((s.wr page cEnable 0).wr page cEnabled 0).wr page cDraining 0
    let s := s.bump pFLT FLT_C_FORCED_ABORTS items.length
    let s := if page = pCELL then (List.range 32).foldl (fun s e => s.abandonCacheLoad e) s else s
    let s := if pOPT ≤ page ∧ page < pOPT + 64 then (List.range 4).foldl (fun s k =>
        let p := 4 * (page - pOPT) + k
        let l := s.link p
        s.setLink p { l with queue := [], acked := l.sent, replay := [] }) s else s
    (items.eraseDups.filter (· < 16)).foldl (fun s j =>
      if s.jobState j = 1 then (s.setJob j {}).wr pDOCK DOCK_JOB_STATE 0 j else s.endJob j 0x41 5) s

/-- FORCE_DISABLE: an expert write of FLT.FORCE_DISABLE. -/
def execForceDisable (q : Requester) (v : Word) (s : State) : Host.Outcome State Fault Refusal :=
  keep s (s.serveWrite q (regAddr pFLT 0x808) v fun s =>
    if FLT_FORCE_DISABLE_CONFIRM.of v = 0x5A3C then s.forceDisable (FLT_FORCE_DISABLE_PAGE.of v) else s)

/-! ### The expert gate (R40–R42) and forced errors (R34) -/

/-- The expected expert key (R41). -/
def State.expectedKey (s : State) : Nat :=
  leAt (hmac256 s.expertSecret
    (leBytes 8 (s.rd pGLB GLB_EXPERT_NONCE_NONCE) ++ leBytes 8 (s.rd pSEC SEC_SERIAL_SERIAL))) 0 8

/-- A failed match: counted, and the eighth locks the gate (R41). -/
def State.expertFail (s : State) : State :=
  let n := min 8 (s.rd pGLB GLB_EXPERT_STATUS_FAILS + 1)
  let s := (s.wrs pGLB [(GLB_EXPERT_STATUS_MATCHED, 0), (GLB_EXPERT_STATUS_FAILS, n)]).bump pGLB GLB_C_EXPERT_FAILS
  if n = 8 then s.wr pGLB GLB_EXPERT_STATUS_LOCKED_OUT 1 else s

/-- EXPERT_KEY (R41): a write of GLB.EXPERT_KEY. -/
def execExpertKey (q : Requester) (v : Word) (s : State) : Host.Outcome State Fault Refusal :=
  keep s (s.serveWrite q (regAddr pGLB 0x118) v fun s =>
    if s.rd pGLB GLB_EXPERT_STATUS_LOCKED_OUT = 1 then s
    else if s.rd pGLB GLB_EXPERT_STATUS_SECRET_VALID = 0 then s.expertFail
    else if v.toNat = s.expectedKey then s.wr pGLB GLB_EXPERT_STATUS_MATCHED 1
    else s.expertFail.newExpertNonce)

/-- EXPERT_LOCK (R42): a write of 1 to GLB.EXPERT_LOCK.LOCK. -/
def execExpertLock (q : Requester) (v : Word) (s : State) : Host.Outcome State Fault Refusal :=
  keep s (s.serveWrite q (regAddr pGLB 0x130) v fun s =>
    if GLB_EXPERT_LOCK_LOCK.of v = 1 then s.wr pGLB GLB_EXPERT_STATUS_MATCHED 0 else s)

/-- The bits that a register defines. -/
def definedBits (page off : Nat) : Word :=
  match regDefAt page off with
  | none => 0#64
  | some d => BitVec.ofNat 64 (d.fields.foldl (fun a f => putBits a f.hi f.lo (2 ^ (f.hi + 1 - f.lo) - 1)) 0)

/-- ERR_FORCE (R34): the bits are set and reported, with no recovery. -/
def execErrForce (q : Requester) (page : Nat) (v : Word) (s : State) : Host.Outcome State Fault Refusal :=
  keep s (s.serveWrite q (regAddr page 0x30) v fun s => s.raiseErrBits page (v &&& definedBits page 0x20))

end Sys2Proof.Machine
end

