-- ==== Sys2Proof/Machine/Recovery.lean ====
section
/-! DEFINITION. The fault unit (R327–R358) and the loss of a stack (R386–R391): the log, the action of each class of report, what a
lost stack takes with it, reloads, and the rows that raise or inject faults. -/

namespace Sys2Proof.Machine

/-! ### Ports that fail (R271, R364) -/

/-- The job and the live member that a W-port leads to, while it is UP. -/
def State.wMember (s : State) (p : Nat) : Option (Nat × Nat) :=
  match s.portSlot p with
  | none => none
  | some slot =>
    if s.portUp p && s.isW p && s.jobState slot == 3 && s.grouped slot then
      ((s.liveMembers slot).find? fun i => i != s.gSelf slot && s.memberModule slot i == s.rd (portPage p) OPT_PORT_NADDR (p % 4)).map
        fun i => (slot, i)
    else none

/-- A port leaves UP by some path; a W-port's member is suspected, and the port table has changed (R271, R457). -/
def State.portOut (s : State) (p : Nat) (leave : State → State) : State :=
  let who := s.wMember p
  let s := leave s
  (match who with | some (slot, i) => s.suspect slot i 1 | none => s).checkUpdate

/-- A port goes down, and may train again. -/
def State.portDown (s : State) (p dest : Nat) : State := s.portOut p fun s => s.portLeave p dest

/-- A port becomes FAULTY (R369). -/
def State.portFail (s : State) (p : Nat) : State := s.portOut p fun s => s.portFaulty p

/-! ### Engines (R333, R336) -/

/-- An engine fails: its page is dead, its ports FENCED; each job that held a port goes on under a hoop for the engine. -/
def State.engineFault (s : State) (e : Nat) : State × Nat :=
  if 64 ≤ e ∨ s.engineFenced e then (s, 0)
  else
    let ps := ((List.range 4).map fun k => 4 * e + k).filter s.portExists
    let held := (ps.filterMap s.portSlot).eraseDups
    let who := ps.filterMap s.wMember
    let s := ps.foldl (fun s p => s.portLeave p 0) s
    let s := (s.killPage (pOPT + e)).raiseEvt pFLT FLT_EVT_STATUS_FENCED
    let s := ps.foldl (fun s p => s.fencePort p) s
    let s := held.foldl (fun s slot =>
      if s.jobState slot = 4 then s.tearDone slot
      else if s.jobState slot = 2 then s.abortFault slot
      else
        let (s, ok) := (s.startRecovery slot false).takeKey slot PLC_JOB_ENGINE_KEY e
        if ok then s.selectHoop slot else s) s
    ((who.foldl (fun s x => s.suspect x.1 x.2 1) s).checkUpdate, 4)

/-! ### A job's data that is lost (R343) -/

/-- The job's holds and held counts go to 0. -/
def State.discardHolds (s : State) (slot : Nat) : State :=
  let l := s.holdAreas slot
  if l.isEmpty && (s.ce slot).counts.isEmpty then s
  else
    let s := l.foldl (fun s a => s.wrs pCAVE [(CAVE_HOLD_W_WRITTEN, 0), (CAVE_HOLD_P_VALID, 0), (CAVE_HOLD_C_ZERO, 1)] a) s
    let s := s.mapCounts slot fun h => { h with c := 0, p := none, w := none }
    (s.raiseErr pFLT FLT_ERR_STATUS_HOLD_DISCARD).bump pFLT FLT_C_HOLD_DISCARDS

/-- An update area is lost: it is restored from its buddy and updated again; without a buddy the job ends. -/
def State.loseArea (s : State) (slot entry : Nat) : State :=
  if !s.hasBuddy slot then s.abortFault slot
  else
    let s := s.wrs pUPD [(UPD_AREA_INIT_DONE, 0), (UPD_AREA_WROTE, 0), (UPD_AREA_ROWS_TOUCHED, 0)] entry
    { s with flt := { s.flt with restore := s.flt.restore.filter (· != (slot, entry)) ++ [(slot, entry)] } }

/-- Ask for every area of a job that waits to be restored, once its tables can be read. -/
def State.restoreLost (s : State) (slot : Nat) : State :=
  let mine := s.flt.restore.filter fun x => x.1 == slot
  let s := { s with flt := { s.flt with restore := s.flt.restore.filter fun x => x.1 != slot } }
  mine.foldl (fun (s : State) x => match (s.areas slot).find? fun y => y.1 == x.2 with
    | some (e, ix) =>
      let n := s.mirrorName slot ix
      s.askRestore slot e n.1 n.2 (s.buddyAddr slot)
    | none => s) s

/-- The program image must be read again before the job resumes. -/
def State.needReload (s : State) (slot : Nat) : State :=
  { s with flt := { s.flt with reload := s.flt.reload.filter (· != slot) ++ [slot] } }

/-- Mirrors held for other modules are lost: each owner's entry rebuilds, and each owner is asked for its C images (R344). -/
def State.loseMirrors (s : State) (slot : Nat) : State :=
  let u := s.upd slot
  let lost := (u.held.map fun h => (h.owner, h.area)).eraseDups
  if lost.isEmpty then s
  else
    let step := s.committed slot
    let s := (s.setUpd slot { u with held := [], rebuild := (u.rebuild ++ lost).eraseDups }).showHeld slot
    lost.foldl (fun s x =>
      let u := s.upd slot
      let m : MirMsg := ⟨6, x.1, x.2, step, u.holdSeq, 0, 1, 0⟩
      let s := s.setUpd slot { u with holdSeq := (u.holdSeq + 1) % 2 ^ 32 }
      if u.mirrorKey.isEmpty then s else s.sendJob slot 3 (addrModule x.1) (m.seal u.mirrorKey [])) s

/-- Every entry of the model cache is emptied; the epochs that batches have bound are kept for a reload, the current slot's last
(R390). -/
def State.emptyCache (s : State) : State :=
  (List.range 32).foldl (fun s e =>
    if !s.entryValid e then s
    else
      let again := ([0, 1].filter fun k => decide (2 ≤ s.sstate e k) && decide (0 < s.bound e k)).map fun k =>
        (e, s.rd pCELL (slotFld CELL_MODEL_EPOCH k) e)
      let c := s.cacheEnt e
      -- an UNLOAD or a KEY_ERASE that waits for bound batches goes on waiting for them
      let held := s.rd pCELL CELL_MODEL_UNLOADING e == 1 && !again.isEmpty
      let cur := s.rd pCELL CELL_MODEL_CUR e
      let again := if cur = 0 then again.reverse else again
      let s := match c.load with | some l => s.cacheCtxEnd l | none => s
      let s := ((s.setCacheEnt e { erase := held && c.erase }).freeSlotOf e 0).freeSlotOf e 1
      let s := s.wrs pCELL [(CELL_MODEL_UNLOADING, b2n held), (CELL_MODEL_STATE, 0)] e
      { s with flt := { s.flt with recache := s.flt.recache ++ again } }) s

/-- What a lost slot of the stacks takes from one job. -/
def State.jobLosesStack (s : State) (slot : Nat) : State :=
  if s.jobState slot ≠ 3 ∨ (s.extents slot).isEmpty then s
  else
    let areas := s.areas slot
    let s := ((s.startRecovery slot false).needReload slot).loseMirrors slot
    let s := s.discardHolds slot
    let s := areas.foldl (fun s x => if s.jobState slot = 3 then s.loseArea slot x.1 else s) s
    if s.jobState slot ≠ 3 then s
    else ((s.ce slot).buckets.filter fun b => b.level0 && decide (0 < b.top) && b.done != 3).foldl (fun s b => s.startRedo slot b) s

/-- A stack fails (R389, R390 events 1 and 2). -/
def State.stackFault (s : State) (site : Nat) : State × Nat :=
  let p := memPage site
  let st := s.rd p MEM_STATUS_STATE
  if 26 ≤ site ∨ 2 ≤ st then (s, 0)
  else
    let k := s.rd p MEM_STATUS_SLOT
    let s := ((s.killPage p).wrs p [(MEM_STATUS_STATE, 2), (MEM_STATUS_SLOT, 31)]).raiseEvt pFLT FLT_EVT_STATUS_FENCED
    if st = 1 then (s, 3)
    else
      let n := s.wsp.staged.length
      let s := (s.setStaged []).bump pWSP WSP_C_STAGE_EVICTIONS n
      let s := { s with flt := { s.flt with remaps := s.flt.remaps ++ [(site, k)] } }.emptyCache
      ((List.range 16).foldl (fun s j => s.jobLosesStack j) s, 3)

/-- An uncorrectable line under a block's data (R328, R343): the job restarts its step without it. -/
def State.lineFault (s : State) (rep : Report) : State × Nat :=
  let slot := rep.job
  if 16 ≤ slot ∨ s.jobState slot = 0 ∨ s.jobState slot = 4 then (s, 0)
  else if s.jobState slot ≠ 3 then (if rep.page = pDOCK then s.loadFail slot 0x32 else s, 3)
  else
    let s := s.startRecovery slot false
    let s := if rep.page = pUPD then s.loseArea slot rep.sub
      else if rep.page = pCE then match (s.ce slot).buckets.find? fun b => b.tag == rep.sub && b.level0 with
        | some b => s.startRedo slot b
        | none => s
      else if rep.page = pDOCK ∨ pREG ≤ rep.page then s.needReload slot
      else if rep.page = pCAVE ∧ rep.sub = 1 then s.discardHolds slot
      else s
    -- the tables are intact, so a restore need not wait for a reload
    (if s.flt.reload.contains slot then s else s.restoreLost slot, 3)

/-! ### The end of a remap (R390, R391) -/

/-- Rewrite the module map from the sites in use (R379, R381). -/
def State.writeMap (s : State) (n : Nat) : State :=
  let cap := 64 * n
  let size := s.rd pCELL CELL_CACHE_CFG_SIZE_GB
  let s := s.wrs pMEM [(MEM_MAP_N, n), (MEM_MAP_CAP_GB, cap), (MEM_MAP_CACHE_BASE_GB, cap - 24 - size), (MEM_MAP_STAGE_BASE_GB, cap - 24)]
  (List.range 3).foldl (fun s w =>
    let v := (List.range 8).foldl (fun a b =>
      let site := if 8 * w + b < n then s.siteOfSlot (8 * w + b) else 0xFF
      a + (if site = 31 then 0xFF else site) * 256 ^ b) 0
    s.setReg (regAddr pMEM (0xA008 + 8 * w)) (BitVec.ofNat 64 v)) s

/-- Zero the granules of one slot (R380). -/
def State.zeroSlot (s : State) (n k : Nat) : State := { s with mem := s.mem.filter fun c => c.1 / 256 % n != k }

/-- Allocate every job's space again on fewer slots, in ascending job slot order (R391): the sizes come from the extents before. -/
def State.reallocate (s : State) : State :=
  let sizes := (List.range 16).map s.jobGb
  let held := (List.range 16).filter fun j => s.jobState j != 0 && decide (0 < sizes.getD j 0)
  let s := held.foldl (fun s j => s.initRegs pMEM (0xB000 + 0x100 * j) 32) s
  held.foldl (fun s j =>
    let size := sizes.getD j 0
    if size ≤ s.freeRuns.length then s.allocStack j size else s.abortFault j) s

/-- R391: N falls by one; every stack byte is lost; the surviving sites re-form the slots and all content is placed again. -/
def State.shrinkStacks (s : State) (site : Nat) : State :=
  let live := (List.range 26).filter fun i => s.rd (memPage i) MEM_STATUS_STATE == 0
  let n := live.length
  let s := live.zipIdx.foldl (fun s x => s.wr (memPage x.1) MEM_STATUS_SLOT x.2) s
  let need := ((List.range 16).map fun j => if s.jobState j = 0 then 0 else s.jobGb j).sum
  let size := min (s.rd pCELL CELL_CACHE_CFG_SIZE_GB) (64 * n - 24 - need)
  let s := { (s.wr pCELL CELL_CACHE_CFG_SIZE_GB size).writeMap n with mem := [] }.reallocate
  (List.range 16).foldl (fun s j =>
    if s.jobState j ≠ 3 ∨ (s.extents j).isEmpty then s else (s.takeKey j PLC_JOB_STACK_KEY site).1) s

/-- The cache loads that a stack fault left to start again; an entry's second waits for its first (R390). -/
def State.recacheAll (s : State) : State :=
  let l := s.flt.recache
  l.foldl (fun (s : State) x =>
    if (s.cacheEnt x.1).load.isNone then s.startCacheLoad x.1 x.2 false
    else s.setCacheEnt x.1 { s.cacheEnt x.1 with waiting := some x.2 }) { s with flt := { s.flt with recache := [] } }

/-- STACK_REMAP_DONE (R390, R391): the failed site's slot is served again, or the stacks have shrunk. -/
def execStackRemapDone (site : SiteIx) (s : State) : Host.Outcome State Fault Refusal :=
  keepQ s (match s.flt.remaps.find? fun x => x.1 == site.val with
    | none => s
    | some (i, k) =>
      let s := { s with flt := { s.flt with remaps := s.flt.remaps.filter fun x => x.1 != i } }
      match (List.range 26).find? fun i => s.rd (memPage i) MEM_STATUS_STATE == 1 with
      | some j =>
        let n := s.rd pMEM MEM_MAP_N
        let s := (s.wrs (memPage j) [(MEM_STATUS_STATE, 0), (MEM_STATUS_SLOT, k)]).zeroSlot n k
        ((s.writeMap n).raiseEvt (memPage j) MEM_EVT_STATUS_REMAPPED).recacheAll
      | none =>
        let s := s.shrinkStacks i
        (s.raiseEvt (memPage s.lowestSite) MEM_EVT_STATUS_REMAPPED).recacheAll)

/-! ### Reloads (R343) -/

/-- The image of a RUNNING job has been read again: checked, written, and the hoop that its key now asks for selected. -/
def State.reloadJob (s : State) (slot : Nat) (img : List Byte) : State :=
  let d := (s.job slot).docket
  let s := { s with flt := { s.flt with reload := s.flt.reload.filter (· != slot) } }
  if img.length ≠ leAt d 104 8 ∨ sha384 img ≠ (d.drop 120).take 48 then s.abortFault slot
  else
    let s := s.jobWrite slot 0 img
    let key := s.lossKey slot
    let now := if s.rd pPLC PLC_JOB_HOOP_VALID slot = 0 then none else some (s.rd pPLC PLC_JOB_HOOP slot)
    let same := if key == noLoss then now.isNone else now.isSome && s.hoopFor slot key == now
    let s := if same then s else s.selectHoop slot
    if s.jobState slot = 3 then s.restoreLost slot else s

/-- The image that a job's source delivers: the one that arrived, or the program of a sealed image, whose header and body
hashes it checks (R302–R304). -/
def State.sourceImage (s : State) (slot : Nat) (image : List Byte) : State × List Byte :=
  let d := (s.job slot).docket
  if leAt d 22 2 % 2 = 0 then (s, image)
  else match s.cellarImage (leAt d 112 8) with
    | none => (s.raiseErr pCELL CELL_ERR_STATUS_IMAGE_BAD, [])
    | some b => match imageBody b with
      | some body => if byteAt b 6 = 1 then (s, body) else (s.raiseErr pCELL CELL_ERR_STATUS_IMAGE_BAD, [])
      | none => (s.raiseErr pCELL CELL_ERR_STATUS_IMAGE_BAD, [])

/-- PROGRAM_LOAD_DONE (R154, R156, R158, R343): check 4 of a job that loads, or the reload of a job that runs. -/
def execProgramLoadDone (slot : SlotIx) (image : List Byte) (s : State) : Host.Outcome State Fault Refusal :=
  let reload := s.flt.reload.contains slot.val && s.jobState slot == 3
  keepQ s (if reload && !s.flt.remaps.isEmpty || (!reload && s.jobState slot != 2) then s
    else
      let (s, img) := s.sourceImage slot image
      if reload then s.reloadJob slot img else s.programLoaded slot img)

/-- LOAD_TIMEOUT (R156, R343): a load or a reload has not ended in time. -/
def execLoadTimeout (slot : SlotIx) (s : State) : Host.Outcome State Fault Refusal :=
  keepQ s (if s.jobState slot = 2 then s.loadFail slot 0x32
    else if s.flt.reload.contains slot.val && s.jobState slot == 3 then s.abortFault slot else s)

/-- RECOVERY_RESUME (R339 event 8): the remap and the reload come first. A member that has accepted a proposal waits for its
COMMIT (R275, R279). -/
def execRecoveryResume (slot : SlotIx) (s : State) : Host.Outcome State Fault Refusal :=
  keepQ s (if s.jobState slot = 3 ∧ s.rd pPLC PLC_JOB_RECOVERING slot = 1 ∧ s.flt.remaps = [] ∧ slot.val ∉ s.flt.reload
      ∧ (s.grp slot).accepted = none then
    s.resumeJob slot else s)

/-! ### Tiles (R337–R340) -/

/-- Whether a TILE fault of a region lets its job resume at the cut (R338). -/
def State.cutAllowed (s : State) (slot r code : Nat) : Bool :=
  let rs := s.regionsOf slot
  let cutOf := fun x => (s.seq x).cuts.find? fun k => k.seq == s.rd (regPage x) REG_MARK_STATUS_JOB_SEQ
  decide (code ≠ REG_ERR_STATUS_VAT_UE.lo)
    && rs.all (fun x => s.rd (regPage x) REG_MARK_STATUS_VALID == 1 && match cutOf x with
        | some k => !k.dirty && !(x == r && k.vat)
        | none => false)

/-- A TILE fault: its column shifts, or its region fails (R19, R20). -/
def State.tileLost (s : State) (r t code : Nat) : State × Nat :=
  let st := s.regionState r
  if 84 ≤ r ∨ st = 3 ∨ st = 4 then (s, 0)
  else
    let f := s.physCol r t
    let lost := s.rd (regPage r) REG_TILE_MAP_SPARE_LOST == 1
    if lost && f == 16 then (s, 0)
    else if s.rd (regPage r) REG_TILE_MAP_SHIFTED = 1 ∧ f = s.rd (regPage r) REG_TILE_MAP_FAILED_COL then (s, 0)
    else if lost ∨ s.rd (regPage r) REG_TILE_MAP_SHIFTED = 1 then (s.regionFault r 3, 2)
    else if f = 16 then ((s.wr (regPage r) REG_TILE_MAP_SPARE_LOST 1).raiseEvt pFLT FLT_EVT_STATUS_FENCED, 1)
    else
      let held := s.slotOf r
      let ok := match held with | some slot => s.cutAllowed slot r code | none => false
      let s := ((s.shiftCols r f).zeroCols r f).raiseEvt pFLT FLT_EVT_STATUS_FENCED
      match held with
      | some slot => ((s.startRecovery slot ok).cancelLoads r, 1)
      | none => (s, 1)

/-! ### Corruption (R347–R351) -/

/-- Strikes of a region within the window, newest counted, shown in PLC.REGION. -/
def State.showStrikes (s : State) (r : Nat) : State :=
  s.wr pPLC PLC_REGION_STRIKES (min 255 (s.flt.strikes.filter fun x => x.2 == r).length) r

/-- Forget the strikes that the window has passed (R348). -/
def State.pruneStrikes (s : State) : State :=
  let w := s.rd pFLT FLT_LIMITS_STRIKE_WINDOW_S * ns1
  let s := { s with flt := { s.flt with strikes := s.flt.strikes.filter fun x => decide (s.tb.ref < x.1 + w) } }
  (List.range 84).foldl (fun (s : State) r => s.showStrikes r) s

/-- A strike against a region; at the limit it is fenced. -/
def State.strike (s : State) (r : Nat) : State :=
  if 84 ≤ r then s
  else
    let s := { s with flt := { s.flt with strikes := s.flt.strikes ++ [(s.tb.ref, r)] } }.pruneStrikes
    if s.rd pFLT FLT_LIMITS_STRIKE_LIMIT ≤ (s.flt.strikes.filter fun x => x.2 == r).length then s.regionFault r 3 else s

/-- ROLLBACK for COMMITTED_STEP, or a restart of the current step while none has committed (R347). -/
def State.undoStep (s : State) (slot : Nat) : State × Nat :=
  let k := (s.barrierStep slot + 65535) % 65536
  if s.jobState slot ≠ 3 then (s, 0)
  else if s.canRollback slot k then (((s.castRollback slot k).rollback slot).raiseEvt pFLT FLT_EVT_STATUS_ROLLBACK_SENT, 6)
  else (s.startRecovery slot false, 6)

/-- A CORRUPTION report. Of page FLT: `sub` is 0 for a replay mismatch of region `unit`, SEQ + 1 for a difference of a pair,
2^16 for corruption of a step before COMMITTED_STEP (DEDUCED, log 40). -/
def State.corruption (s : State) (rep : Report) : State × Nat :=
  let slot := rep.job
  if 16 ≤ slot then (s, 0)
  else if rep.page ≠ pFLT then (s.abortFault slot, 5)
  else if 65536 < rep.sub + 1 then ((s.castAbandon slot).raiseEvt pFLT FLT_EVT_STATUS_ROLLBACK_SENT, 5)
  else if rep.sub = 0 then (s.strike rep.unit).undoStep slot
  else
    let t := s.rd pPLC PLC_REGION_TWIN rep.unit
    let s := s.bump pPLC PLC_C_PAIR_MISMATCHES
    if s.flt.pairBad.contains (slot, rep.sub) then
      let s := s.regionFault rep.unit 3
      (if t < 84 then s.regionFault t 3 else s, 2)
    else
      let s := { s with flt := { s.flt with pairBad := s.flt.pairBad ++ [(slot, rep.sub)] } }
      ((s.strike rep.unit).strike t).undoStep slot

/-! ### Whole-module failure (R353) -/

/-- A MODULE fault. -/
def State.moduleFault (s : State) : State × Nat :=
  if s.rd pFLT FLT_STATUS_MODULE_FAILED = 1 then (s, 0)
  else
    let s := s.raiseErr pFLT FLT_ERR_STATUS_MODULE_FAULT
    let s := (List.range 16).foldl (fun s j => if s.jobState j = 2 ∨ s.jobState j = 3 then s.abortFault j else s) s
    let s := s.wr pFLT FLT_STATUS_MODULE_FAILED 1
    (if s.rd pFLT FLT_CTRL_ESCALATE = 1 then s.startWarm 3 else s, 7)

/-! ### Reports (R327–R330) -/

/-- A LOAD fault: the first of a step attempt restarts the step, the second ends the job (R330). -/
def State.loadFault (s : State) (rep : Report) : State × Nat :=
  let slot := rep.job
  if 16 ≤ slot ∨ s.jobState slot ≠ 3 then (s, 0)
  else if rep.page = pUPD ∧ rep.code = UPD_ERR_STATUS_INIT_FAIL.lo then
    (if s.grouped slot then s.castAbandon slot else s.abortFault slot, 5)
  else if (s.job slot).loadFault then (s.abortFault slot, 5)
  else ((s.setJob slot { s.job slot with loadFault := true }).startRecovery slot false, 0)

/-- The code of a class in FLT.LOG. -/
def classCode : FaultClass → Nat
  | .corrected => 0
  | .notice => 1
  | .anchor => 2
  | .program => 3
  | .load => 4
  | .tile => 5
  | .region => 6
  | .engine => 7
  | .stack => 8
  | .corruption => 9
  | .module => 10

/-- The action of a report (R328). -/
def State.act (s : State) (rep : Report) : State × Nat :=
  match rep.cls with
  | .corrected | .notice => (s, 0)
  | .anchor | .program => if rep.job < 16 then (s.abortFault rep.job, 5) else (s, 0)
  | .load => s.loadFault rep
  | .tile => s.tileLost rep.unit rep.sub rep.code
  | .region =>
    let st := s.regionState rep.unit
    let heat := pREG ≤ rep.page ∧ (rep.code = REG_ERR_STATUS_THERM_SHUTDOWN.lo ∨ rep.code = REG_ERR_STATUS_OVERVOLT.lo
      ∨ rep.code = REG_ERR_STATUS_SENSOR_FAIL.lo)
    if 84 ≤ rep.unit ∨ st = 3 ∨ st = 4 ∨ (st = 2 ∧ heat) then (s, 0) else (s.regionFault rep.unit (if heat then 2 else 3), 2)
  | .engine => s.engineFault rep.unit
  | .stack => if (pMEM ≤ rep.page ∧ rep.page < pMEM + 26) ∨ rep.page = pFAB then s.stackFault rep.unit else s.lineFault rep
  | .corruption => s.corruption rep
  | .module => s.moduleFault

/-- The counter of a class. -/
def classCounter : FaultClass → Option Fld
  | .tile => some FLT_C_TILE_FAULTS
  | .region => some FLT_C_REGION_FAULTS
  | .stack => some FLT_C_STACK_FAULTS
  | .engine => some FLT_C_ENGINE_FAULTS
  | .program | .anchor | .load => some FLT_C_JOB_FAULTS
  | _ => none

/-- Take a report: the log, then the action of its class. -/
def State.takeReport (s : State) (rep : Report) : State :=
  if rep.cls = .corrected then s
  else
    let e := s.rd pFLT FLT_LOG_HEAD_NEXT
    let job := if rep.job < 16 then rep.job else 0
    let c := classCode rep.cls
    let s := s.wrs pFLT [(FLT_LOG_VALID, 1), (FLT_LOG_PAGE, rep.page), (FLT_LOG_CLASS, c), (FLT_LOG_CODE, rep.code),
      (FLT_LOG_SLOT, job), (FLT_LOG_ACTION, 0), (FLT_LOG_TIME, rep.count)] e
    let s := s.wrs pFLT [(FLT_LOG_HEAD_NEXT, (e + 1) % 256), (FLT_LAST_FAULT_PAGE, rep.page), (FLT_LAST_FAULT_CLASS, c),
      (FLT_LAST_FAULT_CODE, rep.code), (FLT_LAST_FAULT_SLOT, job)]
    let s := (s.bump pFLT FLT_C_REPORTS).raiseEvt pFLT FLT_EVT_STATUS_LOGGED
    let s := match classCounter rep.cls with | some f => s.bump pFLT f | none => s
    let (s, a) := s.act rep
    s.wr pFLT FLT_LOG_ACTION a e

/-- Fence a site for a cause that is a bit of MEM.ERR_STATUS, and report it. -/
def State.siteFails (s : State) (site : Nat) (f : Fld) : State :=
  (s.raiseErr (memPage site) f).reportOn .stack site (memPage site) f

/-- An uncorrectable line of a site: redirected to the next free spare line and POISONed; none left, or too many within 60 s,
fails the site (R386, R389). -/
def State.lineLost (s : State) (site line : Nat) : State :=
  let p := memPage site
  let used := s.rd p MEM_LINES_USED
  let s : State := { s with flt := { s.flt with ues := (s.flt.ues.filter fun (x : Nat × Nat) => decide (s.tb.ref < x.1 + 60 * ns1)) ++ [(s.tb.ref, site)] } }
  let n := (s.flt.ues.filter fun (x : Nat × Nat) => x.2 == site).length
  let s := if used < 4096 then
      let s : State := { s with flt := { s.flt with lines := s.flt.lines ++ [(site, line)] } }
      let s := (s.wrs p [(MEM_LINE_VALID, 1), (MEM_LINE_POISON, 1), (MEM_LINE_LINE, line)] used).wr p MEM_LINES_USED (used + 1)
      (s.raiseEvt p MEM_EVT_STATUS_LINE_REMAPPED).bump p MEM_C_LINES_REMAPPED
    else s.siteFails site MEM_ERR_STATUS_LINES_EXHAUSTED
  if s.rd p MEM_LIMITS_UE_LIMIT < n then s.siteFails site MEM_ERR_STATUS_UE_LIMIT else s

/-- The counter that a detection or a correction advances on its page (R79, R306, R311, R354, R402). -/
def detectCounter (rep : Report) : Option Fld :=
  if pREG ≤ rep.page then
    (if rep.cls = .corrected then
      (if rep.code = REG_ERR_STATUS_SRAM_UE.lo then some REG_C_SRAM_CE
      else if rep.code = REG_ERR_STATUS_VAT_UE.lo then some REG_C_VAT_CE else none)
    else if rep.code = REG_ERR_STATUS_SRAM_UE.lo then some REG_C_SRAM_UE_COUNT
    else if rep.code = REG_ERR_STATUS_VAT_UE.lo then some REG_C_VAT_UE_COUNT
    else if rep.code = REG_ERR_STATUS_PRESS_PARITY.lo then some REG_C_PRESS_PARITY_COUNT
    else if rep.code = REG_ERR_STATUS_RESIDUE.lo then some REG_C_RESIDUE_ERRS else none)
  else if pMEM ≤ rep.page ∧ rep.page < pMEM + 26 then (if rep.cls = .corrected then some MEM_C_CE else none)
  else if rep.page = pFAB then
    (if rep.cls = .corrected then some FAB_C_LINK_CE
    else if rep.code = FAB_ERR_STATUS_LINK_UE.lo then some FAB_C_LINK_UE_COUNT else none)
  else if rep.page = pPWR then
    (if rep.cls = .corrected then some PWR_C_MONITOR_MISMATCH
    else if rep.code = PWR_ERR_STATUS_PMBUS_ERR.lo then some PWR_C_PMBUS_ERRS else none)
  else if rep.page = pCE then (if rep.cls ≠ .corrected ∧ rep.code = CE_ERR_STATUS_RESIDUE.lo then some CE_C_RESIDUE_ERRS else none)
  else none

/-- Whether a detection is a residue mismatch that TILE_EXPERT.RESIDUE_DIS only counts (R79). -/
def State.onlyCounted (s : State) (rep : Report) : Bool :=
  decide (pREG ≤ rep.page) && rep.cls == .tile && rep.code == REG_ERR_STATUS_RESIDUE.lo
    && s.rd rep.page REG_TILE_EXPERT_RESIDUE_DIS == 1

/-- An uncorrectable line under a block's data at a site: counted and redirected; the report does not name the line, which is
a free value (R386, log 52). -/
def State.dataLine (s : State) (site : Nat) : State :=
  if 26 ≤ site then s
  else
    let (w, s) := s.draw
    (s.bump (memPage site) MEM_C_UE).lineLost site (w.toNat % 1000000000)

/-- A corrected page of the cellar: counted; its block is moved to spare capacity once it has shown repeated corrections (R393). -/
def State.cellarCorrected (s : State) (block : Nat) : State :=
  let s := s.bump pMEM MEM_CELLAR_CELLAR_CE
  let c := s.cellar
  let l := block :: c.corr
  if (l.filter (· == block)).length < 2 + Config.retireAfter block then { s with cellar := { c with corr := l } }
  else ({ s with cellar := { c with corr := l.filter (· != block) } } : State).bump pMEM MEM_CELLAR_BLOCKS_RETIRED

/-- A page of a sealed image of the cellar that cannot be corrected: the image is VALID no more, and a load that reads it
fails (R301, R393). -/
def State.cellarPage (s : State) (image : Nat) : State :=
  if 256 ≤ image then s
  else
    let c := s.cellar
    let s := { s with cellar := { c with bad := (c.bad.filter (· != image)) ++ [image] } }
    let s := (s.bump pMEM MEM_CELLAR_CELLAR_UE_COUNT).wr pCELL CELL_IMAGE_VALID 0 image
    let s := s.wr pCELL CELL_STATUS_IMAGES ((List.range 256).filter fun i => s.rd pCELL CELL_IMAGE_VALID i == 1).length
    (List.range 32).foldl (fun s e => match (s.cacheEnt e).load with
      | some l =>
        if l.source = 0 ∨ s.rd pCELL CELL_MODEL_CELLAR_INDEX e ≠ image then s else s.cacheFailOr e 6
      | none => s) s

/-- A detection outside the model's own units: its ERR_STATUS bit is set and its counter advances with the report (R79, R306,
R327, R386, R393). A correction only counts. A STACK report on the CELL page is a page of sealed image `sub` where it rests on
CELLAR_UE, else a stack line under slot `sub` mod 2 of cache entry `sub` div 2 (R301; log 155). -/
def State.detect (s : State) (rep : Report) : State :=
  let s := match detectCounter rep with | some f => s.bump rep.page f | none => s
  if rep.cls = .corrected then (if rep.page = pCELL then s.cellarCorrected rep.unit else s)
  else
    let s := if pageAssigned rep.page ∧ rep.code < 64 then
        s.raiseErrBits rep.page ((1#64 <<< rep.code) &&& definedBits rep.page 0x20) else s
    let s := if rep.cls = .tile ∧ rep.unit < 84 ∧ rep.sub < 256 then s.wr (regPage rep.unit) REG_TILE_FLAGS_ERR 1 rep.sub else s
    if rep.cls ≠ .stack then s
    else if rep.page = pCELL ∧ rep.code = CELL_ERR_STATUS_CELLAR_UE.lo then s.cellarPage rep.sub
    else if rep.page = pCELL then (s.dataLine rep.unit).cacheLine (rep.sub / 2 % 32) (rep.sub % 2)
    else if (pMEM ≤ rep.page ∧ rep.page < pMEM + 26) ∨ rep.page = pFAB then s
    else s.dataLine rep.unit

/-- FAULT_REPORT (R327): a report that a detector of this model has made, or one from outside it. -/
def execFaultReport (rep : Report) (s : State) : Host.Outcome State Fault Refusal :=
  keepQ s (if s.reports.contains rep then { s with reports := s.reports.erase rep }.takeReport rep
    else if !pageAssigned rep.page then s.takeReport rep
    else
      let t := s.detect rep
      if s.onlyCounted rep then s.bump rep.page REG_C_RESIDUE_ERRS else t.takeReport rep)

/-- STRIKE_WINDOW_EXPIRY (R348). -/
def execStrikeWindowExpiry (s : State) : Host.Outcome State Fault Refusal := keep s s.pruneStrikes

/-- SENTINEL_TICK (R331): every tile of the region runs its sentinel; those that fail are reported, and where no run of idle
cycles came within 8 periods the sequencer has held issue. A tile of physical column 16 in row y is named 256 + y. -/
def execSentinelTick (r : RegionIx) (wrong : List Nat) (s : State) : Host.Outcome State Fault Refusal :=
  keep s (if s.regionState r ≠ 0 then s
    else (wrong.filter (· < 272)).foldl (fun s t =>
      let s := if t < 256 then s.wr (regPage r) REG_TILE_FLAGS_ERR 1 t else s
      (s.raiseErr pFLT FLT_ERR_STATUS_SENTINEL).reportOn .tile r pFLT FLT_ERR_STATUS_SENTINEL (s.jobOf r) t) s)

/-- The blocks that send the fault unit a heartbeat (R332): the docket unit, WSP and SCT, the CE, the update engine, the cave
controller, the cellar controller, the placement unit. -/
def heartPages : List Nat := [pDOCK, pWSP, pSCT, pCE, pUPD, pCAVE, pCELL, pPLC]

/-- BLOCK_HEARTBEAT_MISS (R332). -/
def execBlockHeartbeatMiss (page : Nat) (s : State) : Host.Outcome State Fault Refusal :=
  keep s (
    let err := s.raiseErr pFLT FLT_ERR_STATUS_HEARTBEAT
    if pREG ≤ page ∧ page < pREG + 84 then err.reportOn .region (page - pREG) pFLT FLT_ERR_STATUS_HEARTBEAT (s.jobOf (page - pREG))
    else if heartPages.contains page then err.reportOn .module 0 pFLT FLT_ERR_STATUS_HEARTBEAT
    else s)

/-- LOCKSTEP_MISMATCH (R332): the two copies of the fault unit disagree. -/
def execLockstepMismatch (s : State) : Host.Outcome State Fault Refusal :=
  keepQ s (s.takeReport { cls := .module, unit := 0, page := pFLT, code := FLT_ERR_STATUS_MODULE_FAULT.lo, count := s.tb.count })

/-- The report that an injection makes (R358). -/
def State.injected (s : State) (kind target : Nat) : Option Report :=
  let mk := fun cls unit sub page job => some ({ cls := cls, unit := unit, sub := sub, job := job, page := page, code := 0xFF, count := s.tb.count } : Report)
  match kind with
  | 5 => if target / 256 < 84 then mk .tile (target / 256) (target % 256) (regPage (target / 256)) (s.jobOf (target / 256)) else none
  | 6 => if target < 84 then mk .region target 0 (regPage target) (s.jobOf target) else none
  | 7 => if target < 64 then mk .engine target 0 (pOPT + target) 16 else none
  | 8 => if target < 26 then mk .stack target 0 (memPage target) 16 else none
  | 10 => mk .module 0 0 pFLT 16
  | _ => none

/-- FLT_INJECT (R358): an expert write of FLT.INJECT. -/
def execFltInject (q : Requester) (v : Word) (s : State) : Host.Outcome State Fault Refusal :=
  keepQ s (s.serveWrite q (regAddr pFLT 0x800) v fun s =>
    if FLT_INJECT_CONFIRM.of v ≠ 0x5A3C then s
    else match s.injected (FLT_INJECT_KIND.of v) (FLT_INJECT_TARGET.of v) with
      | some rep => (s.bump pFLT FLT_C_INJECTIONS).takeReport rep
      | none => s)

/-! ### Stack lines and sites (R385–R389) -/

/-- STACK_SCRUB_TICK (R388): one line read; the last line of the data space ends the pass. -/
def execStackScrubTick (site : SiteIx) (line : Nat) (found : MemErr) (s : State) : Host.Outcome State Fault Refusal :=
  let p := memPage site
  keep s (if s.rd p MEM_CTRL_SCRUB_EN = 0 ∨ 2 ≤ s.rd p MEM_STATUS_STATE ∨ 1000000000 ≤ line then s
    else
      let s := match found with
        | .ok => s
        | .ce => s.bump p MEM_C_SCRUB_CE
        | .ue => (s.bump p MEM_C_SCRUB_UE).lineLost site line
      if line = 999999999 then (s.bump p MEM_C_SCRUB_PASSES).raiseEvt p MEM_EVT_STATUS_SCRUB_PASS else s)

/-- STACK_FAIL (R389): the cause is the bit of MEM.ERR_STATUS, 0 to 3. -/
def execStackFail (site : SiteIx) (cause : Nat) (s : State) : Host.Outcome State Fault Refusal :=
  keep s (if 3 < cause ∨ 2 ≤ s.rd (memPage site) MEM_STATUS_STATE then s
    else s.siteFails site ⟨0x20, cause, cause, 0⟩)

end Sys2Proof.Machine
end

