-- ==== Sys2Proof/Machine/Serving.lean ====
section
/-! DEFINITION. Serving (R286–R293): requests and their streams, the queues of models, and batches. -/

namespace Sys2Proof.Machine

/-! ### Queues (R289, R290) -/

/-- Requests of a model in a job's queue. -/
def State.queued (s : State) (slot model : Nat) : List SrvReq := (s.srv slot).queue.filter fun r => r.model == model

/-- Replace a job's queue and show its length in CELL.SERVE. -/
def State.setQueue (s : State) (slot : Nat) (q : List SrvReq) : State :=
  (s.setSrv slot { s.srv slot with queue := q }).wr pCELL CELL_SERVE_QUEUED q.length slot

/-- Whether a model's queue qualifies: BATCH_MAX requests, or an oldest one that has waited BATCH_WAIT (R290). -/
def State.qualifies (s : State) (slot model : Nat) : Bool :=
  match s.serveEntry slot model, s.queued slot model with
  | some d, r :: rs => r.waited || decide (s.srvFld slot d 2 2 ≤ rs.length + 1)
  | _, _ => false

/-- A model whose queue qualifies while its entry has no READY slot and no load starts one (R290, R297). -/
def State.wantLoad (s : State) (slot model : Nat) : State :=
  match s.entryOf model with
  | some e =>
    if s.qualifies slot model && (s.curReady e).isNone && [0, 1].all (fun k => s.sstate e k != 2)
        && (s.cacheEnt e).load.isNone && (s.cacheEnt e).waiting.isNone && s.rd pCELL CELL_MODEL_UNLOADING e == 0
        && s.cacheState e != 4 then
      s.startCacheLoad e (s.rd pCELL CELL_MODEL_TARGET_EPOCH e) false
    else s
  | none => s

/-! ### Requests (R287–R289) -/

/-- Whether a job can allocate a SERVE context for a SID (R190). -/
def State.canStream (s : State) (slot sid : Nat) : Bool :=
  !(s.ctxs.any fun x => x.slot == slot && x.sid == sid) && decide (s.liveCtx slot < s.rd pSCT SCT_JOB_LIMIT slot)

/-- The check of R289 that a request fails first, as its REJECT code; none when it passes every check. -/
def State.srvCheck (s : State) (slot : Nat) (r : SrvReq) : Option Nat :=
  match s.serveEntry slot r.model, s.entryOf r.model with
  | some d, some e =>
    let live := (s.srv slot).streams.find? fun x => x.sid == r.sid && x.port == r.port
    if !s.tenantOk slot d e then some 1
    else if s.srvFld slot d 12 4 < r.payload.length then some 2
    else if live.isNone && !s.canStream slot r.sid then some 3
    else if (match live with | some x => x.next | none => 0) ≠ r.seq then some 4
    else if s.srvFld slot d 8 2 ≤ (s.queued slot r.model).length then some 3
    else if s.cacheState e = 4 then some 5
    else none
  | _, _ => some 1

/-- The stream of a request expects the next SEQ. -/
def State.advanceSeq (s : State) (slot : Nat) (r : SrvReq) : State :=
  let v := s.srv slot
  s.setSrv slot { v with streams := v.streams.map fun x =>
    if x.sid == r.sid && x.port == r.port then { x with next := (x.next + 1) % 2 ^ 32 } else x }

/-- A REQUEST that has passed check 1 of R289. -/
def State.takeRequest (s : State) (slot : Nat) (r : SrvReq) : State :=
  match s.srvCheck slot r with
  | some 1 => s.srvReject slot r 1
  | some c => (s.advanceSeq slot r).srvReject slot r c
  | none =>
    let v := s.srv slot
    let known := v.streams.any fun x => x.sid == r.sid && x.port == r.port
    let s := if known then s
      else (s.takeCtx slot 0 r.sid 4 false).setSrv slot { v with streams := v.streams ++ [⟨r.sid, r.port, r.src, 0, false⟩] }
    let s := (s.advanceSeq slot r).ctxBytes slot r.sid r.payload.length
    let v := s.srv slot
    let s := (s.setSrv slot { v with nextId := v.nextId + 1 }).setQueue slot (v.queue ++ [{ r with id := v.nextId }])
    (s.bump pCELL CELL_C_REQS_IN).wantLoad slot r.model

/-- Whether a serving message passes check 1 of R289 with an OP. -/
def srvForm (b : List Byte) (op : Nat) : Bool :=
  decide (24 ≤ b.length) && byteAt b 0 == 0x53 && byteAt b 1 == op && byteAt b 7 == 0 && leAt b 16 8 == 0 && leAt b 12 4 == b.length - 24

/-- A serving message with an OP, once it has passed the checks of R373. -/
def State.srvIn (s : State) (m : Msg) (op : Nat) (run : State → Nat → State) : State :=
  match s.admitMsg m with
  | (s, none) => s
  | (s, some slot) =>
    if m.cls ≠ 5 then s
    else if !srvForm m.body op then s.bump pCELL CELL_C_REQ_DROPS
    else run s slot

/-- SERVE_REQUEST (R288, R289). -/
def execServeRequest (m : Msg) (s : State) : Host.Outcome State Fault Refusal :=
  keep s (s.srvIn m 1 fun (s : State) slot => s.takeRequest slot
    { id := 0, model := leAt m.body 2 2, sid := leAt m.body 4 2, port := m.port, src := m.src, seq := leAt m.body 8 4,
      payload := m.body.drop 24 })

/-- Mark a stream closing, and free its context once nothing of it is left (R288). -/
def State.closeStream (s : State) (slot sid : Nat) : State :=
  let v := s.srv slot
  (s.setSrv slot { v with streams := v.streams.map fun x => if x.sid == sid then { x with closing := true } else x }).freeStreams slot

/-- SERVE_CLOSE (R288). -/
def execServeClose (m : Msg) (s : State) : Host.Outcome State Fault Refusal :=
  keep s (s.srvIn m 2 fun (s : State) slot =>
    if (s.srv slot).streams.any fun x => x.sid == leAt m.body 4 2 && x.port == m.port then s.closeStream slot (leAt m.body 4 2) else s)

/-- STREAM_IDLE (R288): a stream has received no REQUEST for STREAM_IDLE. -/
def execStreamIdle (slot : SlotIx) (sid : Nat) (s : State) : Host.Outcome State Fault Refusal :=
  keep s (if (s.srv slot).streams.any fun x => x.sid == sid && !x.closing then
      (s.bump pCELL CELL_C_STREAM_TIMEOUTS).closeStream slot sid
    else s)

/-- QUEUE_WAIT_EXPIRY (R289): a request has been queued for QUEUE_WAIT. -/
def execQueueWaitExpiry (slot : SlotIx) (reqId : Nat) (s : State) : Host.Outcome State Fault Refusal :=
  let q := (s.srv slot).queue
  keep s (match q.find? fun r => r.id == reqId with
    | some r => ((s.setQueue slot (q.filter fun x => x.id != reqId)).srvReject slot r 6).freeStreams slot
    | none => s)

/-- BATCH_WAIT_EXPIRY (R290): the oldest queued request of a model has waited BATCH_WAIT. -/
def execBatchWaitExpiry (slot : SlotIx) (model : Nat) (s : State) : Host.Outcome State Fault Refusal :=
  keep s (match s.queued slot model with
    | [] => s
    | r :: _ => (s.setQueue slot ((s.srv slot).queue.map fun x => if x.id == r.id then { x with waited := true } else x)).wantLoad slot model)

/-! ### Batches (R290–R293) -/

/-- The requests of a batch: up to `n` of a model in order, at most one of each stream (R290). -/
def pickBatch : List SrvReq → Nat → List Nat → List SrvReq
  | [], _, _ => []
  | _ :: _, 0, _ => []
  | r :: rs, n + 1, seen => if seen.contains r.sid then pickBatch rs (n + 1) seen else r :: pickBatch rs n (r.sid :: seen)

/-- Whether the program can take a batch: every region LOADED before the first, in STEP_WAIT with the responses read out
after (R290). -/
def State.batchFree (s : State) (slot : Nat) : Bool :=
  let v := s.srv slot
  v.batch.isNone && (if v.begun then s.allStepWait slot
    else !(s.regionsOf slot).isEmpty && (s.regionsOf slot).all fun r => s.seqState r == 1)

/-- Events 3 and 4 of R292: the binding, the PC and the release of every region. -/
def State.runBatch (s : State) (slot d model epoch : Nat) (first : Bool) : State :=
  let entry := fun (s : State) r => s.jobNat slot (s.srvFld slot d 48 8 + 4 * s.logical r) 4 % 2 ^ 24
  let rs := s.regionsOf slot
  let s := rs.foldl (fun (s : State) r =>
    let s := match s.bindEpoch r model 0 65535 epoch with
      | some s => s
      | none => s.wspFault r false (s.rd (regPage r) REG_SEQ_STATUS_PC) WSP_ERR_STATUS_BIND_FULL
    if first then s.startAttempt r (entry s r) else s.setSeq r { s.seq r with nextPc := entry s r }) s
  if first then s else s.releaseJob slot

/-- A batch of a model is admitted (R291, R292). -/
def State.admitBatch (s : State) (slot d e k model : Nat) : State :=
  let v := s.srv slot
  let reqs := pickBatch (s.queued slot model) (s.srvFld slot d 2 2) []
  let ids := reqs.map (·.id)
  let epoch := s.rd pCELL (slotFld CELL_MODEL_EPOCH k) e
  let bseq := if v.begun then (s.rd pCELL CELL_SERVE_BATCH_SEQ slot + 1) % 2 ^ 32 else 0
  let s := s.setSrv slot { v with batch := some ⟨model, e, k, reqs⟩, begun := true }
  let s := s.setQueue slot (v.queue.filter fun r => !ids.contains r.id)
  let s := s.wrs pCELL [(slotFld CELL_MODEL_BOUND k, s.bound e k + 1), (CELL_MODEL_USE, s.rd pCELL CELL_MODEL_USE e + 1),
    (CELL_MODEL_LAST_USE, s.tb.count)] e
  let s := (s.wrs pCELL [(CELL_SERVE_IN_BATCH, 1), (CELL_SERVE_BATCH_SEQ, bseq), (CELL_SERVE_MODEL, model),
    (CELL_SERVE_EPOCH, epoch)] slot).bump pCELL CELL_C_BATCHES
  (s.writeBatch slot d (batchHeader model epoch bseq reqs) reqs).runBatch slot d model epoch (!v.begun)

/-- BATCH_ADMIT (R290–R292): the docket unit looks for a batch of a serve job; of several models that qualify, the one with
the oldest queued request. -/
def execBatchAdmit (slot : SlotIx) (s : State) : Host.Outcome State Fault Refusal :=
  let s' := ((s.srv slot).queue.map (·.model)).eraseDups.foldl (fun (s : State) m => s.wantLoad slot m) s
  let ready := fun (r : SrvReq) => s'.qualifies slot r.model && (match s'.entryOf r.model with
    | some e => (s'.curReady e).isSome
    | none => false)
  keep s (
    if s.jobState slot ≠ 3 ∨ !s.serves slot ∨ !s.batchFree slot ∨ s.rd pPLC PLC_JOB_RECOVERING slot = 1 then s'
    else match (s'.srv slot).queue.find? ready with
      | none => s'
      | some r => match s'.serveEntry slot r.model, s'.entryOf r.model with
        | some d, some e => match s'.curReady e with
          | some k => s'.admitBatch slot d e k r.model
          | none => s'
        | _, _ => s')

/-- The response to request x of a batch, read from the output tile and sent on its port (R293). -/
def State.respondTo (s : State) (slot d x : Nat) (r : SrvReq) : State :=
  let rslot := s.srvFld slot d 16 4
  let o := s.srvFld slot d 32 4 % 2 ^ 21 + x * rslot
  let t := s.srvFld slot d 23 1
  match s.playing slot (s.srvFld slot d 22 1) with
  | none => s
  | some reg =>
    let n := leAt (s.sramRead reg t o 4) 0 4
    let s := if rslot - 4 < n then
        (s.raiseErr pCELL CELL_ERR_STATUS_RESP_LEN).reportOn .program reg pCELL CELL_ERR_STATUS_RESP_LEN slot
      else s
    let n := min n (rslot - 4)
    if s.portState r.port ≠ 2 ∨ s.portSlot r.port ≠ some slot then s.bump pCELL CELL_C_RESP_LOST
    else (s.sendJobOn slot r.port 5 r.src (srvHeader 3 r.model r.sid 0 r.seq n ++ s.sramRead reg t (o + 4) n)).bump
      pCELL CELL_C_RESPONSES

/-- Event 7 of R292: responses leave, BOUND falls; after a STEP_END with LAST the job ends COMPLETED. -/
def State.endBatch (s : State) (slot : Nat) (b : SrvBatch) : State :=
  let s := match s.serveEntry slot b.model with
    | some d => b.reqs.zipIdx.foldl (fun (s : State) (x : SrvReq × Nat) => s.respondTo slot d x.2 x.1) s
    | none => s
  let s := (s.setSrv slot { s.srv slot with batch := none }).wr pCELL CELL_SERVE_IN_BATCH 0 slot
  let mine := decide (2 ≤ s.sstate b.entry b.slot)
    && s.rd pCELL (slotFld CELL_MODEL_EPOCH b.slot) b.entry == s.rd pCELL CELL_SERVE_EPOCH slot
  let s := if mine then
      ((s.wr pCELL (slotFld CELL_MODEL_BOUND b.slot) (s.bound b.entry b.slot - 1) b.entry).drainSlot b.entry b.slot).retrySpace
    else s
  let s := s.freeStreams slot
  if (s.regionsOf slot).any fun r => (s.seq r).lastFlag then s.endJob slot 0x40 0 else s

/-- BATCH_DONE (R292, R293): every region has reached STEP_END of the batch and all it issued has completed. -/
def execBatchDone (slot : SlotIx) (s : State) : Host.Outcome State Fault Refusal :=
  let rs := s.regionsOf slot
  let last := rs.map fun r => (s.seq r).lastFlag
  keep s (match (s.srv slot).batch with
    | none => s
    | some b =>
      if !s.allStepWait slot || rs.any (fun r => !(s.seq r).outst.isEmpty) then s
      else if last.any (· != last.headD false) then
        rs.foldl (fun s r => s.progFault r false (s.rd (regPage r) REG_SEQ_STATUS_PC - 1) REG_ERR_STATUS_LAST_MISMATCH) s
      else s.endBatch slot b)

end Sys2Proof.Machine
end

