-- ==== Sys2Proof/Machine/StepSync.lean ====
section
/-! DEFINITION. The sync message of R148 and the resume of a breakpoint (R128). -/

namespace Sys2Proof.Machine

/-- A sync message of a job that listens to its S-ports: KIND, T and STEP after the control header (R148). During a
replay every signal is ignored and counted (R144). -/
def State.takeSync (s : State) (slot : Nat) (b : List Byte) : State :=
  match s.regionsOf slot with
  | [] => s
  | r :: rs =>
    if s.rd (regPage r) REG_STEP_CFG_SYNC_SRC / 2 = 0 then s
    else
      let kind := byteAt b 0
      let t := if byteAt b 1 = 0 then s.rd (regPage r) REG_STEP_CFG_STEP_MB_MAX else byteAt b 1
      let step := s.rd (regPage r) REG_STEP_STATUS_STEP
      let ok := (kind == 1 || kind == 2) && b.length == 16 && leAt b 4 12 == 0
      if s.rd (regPage r) REG_STEP_STATUS_REPLAY = 1 then (r :: rs).foldl (fun s x => s.bump (regPage x) REG_C_SYNC_IGNORED) s
      else if ok && leAt b 2 2 == step then s.applySync slot kind t
      else if ok && leAt b 2 2 == (step + 1) % 65536 then
        (s.wrJob r REG_STEP_STATUS_HELD kind).setJob slot { s.job slot with heldT := t }
      else (r :: rs).foldl (fun s x => s.bump (regPage x) REG_C_SYNC_IGNORED) s

/-- SYNC_MESSAGE (R148). -/
def execSyncMessage (m : Msg) (s : State) : Host.Outcome State Fault Refusal :=
  keep s (match s.admitMsg m with
    | (s, none) => s
    | (s, some slot) =>
      if m.cls = 0 ∧ byteAt m.body 0 = 7 ∧ leAt m.body 1 3 = 0 ∧ s.isS m.port then s.takeSync slot (m.body.drop 8) else s)

/-- SEQ_RESUME (R128): a write of SEQ_CTRL, whose RESUME bit leaves a breakpoint. -/
def execSeqResume (q : Requester) (r : RegionIx) (v : Word) (s : State) : Host.Outcome State Fault Refusal :=
  keep s (s.serveWrite q (regAddr (regPage r) 0x148) v fun s => if bit v.toNat 0 then s.resumeBreak r else s)

end Sys2Proof.Machine
end

