-- ==== Sys2Proof/Machine/Links.lean ====
section
/-! DEFINITION. Optical links (R359–R369, R372, R376, R377): engines and their configuration, training and IDENT, resends,
lane sparing and bit-error tests. -/

namespace Sys2Proof.Machine

/-! ### Engines and ports (R359, R360, R363) -/

/-- The four port numbers of an engine. -/
def enginePorts (e : Nat) : List Nat := (List.range 4).map fun k => 4 * e + k

/-- Show the widths of an engine's ports in OPT.PORT. -/
def State.showWidths (s : State) (e : Nat) : State :=
  (enginePorts e).foldl (fun s p => s.wr (pOPT + e) OPT_PORT_WIDTH (s.portWidth p) (p % 4)) s

/-- Whether a port may train: it exists and PORT_CFG.EN is 1. -/
def State.mayTrain (s : State) (p : Nat) : Bool := s.portExists p && s.rd (portPage p) OPT_PORT_CFG_EN (p % 4) == 1

/-- A port that is not in service starts training, from LINK_TRAIN on (R363, R453). -/
def State.trainPort (s : State) (p : Nat) : State := if s.mayTrain p && decide (5 ≤ s.stage) && s.stage != 0xFE then s.setLstate p 2 else s

/-- An engine fault that its own page detects: the ERR_STATUS bit and the ENGINE report (R359). -/
def State.failEngine (s : State) (e : Nat) (f : Fld) : State :=
  if s.engineFenced e then s else (s.raiseErr (pOPT + e) f).reportOn .engine e (pOPT + e) f

/-- ENGINE_FAIL (R359): cause 0 PLL_UNLOCK, 1 TX_FAULT, 2 ENG_UE. -/
def execEngineFail (e : EngineIx) (cause : Nat) (s : State) : Host.Outcome State Fault Refusal :=
  keep s (match cause with
    | 0 => (s.failEngine e OPT_ERR_STATUS_PLL_UNLOCK).wr (pOPT + e) OPT_STATUS_PLL_LOCKED 0
    | 1 => s.failEngine e OPT_ERR_STATUS_TX_FAULT
    | 2 => s.failEngine e OPT_ERR_STATUS_ENG_UE
    | _ => s)

/-- Whether a port of an engine is held by a job, or in SOAK. -/
def State.engineHeld (s : State) (e : Nat) : Bool := (enginePorts e).any fun p => (s.portSlot p).isSome
def State.engineSoak (s : State) (e : Nat) : Bool := (enginePorts e).any fun p => s.lstate p == 5

/-- Take new values of ROLE and SPLIT: every port goes down, and the new ones train. -/
def State.reconfigure (s : State) (e role split : Nat) : State :=
  let s := ((enginePorts e).filter s.portExists).foldl (fun s p => s.portDown p 0) s
  let s := (s.wrs (pOPT + e) [(OPT_CFG_ROLE, role), (OPT_CFG_SPLIT, split)]).showWidths e
  (enginePorts e).foldl (fun s p => s.trainPort p) s

/-- ENGINE_CFG (R360): a write of OPT.CFG. -/
def execEngineCfg (q : Requester) (e : EngineIx) (v : Word) (s : State) : Host.Outcome State Fault Refusal :=
  keepQ s (s.serveWrite q (regAddr (pOPT + e) 0x100) v fun s =>
    let old := (s.rd (pOPT + e) OPT_CFG_ROLE, s.rd (pOPT + e) OPT_CFG_SPLIT)
    let role := if OPT_CFG_ROLE.of v = 3 then old.1 else OPT_CFG_ROLE.of v
    let split := if OPT_CFG_SPLIT.of v = 3 then old.2 else OPT_CFG_SPLIT.of v
    if s.engineHeld e || s.engineSoak e then s.raiseErr (pOPT + e) OPT_ERR_STATUS_CFG_BUSY
    else if (role, split) == old then s
    else s.reconfigure e role split)

/-- TRAIN_RETRY (R363, R454): a port in DOWN, or in TRAINING without light, tries again. -/
def execTrainRetry (port : PortIx) (light : Bool) (s : State) : Host.Outcome State Fault Refusal :=
  keep s (if s.lstate port = 1 ∨ (s.lstate port = 2 ∧ light = false) then s.trainPort port else s)

/-- Advertise the credits of a port's receive buffers, class by class (R366). -/
def State.advertise (s : State) (p : Nat) : State :=
  (List.range 8).foldl (fun s c => s.emit (.ctl p 1 c (Config.rxBuffer c))) s

/-- LINK_TRAINED (R363 events 2 to 5): link initialisation is done, both sides have advertised their credits by class, and
IDENT goes out. -/
def execLinkTrained (port : PortIx) (credits : List Nat) (s : State) : Host.Outcome State Fault Refusal :=
  keep s (if s.lstate port = 2 ∧ s.portExists port then
      let l := s.link port
      let s := s.setLink port { ready := true, credits := credits.take 8, viols := l.viols, faulty := l.faulty }
      ((s.wr (portPage port) OPT_STATUS_PLL_LOCKED 1).advertise port).sendIdent port
    else s)

/-! ### IDENT (R372) -/

/-- Whether an IDENT is one that a port accepts: a W-port a W-port, an S-port a switch or an endpoint, of the same width. -/
def State.identOk (s : State) (p : Nat) (b : List Byte) : Bool :=
  b.length == 24 && byteAt b 0 == 1 && byteAt b 2 == s.portWidth p
    && (if s.isW p then byteAt b 1 == 0 else byteAt b 1 == 2 || byteAt b 1 == 3)

/-- Record a neighbour. -/
def State.recordIdent (s : State) (p : Nat) (b : List Byte) : State :=
  s.wrs (portPage p) [(OPT_PORT_NKIND, if byteAt b 1 < 2 then 1 else byteAt b 1), (OPT_PORT_NSERIAL, leAt b 8 8),
    (OPT_PORT_NADDR, leAt b 4 4), (OPT_PORT_NPORT, leAt b 16 2)] (p % 4)

/-- A port becomes UP. -/
def State.portBecomesUp (s : State) (p : Nat) : State :=
  let s := (s.setLstate p 3).wr (portPage p) OPT_PORT_T_UP s.tb.count (p % 4)
  let s := (s.raiseEvt (portPage p) OPT_EVT_STATUS_LINK_UP).flushPort p
  (s.checkUpdate.flushReports).flushUnrouted

/-- IDENT (R372): a message of class LINK; its checks come before those of R373 for other classes. -/
def execIdent (m : Msg) (s : State) : Host.Outcome State Fault Refusal :=
  let p := m.port
  keepQ s (
    if !(s.portExists p) || !(s.link p).ready || (s.lstate p != 2 && s.lstate p != 3) then s
    else if !Msg.wellFormed m then s.bump (portPage p) OPT_C_MALFORMED_DROPS
    else if m.cls ≠ 7 then s
    else if !s.identOk p m.body then (s.raiseErr (portPage p) OPT_ERR_STATUS_IDENT_MISMATCH).portFail p
    else
      let s := s.recordIdent p m.body
      if s.lstate p = 2 then s.portBecomesUp p else s.flushUnrouted)

/-! ### Going down and coming back (R364, R367, R369) -/

/-- LINK_DOWN (R364): `lanes` in-use lanes of a port have lost lock or light for 2 µs. -/
def execLinkDown (port : PortIx) (lanes : Nat) (s : State) : Host.Outcome State Fault Refusal :=
  keepQ s (if s.portUp port ∧ 2 ≤ lanes then s.portDown port 1 else s)

/-- DOWN_FLIT (R364). -/
def execDownFlit (port : PortIx) (s : State) : Host.Outcome State Fault Refusal :=
  keepQ s (if s.portUp port then s.portDown port 1 else s)

/-- SINK_TIMEOUT (R367): a message is queued and no credit for it has come within SINK_US. -/
def execSinkTimeout (port : PortIx) (s : State) : Host.Outcome State Fault Refusal :=
  let l := s.link port
  keepQ s (if s.portUp port ∧ l.queue.any (fun m => decide (l.credits.getD m.cls 0 < msgFlits m.body.length)) then
      (s.raiseErr (portPage port) OPT_ERR_STATUS_SINK_TIMEOUT).portFail port
    else s)

/-- FAULTY_EXPIRY (R369): 1 s in FAULTY has passed. A third entry within 600 s made the port DISABLED at once. -/
def execFaultyExpiry (port : PortIx) (s : State) : Host.Outcome State Fault Refusal :=
  keep s (if s.lstate port = 4 then s.setLstate port 1 else s)

/-- PORT_ENABLE (R369): a write of OPT.PORT_CFG. -/
def execPortEnable (q : Requester) (e : EngineIx) (k : Fin 4) (v : Word) (s : State) : Host.Outcome State Fault Refusal :=
  let addr := regAddr (pOPT + e) (0x130 + 8 * k)
  let p := 4 * e.val + k.val
  keepQ s (s.serveWrite q addr v fun s =>
    if (s.portSlot p).isSome then s.raiseErr (pOPT + e) OPT_ERR_STATUS_CFG_BUSY
    else
      let was := s.rd (pOPT + e) OPT_PORT_CFG_EN k
      let s := s.plainWrite addr v
      let now := s.rd (pOPT + e) OPT_PORT_CFG_EN k
      if now = 0 then (if s.lstate p = 0 then s else s.portDown p 0)
      else if was = 0 then
        let s := (s.setLink p { s.link p with faulty := [] }).wr (pOPT + e) OPT_PORT_FAULTY_COUNT 0 k
        if s.portExists p then s.setLstate p 1 else s
      else s)

/-! ### Acknowledgement and resends (R365) -/

/-- Send what a port's queue now allows; before the port is UP that is its IDENT alone. -/
def State.pumpPort (s : State) (p : Nat) : State :=
  if s.portUp p then s.flushPort p
  else match (s.link p).queue with
    | m :: q => if s.canSend p m then (s.setLink p { s.link p with queue := q }).transmit p m else s
    | [] => s

/-- Take an ACK: the SEQ of the last DATA flit that the partner received in order. -/
def State.takeAck (s : State) (p ack : Nat) : State :=
  let l := s.link p
  let d := (ack + 1 + 65536 - l.acked % 65536) % 65536
  if d = 0 ∨ l.sent - l.acked < d then s
  else
    let acked := l.acked + d
    (s.setLink p { l with acked := acked, tries := 0, replay := l.replay.filter fun x => decide (acked < x.1) }).pumpPort p

/-- Resend every flit not acknowledged; after REPLAY_MAX resends in a row the port fails. -/
def State.resend (s : State) (p : Nat) : State :=
  let l := s.link p
  let e := portPage p
  if l.sent = l.acked then s
  else if s.rd e OPT_LIMITS_REPLAY_MAX ≤ l.tries then (s.raiseErr e OPT_ERR_STATUS_REPLAY_LIMIT).portFail p
  else
    let s := (s.setLink p { l with tries := l.tries + 1 }).bump e OPT_C_REPLAYS
    let s := s.bump e OPT_C_FLITS_TX (l.sent - l.acked)
    l.replay.foldl (fun s x => s.emit (.msg p x.2.cls x.2.key x.2.dst x.2.src x.2.bond x.2.body)) s

/-- NAK (R365). -/
def execNak (port : PortIx) (ack : Nat) (s : State) : Host.Outcome State Fault Refusal :=
  keepQ s (if (s.link port).ready then (s.takeAck port ack).resend port else s)

/-- REPLAY_TIMEOUT (R365). -/
def execReplayTimeout (port : PortIx) (s : State) : Host.Outcome State Fault Refusal :=
  keepQ s (if (s.link port).ready then s.resend port else s)

/-! ### Lanes (R361, R362, R376) -/

/-- Lane states: 0 IN_USE, 1 SPARE, 2 OUT, 3 TESTING. -/
def State.rxState (s : State) (e l : Nat) : Nat := s.rd (pOPT + e) OPT_LANE_RX_STATE l
def State.txState (s : State) (e l : Nat) : Nat := s.rd (pOPT + e) OPT_LANE_TX_STATE l

/-- Show the spares that are left in STATUS. -/
def State.showSpares (s : State) (e : Nat) : State :=
  s.wrs (pOPT + e) [(OPT_STATUS_RX_SPARES_LEFT, ((List.range 18).filter fun l => s.rxState e l == 1).length),
    (OPT_STATUS_TX_SPARES_LEFT, ((List.range 18).filter fun l => s.txState e l == 1).length)]

/-- The port whose logical lane L is. -/
def State.lanePort (s : State) (e lg : Nat) : Option Nat :=
  let w := match s.rd (pOPT + e) OPT_CFG_SPLIT with | 0 => 16 | 1 => 8 | _ => 4
  if s.rd (pOPT + e) OPT_CFG_ROLE = 2 ∨ 16 ≤ lg then none else some (4 * e + lg / w)

/-- Mark a lane out in LANE_OUT, or back. -/
def State.markRx (s : State) (e l : Nat) (out : Bool) : State :=
  let old := maskList 18 (s.rd (pOPT + e) OPT_LANE_OUT_RX)
  s.wr (pOPT + e) OPT_LANE_OUT_RX (maskOf (if out then l :: old else old.filter (· != l)))
def State.markTx (s : State) (e l : Nat) (out : Bool) : State :=
  let old := maskList 18 (s.rd (pOPT + e) OPT_LANE_OUT_TX)
  s.wr (pOPT + e) OPT_LANE_OUT_TX (maskOf (if out then l :: old else old.filter (· != l)))

/-- A substitution counted and reported as CORRECTED (R376). -/
def State.countSpare (s : State) (e : Nat) : State := s.bump (pOPT + e) OPT_C_LANE_SPARES
def State.laneGone (s : State) (e : Nat) : State :=
  (s.raiseEvt (pOPT + e) OPT_EVT_STATUS_LANE_OUT).reportOn .corrected e (pOPT + e) OPT_EVT_STATUS_LANE_OUT

/-- Whether a lane is the one under an interval test. -/
def EngineSt.testing (g : EngineSt) (l : Nat) : Bool := match g.test with | some (false, x, _) => x == l | _ => false

/-- Move a logical lane between two receive lanes: back to a tested lane, away from a lane that a test takes, or away from a
bad lane, which is then mapped out. -/
def State.moveRx (s : State) (e a b : Nat) : State :=
  let o := pOPT + e
  let lg := s.rd o OPT_LANE_RX_LOGICAL a
  let back := s.rxState e b == 3
  let test := (s.eng e).testing a
  let s := s.wrs o [(OPT_LANE_RX_STATE, 0), (OPT_LANE_RX_LOGICAL, lg)] b
  let s := s.wrs o [(OPT_LANE_RX_STATE, if back then 1 else if test then 3 else 2), (OPT_LANE_RX_LOGICAL, 31)] a
  let s := s.countSpare e
  let s := if back || test then s else (s.markRx e a true).laneGone e
  s.showSpares e

/-- The same for two transmit lanes. -/
def State.moveTx (s : State) (e a b : Nat) : State :=
  let o := pOPT + e
  let lg := s.rd o OPT_LANE_TX_LOGICAL a
  let back := s.txState e b == 3
  let test := (s.eng e).testing a
  let s := s.wrs o [(OPT_LANE_TX_STATE, 0), (OPT_LANE_TX_LOGICAL, lg)] b
  let s := s.wrs o [(OPT_LANE_TX_STATE, if back then 1 else if test then 3 else 2), (OPT_LANE_TX_LOGICAL, 31)] a
  let s := s.setEng e { s.eng e with txMoved := test || ((s.eng e).txMoved && !back) }
  let s := s.countSpare e
  let s := if back || test then s else (s.markTx e a true).laneGone e
  s.showSpares e

/-- Move receive lane a's logical lane onto b: by LMAP while its port is UP, at once while it is not (R376). LMAP names the
partner's lanes. -/
def State.askMove (s : State) (e a b : Nat) : State :=
  match s.lanePort e (s.rd (pOPT + e) OPT_LANE_RX_LOGICAL a) with
  | some p =>
    if s.portUp p then
      let g := s.eng e
      (s.setEng e { g with lmaps := g.lmaps ++ [(a, b)] }).emit
        (.ctl p 4 (s.rd (pOPT + e) OPT_LANE_RX_FROM a) (s.rd (pOPT + e) OPT_LANE_RX_FROM b))
    else s.moveRx e a b
  | none => s.moveRx e a b

/-- The lowest-numbered free receive spare. -/
def State.rxSpare (s : State) (e : Nat) : Option Nat :=
  (List.range 18).find? fun l => s.rxState e l == 1 && !(s.eng e).lmaps.any fun x => x.2 == l
def State.txSpare (s : State) (e : Nat) : Option Nat := (List.range 18).find? fun l => s.txState e l == 1

/-- A bad receive lane (R376): substituted, or the engine fails when no spare is left. -/
def State.badLane (s : State) (e l : Nat) : State :=
  if s.engineFenced e || s.rxState e l != 0 || (s.eng e).lmaps.any (fun x => x.1 == l) then s
  else match s.rxSpare e with
    | some b => s.askMove e l b
    | none => s.failEngine e OPT_ERR_STATUS_LANES_EXHAUSTED

/-- SER_CHECK (R376): the symbol errors of one second. -/
def execSerCheck (e : EngineIx) (lane : Fin 18) (symErrs symbols : Nat) (s : State) : Host.Outcome State Fault Refusal :=
  keep s (if s.rd (pOPT + e) OPT_LIMITS_SER_LIMIT * symbols < symErrs * 1000000000 then s.badLane e lane else s)

/-- LANE_LOCK_LOSS (R376). -/
def execLaneLockLoss (e : EngineIx) (lane : Fin 18) (s : State) : Host.Outcome State Fault Refusal := keep s (s.badLane e lane)

/-- LMAP (R376): the partner asks to move a transmit lane's logical lane; the answer repeats the two lanes. -/
def execLmap (e : EngineIx) (fromLane toLane : Fin 18) (s : State) : Host.Outcome State Fault Refusal :=
  let ack := fun (s : State) => match s.lanePort e (s.rd (pOPT + e) OPT_LANE_TX_LOGICAL toLane) with
    | some p => s.emit (.ctl p 5 fromLane toLane)
    | none => s
  keep s (
    if s.engineFenced e then s
    else if s.txState e fromLane = 0 ∧ (s.txState e toLane = 1 ∨ s.txState e toLane = 3) then ack (s.moveTx e fromLane toLane)
    else if s.txState e toLane = 0 ∧ s.txState e fromLane ≠ 0 then ack s
    else s)

/-- LMAP_ACK (R376). -/
def execLmapAck (e : EngineIx) (fromLane toLane : Fin 18) (s : State) : Host.Outcome State Fault Refusal :=
  let g := s.eng e
  let src := fun l => s.rd (pOPT + e) OPT_LANE_RX_FROM l
  keep s (match g.lmaps.find? fun x => src x.1 == fromLane.val && src x.2 == toLane.val with
    | some x => (s.setEng e { g with lmaps := g.lmaps.erase x }).moveRx e x.1 x.2
    | none => s)

/-- LMAP_TIMEOUT (R376): the ports that wait for an LMAP_ACK go down, and retraining applies the map. -/
def execLmapTimeout (e : EngineIx) (s : State) : Host.Outcome State Fault Refusal :=
  let g := s.eng e
  keepQ s (g.lmaps.foldl (fun (s : State) x =>
      let p := s.lanePort e (s.rd (pOPT + e) OPT_LANE_RX_LOGICAL x.1)
      let s := s.moveRx e x.1 x.2
      match p with
      | some p => if s.portUp p then s.portDown p 1 else s
      | none => s) (s.setEng e { g with lmaps := [] }))

/-- Whether the port of a physical lane is held by a job; the two lanes above 15 belong to no one port. -/
def State.laneHeld (s : State) (e l : Nat) : Bool :=
  match s.lanePort e l with
  | some p => (s.portSlot p).isSome
  | none => s.engineHeld e

/-- Apply one bit of a LANE_OUT write to a receive lane. -/
def State.writeRxOut (s : State) (e l : Nat) (v : Bool) : State :=
  if v == bit (s.rd (pOPT + e) OPT_LANE_OUT_RX) l then s
  else if v then
    if s.rxState e l = 0 then (match s.rxSpare e with | some b => s.askMove e l b | none => s)
    else if s.rxState e l = 1 then ((s.wr (pOPT + e) OPT_LANE_RX_STATE 2 l).markRx e l true).showSpares e
    else s
  else if s.rxState e l = 2 && !s.laneHeld e l then ((s.wr (pOPT + e) OPT_LANE_RX_STATE 1 l).markRx e l false).showSpares e
  else s

/-- Apply one bit of a LANE_OUT write to a transmit lane. A lane in use moves to a spare, and its port trains again. -/
def State.writeTxOut (s : State) (e l : Nat) (v : Bool) : State :=
  if v == bit (s.rd (pOPT + e) OPT_LANE_OUT_TX) l then s
  else if v then
    if s.txState e l = 0 then match s.txSpare e with
      | some b =>
        let p := s.lanePort e (s.rd (pOPT + e) OPT_LANE_TX_LOGICAL l)
        let s := s.moveTx e l b
        match p with
        | some p => if s.portUp p then s.portDown p 1 else s
        | none => s
      | none => s
    else if s.txState e l = 1 then ((s.wr (pOPT + e) OPT_LANE_TX_STATE 2 l).markTx e l true).showSpares e
    else s
  else if s.txState e l = 2 && !s.laneHeld e l then ((s.wr (pOPT + e) OPT_LANE_TX_STATE 1 l).markTx e l false).showSpares e
  else s

/-- LANE_OUT_WRITE (R362, R376). -/
def execLaneOutWrite (q : Requester) (e : EngineIx) (v : Word) (s : State) : Host.Outcome State Fault Refusal :=
  keepQ s (s.serveWrite q (regAddr (pOPT + e) 0x128) v fun s =>
    let s := (List.range 18).foldl (fun s l => s.writeRxOut e l (bit (OPT_LANE_OUT_RX.of v) l)) s
    (List.range 18).foldl (fun s l => s.writeTxOut e l (bit (OPT_LANE_OUT_TX.of v) l)) s)

/-! ### Bit-error tests (R377) -/

/-- A lane not in service goes to its place: OUT while LANE_OUT says so, else a spare. -/
def State.restRx (s : State) (e l : Nat) : State :=
  s.wr (pOPT + e) OPT_LANE_RX_STATE (if s.rd (pOPT + e) OPT_LANE_RX_LOGICAL l ≠ 31 then 0
    else if bit (s.rd (pOPT + e) OPT_LANE_OUT_RX) l then 2 else 1) l
def State.restTx (s : State) (e l : Nat) : State :=
  s.wr (pOPT + e) OPT_LANE_TX_STATE (if s.rd (pOPT + e) OPT_LANE_TX_LOGICAL l ≠ 31 then 0
    else if bit (s.rd (pOPT + e) OPT_LANE_OUT_TX) l then 2 else 1) l

/-- Start an in-service test of a lane pair: a lane in use needs a spare, an idle one is tested where it is. `ask` sends
BERT_START to the partner. -/
def State.startTest (s : State) (e l : Nat) (ask : Bool) : State :=
  let g := s.eng e
  let skip := s.bump (pOPT + e) OPT_C_BERT_SKIPPED
  match (enginePorts e).find? s.portUp with
  | none => skip
  | some p =>
    let used := s.rxState e l == 0
    if g.test.isSome || (used && (s.rxSpare e).isNone) || (s.txState e l == 0 && (s.txSpare e).isNone) then skip
    else
      let spare := if used then s.rxSpare e else none
      let s := s.setEng e { g with test := some (false, l, spare), txMoved := false }
      let s := if ask then s.emit (.ctl p 6 l 0) else s
      let s := if s.txState e l = 0 then s else s.wr (pOPT + e) OPT_LANE_TX_STATE 3 l
      match spare with
      | some b => s.askMove e l b
      | none => (s.wr (pOPT + e) OPT_LANE_RX_STATE 3 l).showSpares e

/-- End an in-service test: the lanes go back to their places, a moved one to its logical lane. `fail` maps the receive lane
out; `home` returns a mapped-out lane to the spares. -/
def State.endTest (s : State) (e l : Nat) (spare : Option Nat) (fail home : Bool) : State :=
  let g := s.eng e
  let s := s.setEng e { g with test := none, lmaps := g.lmaps.filter fun x => x.1 != l }
  let s := if s.txState e l = 3 ∧ g.txMoved = false then s.restTx e l else s
  let s := if home then s.markRx e l false else s
  let moved := spare.isSome && s.rxState e l == 3
  let s := if fail then ((s.markRx e l true).wr (pOPT + e) OPT_LANE_RX_STATE 2 l).laneGone e
    else if moved then (match spare with | some b => s.askMove e b l | none => s)
    else if s.rxState e l = 3 then s.restRx e l
    else s
  s.showSpares e

/-- The next interval test of the rotation. -/
def State.nextTest (s : State) (e : Nat) : State :=
  if s.engineFenced e then s
  else
    let g := s.eng e
    (s.setEng e { g with next := (g.next + 1) % 18 }).startTest e (g.next % 18) true

/-- BERT_INTERVAL (R377); INTERVAL_MIN 0 disables it. -/
def execBertInterval (e : EngineIx) (s : State) : Host.Outcome State Fault Refusal :=
  keep s (if s.rd (pOPT + e) OPT_BERT_INTERVAL_MIN = 0 then s else s.nextTest e)

/-- BERT_START (R377): the partner asks for a test of a lane. -/
def execBertStart (e : EngineIx) (lane : Fin 18) (s : State) : Host.Outcome State Fault Refusal :=
  keep s (if s.engineFenced e || (s.eng e).test.isSome then s else s.startTest e lane false)

/-- Begin a soak: every port in SOAK, every lane under test. -/
def State.startSoak (s : State) (e : Nat) : State :=
  if s.engineHeld e || (s.eng e).test.isSome then s
  else
    let g := s.eng e
    let s := s.setEng e { g with test := some (true, 0, none), lmaps := [] }
    let s := ((enginePorts e).filter s.portExists).foldl (fun s p => s.portDown p 5) s
    ((List.range 18).foldl (fun s l => s.wrs (pOPT + e) [(OPT_LANE_RX_STATE, 3), (OPT_LANE_TX_STATE, 3)] l) s).showSpares e

/-- Leave a soak: lanes back to their places, ports train again. -/
def State.leaveSoak (s : State) (e : Nat) : State :=
  let s := s.setEng e { s.eng e with test := none }
  let s := (List.range 18).foldl (fun s l => (s.restRx e l).restTx e l) s
  ((enginePorts e).foldl (fun s p => if s.lstate p = 5 then (s.setLstate p 1).trainPort p else s) s).showSpares e

/-- Abort the running test. -/
def State.abortTest (s : State) (e : Nat) : State :=
  match (s.eng e).test with
  | none => s
  | some (true, _, _) => (s.leaveSoak e).raiseEvt (pOPT + e) OPT_EVT_STATUS_BERT_DONE
  | some (false, l, spare) => (s.endTest e l spare false false).raiseEvt (pOPT + e) OPT_EVT_STATUS_BERT_DONE

/-- A write of BERT_CMD: 1 a soak, 2 the next interval test, 3 abort. -/
def State.bertCmd (q : Requester) (e : Nat) (v : Word) (s : State) : State :=
  s.serveWrite q (regAddr (pOPT + e) 0x120) v fun s => match OPT_BERT_CMD_CMD.of v with
    | 1 => s.startSoak e
    | 2 => s.nextTest e
    | 3 => s.abortTest e
    | _ => s

/-- SOAK (R377). -/
def execSoak (q : Requester) (e : EngineIx) (v : Word) (s : State) : Host.Outcome State Fault Refusal := keepQ s (s.bertCmd q e v)

/-- BERT_RUN_NOW (R377). -/
def execBertRunNow (q : Requester) (e : EngineIx) (v : Word) (s : State) : Host.Outcome State Fault Refusal := keepQ s (s.bertCmd q e v)

/-- BERT_ABORT (R377). -/
def execBertAbort (q : Requester) (e : EngineIx) (v : Word) (s : State) : Host.Outcome State Fault Refusal := keepQ s (s.bertCmd q e v)

/-- Record a finished receive test in OPT.LANE. -/
def State.recordTest (s : State) (e l bitsChecked errs : Nat) : State :=
  s.wrs (pOPT + e) [(OPT_LANE_LAST_BITS, bitsChecked), (OPT_LANE_LAST_ERRORS, errs), (OPT_LANE_LAST_TIME, s.tb.count)] l

/-- Whether a bit error ratio exceeds BER_LIMIT. -/
def State.berFails (s : State) (e bitsChecked errs : Nat) : Bool :=
  decide (s.rd (pOPT + e) OPT_BERT_BER_LIMIT * bitsChecked < errs * 1000000000)

/-- Bits that a test checks on a lane: 60 s, or SOAK_MIN minutes, at 200 Gb/s. -/
def State.testBits (s : State) (e : Nat) (soak : Bool) : Nat :=
  (if soak then s.rd (pOPT + e) OPT_BERT_SOAK_MIN * 60 else 60) * 200000000000

/-- A lane that a soak found bad: mapped out, its logical lane on a spare when the ports train. -/
def State.soakOut (s : State) (e l : Nat) : State :=
  if s.rxState e l = 0 then match s.rxSpare e with
    | some b => s.moveRx e l b
    | none => s.failEngine e OPT_ERR_STATUS_LANES_EXHAUSTED
  else if s.rxState e l = 2 then s
  else (((s.wr (pOPT + e) OPT_LANE_RX_STATE 2 l).markRx e l true).laneGone e).showSpares e

/-- BERT_END (R377): the running test ends with the errors of each receive lane it tested; with no partner, `errs` is empty. -/
def execBertEnd (e : EngineIx) (errs : List Nat) (s : State) : Host.Outcome State Fault Refusal :=
  keep s (match (s.eng e).test with
    | none => s
    | some (true, _, _) =>
      let n := s.testBits e true
      let s := if errs.isEmpty then s
        else (errs.take 18).zipIdx.foldl (fun (s : State) (x : Nat × Nat) => s.recordTest e x.2 n x.1) (s.bump (pOPT + e) OPT_C_BERT_RUNS)
      let bad := (((errs.take 18).zipIdx.filter fun (x : Nat × Nat) => s.berFails e n x.1).map (·.2))
      -- the lanes take their places, then the bad ones leave, then the ports train
      let s := (List.range 18).foldl (fun s l => (s.restRx e l).restTx e l) s
      let s := bad.foldl (fun s l => s.soakOut e l) s
      (s.leaveSoak e).raiseEvt (pOPT + e) OPT_EVT_STATUS_BERT_DONE
    | some (false, l, spare) => match errs with
      | [] => (s.endTest e l spare false false).bump (pOPT + e) OPT_C_BERT_SKIPPED
      | x :: _ =>
        let n := s.testBits e false
        let fail := s.berFails e n x
        let out := bit (s.rd (pOPT + e) OPT_LANE_OUT_RX) l
        let home := out && !fail && s.rd (pOPT + e) OPT_LINK_EXPERT_AUTO_RETURN == 1
        let s := (s.recordTest e l n x).bump (pOPT + e) OPT_C_BERT_RUNS
        (s.endTest e l spare (fail && !out) home).raiseEvt (pOPT + e) OPT_EVT_STATUS_BERT_DONE)

end Sys2Proof.Machine
end

