-- ==== Sys2Proof/Machine/Xfer.lean ====
section
/-! DEFINITION. SEND and RECV, between regions (R323) and between modules (R375), with the XFER messages. -/

namespace Sys2Proof.Machine

/-! ### Issue (R119, R323, R374, R375) -/

/-- The fields of SEND and RECV. -/
structure XferOp where
  peer : Nat
  addr : Nat
  bytes : Nat
  tag : Nat
  sid : Nat
  module : Nat
  wport : Nat
  rect : Nat
  deriving DecidableEq, Repr

/-- Read the fields of a SEND or RECV. -/
def xferOp (c : Cmd) : XferOp :=
  { peer := c.w 0 23 16, addr := c.w 0 52 32, bytes := c.w 1 31 0, tag := c.w 1 47 32, sid := c.w 1 63 48,
    module := c.w 2 13 0, wport := c.w 2 21 16, rect := c.w 3 15 0 }

/-- The port that a W-port number of a job names, unless its engine is fenced (R374). -/
def State.wportOf (s : State) (slot n : Nat) : Option Nat :=
  match (s.jobWPorts slot)[n]? with
  | some p => if s.engineFenced (p / 4) then none else some p
  | none => none

/-- Whether a RECV must wait: its post would be the 65th, or its (PEER, TAG) is posted and not yet matched (R323). A post to a
peer module is matched with its first DATA. -/
def State.postWaits (s : State) (r : Nat) (o : XferOp) : Bool :=
  if o.peer = 0xFF then
    let l := s.fab.xrecvs.filter fun x => x.lregion == s.logical r && x.module == o.module && x.landed.isEmpty && s.jobOf x.region == s.jobOf r
    decide (64 ≤ l.length) || l.any fun x => x.tag == o.tag
  else match s.playing (s.jobOf r) o.peer with
    | none => true
    | some a =>
      let l := s.postsAt a
      decide (64 ≤ l.length) || l.any fun p => p.dst == r && p.tag == o.tag

/-- What SEND and RECV share at issue. -/
def State.xferIssue (s : State) (r : Nat) (c : Cmd) (recv : Bool) : Issue :=
  let o := xferOp c
  let slot := s.jobOf r
  let g := (o.addr, o.addr + o.bytes)
  { badField := malformed c [(23, 16), (52, 32)] [(63, 0)] [(13, 0), (21, 16)] [(15, 0)] || rectBad o.rect || pastEnd o.addr o.bytes
      || (if o.peer = 0xFF then (s.wportOf slot o.wport).isNone else decide (s.logicalRegions slot ≤ o.peer)),
    inSpan := false, inDef := false, cls := 8, reads := if recv then [] else [g], writes := if recv then [g] else [],
    wait := recv && s.postWaits r o, ctx := some (o.sid, 3) }

/-! ### XFER messages (R375) -/

/-- The 24-byte header of an XFER message. -/
def xferHdr (xtype lregion tag bytes rect tile off sid : Nat) : List Byte :=
  leBytes 1 xtype ++ leBytes 1 lregion ++ leBytes 2 tag ++ leBytes 4 bytes ++ leBytes 2 rect ++ leBytes 1 tile ++ leBytes 1 0
    ++ leBytes 4 off ++ leBytes 2 sid ++ leBytes 6 0

/-- Send an XFER message of one end. -/
def State.sendXfer (s : State) (x : Xfer) (xtype tile off : Nat) (data : List Byte) : State :=
  s.sendJobOn (s.jobOf x.region) x.port 6 (addrModule x.module)
    (xferHdr xtype x.lregion x.tag x.bytes x.rect tile off x.sid ++ data)

/-- The (OFFSET, length) pieces of one tile: up to 16,384 bytes each, and one of no bytes where BYTES is 0. -/
def xferPieces (bytes : Nat) : List (Nat × Nat) :=
  if bytes = 0 then [(0, 0)]
  else (List.range ((bytes + 16383) / 16384)).map fun k => (16384 * k, min 16384 (bytes - 16384 * k))

/-- SEND_SIZE at one end of a transfer between modules. -/
def State.xferSize (s : State) (x : Xfer) : State := s.sizeFault x.region x.ix

/-- Send every tile's DATA. -/
def State.sendXferData (s : State) (x : Xfer) : State :=
  let s := (rectTiles x.rect).foldl (fun s t => (xferPieces x.bytes).foldl (fun s p =>
    (s.sendXfer x 2 t p.1 (s.sramRead x.region t (x.addr + p.1) p.2)).sendPackets (.tile x.region t) (.unit 2 (x.port / 4)) 0 p.2
      (s.jobOf x.region)) s) s
  s.ctxBytes (s.jobOf x.region) x.sid ((rectTiles x.rect).length * x.bytes)

/-- Match the SENDs to a peer module with the POSTs that it has sent, in the order of arrival; at most n pairs. -/
def State.matchX : Nat → State → Nat → State
  | 0, s, _ => s
  | n + 1, s, slot =>
    let pair := (s.fab.xsends.filter fun x => !x.sent && s.jobOf x.region == slot).findSome? fun x =>
      (s.fab.xposts.find? fun p => p.slot == slot && p.module == x.module && p.lregion == x.lregion && p.tag == x.tag).map fun p => (x, p)
    match pair with
    | none => s
    | some (x, p) =>
      let f := s.fab
      let posts := f.xposts.erase p
      if x.bytes ≠ p.bytes ∨ x.rect ≠ p.rect then
        matchX n (((s.setFab { f with xposts := posts, xsends := f.xsends.erase x }).sendXfer x 4 0 0 []).xferSize x) slot
      else
        let sends := f.xsends.map fun y => if y = x then { x with sent := true } else y
        matchX n ((s.setFab { f with xposts := posts, xsends := sends }).sendXferData x) slot

/-- Match all that a job can match. -/
def State.tryMatchX (s : State) (slot : Nat) : State := s.matchX s.fab.xsends.length slot

/-- A region's own end of a transfer with a region of another module (R375). -/
def State.ownXfer (s : State) (a : At) (o : XferOp) : Xfer :=
  { region := a.r, outId := s.lastId a.r, ix := a.ix, port := (s.wportOf (s.jobOf a.r) o.wport).getD 0, module := o.module,
    lregion := s.logical a.r, tag := o.tag, addr := o.addr, bytes := o.bytes, rect := o.rect, sid := o.sid }

/-- What a SEND that has issued does: it waits for the matching post, of its module or of another (R323, R375). -/
def State.startSend (s : State) (a : At) (o : XferOp) : State :=
  if o.peer = 0xFF then (s.setFab { s.fab with xsends := s.fab.xsends ++ [s.ownXfer a o] }).tryMatchX (s.jobOf a.r)
  else
    let x : Sending := ⟨a.r, s.lastId a.r, a.ix, s.playing (s.jobOf a.r) o.peer, o.tag, o.addr, o.bytes, o.rect, o.sid, [], false⟩
    (s.setFab { s.fab with sends := s.fab.sends ++ [x] }).tryMatch a.r

/-- SEND (R323, R375). -/
def execSend (r : RegionIx) (deferred : Bool) (c : Cmd) (s : State) : Host.Outcome State Fault Refusal :=
  keep s (s.issue r deferred c 0x50 (s.xferIssue r c false) fun a s => s.startSend a (xferOp c))

/-- What a RECV that has issued does: the post leaves for its peer (R323, R375). -/
def State.startRecv (s : State) (a : At) (o : XferOp) : State :=
  if o.peer = 0xFF then (s.setFab { s.fab with xrecvs := s.fab.xrecvs ++ [s.ownXfer a o] }).sendXfer (s.ownXfer a o) 1 0 0 []
  else
    let p : Post := ⟨a.r, s.lastId a.r, a.ix, (s.playing (s.jobOf a.r) o.peer).getD 0, o.tag, o.addr, o.bytes, o.rect, o.sid, false⟩
    ((s.setFab { s.fab with posts := s.fab.posts ++ [p] }).emit (.wafer 2 (s.logical a.r) o.peer o.tag)).sendPackets
      (.tile a.r 0) (.tile p.src 0) 0 0 (s.jobOf a.r)

/-- RECV (R323, R375). -/
def execRecv (r : RegionIx) (deferred : Bool) (c : Cmd) (s : State) : Host.Outcome State Fault Refusal :=
  keep s (s.issue r deferred c 0x51 (s.xferIssue r c true) fun a s => s.startRecv a (xferOp c))

/-! ### Arrivals (R375) -/

/-- An XFER message past the port, with its job slot: class XFER, a whole header with its reserved bytes 0, of one XTYPE. -/
def State.xferIn (s : State) (m : Msg) (xtype : Nat) (run : State → Nat → State) : State :=
  match s.admitMsg m with
  | (s, none) => s
  | (s, some slot) =>
    if m.cls ≠ 6 ∨ m.body.length < 24 ∨ byteAt m.body 0 ≠ xtype ∨ byteAt m.body 11 ≠ 0 ∨ leAt m.body 18 6 ≠ 0
        ∨ (xtype ≠ 2 ∧ m.body.length ≠ 24) then s
    else run s slot

/-- Whether an end belongs to an arriving message: job, peer module, LREGION and TAG. -/
def State.xferOf (s : State) (m : Msg) (slot : Nat) (x : Xfer) : Bool :=
  s.jobOf x.region == slot && x.module == m.src && x.lregion == byteAt m.body 1 && x.tag == leAt m.body 2 2

/-- A message that belongs to no end here is dropped, and counted where its SID names no live context of the job (R190). -/
def State.xferOrphan (s : State) (m : Msg) (slot : Nat) : State :=
  if s.ctxs.any fun x => x.slot == slot && x.sid == leAt m.body 16 2 then s else s.bump pSCT SCT_C_ORPHAN_DROPS

/-- XFER_POST_MSG (R375). -/
def execXferPostMsg (m : Msg) (s : State) : Host.Outcome State Fault Refusal :=
  keep s (s.xferIn m 1 fun s slot =>
    let p : XPost := ⟨slot, m.src, byteAt m.body 1, leAt m.body 2 2, leAt m.body 4 4, leAt m.body 8 2⟩
    (s.setFab { s.fab with xposts := s.fab.xposts ++ [p] }).tryMatchX slot)

/-- Whether every byte of a RECV has landed. -/
def Xfer.whole (x : Xfer) : Bool :=
  (rectTiles x.rect).all fun t => (xferPieces x.bytes).all fun p => x.landed.contains (t, p.1, p.2)

/-- XFER_DATA (R375): the bytes land in the tile of that number, of the oldest RECV that the message belongs to. -/
def execXferData (m : Msg) (s : State) : Host.Outcome State Fault Refusal :=
  keep s (s.xferIn m 2 fun s slot =>
    let tile := byteAt m.body 10
    let off := leAt m.body 12 4
    let data := m.body.drop 24
    let piece := (tile, off, data.length)
    match s.fab.xrecvs.find? fun x => s.xferOf m slot x && x.bytes == leAt m.body 4 4 && x.rect == leAt m.body 8 2
        && (rectTiles x.rect).contains tile && (xferPieces x.bytes).contains (off, data.length) && !x.landed.contains piece with
    | none => s.xferOrphan m slot
    | some x =>
      let y := { x with landed := x.landed ++ [piece] }
      let s := (s.sramWrite x.region tile (x.addr + off) data).ctxBytes slot x.sid data.length
      if y.whole then
        ((s.setFab { s.fab with xrecvs := s.fab.xrecvs.erase x }).sendXfer x 3 0 0 []).finish x.region x.outId 8
      else s.setFab { s.fab with xrecvs := s.fab.xrecvs.map fun z => if z = x then y else z })

/-- XFER_ACK_MSG (R375): the oldest SEND that the message belongs to and whose DATA has gone completes. -/
def execXferAckMsg (m : Msg) (s : State) : Host.Outcome State Fault Refusal :=
  keep s (s.xferIn m 3 fun s slot =>
    match s.fab.xsends.find? fun x => s.xferOf m slot x && x.sent with
    | none => s.xferOrphan m slot
    | some x => (s.setFab { s.fab with xsends := s.fab.xsends.erase x }).finish x.region x.outId 8)

/-- SIZE_ERR (R375): the oldest RECV that the message belongs to faults with SEND_SIZE. -/
def execSizeErr (m : Msg) (s : State) : Host.Outcome State Fault Refusal :=
  keep s (s.xferIn m 4 fun s slot =>
    match s.fab.xrecvs.find? fun x => s.xferOf m slot x && x.landed.isEmpty with
    | none => s.xferOrphan m slot
    | some x => (s.setFab { s.fab with xrecvs := s.fab.xrecvs.erase x }).xferSize x)

/-- XFER_TIMEOUT (R375): a SEND or RECV to a peer module has not completed within XFER_S: a program fault, XFER_TIMEOUT set on the
page of its port's engine. -/
def execXferTimeout (r : RegionIx) (id : Nat) (s : State) : Host.Outcome State Fault Refusal :=
  keep s (match (s.fab.xsends ++ s.fab.xrecvs).find? fun x => x.region == r.val && x.outId == id with
  | none => s
  | some x =>
    let f := OPT_ERR_STATUS_XFER_TIMEOUT
    ((s.haltAt x.region false x.ix f.lo).raiseErr (portPage x.port) f).reportOn .program x.region (portPage x.port) f (s.jobOf x.region))

end Sys2Proof.Machine
end

