-- ==== Sys2Proof/Machine/Flits.lean ====
section
/-! DEFINITION. Received flits (R365, R366, R368), the transport messages they carry (R370), their order on a bond (R374), and
their way to the block that owns their class (R373). -/

namespace Sys2Proof.Machine

/-! ### Delivery (R370, R373) -/

/-- The state after a command, for the command that an arriving message stands for. -/
def nextOf (s : State) (o : Host.Outcome State Fault Refusal) : State := match o with | .next t => t | _ => s

/-- A message of class CONTROL, by CTYPE. -/
def State.deliverCtl (s : State) (m : Msg) : State :=
  match byteAt m.body 0, byteAt m.body 14 with
  | 2, _ => nextOf s (execDocket (.port m) s)
  | 3, _ => nextOf s (execEmpty (.port m) s)
  | 4, 1 => nextOf s (execInstall (.port m) s)
  | 4, 2 => nextOf s (execRevoke (.port m) s)
  | 4, _ => nextOf s (execCancel (.port m) s)
  | 6, _ => if byteAt m.body 8 = 2 then nextOf s (execAssign (.port m) s) else nextOf s (execUpdateAck (.port m) s)
  | 7, _ => nextOf s (execSyncMessage m s)
  | _, _ => if m.key = 0#64 then (s.admitCtl m).1 else (s.admitMsg m).1

/-- A message of class WEIGHT, by TYPE. -/
def State.deliverWeight (s : State) (m : Msg) : State :=
  match byteAt m.body 0 with
  | 0x52 => nextOf s (execWsAnswer m s)
  | 0x4E => nextOf s (execManifestChunk m s)
  | _ => nextOf s (execWeightSegment m s)

/-- A message of class COLLECTIVE, by KIND (R252). -/
def State.deliverColl (s : State) (m : Msg) : State :=
  match (parseCPkt m.body).kind with
  | 1 => nextOf s (execCollVote m s)
  | 2 => nextOf s (execCollData m s)
  | 3 => nextOf s (execCollResult m s)
  | 4 => nextOf s (execCollAbort m s)
  | 5 => nextOf s (execCollDigest m s)
  | 6 => nextOf s (execCollResend m s)
  | 7 => nextOf s (execCollRedo m s)
  | 8 => nextOf s (execCollBarrier m s)
  | 9 => nextOf s (execOutcome m s)
  | 10 => nextOf s (execCollMove m s)
  | 11 => nextOf s (execCollRollback m s)
  | _ => (s.admitMsg m).1

/-- A message of class MIRROR, by OP (R231). -/
def State.deliverMirror (s : State) (m : Msg) : State :=
  match byteAt m.body 1 with
  | 1 => nextOf s (execMirrorSeg m s)
  | 2 => nextOf s (execMirrorDone m s)
  | 3 => nextOf s (execMirrorAck m s)
  | 4 => nextOf s (execMirrorCommit m s)
  | 5 => nextOf s (execMirrorRollback m s)
  | 6 => nextOf s (execRestoreReq m s)
  | 7 => nextOf s (execRestoreEnd m s)
  | _ => (s.admitMsg m).1

/-- A message of class MEMBERSHIP, by OP (R270). -/
def State.deliverMember (s : State) (m : Msg) : State :=
  match byteAt m.body 1 with
  | 1 => nextOf s (execHeartbeat m s)
  | 2 => nextOf s (execSuspect m s)
  | 3 => nextOf s (execProbe m s)
  | 4 => nextOf s (execProbeAck m s)
  | 5 => nextOf s (execPropose m s)
  | 6 => nextOf s (execAccept m s)
  | 7 => nextOf s (execMemberCommit m s)
  | 8 => nextOf s (execLeave m s)
  | 9 => nextOf s (execJoin m s)
  | 10 => nextOf s (execJoinAck m s)
  | 11 => nextOf s (execAbandon m s)
  | _ => nextOf s (execHeartbeat m s)

/-- A message goes to the block that owns its class. -/
def State.deliver (s : State) (m : Msg) : State :=
  match m.cls with
  | 0 => s.deliverCtl m
  | 1 => s.deliverWeight m
  | 2 => s.deliverColl m
  | 3 => s.deliverMirror m
  | 4 => s.deliverMember m
  | 5 => if byteAt m.body 1 = 2 then nextOf s (execServeClose m s) else nextOf s (execServeRequest m s)
  | 6 => match byteAt m.body 0 with
    | 1 => nextOf s (execXferPostMsg m s)
    | 2 => nextOf s (execXferData m s)
    | 3 => nextOf s (execXferAckMsg m s)
    | 4 => nextOf s (execSizeErr m s)
    | _ => (s.admitMsg m).1
  | 7 => nextOf s (execIdent m s)
  | _ => (s.admitMsg m).1

/-! ### Bonds (R374) -/

/-- Deliver the messages held for a bond's class whose turn has come. -/
def State.deliverHeld (s : State) (k : Nat) : Nat → State
  | 0 => s
  | n + 1 =>
    let d := s.bond k
    match d.held.find? fun m => m.bondSeq == d.rx with
    | none => s
    | some m => (State.deliver (s.setBond k { d with rx := (d.rx + 1) % 2 ^ 32, held := d.held.erase m }) m).deliverHeld k n

/-- A bonded message: delivered in BOND_SEQ order, held up to 4,096 messages; duplicates are dropped. -/
def State.receiveBonded (s : State) (b : Nat) (m : Msg) : State :=
  let k := 8 * b + m.cls
  let d := s.bond k
  let ahead := (m.bondSeq + 2 ^ 32 - d.rx % 2 ^ 32) % 2 ^ 32
  if 2 ^ 31 ≤ ahead ∨ d.held.any (fun x => x.bondSeq == m.bondSeq) ∨ (ahead ≠ 0 ∧ 4096 ≤ d.held.length) then s
  else (s.setBond k { d with held := d.held ++ [m] }).deliverHeld k (d.held.length + 1)

/-- A complete message. -/
def State.receive (s : State) (m : Msg) : State :=
  if !Msg.wellFormed m then s.bump (portPage m.port) OPT_C_MALFORMED_DROPS
  else match s.bondOf m.port with
    | some b => if m.flags = 1 then s.receiveBonded b m else s.deliver m
    | none => s.deliver m

/-! ### Flits (R365, R366, R368) -/

/-- The CRC-32 of R365. -/
def crc32 (b : List Byte) : BitVec 32 := ~~~ (b.foldl (crc32Byte 0xEDB88320#32) 0xFFFFFFFF#32)

/-- The message in the flit payloads received, once its header is complete: version, class and the rest of R370. -/
def parseMsg (p : Nat) (b : List Byte) : Msg :=
  { port := p, version := byteAt b 0, cls := byteAt b 1, flags := leAt b 2 2, key := BitVec.ofNat 64 (leAt b 8 8),
    dst := leAt b 16 4, src := leAt b 20 4, bondSeq := leAt b 24 4, body := (b.drop 32).take (leAt b 4 4) }

/-- Whether a header's LENGTH and reserved bytes are in order. -/
def headerForm (b : List Byte) : Bool := decide (1 ≤ leAt b 4 4 ∧ leAt b 4 4 ≤ 16448) && leAt b 28 4 == 0

/-- Forget the message being received. -/
def State.rxIdle (s : State) (p : Nat) : State := s.setLink p { s.link p with inFlits := 0, inBytes := [] }

/-- The payload of a DATA flit that is in order and within the credits. When its message is complete the credits go back and
the message goes on; a flit count that does not match LENGTH drops the message. -/
def State.takePayload (s : State) (p : Nat) (som : Bool) (pay : List Byte) : State :=
  let l := s.link p
  let bad := fun (s : State) => s.bump (portPage p) OPT_C_MALFORMED_DROPS
  let s := if som && l.inFlits != 0 then bad (s.emit (.ctl p 1 l.inCls l.inFlits)) else s
  if !som && l.inFlits == 0 then bad s
  else
    let b := if som then pay else l.inBytes ++ pay
    let n := if som then 1 else l.inFlits + 1
    let cls := byteAt b 1
    if !headerForm b then bad ((s.emit (.ctl p 1 cls n)).rxIdle p)
    else if n < msgFlits (leAt b 4 4) then s.setLink p { s.link p with inCls := cls, inFlits := n, inBytes := b }
    else ((s.emit (.ctl p 1 cls n)).rxIdle p).receive (parseMsg p b)

/-- A flit beyond the credits advertised (R368): 16 within 1 s make the port FAULTY. -/
def State.creditViolation (s : State) (p : Nat) : State :=
  let l := s.link p
  let vs := (l.viols.filter fun t => decide (s.tb.ref < t + ns1)) ++ [s.tb.ref]
  let s := ((s.setLink p { l with viols := vs }).raiseErr (portPage p) OPT_ERR_STATUS_CREDIT_VIOLATION).bump (portPage p) OPT_C_CREDIT_VIOLS
  if 16 ≤ vs.length then (s.setLink p { s.link p with viols := [] }).portFail p else s

/-- A DATA flit (R365): out of order, it is dropped, with one NAK for the gap; beyond the credits, it is dropped without a NAK
and the next SEQ is expected. -/
def State.takeDataFlit (s : State) (p seq : Nat) (som : Bool) (pay : List Byte) : State :=
  let l := s.link p
  let e := portPage p
  if seq ≠ l.rxNext then
    if l.nakSent || decide (32768 ≤ (seq + 65536 - l.rxNext) % 65536) then s
    else ((s.setLink p { l with nakSent := true }).bump e OPT_C_NAKS_SENT).emit (.ctl p 2 ((l.rxNext + 65535) % 65536) 0)
  else
    let s := s.setLink p { l with rxNext := (l.rxNext + 1) % 65536, nakSent := false }
    let cls := if som then byteAt pay 1 else l.inCls
    let used := if som then 0 else l.inFlits
    if Config.rxBuffer cls ≤ used then s.creditViolation p
    else (s.bump e OPT_C_FLITS_RX).takePayload p som pay

/-- DATA_FLIT (R365): any flit received on a port whose link is initialised. Its CRC is checked, its ACK and credits taken;
a DATA flit then goes on, a NAK resends; CONTROL flits name their commands in rows of their own. -/
def execDataFlit (port : PortIx) (flit : List Byte) (s : State) : Host.Outcome State Fault Refusal :=
  let p := port.val
  keepQ s (
    if !(s.link p).ready || !s.portExists p then s
    else if flit.length ≠ 256 ∨ leAt flit 252 4 ≠ (crc32 (flit.take 252)).toNat then s.bump (portPage p) OPT_C_CRC_ERRS
    else if 4 ≤ byteAt flit 4 % 16 then s
    else
      let s := s.takeAck p (leAt flit 2 2)
      let l := s.link p
      let s := (s.setLink p { l with credits := l.credits.modify (byteAt flit 4 / 32) fun c => c + leAt flit 5 2 % 4096 }).pumpPort p
      match byteAt flit 4 % 16 with
      | 1 => State.takeDataFlit s p (leAt flit 0 2) (bit (byteAt flit 4) 4) ((flit.drop 8).take 244)
      | 2 => s.resend p
      | _ => s)

end Sys2Proof.Machine
end

