-- ==== Sys2Proof/Machine/Cellar.lean ====
section
/-! DEFINITION. The cellar's write session (R393–R396): signed commands and data messages on the management port. -/

namespace Sys2Proof.Machine

/-- Status codes of R395. -/
def cellOk : Nat := 0
def cellBadSig : Nat := 1
def cellBusy : Nat := 2
def cellNoSpace : Nat := 3
def cellBadIndex : Nat := 4
def cellHash : Nat := 5
def cellProtected : Nat := 6
def cellNoSession : Nat := 7
def cellOrder : Nat := 8

/-- Blocks of an image of n bytes (R393). -/
def cellBlocks (n : Nat) : Nat := (n + 999999999) / 1000000000

/-- Free cellar blocks. -/
def State.cellarFree (s : State) : Nat := s.rd pMEM MEM_CELLAR_FREE_BLOCKS

/-- Return blocks to the free ones. -/
def State.freeBlocks (s : State) (n : Nat) : State := s.wr pMEM MEM_CELLAR_FREE_BLOCKS (s.cellarFree + n)

/-- Close the session. -/
def State.endSession (s : State) : State :=
  let s := { s with cellar := { s.cellar with session := none } }
  s.wrs pMEM [(MEM_CELLAR_SESSION, 0), (MEM_CELLAR_INDEX, 0), (MEM_CELLAR_SESSION_BYTES, 0)]

/-- Close the session and free its blocks. -/
def State.abortSession (s : State) : State :=
  match s.cellar.session with
  | some x => s.endSession.freeBlocks (cellBlocks x.bytes)
  | none => s

/-- Fill or clear CELL.IMAGE of an index from the images that the cellar holds, and count the VALID ones. -/
def State.showImage (s : State) (i : Nat) (valid : Bool) : State :=
  let s := match s.cellar.images.find? fun x => x.1 == i with
    | some (_, b) =>
      if valid then s.wrs pCELL [(CELL_IMAGE_VALID, 1), (CELL_IMAGE_KIND, byteAt b 6), (CELL_IMAGE_MODEL, leAt b 10 2),
        (CELL_IMAGE_EPOCH, leAt b 12 4), (CELL_IMAGE_BYTES, leAt b 16 8)] i
      else s.wr pCELL CELL_IMAGE_VALID 0 i
    | none => s.clearRegs pCELL (0x2000 + 0x10 * i) 2
  s.wr pCELL CELL_STATUS_IMAGES ((List.range 256).filter fun i => s.rd pCELL CELL_IMAGE_VALID i == 1).length

/-- Whether the image that the cellar holds at an index is VALID: its header passes R304 and names the index, and no page of it
is lost (R302, R393). -/
def State.imageGood (s : State) (i : Nat) : Bool :=
  !s.cellar.bad.contains i && s.cellar.images.any fun x => x.1 == i && imageHeaderOk x.2 && leAt x.2 8 2 == i

/-- At boot the controller reads every image header and fills CELL.IMAGE; the blocks that no image holds are free (R302, R393). -/
def State.bootCellar (s : State) : State :=
  let used := (s.cellar.images.map fun x => cellBlocks x.2.length).sum
  let s := (List.range 256).foldl (fun s i => s.showImage i (s.imageGood i)) s
  s.wr pMEM MEM_CELLAR_FREE_BLOCKS (6000 - used)

/-- Put an image at an index, in ascending order of index. -/
def putImage (l : List (Nat × List Byte)) (i : Nat) (b : List Byte) : List (Nat × List Byte) :=
  l.filter (fun x => decide (x.1 < i)) ++ [(i, b)] ++ l.filter (fun x => decide (i < x.1))

/-- Whether a cache load, or a docket load, is reading an index. -/
def State.imageRead (s : State) (i : Nat) : Bool :=
  (List.range 32).any (fun e => s.rd pCELL CELL_MODEL_CELLAR_INDEX e == i && (match (s.cacheEnt e).load with | some l => l.source == 1 | none => false))
    || (List.range 16).any fun j => (s.jobState j == 2 || s.flt.reload.contains j) && s.docketAt j 22 2 % 2 == 1 && s.docketAt j 112 8 == i

/-- OPEN_WRITE. -/
def State.openWrite (s : State) (i bytes : Nat) : State × Nat :=
  let n := cellBlocks bytes
  if s.cellar.session.isSome then (s, cellBusy)
  else if 256 ≤ i ∨ s.cellar.images.any fun x => x.1 == i then (s, cellBadIndex)
  else if s.cellarFree < n then (s, cellNoSpace)
  else
    let s := { s with cellar := { s.cellar with session := some { index := i, bytes := bytes } } }
    (s.wrs pMEM [(MEM_CELLAR_FREE_BLOCKS, s.cellarFree - n), (MEM_CELLAR_SESSION, 1), (MEM_CELLAR_INDEX, i),
      (MEM_CELLAR_SESSION_BYTES, 0)], cellOk)

/-- SEAL. -/
def State.sealImage (s : State) (i : Nat) : State × Nat :=
  match s.cellar.session with
  | none => (s, cellNoSession)
  | some x =>
    if x.data.length ≠ x.bytes ∨ !imageHeaderOk x.data ∨ leAt x.data 8 2 ≠ i ∨ x.index ≠ i then (s.abortSession, cellHash)
    else
      let s := s.endSession
      let s := { s with cellar := { s.cellar with images := putImage s.cellar.images i x.data } }
      ((s.showImage i true).bump pMEM MEM_CELLAR_SESSIONS, cellOk)

/-- ERASE. -/
def State.eraseImage (s : State) (i : Nat) : State × Nat :=
  if s.imageRead i then (s, cellBusy)
  else
    let n := ((s.cellar.images.filter fun x => x.1 == i).map fun x => cellBlocks x.2.length).sum
    let c := s.cellar
    let s := { s with cellar := { c with images := c.images.filter (fun x => x.1 != i), bad := c.bad.filter (· != i) } }
    if i < 256 then ((s.freeBlocks n).showImage i false, cellOk) else (s, cellOk)

/-- ABORT. -/
def State.abortCmd (s : State) : State × Nat :=
  if s.cellar.session.isSome then (s.abortSession, cellOk) else (s, cellNoSession)

/-- Whether a command is signed, fresh and in form (R153, R394). -/
def State.cellCmdOk (s : State) (b : List Byte) : State × Bool :=
  let form := b.length == 256 && leAt b 0 4 == 0x57435242 && byteAt b 4 == 1 && decide (1 ≤ byteAt b 5 ∧ byteAt b 5 ≤ 4)
    && byteAt b 7 == 0 && leAt b 18 6 == 0 && leAt b 40 120 == 0
  if !form then (s, false)
  else
    let (s, ok) := s.signedBy b (byteAt b 6) 160
    (s, ok && decide (s.rd pDOCK DOCK_KEY_SEQ_SEQ < leAt b 8 8) && s.notAfter (leAt b 32 8))

/-- A cellar command (R394, R395): it is accepted when its status is OK, and then sets DOCK.KEY_SEQ (DEDUCED, log 44). -/
def State.cellarCmd (s : State) (f : MgtReq) : State :=
  s.mailbox 0x40 false true 256 f fun s =>
    let b := f.payload.take 256
    let i := leAt b 16 2
    let answer := fun (r : State × Nat) => (r.1, stOk, leBytes 1 r.2)
    if s.lifecycle = 3 then answer (s, cellProtected)
    else match s.cellCmdOk b with
      | (s, false) => answer (s, cellBadSig)
      | (s, true) =>
        let r := match byteAt b 5 with
          | 1 => s.openWrite i (leAt b 24 8)
          | 2 => s.eraseImage i
          | 3 => s.sealImage i
          | _ => s.abortCmd
        answer (if r.2 = cellOk then r.1.wr pDOCK DOCK_KEY_SEQ_SEQ (leAt b 8 8) else r.1, r.2)

/-- OPEN_WRITE (R395). -/
def execOpenWrite (f : MgtReq) (s : State) : Host.Outcome State Fault Refusal := keep s (s.cellarCmd f)

/-- ERASE (R395). -/
def execErase (f : MgtReq) (s : State) : Host.Outcome State Fault Refusal := keep s (s.cellarCmd f)

/-- SEAL (R395). -/
def execSeal (f : MgtReq) (s : State) : Host.Outcome State Fault Refusal := keep s (s.cellarCmd f)

/-- ABORT (R395). -/
def execAbort (f : MgtReq) (s : State) : Host.Outcome State Fault Refusal := keep s (s.cellarCmd f)

/-- CELLAR_DATA (R394): image bytes at the offset in ARG, in ascending order without gaps. -/
def execCellarData (f : MgtReq) (s : State) : Host.Outcome State Fault Refusal :=
  keep s (s.mailbox 0x41 false true 0 f fun s =>
    let answer := fun (s : State) st => (s, stOk, leBytes 1 st)
    if s.lifecycle = 3 then answer s cellProtected
    else match s.cellar.session with
      | none => answer s cellOrder
      | some x =>
        if f.arg.toNat ≠ x.data.length then answer s cellOrder
        else
          let data := x.data ++ f.payload
          let s := { s with cellar := { s.cellar with session := some { x with data := data } } }
          answer (s.wr pMEM MEM_CELLAR_SESSION_BYTES data.length) cellOk)

/-- CELLAR_SESSION_IDLE (R395): 600 s without a data message. -/
def execCellarSessionIdle (s : State) : Host.Outcome State Fault Refusal := keep s s.abortSession

end Sys2Proof.Machine
end

