-- ==== Sys2Proof/Machine/Power.lean ====
section
/-! DEFINITION. Supply, clocks and power (R397–R412): the V/F table, the clock governor, zone requests, power samples, the
cap, the alert, and the faults of rails and clocks. -/

namespace Sys2Proof.Machine

/-- Replace the power state. -/
def State.setPower (s : State) (p : PowerSt) : State := { s with power := p }

/-! ### The V/F table (R406) -/

/-- The clock frequency of a code in MHz (R404). -/
def clockMhz (k : Nat) : Nat := 400 + 25 * k

/-- The eight frequencies of the V/F table. -/
def vfFreqs : List Nat := [400, 525, 650, 775, 900, 1025, 1150, 1250]

/-- ⌈a / b⌉ for a positive b. -/
def ceilDiv (a : Int) (b : Nat) : Int := -((-a) / (b : Int))

/-- V_MIN of a table of eight VID codes at a frequency. -/
def vMin (vids : Nat → Nat) (f : Nat) : Int :=
  let p := ((List.range 7).filter fun p => decide (vfFreqs.getD p 0 ≤ f)).foldl max 0
  let f0 := vfFreqs.getD p 0
  (vids p : Int) + ceilDiv (((vids (p + 1) : Int) - vids p) * ((f : Int) - f0)) (vfFreqs.getD (p + 1) 0 - f0)

/-- V_MIN′ of a region at a clock code: the fused value with the trim VOFF. -/
def State.vMinAt (s : State) (r k : Nat) : Int :=
  vMin (fun p => s.rd pCAL CAL_VF_VIDS r / 2 ^ (8 * p) % 256) (clockMhz k) + signed 8 (s.rd pCAL CAL_TRIM_VOFF r)

/-- GUARD of a region. -/
def State.guardOf (s : State) (r : Nat) : Nat := s.rd (regPage r) REG_PT_EXPERT_GUARD

/-- A measured voltage in 0.25 mV as a VID code (R407). -/
def vidOf (v : Nat) : Int := ((v : Int) - 1600) / 10

/-! ### Zones (R398, R399) -/

/-- The mode of a core zone: 0 OFF, 1 RETENTION, 2 RUN. A module trip turns every zone OFF (R413). -/
def State.zoneMode (s : State) (r : Nat) : Nat :=
  if s.power.tripped then 0
  else match s.regionState r with
    | 0 => if s.reports.any fun x => x.cls == .region && x.unit == r && x.page == regPage r && decide (24 ≤ x.code) then 1 else 2
    | 1 | 2 => 1
    | _ => 0

/-- VID_SENT in a mode (R398, R408). -/
def State.vidFor (s : State) (r mode : Nat) : Nat :=
  let top := s.rd pCAL CAL_LIMITS_VMAX_VID
  match mode with
  | 0 => 0
  | 1 => min top (s.rd pCAL CAL_VF_RET_VID r)
  | _ => min top (max 80 (max (s.rd (regPage r) REG_PT_REQ_VID)
      (s.vMinAt r (s.rd (regPage r) REG_PT_STATUS_K_RUN) + s.guardOf r).toNat))

/-- Show a region's zone request in PT_STATUS. -/
def State.showZone (s : State) (r : Nat) : State :=
  let m := s.zoneMode r
  s.wrs (regPage r) [(REG_PT_STATUS_ZMODE, m), (REG_PT_STATUS_VID_SENT, s.vidFor r m)]

/-- A slot of the zone frame: MODE, VID, and odd parity over bits 15 to 1 (R399). -/
def zoneSlot (mode vid : Nat) : Nat :=
  let w := mode * 2 ^ 14 + vid % 256 * 2 ^ 6
  w + b2n ((maskList 16 w).length % 2 == 0)

/-- ZONE_FRAME (R399, R470): one frame of the 84 requests. -/
def execZoneFrame (s : State) : Host.Outcome State Fault Refusal :=
  keep s (if s.heldReset then s else
    let s := (List.range 84).foldl (fun s r => s.showZone r) s
    s.emit (.zoneFrame ((List.range 84).map fun r =>
      zoneSlot (s.rd (regPage r) REG_PT_STATUS_ZMODE) (s.rd (regPage r) REG_PT_STATUS_VID_SENT))))

/-! ### The governor (R404, R407, R408) -/

/-- The terms of K_CEIL in the order of LIMITER's bits: REQ, FMAX, VOLT, CAP, CORE, THERM, ALERT, and FW. -/
def State.clockTerms (s : State) (r : Nat) : List Nat × Nat :=
  let p := regPage r
  let v := min (s.rd p REG_PT_STATUS_VID_SENT : Int) (vidOf (s.rd p REG_PT_STATUS_V_MEAS))
  let volt := ((List.range 35).filter fun k => decide (s.vMinAt r k + s.guardOf r ≤ v)).foldl max 0
  ([s.rd p REG_PT_REQ_CLK_K, s.rd pCAL CAL_VF_FMAX_K r, volt, s.rd pPWR PWR_STATUS_K_CAP, s.rd pPWR PWR_STATUS_K_CORE,
    s.rd p REG_PT_TEMP_K_THERM, s.power.alert], if s.rd pFWC FWC_RCC_STATE r = 1 then 34 else 0)

/-- One microsecond of a region's governor. An ACTIVE region that no job holds runs at code 0; a clock that is gated or has
stopped reads 0. -/
def State.govern (s : State) (r : Nat) : State :=
  let p := regPage r
  let s := s.showZone r
  let was := s.rd p REG_PT_STATUS_K_RUN
  let (ts, fw) := s.clockTerms r
  let ceil := ts.foldl min fw
  let lim := if fw = ceil then 127 else maskOf ((ts.zipIdx.filter fun (x : Nat × Nat) => x.1 == ceil).map (·.2))
  let run := s.zoneMode r == 2 && !s.power.clockOff.contains r
  let goal := if (s.slotOf r).isNone then 0 else ceil
  let k := if !run then 0 else if was < goal then min goal (was + 4) else max goal (was - 4)
  let s := s.wrs p [(REG_PT_STATUS_K_CEIL, ceil), (REG_PT_STATUS_LIMITER, lim), (REG_PT_STATUS_K_RUN, k)]
  let s := if k = was then s else s.bump p REG_C_CLOCK_CHANGES
  s.showZone r

/-- GOVERNOR_TICK (R407, R410): every microsecond, with the zone voltages measured in 0.25 mV. A dead page has no
governor. -/
def execGovernorTick (volts : List Nat) (s : State) : Host.Outcome State Fault Refusal :=
  keep s ((List.range 84).foldl (fun s r =>
    if 3 ≤ s.regionState r then s.showZone r
    else (s.wr (regPage r) REG_PT_STATUS_V_MEAS (volts.getD r 0)).govern r) s)

/-! ### Droop (R409) -/

/-- DROOP (R409): the zone voltage in mV lies below V_MIN′ at k_run, and the clock runs at half frequency. -/
def execDroop (r : RegionIx) (mv : Nat) (s : State) : Host.Outcome State Fault Refusal :=
  let low := decide ((2 * mv : Int) < 800 + 5 * s.vMinAt r (s.rd (regPage r) REG_PT_STATUS_K_RUN))
  keep s (if s.zoneMode r = 2 ∧ low ∧ r.val ∉ s.power.droop then
      (s.setPower { s.power with droop := r.val :: s.power.droop }).bump (regPage r) REG_C_DROOP_EVENTS
    else s)

/-- DROOP_END (R409). -/
def execDroopEnd (r : RegionIx) (s : State) : Host.Outcome State Fault Refusal :=
  keep s (s.setPower { s.power with droop := s.power.droop.filter (· != r.val) })

/-! ### Samples, the cap and the core limit (R410, R411) -/

/-- One sample against a limit in 0.1 W: the term and the samples in a row at or below 98 % since its last rise; whether the
term stepped down. A limit of 0 is none. -/
def capStep (k good power limit : Nat) : Nat × Nat × Bool :=
  let above := limit != 0 && decide (limit < power)
  let calm := limit == 0 || decide (100 * power ≤ 98 * limit)
  if above then (k - 4, 0, true)
  else if !calm then (k, 0, false)
  else if 100 ≤ good + 1 then (min 34 (k + 1), 0, false)
  else (k, good + 1, false)

/-- Nominal voltage and tolerance of the rails after the core zones, in 0.25 mV (R397). -/
def railLimits : List (Nat × Nat) := [(3200, 64), (3000, 60), (4400, 88), (3600, 72), (13200, 396), (3200, 64), (7200, 360)]

/-- Energy of 10 µs at a power in 0.1 W is that number of microjoules: the whole units and the rest. -/
def energyStep (rest power unit : Nat) : Nat × Nat := ((rest + power) / unit, (rest + power) % unit)

/-- A region's reading with the gain of its current monitor trimmed by IGAIN, in 0.1 % (R423), rounded down. -/
def State.trimmed (s : State) (r : Nat) (x : Reading) : Reading :=
  let g := (1000 + signed 8 (s.rd pCAL CAL_TRIM_IGAIN r)).toNat
  { x with amps := x.amps * g / 1000, power := x.power * g / 1000 }

/-- The core zones' readings with their trims. -/
def State.trimZones (s : State) (zones : List Reading) : List Reading :=
  (zones.take 84).zipIdx.map fun (x : Reading × Nat) => s.trimmed x.2 x.1

/-- Record a core zone's sample. -/
def State.zoneSample (s : State) (r : Nat) (x : Reading) : State :=
  let p := regPage r
  let s := if 3 ≤ s.regionState r then s else s.wrs p [(REG_PT_STATUS_V_MEAS, x.volts), (REG_PT_STATUS_I_MEAS, x.amps)]
  let (mj, rest) := energyStep (tabGet (fun _ => 0) s.power.zoneEnergy r) x.power 1000
  let s := s.setPower { s.power with zoneEnergy := tabSet (fun _ => 0) s.power.zoneEnergy r rest }
  if mj = 0 then s else s.bump p REG_C_ENERGY_MJ mj

/-- Record another rail's sample. -/
def State.railSample (s : State) (i : Nat) (x : Reading) : State :=
  let (nom, tol) := railLimits.getD i (0, 0)
  s.wrs pPWR [(PWR_RAIL_V_MEAS, x.volts), (PWR_RAIL_I_MEAS, x.amps),
    (PWR_RAIL_OK, b2n (decide (nom ≤ x.volts + tol) && decide (x.volts ≤ nom + tol)))] i

/-- The cap in 0.1 W, 0 for none. -/
def State.capDw (s : State) : Nat := 100 * s.rd pPWR PWR_CAP_CAP_DW

/-- Both terms of R411 after a sample of the total and the core power. -/
def State.capSample (s : State) (total core : Nat) : State :=
  let k := s.rd pPWR PWR_STATUS_K_CAP
  let (k1, g1, d1) := capStep k s.power.capGood total s.capDw
  let (k2, g2, d2) := capStep (s.rd pPWR PWR_STATUS_K_CORE) s.power.coreGood core (100 * s.rd pCAL CAL_LIMITS_CORE_MAX_DW)
  let bad := d1 && k == 0
  let new := s.power.capNew
  let s := s.setPower { s.power with capGood := g1, coreGood := g2, capNew := false }
  let s := s.wrs pPWR [(PWR_STATUS_K_CAP, k1), (PWR_STATUS_K_CORE, k2), (PWR_STATUS_CAP_LIMITING, b2n (decide (k1 < 34))),
    (PWR_STATUS_CAP_UNREACHABLE, b2n bad)]
  let s := if d1 || d2 then s.bump pPWR PWR_C_CAP_STEPS (b2n d1 + b2n d2) else s
  let s := if bad then s.raiseErr pPWR PWR_ERR_STATUS_CAP_EXCEEDED else s
  if new then s.raiseEvt pPWR PWR_EVT_STATUS_CAP_APPLIED else s

/-- The samples of the core zones and of the other rails, recorded. -/
def State.samples (s : State) (zones rails : List Reading) : State :=
  let s := (zones.take 84).zipIdx.foldl (fun (s : State) (x : Reading × Nat) => s.zoneSample x.2 x.1) s
  (rails.take 7).zipIdx.foldl (fun (s : State) (x : Reading × Nat) => s.railSample x.2 x.1) s

/-- The module's total and core power, their average and its energy after a sample. -/
def State.totalSample (s : State) (total core : Nat) : State :=
  let ts := (total :: s.power.totals).take 10
  let (j, rest) := energyStep s.power.energy total 1000000
  let s := s.setPower { s.power with totals := ts, energy := rest }
  let s := s.wrs pPWR [(PWR_MEAS_TOTAL_W, total / 10), (PWR_MEAS_CORE_W, core / 10), (PWR_MEAS_AVG100_W, ts.sum / (10 * ts.length))]
  if j = 0 then s else s.bump pPWR PWR_ENERGY_J j

/-- POWER_SAMPLE (R410, R411): the core zones' and the other rails' samples of the last 10 µs. -/
def execPowerSample (zones rails : List Reading) (s : State) : Host.Outcome State Fault Refusal :=
  let zs := s.trimZones zones
  let core := (zs.map (·.power)).sum
  let total := core + ((rails.take 7).map (·.power)).sum
  keep s (((s.samples zs rails).totalSample total core).capSample total core)

/-- CAP_WRITE (R411): a write of PWR.CAP, used from the next sample; 0 or 500–6,000, any other value is ignored. -/
def execCapWrite (q : Requester) (v : Word) (s : State) : Host.Outcome State Fault Refusal :=
  let c := PWR_CAP_CAP_DW.of v
  keep s (s.serveWrite q (regAddr pPWR 0x100) v fun s =>
    if c = 0 ∨ (500 ≤ c ∧ c ≤ 6000) then (s.wr pPWR PWR_CAP_CAP_DW c).setPower { s.power with capNew := true } else s)

/-! ### The alert (R412) -/

/-- Set the ALERT term. -/
def State.setAlert (s : State) (k : Nat) : State :=
  (s.setPower { s.power with alert := k }).wr pPWR PWR_STATUS_ALERT_ACTIVE (b2n (decide (k < 34)))

/-- What an alert does: the ALERT term of every region is ALERT_K while the pin is low (R412). -/
def State.alertActs (s : State) : State :=
  let s := s.setPower { s.power with alertLow := true, alertHold := false }
  ((s.setAlert (s.rd pPWR PWR_ALERT_CFG_ALERT_K)).bump pPWR PWR_C_ALERTS).raiseEvt pPWR PWR_EVT_STATUS_ALERT_ASSERTED

/-- ALERT_ASSERT (R405, R412, R473): PWR_ALERT_N has been low for `ns`. Below 100 ns the filter stops it; from 200 ns it acts; between
the two a free value says whether it does. -/
def execAlertAssert (ns : Nat) (s : State) : Host.Outcome State Fault Refusal :=
  keep s (if ns < 100 || s.power.alertLow || s.heldReset then s
    else if 200 ≤ ns then s.alertActs
    else
      let (w, s) := s.draw
      if bit w.toNat 0 then s.alertActs else s)

/-- ALERT_DEASSERT (R412): the pin rises and HOLD_US starts. -/
def execAlertDeassert (s : State) : Host.Outcome State Fault Refusal :=
  keep s (if s.power.alertLow then s.setPower { s.power with alertLow := false, alertHold := true } else s)

/-- ALERT_HOLD_EXPIRY (R412 event 5): the term starts to rise. -/
def execAlertHoldExpiry (s : State) : Host.Outcome State Fault Refusal :=
  keep s (if s.power.alertHold then
      (s.setPower { s.power with alertHold := false }).raiseEvt pPWR PWR_EVT_STATUS_ALERT_RELEASED
    else s)

/-- ALERT_RAMP_TICK (R412): 1 code every 10 µs. -/
def execAlertRampTick (s : State) : Host.Outcome State Fault Refusal :=
  keep s (if s.power.alertLow || s.power.alertHold || decide (34 ≤ s.power.alert) then s else s.setAlert (s.power.alert + 1))

/-! ### Faults of supply and clocks (R401, R403) -/

/-- A region thermal shutdown (R413), or what is handled as one: ACTIVE regions report it under a code, STANDBY ones are
FENCED. -/
def State.shutdown (s : State) (r : Nat) (f : Fld) : State :=
  match s.regionState r with
  | 0 =>
    if s.reports.any fun x => x.cls == .region && x.unit == r && x.page == regPage r && decide (24 ≤ x.code) then s
    else
      let s := (s.raiseErr (regPage r) f).reportOn .region r (regPage r) f (s.jobOf r)
      let s := (s.raiseEvt pTHM THM_EVT_STATUS_REGION_THERMAL_OFF).bump pTHM THM_C_REGION_SHUTDOWNS
      (s.wr (regPage r) REG_PT_STATUS_K_RUN 0).showZone r
  | 1 => ((s.raiseErr (regPage r) f).fenceRegion r 3).showZone r
  | _ => s

/-- ZONE_TIMEOUT (R401): a zone has not reached its RUN request for 200 µs. -/
def execZoneTimeout (r : RegionIx) (s : State) : Host.Outcome State Fault Refusal :=
  let low := decide (vidOf (s.rd (regPage r) REG_PT_STATUS_V_MEAS) < (s.rd (regPage r) REG_PT_STATUS_VID_SENT : Int))
  keep s (if s.zoneMode r = 2 ∧ low then
      (s.raiseErr (regPage r) REG_ERR_STATUS_ZONE_TIMEOUT).bump (regPage r) REG_C_ZONE_TIMEOUTS
    else s)

/-- OVERVOLT (R401): a zone above 0.95 V for 10 µs. -/
def execOvervolt (r : RegionIx) (s : State) : Host.Outcome State Fault Refusal := keep s (s.shutdown r REG_ERR_STATUS_OVERVOLT)

/-- A MODULE fault that a page detects (R353). -/
def State.moduleReport (s : State) (page : Nat) (f : Fld) : State := (s.raiseErr page f).reportOn .module page page f

/-- RAIL_FAULT (R401): another rail outside its tolerance for 10 µs. -/
def execRailFault (rail : Fin 7) (s : State) : Host.Outcome State Fault Refusal :=
  keep s (if s.heldReset then s else (s.wr pPWR PWR_RAIL_OK 0 rail).moduleReport pPWR PWR_ERR_STATUS_RAIL_FAULT)

/-- REFCLK_LOSS (R403). -/
def execRefclkLoss (s : State) : Host.Outcome State Fault Refusal := keep s (s.moduleReport pPWR PWR_ERR_STATUS_REFCLK_LOSS)

/-- CLK_PLL_UNLOCK (R403): the fabric, management or time-base PLL. -/
def execClkPllUnlock (_which : Fin 3) (s : State) : Host.Outcome State Fault Refusal :=
  keep s (s.moduleReport pPWR PWR_ERR_STATUS_CLK_PLL_UNLOCK)

/-- REGION_PLL_UNLOCK (R403): the region's clock stops; the missed heartbeat reports it. -/
def execRegionPllUnlock (r : RegionIx) (s : State) : Host.Outcome State Fault Refusal :=
  keep s (if 3 ≤ s.regionState r then s
    else
      let s := s.setPower { s.power with clockOff := r.val :: s.power.clockOff.filter (· != r.val) }
      (s.raiseErr (regPage r) REG_ERR_STATUS_PLL_UNLOCK).wr (regPage r) REG_PT_STATUS_K_RUN 0)

end Sys2Proof.Machine
end

