-- ==== Sys2Proof/Machine/Thermal.lean ====
section
/-! DEFINITION. Temperature (R413–R416), the user trims (R423), telemetry (R420, R421) and the firmware power loops as far as
the manual lays them down (R402, R430, R431). -/

namespace Sys2Proof.Machine

/-! ### Sensors (R413, R415, R421) -/

/-- A temperature in whole °C as the 1/64 °C of the sensor registers. -/
def degC (c : Nat) : Int := 64 * (c : Int)

/-- The register of a temperature sensor: page, offset; none for an ID of another kind. -/
def sensorReg (id : Nat) : Option (Nat × Nat) :=
  let i := id % 4096
  if id / 4096 = 0 ∧ i < 1344 then some (regPage (i / 16), 0x8000 + 8 * (i % 16))
  else if id / 4096 = 5 ∧ i < 108 then some (pTHM, 0x2000 + 8 * i)
  else none

/-- Whether a sensor is valid, and its last reading. -/
def State.sensorOk (s : State) (id : Nat) : Bool :=
  match sensorReg id with | some (p, o) => (s.getReg (regAddr p o)).toNat / 2 ^ 63 == 1 | none => false
def State.sensorTemp (s : State) (id : Nat) : Int :=
  match sensorReg id with | some (p, o) => signed 16 ((s.getReg (regAddr p o)).toNat % 65536) | none => 0

/-- The trim of a sensor in 1/64 °C: TOFF of its region, in 1/8 °C (R423). -/
def State.sensorTrim (s : State) (id : Nat) : Int := if id < 4096 then 8 * signed 8 (s.rd pCAL CAL_TRIM_TOFF (id / 16)) else 0

/-- Whether a sensor's region clock runs. -/
def State.sensorClock (s : State) (id : Nat) : Bool :=
  decide (id < 4096) && s.zoneMode (id / 16) == 2 && !s.power.clockOff.contains (id / 16)

/-- Take one reading: the register shows it with the trim; readings of the same value are counted (R415). -/
def State.takeReading (s : State) (x : TempReading) : State :=
  match sensorReg x.sensor with
  | none => s
  | some (p, o) =>
    let a := regAddr p o
    let v := x.val + s.sensorTrim x.sensor
    let s := s.setReg a (BitVec.ofNat 64 (putBits (s.getReg a).toNat 15 0 (wrap 16 v)))
    let n := if s.sensorClock x.sensor && tabGet (fun _ => 0) s.power.raw x.sensor == x.val then
      tabGet (fun _ => 0) s.power.same x.sensor + 1 else 0
    s.setPower { s.power with raw := tabSet (fun _ => 0) s.power.raw x.sensor x.val, same := tabSet (fun _ => 0) s.power.same x.sensor n }

/-- A sensor fails: excluded until the next cold reset. -/
def State.sensorFail (s : State) (id : Nat) : State :=
  match sensorReg id with
  | none => s
  | some (p, o) =>
    let a := regAddr p o
    let s := (s.setReg a (BitVec.ofNat 64 (putBits (s.getReg a).toNat 63 63 0))).bump pTHM THM_C_SENSOR_FAILS
    if p = pTHM then s.raiseErr pTHM THM_ERR_STATUS_SENSOR_FAIL
    else
      let ok := maskList 16 (s.rd p REG_PT_TEMP_SENSOR_OK)
      (s.wr p REG_PT_TEMP_SENSOR_OK (maskOf (ok.filter (· != id % 16)))).raiseErr p REG_ERR_STATUS_SENSOR_FAIL

/-- The valid sensors of a region. -/
def State.regionSensors (s : State) (r : Nat) : List Nat := ((List.range 16).map (16 * r + ·)).filter s.sensorOk

/-- Insert into an ascending list. -/
def insertAsc (x : Int) : List Int → List Int
  | [] => [x]
  | y :: ys => if x ≤ y then x :: y :: ys else y :: insertAsc x ys

/-- Twice the median of some readings. -/
def median2 (l : List Int) : Int :=
  let a := l.foldr insertAsc []
  let n := a.length
  if n % 2 = 1 then 2 * a.getD (n / 2) 0 else a.getD (n / 2 - 1) 0 + a.getD (n / 2) 0

/-- Whether a sensor fails by itself: out of −40 to 150 °C, or 1 s of one value while its region's clock runs. -/
def State.badReading (s : State) (id : Nat) : Bool :=
  decide (s.sensorTemp id < -2560) || decide (degC 150 < s.sensorTemp id)
    || decide (100000 ≤ tabGet (fun _ => 0) s.power.same id)

/-- The failures of a region's sensors in this sample. -/
def State.failSensors (s : State) (r : Nat) : State :=
  let s := ((s.regionSensors r).filter s.badReading).foldl (fun s x => s.sensorFail x) s
  let l := s.regionSensors r
  let m := median2 (l.map s.sensorTemp)
  (l.filter fun x => decide (2 * degC 15 < 2 * s.sensorTemp x - m ∨ 2 * s.sensorTemp x - m < -(2 * degC 15))).foldl
    (fun s x => s.sensorFail x) s

/-- The highest of some readings. -/
def hottest (l : List Int) : Int := match l with | [] => 0 | x :: xs => xs.foldl max x

/-- One sample of a region (R413): T_r, the THERM term, shutdown. -/
def State.regionHeat (s : State) (r : Nat) : State :=
  if 3 ≤ s.regionState r then s
  else
    let p := regPage r
    let s := s.failSensors r
    let ok := s.regionSensors r
    let t := hottest (ok.map s.sensorTemp)
    let s := s.wr p REG_PT_TEMP_T_MAX (wrap 16 t)
    let lim := degC (s.rd pCAL CAL_LIMITS_THROTTLE_C)
    let k := s.rd p REG_PT_TEMP_K_THERM
    let n := if t < lim - degC 2 then tabGet (fun _ => 0) s.power.cool r + 1 else 0
    let s := if lim ≤ t then (s.wr p REG_PT_TEMP_K_THERM (k - 4)).bump p REG_C_THROTTLE_EVENTS
      else if n = 100 then s.wr p REG_PT_TEMP_K_THERM (min 34 (k + 1))
      else s
    let s := s.setPower { s.power with cool := tabSet (fun _ => 0) s.power.cool r (n % 100) }
    if degC (s.rd pCAL CAL_LIMITS_SHUTDOWN_C) ≤ t then s.shutdown r REG_ERR_STATUS_THERM_SHUTDOWN
    else if ok.length < 12 then s.shutdown r REG_ERR_STATUS_SENSOR_FAIL
    else s

/-- A stack site's sensor (R413): half rate from 95 °C until it reads below 92 °C. -/
def State.stackHeat (s : State) (site : Nat) : State :=
  let t := s.sensorTemp (0x5000 + site)
  if !s.sensorOk (0x5000 + site) then s
  else if s.power.stackHot.contains site then
    (if t < degC 92 then s.setPower { s.power with stackHot := s.power.stackHot.filter (· != site) } else s)
  else if degC 95 ≤ t then (s.setPower { s.power with stackHot := site :: s.power.stackHot }).bump pTHM THM_C_STACK_THROTTLES
  else s

/-- The module trip (R413): THERM_TRIP_N asserted, every core zone OFF, a MODULE fault. -/
def State.trip (s : State) : State :=
  if s.power.tripped then s
  else
    let s := (s.setPower { s.power with tripped := true }).emit (.pin 0 0)
    let s := (List.range 84).foldl (fun s r => if 3 ≤ s.regionState r then s else (s.wr (regPage r) REG_PT_STATUS_K_RUN 0).showZone r) s
    s.moduleReport pTHM THM_ERR_STATUS_MODULE_TRIP

/-- Every sensor ID of the module: the regions' and THM.OTHER's. -/
def allSensors : List Nat := List.range 1344 ++ (List.range 108).map (0x5000 + ·)

/-- The readings of one sample, and what each sensor, the module, each region and each stack does about its temperature. -/
def State.takeTemps (s : State) (temps : List TempReading) : State :=
  let rs := ((temps.filter fun x => x.sensor < 1344).map fun x => x.sensor / 16).eraseDups
  let os := (temps.filter fun x => 4096 ≤ x.sensor).map (·.sensor)
  let s := temps.foldl (fun s x => s.takeReading x) s
  let s := (os.filter fun x => s.sensorOk x && s.badReading x).foldl (fun s x => s.sensorFail x) s
  let s := if temps.any fun x => s.sensorOk x.sensor && !s.badReading x.sensor
      && decide (degC (s.rd pCAL CAL_LIMITS_TRIP_C) ≤ s.sensorTemp x.sensor) then s.trip else s
  let s := rs.foldl (fun s r => s.regionHeat r) s
  (List.range 26).foldl (fun s i => s.stackHeat i) s

/-- The highest temperature of the sensors that work (R412). -/
def State.hottestNow (s : State) : Int := hottest ((allSensors.filter s.sensorOk).map s.sensorTemp)

/-- THERMAL_SAMPLE (R413, R415): the readings of one sample. Regions whose sensors it names are judged; a trip comes before
anything else (R416). -/
def execThermalSample (temps : List TempReading) (s : State) : Host.Outcome State Fault Refusal :=
  keep s ((s.takeTemps temps).wr pTHM THM_STATUS_T_MAX (wrap 16 (s.takeTemps temps).hottestNow))

/-- READMIT (R15, R414): a THERMAL_OFF region has stayed below READMIT_C for 1 s: it becomes STANDBY at the next step release
of any job, at once where no job is RUNNING. -/
def execReadmit (r : RegionIx) (s : State) : Host.Outcome State Fault Refusal :=
  let t := signed 16 (s.rd (regPage r) REG_PT_TEMP_T_MAX)
  keep s (if s.regionState r = 2 ∧ t < degC (s.rd pTHM THM_LIMITS_READMIT_C) then
      (s.setPower { s.power with cooled := s.power.cooled.filter (· != r.val) ++ [r.val] }).readmitIdle
    else s)

/-! ### User trims (R423) -/

/-- TRIM_WRITE (R423): all three fields in their bounds, or the write is ignored with TRIM_RANGE. -/
def execTrimWrite (q : Requester) (r : RegionIx) (v : Word) (s : State) : Host.Outcome State Fault Refusal :=
  let inside := fun (f : Fld) (n : Int) => decide (-n ≤ signed 8 (f.of v)) && decide (signed 8 (f.of v) ≤ n)
  keep s (s.serveWrite q (regAddr pCAL (0x2000 + 8 * r)) v fun s =>
    if inside CAL_TRIM_IGAIN 20 && inside CAL_TRIM_TOFF 16 && inside CAL_TRIM_VOFF 8 then
      s.plainWrite (regAddr pCAL (0x2000 + 8 * r)) v
    else s.raiseErr pCAL CAL_ERR_STATUS_TRIM_RANGE)

/-! ### Telemetry (R420, R421) -/

/-- EN, PERIOD_US and COUNT of a telemetry set; a set runs while EN is 1 and COUNT is 1–60. -/
def State.setEntry (s : State) (k : Nat) : Nat × Nat × Nat :=
  (s.rd pTHM THM_TSET_EN k, s.rd pTHM THM_TSET_PERIOD_US k, s.rd pTHM THM_TSET_COUNT k)

/-- Whether sets as (EN, PERIOD_US, COUNT) read more than 10⁶ values per second together. -/
def overload (l : List (Nat × Nat × Nat)) : Bool :=
  let f := l.foldl (fun (a : Nat × Nat) x => if x.1 = 0 ∨ x.2.1 = 0 then a else (a.1 * x.2.1 + x.2.2 * a.2, a.2 * x.2.1)) (0, 1)
  decide (f.2 < f.1)

/-- TSET_WRITE (R420): a field outside its range keeps its value; a write that would exceed the load is ignored. -/
def execTsetWrite (q : Requester) (set word : Fin 16) (v : Word) (s : State) : Host.Outcome State Fault Refusal :=
  let addr := regAddr pTHM (0x1000 + 0x80 * set + 8 * word)
  keep s (s.serveWrite q addr v fun s =>
    if word.val ≠ 0 then s.plainWrite addr v
    else
      let p := THM_TSET_PERIOD_US.of v
      let c := THM_TSET_COUNT.of v
      let new := (THM_TSET_EN.of v, if 100 ≤ p ∧ p ≤ 16000000 then p else s.rd pTHM THM_TSET_PERIOD_US set,
        if 1 ≤ c ∧ c ≤ 60 then c else s.rd pTHM THM_TSET_COUNT set)
      if overload (new :: ((List.range 16).filter (· != set.val)).map s.setEntry) then s.raiseErr pTHM THM_ERR_STATUS_TELEM_LOAD
      else s.wrs pTHM [(THM_TSET_EN, new.1), (THM_TSET_PERIOD_US, new.2.1), (THM_TSET_COUNT, new.2.2)] set)

/-- Voltage in 0.25 mV, current in 0.1 A and power in 0.1 W of a rail: core zones 0–83, the others 84–90. -/
def State.railVolts (s : State) (i : Nat) : Nat :=
  if i < 84 then s.rd (regPage i) REG_PT_STATUS_V_MEAS else s.rd pPWR PWR_RAIL_V_MEAS (i - 84)
def State.railAmps (s : State) (i : Nat) : Nat :=
  if i < 84 then s.rd (regPage i) REG_PT_STATUS_I_MEAS else s.rd pPWR PWR_RAIL_I_MEAS (i - 84)

/-- What a sensor ID reads as (R421); 0x8000 for an ID of any other form. -/
def State.sensorValue (s : State) (id : Nat) : Nat :=
  let i := id % 4096
  let w := fun v => v % 65536
  match id / 4096 with
  | 0 | 5 => if (sensorReg id).isSome then wrap 16 (s.sensorTemp id) else 0x8000
  | 1 => if i < 91 then w (s.railVolts i) else 0x8000
  | 2 => if i < 91 then w (s.railAmps i) else 0x8000
  | 3 => if i < 91 then w (s.railVolts i * s.railAmps i / 4000) else 0x8000
  | 4 =>
    if i < 84 then
      (if s.zoneMode i = 2 ∧ i ∉ s.power.clockOff then clockMhz (s.rd (regPage i) REG_PT_STATUS_K_RUN) else 0)
    else 0x8000
  | 6 => match i with
    | 0 => s.rd pPWR PWR_MEAS_TOTAL_W
    | 1 => s.rd pPWR PWR_MEAS_CORE_W
    | 2 => s.rd pPWR PWR_MEAS_AVG100_W
    | _ => 0x8000
  | _ => 0x8000

/-- The record of a set (R420). -/
def State.telemetry (s : State) (k : Nat) : List Byte :=
  let n := s.rd pTHM THM_TSET_COUNT k
  let id := fun j => s.rd pTHM { THM_TSET_IDS with off := THM_TSET_IDS.off + 8 * (j / 4) } k / 2 ^ (16 * (j % 4)) % 65536
  leBytes 8 s.tb.count ++ leBytes 2 k ++ leBytes 2 n ++ leBytes 4 0 ++ (List.range n).flatMap fun j => leBytes 2 (s.sensorValue (id j))

/-- Whether the management core runs: an image is loaded and a core is well (R424, R434). -/
def State.mmcRuns (s : State) : Bool := decide (3 ≤ s.stage) && s.stage != 0xFE && s.rd pFWC FWC_STATUS_MMC_FAILED == 0

/-- TELEMETRY_RECORD (R420, R441): one record of a valid set; a record that no lane can take is dropped. -/
def execTelemetryRecord (set : Fin 16) (s : State) : Host.Outcome State Fault Refusal :=
  let (en, _, n) := s.setEntry set
  keep s (if en = 0 ∨ n = 0 ∨ !s.mmcRuns then s
    else if !s.mgtUp then s.bump pTHM THM_C_TELEM_OVERRUNS
    else (s.sendMgt 0x50 30 (s.telemetry set)).bump pTHM THM_C_TELEM_RECORDS)

/-! ### The firmware loops (R402, R430, R431) -/

/-- VOUT_MAX in mV and IOUT_OC_FAULT_LIMIT in A of a rail by its sensor INDEX (R402). -/
def pmbusLimits (i : Nat) : Nat × Nat :=
  if i < 84 then (920, 1425)
  else [(830, 4500), (780, 2400), (1140, 3600), (935, 1800), (3450, 600), (830, 90), (1920, 15)].getD (i - 84) (0, 0)

/-- A number of at least 0 in the LINEAR11 format: an exponent in bits [15:11], a mantissa of at most 1,023, rounded down. -/
def linear11 (n : Nat) : Nat :=
  let e := ((List.range 16).find? fun e => decide (n / 2 ^ e ≤ 1023)).getD 15
  e * 2 ^ 11 + n / 2 ^ e

/-- The setup of R402 of every listed device, as command × 2^32 + value: VOUT_MODE 0x20 is read, OPERATION 0x01, VOUT_MAX 0x24 in the
device's encoding and IOUT_OC_FAULT_LIMIT 0x46 in LINEAR11 are written. -/
def State.pmbusWrites (s : State) : State :=
  let s := ((List.range 91).filter fun i => s.rd pPWR PWR_PMBUS_VALID i == 1).foldl (fun (s : State) i =>
    let (v, a) := pmbusLimits i
    [0x20 * 2 ^ 32, 0x01 * 2 ^ 32 + 0x80, 0x24 * 2 ^ 32 + (Config.voutCode i v).toNat, 0x46 * 2 ^ 32 + linear11 a].foldl
      (fun s w => s.emit (.pmbus i (BitVec.ofNat 64 w))) s) s
  { s with dock := { s.dock with pmbusDone := true } }

/-- Whether the setup waits: done, or no entry of PWR.PMBUS valid yet (R451). -/
def State.pmbusWaits (s : State) : Bool :=
  s.dock.pmbusDone || !(List.range 91).any fun i => s.rd pPWR PWR_PMBUS_VALID i == 1

/-- The setup once entries are valid; dockets wait for it (R430). -/
def State.pmbusSetup (s : State) : State := if s.pmbusWaits then s else s.pmbusWrites.admitNext

/-- MMC_POWER_LOOP (R430, R431): a PT_BUDGET for every ACTIVE region, whatever the firmware picks, together within the cap;
at its first run also the PMBus settings. -/
def execMmcPowerLoop (s : State) : Host.Outcome State Fault Refusal :=
  keepQ s (if !s.mmcRuns then s
    else
      let s := s.pmbusSetup
      let cap := if s.capDw = 0 then 100 * s.rd pCAL CAL_LIMITS_CORE_MAX_DW else s.capDw
      let active := (List.range 84).filter fun r => s.regionState r == 0
      (active.foldl (fun (a : State × Nat) r =>
        let b := min a.2 (Config.loopBudget r (a.1.rd pPWR PWR_MEAS_TOTAL_W)).toNat
        (a.1.wr (regPage r) REG_PT_BUDGET_BUDGET_DW b, a.2 - b)) (s, cap)).1)

/-- Write PT_REQ as a region's firmware does: CLK_K 0 under a budget of 0, and never above 34. -/
def State.loopRequest (s : State) (r : Nat) : State :=
  let p := regPage r
  let b := s.rd p REG_PT_BUDGET_BUDGET_DW
  let v := Config.loopPtReq r b (s.rd p REG_PT_TEMP_T_MAX)
  let k := REG_PT_REQ_CLK_K.of v
  let k := if b = 0 then 0 else if 34 < k then s.rd p REG_PT_REQ_CLK_K else k
  s.wrs p [(REG_PT_REQ_CLK_K, k), (REG_PT_REQ_VID, REG_PT_REQ_VID.of v)]

/-- RCC_POWER_LOOP (R430, R431): a running control complex writes PT_REQ. -/
def execRccPowerLoop (r : RegionIx) (s : State) : Host.Outcome State Fault Refusal :=
  keep s (if s.rd pFWC FWC_RCC_STATE r = 1 ∧ s.regionState r < 3 then s.loopRequest r else s)

end Sys2Proof.Machine
end

