-- ==== Sys2Proof/Machine/TimeBase.lean ====
section
/-! DEFINITION. The time base (R45, R46) and its lock servo (R417–R419). -/

namespace Sys2Proof.Machine

/-! ### Counting and adjusting (R45, R46, R417) -/

/-- Replace the time base. -/
def State.setTb (s : State) (t : TimeBase) : State := { s with tb := t }

/-- Set the slew that is still to be absorbed, and show SLEWING. A nanosecond of the old slew that is partly absorbed starts
again (DESIGN CHOICE, log 150). -/
def State.setSlew (s : State) (n : Nat) : State :=
  (s.setTb { s.tb with slew := n, slewFrac := 0 }).wr pTBASE TBASE_STATUS_SLEWING (b2n (n != 0))

/-- Step COUNT forward. -/
def State.stepCount (s : State) (n : Nat) : State := s.setTb { s.tb with count := (s.tb.count + n) % 2 ^ 64 }

/-- Apply an adjustment: the remainder is it plus the slew not yet absorbed; a positive remainder steps COUNT, a negative one
is slewed out. -/
def State.applyAdjust (s : State) (off : Int) : State :=
  let rem := off - s.tb.slew
  if 0 ≤ rem then (s.stepCount rem.toNat).setSlew 0 else s.setSlew (-rem).toNat

/-- Whether an adjustment is refused: its remainder lies below −100,000,000 ns. -/
def State.adjustBad (s : State) (off : Int) : Bool := decide (off - s.tb.slew < -100000000)

/-- Lose the lock (R418). -/
def State.loseLock (s : State) : State :=
  if s.rd pTBASE TBASE_STATUS_LOCKED = 0 then s
  else ((s.wr pTBASE TBASE_STATUS_LOCKED 0).bump pCAL CAL_C_TB_LOSSES).setPower { s.power with near := 0 }

/-- TBASE_ADJUST (R46, R418). -/
def execTbaseAdjust (q : Requester) (v : Word) (s : State) : Host.Outcome State Fault Refusal :=
  let off := signed 48 (TBASE_ADJUST_OFFSET.of v)
  keep s (s.serveWrite q (regAddr pTBASE 0x110) v fun s =>
    if s.adjustBad off then s.raiseErr pTBASE TBASE_ERR_STATUS_ADJ_RANGE
    else
      let s := s.applyAdjust off
      if off % 1000000000 = 0 ∧ s.rd pTBASE TBASE_STATUS_SOURCE = 1 then s else s.loseLock)


/-- RATE_TRIM (R417): within ±100,000, or refused with ADJ_RANGE. -/
def execRateTrim (q : Requester) (v : Word) (s : State) : Host.Outcome State Fault Refusal :=
  let ppb := signed 24 (TBASE_RATE_TRIM_PPB.of v)
  keep s (s.serveWrite q (regAddr pTBASE 0x118) v fun s =>
    if -100000 ≤ ppb ∧ ppb ≤ 100000 then s.wr pTBASE TBASE_RATE_TRIM_PPB (TBASE_RATE_TRIM_PPB.of v)
    else s.raiseErr pTBASE TBASE_ERR_STATUS_ADJ_RANGE)

/-- RATE_TRIM + RATE_PPB (R417). -/
def State.ratePpb (s : State) : Int :=
  signed 24 (s.rd pTBASE TBASE_RATE_TRIM_PPB) + signed 32 (s.rd pCAL CAL_TB_STAT_RATE_PPB)

/-- One nanosecond of the clock (R46, R417): COUNT gains one, one more or none as the rate terms and a running slew have added
up. -/
def State.tickClock (s : State) : State :=
  let t := s.tb
  let rate := t.rateFrac + s.ratePpb
  let (extra, rate) := if 1000000000 ≤ rate then ((1 : Int), rate - 1000000000)
    else if rate ≤ -1000000000 then (-1, rate + 1000000000) else (0, rate)
  let frac := if t.slew = 0 then 0 else t.slewFrac + 1
  -- a nanosecond that the rate terms already hold back absorbs none of the slew: COUNT never decreases (R45)
  let hold := decide (1000 ≤ frac ∧ extra ≠ -1)
  let slew := if hold then t.slew - 1 else t.slew
  let gain := (1 + extra - (if hold then 1 else 0)).toNat
  let s := s.setTb {
    count := (t.count + gain) % 2 ^ 64, slew := slew, slewFrac := if hold then frac - 1000 else frac, rateFrac := rate, ref := t.ref + 1 }
  if slew = 0 ∧ t.slew ≠ 0 then s.wr pTBASE TBASE_STATUS_SLEWING 0 else s

/-- The docket unit takes up the dockets that wait once a slot is FREE and none is ADMITTING (R159; DESIGN CHOICE, log 153). -/
def State.tickDocket (s : State) : State :=
  if s.dock.behind.isEmpty || !s.on pDOCK || s.resets.any (fun x => x.1 != .block) then s
  else { s.admitNext with mem := Memory.canon s.admitNext.mem, pending := s.pending }

/-- One nanosecond of reference time. -/
def State.tick (s : State) : State := { s.tickClock.tickDocket.tickCe.tickNet with tb := s.tickClock.tb }

/-- The reference time that absorbs what is left of a slew passes at once: COUNT gains that time with what the rate terms make
of it, less the slew. -/
def State.absorbSlew (s : State) : State :=
  let t := s.tb
  let n := 1000 * t.slew - t.slewFrac
  let rate := t.rateFrac + s.ratePpb * n
  let extra := rate.tdiv 1000000000
  s.setTb { t with
    count := (t.count + ((n : Int) + extra - t.slew).toNat) % 2 ^ 64, rateFrac := rate - 1000000000 * extra, ref := t.ref + n }

/-- SLEW_DONE (R46): the whole magnitude has been absorbed, what the clock has not counted yet in this step (DESIGN CHOICE,
log 150). -/
def execSlewDone (s : State) : Host.Outcome State Fault Refusal := keep s (s.absorbSlew.setSlew 0)

/-! ### The lock servo (R418) -/

/-- Show θ, saturated, in CAL.TB_STAT. -/
def State.showOffset (s : State) (th : Int) : State :=
  s.wr pCAL CAL_TB_STAT_OFFSET_NS (wrap 32 (max (-2147483647) (min 2147483647 th)))

/-- A value between 0 and a bound of either sign. -/
def within (v bound : Int) : Int := if 0 ≤ bound then max 0 (min bound v) else min 0 (max bound v)

/-- |θ| ≤ 1,000 ns: the rate term is adjusted within its bound, and what the servo takes of the phase is slewed; a third
measurement in a row within 50 ns locks. -/
def State.trackTb (s : State) (th : Int) (src : Nat) : State :=
  let rate := signed 32 (s.rd pCAL CAL_TB_STAT_RATE_PPB) + Config.servoAdjust th
  let s := s.wr pCAL CAL_TB_STAT_RATE_PPB (wrap 32 (max (-100000) (min 100000 rate)))
  let phase := within (Config.servoPhase th) th
  let s := if s.adjustBad phase then s else s.applyAdjust phase
  let n := if -50 ≤ th ∧ th ≤ 50 then s.power.near + 1 else 0
  let s := s.setPower { s.power with near := min 3 n }
  if 3 ≤ n then s.wrs pTBASE [(TBASE_STATUS_LOCKED, 1), (TBASE_STATUS_SOURCE, src)] else s

/-- One measurement of a source: 1 TB_PPS, 2 S-port sync. -/
def State.servo (s : State) (th : Int) (src : Nat) : State :=
  let s := (s.showOffset th).bump pCAL CAL_C_TB_SYNCS
  let far := fun (s : State) => s.setPower { s.power with near := 0 }
  if s.rd pTBASE TBASE_STATUS_LOCKED = 1 then
    (if th < -500 ∨ 500 < th then s.loseLock else s.trackTb th src)
  else if 1000 < th then (far (s.applyAdjust th)).bump pCAL CAL_C_TB_STEPS
  else if th < -1000 then
    if src = 1 then (far (s.applyAdjust (1000000000 + th))).bump pCAL CAL_C_TB_STEPS
    else if -2000000 ≤ th then (if s.adjustBad th then far s else far (s.applyAdjust th))
    else (far s).raiseErr pCAL CAL_ERR_STATUS_TB_AHEAD
  else s.trackTb th src

/-- PPS_EDGE (R45, R418): a rising edge of TB_PPS, captured at COUNT; with SRC_SEL 1 it is a measurement. -/
def execPpsEdge (s : State) : Host.Outcome State Fault Refusal :=
  keep s (if s.rd pTBASE TBASE_CTRL_PPS_EN = 0 then s
    else
      let s := (s.wr pTBASE TBASE_PPS_CAPTURE_COUNT_AT_EDGE s.tb.count).bump pTBASE TBASE_C_PPS_EDGES
      let m := s.tb.count % 1000000000
      let th : Int := if m < 500000000 then -(m : Int) else 1000000000 - (m : Int)
      if s.rd pCAL CAL_TB_CFG_SRC_SEL = 1 then s.servo th 1 else s)

/-- PPS_MISSING (R45, R418): no edge for 1.1 s. -/
def execPpsMissing (s : State) : Host.Outcome State Fault Refusal :=
  keep s (if s.rd pTBASE TBASE_CTRL_PPS_EN = 1 ∧ s.rd pTBASE TBASE_STATUS_SOURCE = 1 then
      ((s.raiseErr pTBASE TBASE_ERR_STATUS_PPS_MISSING).bump pTBASE TBASE_C_PPS_MISSING_COUNT).loseLock
    else s)

/-! ### S-port sync (R419) -/

/-- A TSYNC payload: LTYPE, SEQ, T1, T2, T3. -/
def tsyncBody (ltype seq t1 t2 t3 : Nat) : List Byte :=
  leBytes 1 ltype ++ leBytes 3 0 ++ leBytes 4 seq ++ leBytes 8 t1 ++ leBytes 8 t2 ++ leBytes 8 t3 ++ leBytes 8 0

/-- TSYNC_TICK (R419): a request on the sync S-port, while S-port sync is the selected source. -/
def execTsyncTick (s : State) : Host.Outcome State Fault Refusal :=
  let p := s.rd pCAL CAL_TB_CFG_SPORT
  keep s (if s.rd pCAL CAL_TB_CFG_SRC_SEL = 2 ∧ s.portExists p ∧ s.isS p ∧ s.portUp p then
      let n := s.power.syncSeq
      let s := s.setPower { s.power with sync := some (n, s.tb.count), syncSeq := (n + 1) % 2 ^ 32 }
      s.sendOn p ⟨7, 0#64, 0, 0, none, tsyncBody 2 n s.tb.count 0 0⟩
    else s)

/-- An exchange without a valid answer: the eighth in a row loses the lock (R418, R419). -/
def State.syncMissed (s : State) : State :=
  let n := s.power.syncMiss + 1
  let s := (s.setPower { s.power with sync := none, syncMiss := n }).bump pCAL CAL_C_TB_SYNC_MISSES
  if 8 ≤ n ∧ s.rd pTBASE TBASE_STATUS_SOURCE = 2 then s.loseLock else s

/-- TSYNC_RESP (R419): the answer with the request's SEQ; t4 is COUNT at its first bit. -/
def execTsyncResp (port : PortIx) (seq t2 t3 t4 : Nat) (s : State) : Host.Outcome State Fault Refusal :=
  keep s (if s.rd pCAL CAL_TB_CFG_SRC_SEL ≠ 2 ∨ s.rd pCAL CAL_TB_CFG_SPORT ≠ port then s
    else match s.power.sync with
    | none => s.bump pCAL CAL_C_TB_SYNC_MISSES
    | some (n, t1) =>
      if n ≠ seq then s.bump pCAL CAL_C_TB_SYNC_MISSES
      else
        let th := (((t2 : Int) - t1) + ((t3 : Int) - t4)) / 2
        let delay := (((t4 : Int) - t1) - ((t3 : Int) - t2)) / 2
        let s := s.setPower { s.power with sync := none, syncMiss := 0 }
        (s.wr pCAL CAL_TB_DELAY_PATH_NS (wrap 32 delay)).servo th 2)

/-- TSYNC_MISS (R419): no answer within 1 ms. -/
def execTsyncMiss (s : State) : Host.Outcome State Fault Refusal :=
  keep s (if s.power.sync.isSome then s.syncMissed else s)

end Sys2Proof.Machine
end

