-- ==== Sys2Proof/Machine/Firmware.lean ====
section
/-! DEFINITION. The firmware complexes (R424–R434): protection traps, watchdogs, restarts, spare cores, the twin of the
management core. A restart takes its firmware from the verified copy, which nothing changes while the module runs (R429). -/

namespace Sys2Proof.Machine

/-! ### Region control complexes (R432, R433) -/

/-- Whether a core of a region's complex is healthy. -/
def State.coreOk (s : State) (r c : Nat) : Bool := bit (s.rd pFWC FWC_RCC_CORES_OK r) c

/-- Whether a core is one of the two active ones: core 2 is the spare until it has taken a role (DESIGN CHOICE, log 45). -/
def State.coreActive (s : State) (r c : Nat) : Bool :=
  if s.rd pFWC FWC_RCC_SPARE_USED r = 1 then s.coreOk r c else decide (c < 2)

/-- The crashes of a region's complex within a span of reference time in ns. -/
def State.recentCrashes (s : State) (r span : Nat) : List (Nat × Nat × Nat) :=
  s.fw.crashes.filter fun x => x.2.1 == r && decide (s.tb.ref ≤ x.1 + span)

/-- CRASHES_60S as it stands. -/
def State.crashes60 (s : State) (r : Nat) : Nat := (s.recentCrashes r 60000000000).length

/-- An RCC with fewer than two healthy cores, or five crashes in 60 s, becomes FAILED. -/
def State.rccJudge (s : State) (r : Nat) : State :=
  if (maskList 3 (s.rd pFWC FWC_RCC_CORES_OK r)).length < 2 ∨ 5 ≤ s.crashes60 r then
    (s.wr pFWC FWC_RCC_STATE 3 r).raiseErr pFWC FWC_ERR_STATUS_RCC_FAILED
  else s

/-- A core fails; an active one hands its role to the spare at the next restart. -/
def State.coreFails (s : State) (r c : Nat) : State :=
  if !s.coreOk r c then s
  else
    let active := s.coreActive r c
    let s := s.wr pFWC FWC_RCC_CORES_OK (s.rd pFWC FWC_RCC_CORES_OK r - 2 ^ c) r
    if active then { s with fw := { s.fw with swap := s.fw.swap ++ [(r, c)] } } else s

/-- MPU_TRAP (R425): the component alone restarts; its setpoints stay. -/
def execMpuTrap (cpx : Requester) (s : State) : Host.Outcome State Fault Refusal :=
  let runs := match cpx with
    | .rcc r => s.rd pFWC FWC_RCC_STATE r == 1
    | .mmc => s.mmcRuns
    | .mgmt | .jtag => false
  keep s (if runs then (s.raiseErr pFWC FWC_ERR_STATUS_MPU_VIOLATION).bump pFWC FWC_C_MPU_VIOLATIONS else s)

/-- A crash of a core of a complex, recorded (R433): with the state no longer RUNNING the FW term of R407 is 0. -/
def State.rccCrash (s : State) (r core : Nat) : State :=
  let cause := if s.fw.swap.contains (r, core) then 3 else 1
  let s := (s.raiseErr pFWC FWC_ERR_STATUS_RCC_CRASH).bump pFWC FWC_C_RCC_CRASHES
  let old := s.fw.crashes.filter fun x => decide (s.tb.ref ≤ x.1 + 60000000000)
  let s : State := { s with fw := { s.fw with crashes := old ++ [(s.tb.ref, r, core)] } }
  s.wrs pFWC [(FWC_RCC_STATE, 2), (FWC_RCC_LAST_CAUSE, cause), (FWC_RCC_CRASHES_60S, s.crashes60 r)] r

/-- How often one core of a complex crashed in the last 10 s. -/
def State.coreCrashes (s : State) (r core : Nat) : Nat := ((s.recentCrashes r 10000000000).filter fun x => x.2.2 == core).length

/-- RCC_WATCHDOG (R432 events 2 and 3, R433): an active core of a running complex has missed the heartbeat; its third crash in
10 s fails the core. -/
def execRccWatchdog (r : RegionIx) (core : Fin 3) (s : State) : Host.Outcome State Fault Refusal :=
  keep s (
    if s.rd pFWC FWC_RCC_STATE r ≠ 1 ∨ !s.coreActive r core then s
    else
      let t := s.rccCrash r core
      (if 3 ≤ t.coreCrashes r core then t.coreFails r core else t).rccJudge r)

/-- RCC_RESTART_DONE (R432 event 5, R433): the spare has taken a failed core's role, the loops write PT_REQ, the state becomes
RUNNING. -/
def execRccRestartDone (r : RegionIx) (s : State) : Host.Outcome State Fault Refusal :=
  keep s (
    if s.rd pFWC FWC_RCC_STATE r ≠ 2 then s
    else
      let swap := s.fw.swap.any fun x => x.1 == r.val
      let s : State := { s with fw := { s.fw with swap := s.fw.swap.filter fun x => x.1 != r.val } }
      let s := if swap then ((s.wr pFWC FWC_RCC_SPARE_USED 1 r).raiseErr pFWC FWC_ERR_STATUS_CORE_FAIL).bump pFWC FWC_C_RCC_SPARE_SWAPS
        else s
      let s := (s.loopRequest r).wrs pFWC [(FWC_RCC_STATE, 1), (FWC_RCC_RESTARTS, s.rd pFWC FWC_RCC_RESTARTS r + 1)] r
      (s.bump pFWC FWC_C_RCC_RESTARTS).raiseEvt pFWC FWC_EVT_STATUS_RCC_RESTARTED)

/-! ### The module management cores (R434) -/

/-- The core that is not active. -/
def State.twin (s : State) : Nat := 1 - s.rd pFWC FWC_STATUS_MMC_ACTIVE

/-- MMC_WATCHDOG (R434 events 2 and 3): the twin is promoted if it stands ready; else no core can run (DEDUCED, log 46). -/
def execMmcWatchdog (s : State) : Host.Outcome State Fault Refusal :=
  keep s (
    if !s.mmcRuns then s
    else
      let s := s.raiseErr pFWC FWC_ERR_STATUS_MMC_CRASH
      if s.rd pFWC FWC_STATUS_TWIN_READY = 1 then
        ((s.wrs pFWC [(FWC_STATUS_MMC_ACTIVE, s.twin), (FWC_STATUS_TWIN_READY, 0)]).raiseEvt pFWC
          FWC_EVT_STATUS_MMC_FAILOVER).bump pFWC FWC_C_MMC_FAILOVERS
      else s.wr pFWC FWC_STATUS_MMC_FAILED 1)

/-- MMC_TWIN_READY (R434 event 4): the crashed core has restarted as the twin, unless it failed its own checks. -/
def execMmcTwinReady (s : State) : Host.Outcome State Fault Refusal :=
  keep s (if s.mmcRuns && !s.fw.mmcOut.contains s.twin then s.wr pFWC FWC_STATUS_TWIN_READY 1 else s)

/-- CORE_CHECK_FAIL (R433, R434): a core's own uncorrectable-error checks fire. A failed MMC core stays out; with both out no
core can run. -/
def execCoreCheckFail (cpx : Requester) (core : Fin 3) (s : State) : Host.Outcome State Fault Refusal :=
  keep s (match cpx with
    | .rcc r =>
      if s.rd pFWC FWC_RCC_STATE r = 1 ∨ s.rd pFWC FWC_RCC_STATE r = 2 then (s.coreFails r core).rccJudge r else s
    | .mmc =>
      if 2 ≤ core.val ∨ !s.mmcRuns then s
      else
        let out := core.val :: s.fw.mmcOut.filter (· != core.val)
        let s : State := { s with fw := { s.fw with mmcOut := out } }
        let s := if core.val = s.twin then s.wr pFWC FWC_STATUS_TWIN_READY 0 else s
        if out.length = 2 then s.wr pFWC FWC_STATUS_MMC_FAILED 1 else s
    | .mgmt | .jtag => s)

end Sys2Proof.Machine
end

