-- ==== Sys2Proof/Machine/Boot.lean ====
section
/-! DEFINITION. Boot (R448–R460) and the sideband pins that start and end a cold reset (R470–R480). -/

namespace Sys2Proof.Machine

/-! ### Cold reset (R36, R449, R470) -/

/-- The fuses put every region that the factory fused off in FUSED_OFF (R13, R14, R16). -/
def State.showFuses (s : State) : State := s.fused.foldl (fun s r => s.wr pPLC PLC_REGION_STATE 4 r) s

/-- A cold reset from its start (R36, R37): fuses, the cellar's images and the trip latch stay, and the line remaps where power was
held (R392); every block is as it is after power-up, with new nonces, in SELFTEST. -/
def State.coldStart (s : State) (source : Nat) (boot : Boot) (power : PowerSt) : State :=
  let t := s.loadReset .cold 0
  let fresh : State := {
    regs := t.regs, free := s.free, fused := s.fused, boot := boot,
    cellar := { images := s.cellar.images, bad := s.cellar.bad, corr := s.cellar.corr },
    flt := { lines := if source = 0 then [] else s.flt.lines }, power := power, out := s.out, pending := s.pending }
  fresh.showFuses.newExpertNonce.newProvNonce.resetCause source 0

/-- What the trip latch keeps through a cold reset under power: the trip, and the readings that its release looks at (R472). -/
def State.latched (s : State) : PowerSt := if s.power.tripped then { tripped := true, raw := s.power.raw } else {}

/-- POWER_UP (R449): a cold reset from power-up; the pin MOD_RESET_N is as it was. -/
def execPowerUp (s : State) : Host.Outcome State Fault Refusal :=
  keep s (s.coldStart 0 { pinLow := s.boot.pinLow } {})

/-- MOD_RESET_ASSERT (R470): a cold reset that lasts while the pin is low; zone frames stop, their lines go low, the
transmitters are off. -/
def execModResetAssert (s : State) : Host.Outcome State Fault Refusal :=
  keep s ((s.coldStart 1 { pinLow := true, extest := s.boot.extest } s.latched).emit (.pin 2 0))

/-- Release THERM_TRIP_N if no sensor reads at or above TRIP_C (R472). -/
def State.releaseTrip (s : State) : State :=
  if !s.power.tripped then s
  else if s.power.raw.any fun x => decide (degC (s.rd pCAL CAL_LIMITS_TRIP_C) ≤ x.2) then s
  else (s.setPower {}).emit (.pin 0 1)

/-- MOD_RESET_RELEASE (R449, R472): SELFTEST is entered, unless EXTEST still holds the module. -/
def execModResetRelease (s : State) : Host.Outcome State Fault Refusal :=
  keep s (if s.boot.pinLow then
      (s.coldStart (s.rd pGLB GLB_RESET_CAUSE_SOURCE) { extest := s.boot.extest } s.latched).releaseTrip
    else s)

/-- EXTEST_ENTER (R479): the module holds itself in cold reset. -/
def execExtestEnter (s : State) : Host.Outcome State Fault Refusal :=
  keep s (if s.boot.extest then s
    else (s.coldStart 4 { pinLow := s.boot.pinLow, extest := true } s.latched).emit (.pin 2 0))

/-- EXTEST_LEAVE (R479): a cold reset from SELFTEST. -/
def execExtestLeave (s : State) : Host.Outcome State Fault Refusal :=
  keep s (if s.boot.extest then s.coldStart 4 { pinLow := s.boot.pinLow } s.latched else s)

/-- PRESENT_LOSS (R474, R353, R480): a failure of the land grid, with MOD_RESET_N high. No ERR_STATUS bit names it; the report
rests on FLT.ERR_STATUS.MODULE_FAULT (DESIGN CHOICE, log 47). -/
def execPresentLoss (s : State) : Host.Outcome State Fault Refusal :=
  keep s (if s.heldReset then s else s.reportOn .module pFLT pFLT FLT_ERR_STATUS_MODULE_FAULT)

/-! ### SELFTEST (R450) -/

/-- SELFTEST_DONE (R450): route bank 0 holds the default table, which passes the check on every module (R315). -/
def execSelftestDone (ok : Bool) (s : State) : Host.Outcome State Fault Refusal :=
  keep s (if s.stage ≠ 1 ∨ s.heldReset then s
    else if ok then s.loadDefaultRoutes.setStage 2
    else s.setStage 0xFE)

/-! ### REGION_BIST (R452) -/

/-- A unit is back in service, so its page is no longer dead (R31). -/
def State.revivePage (s : State) (page : Nat) : State := { s with dead := s.dead.filter fun d => d.1 != page }

/-- Entry to REGION_BIST: every region that is not FUSED_OFF is held FENCED, its control complex OFF (R15, R424). -/
def State.enterBist (s : State) : State :=
  let s := (List.range 84).foldl (fun s r =>
    if s.regionState r = 4 then s
    else (((s.killPage (regPage r)).wr pPLC PLC_REGION_STATE 3 r).wr pFWC FWC_RCC_STATE 0 r).showZone r) s
  s.updateBypass.setStage 3

/-- Take a column map back to the unshifted one. -/
def State.unshift (s : State) (r : Nat) : State :=
  let p := regPage r
  let was := s.rd p REG_TILE_MAP_SHIFTED
  let s := s.wrs p [(REG_TILE_MAP_SHIFTED, 0), (REG_TILE_MAP_FAILED_COL, 0x1F), (REG_TILE_MAP_SPARE_LOST, 0)]
  if was = 0 then s else (List.range 256).foldl (fun s t => s.wr p REG_TILE_FLAGS_PHYS_COL (t % 16) t) s

/-- The order in which passing regions stay STANDBY (R452). -/
def standbyOrder : List Nat := [0, 5, 78, 83]

/-- A region passes: its failed column shifts, it leaves FENCED for STANDBY or ACTIVE, its control complex starts. -/
def State.passRegion (s : State) (r : Nat) (cols : List Nat) (standby : Bool) : State :=
  let s := (s.revivePage (regPage r)).unshift r
  let s := match cols with
    | [] => s
    | f :: _ => if f = 16 then s.wr (regPage r) REG_TILE_MAP_SPARE_LOST 1 else s.shiftCols r f
  ((s.wr pPLC PLC_REGION_STATE (b2n standby) r).wr pFWC FWC_RCC_STATE 1 r).showZone r

/-- REGION_BIST_DONE (R452, R19, R20): `failCols` lists 32 × region + physical column for each column with a failed tile,
`failed` the regions that fail otherwise. A second failed column fails the region. -/
def execRegionBistDone (failCols failed : List Nat) (s : State) : Host.Outcome State Fault Refusal :=
  let cols := fun r => ((failCols.filter fun x => x / 32 == r && decide (x % 32 < 17)).map (· % 32)).eraseDups
  keep s (if s.stage ≠ 3 ∨ s.wholeReset then s
    else
      let pass := (List.range 84).filter fun r => s.regionState r != 4 && !failed.contains r && decide ((cols r).length ≤ 1)
      let spare := (standbyOrder.filter pass.contains).take (pass.length - 80)
      let s := pass.foldl (fun s r => s.passRegion r (cols r) (spare.contains r)) s
      s.updateBypass.installDetour.setStage 4)

/-! ### STACK_TRAIN and LINK_TRAIN (R392, R453) -/

/-- A site that failed its training: TRAIN_FAIL, fenced. -/
def State.failSite (s : State) (i : Nat) : State :=
  let p := memPage i
  let s := (s.revivePage p).wrs p [(MEM_STATUS_STATE, 2), (MEM_STATUS_SLOT, 31)]
  ((s.raiseErr p MEM_ERR_STATUS_TRAIN_FAIL).reportOn .stack i p MEM_ERR_STATUS_TRAIN_FAIL).killPage p

/-- A lane left under test by a reset is a spare again. -/
def State.endTests (s : State) (e : Nat) : State :=
  (List.range 18).foldl (fun s l =>
    let s := if s.rd (pOPT + e) OPT_LANE_TX_STATE l = 3 then s.wr (pOPT + e) OPT_LANE_TX_STATE 1 l else s
    if s.rd (pOPT + e) OPT_LANE_RX_STATE l = 3 then s.wr (pOPT + e) OPT_LANE_RX_STATE 1 l else s) s

/-- Entry to LINK_TRAIN: every engine is in service, and every port of the W and S engines starts training. -/
def State.startLinks (s : State) : State :=
  let s := s.setStage 5
  (List.range 64).foldl (fun s e =>
    let s := ((s.revivePage (pOPT + e)).wr (pOPT + e) OPT_STATUS_PLL_LOCKED 1).endTests e
    (enginePorts e).foldl (fun s p => s.trainPort p) ((s.showWidths e).showSpares e)) s

/-- The self-test rebuilds a site's spare lines from the remaps that are in force (R386, R392). -/
def State.showLines (s : State) (i : Nat) : State :=
  let l := s.flt.lines.filter fun x => x.1 == i
  if l.isEmpty then s
  else (l.zipIdx.foldl (fun s (x : (Nat × Nat) × Nat) => s.wrs (memPage i) [(MEM_LINE_VALID, 1), (MEM_LINE_LINE, x.1.2)] x.2) s).wr
    (memPage i) MEM_LINES_USED l.length

/-- The stacks after their training: the sites that pass serve slots in ascending order, the rest are SPARE, the ones that fail
are fenced. The self-test leaves the stacks zeroed (DESIGN CHOICE, log 48). -/
def State.trainStacks (s : State) (passed : List Nat) : State :=
  let ok := (List.range 26).filter passed.contains
  let s := ((List.range 26).filter fun i => !ok.contains i).foldl (fun s i => s.failSite i) s
  let s := ok.zipIdx.foldl (fun s (x : Nat × Nat) =>
    ((s.revivePage (memPage x.1)).showLines x.1).wrs (memPage x.1) (if x.2 < 24 then [(MEM_STATUS_STATE, 0), (MEM_STATUS_SLOT, x.2)]
      else [(MEM_STATUS_STATE, 1), (MEM_STATUS_SLOT, 31)])) s
  -- the staging space of stepping B1
  let s := s.wr pWSP WSP_STAGE_SIZE_MB 24000
  { (s.writeMap (min 24 ok.length)).bootCellar with mem := [] }

/-- STACK_TRAIN_DONE (R379, R392). -/
def execStackTrainDone (passed : List Nat) (s : State) : Host.Outcome State Fault Refusal :=
  keepQ s (if s.stage ≠ 4 ∨ s.wholeReset then s else (s.trainStacks passed).startLinks)

/-- LINK_TRAIN_EXPIRY (R453, R455): 10 s after entry. NEIGHBOUR forms the port table, REGISTER is entered and the first HELLO
goes out. -/
def execLinkTrainExpiry (s : State) : Host.Outcome State Fault Refusal :=
  keep s (if s.stage ≠ 5 ∨ s.wholeReset then s else (s.setStage 7).sendHello)

/-! ### SPORT and TB_LOCK (R459, R460) -/

/-- Whether TB_LOCK has nothing to wait for. -/
def State.noLockWait (s : State) : Bool :=
  s.rd pTBASE TBASE_STATUS_LOCKED == 1 || s.rd pCAL CAL_TB_CFG_SRC_SEL == 0
    || (s.rd pCAL CAL_TB_CFG_SRC_SEL == 1 && s.rd pTBASE TBASE_CTRL_PPS_EN == 0)

/-- SPORT_STAGE_END (R459, R460): TB_LOCK is entered, and left at once when there is nothing to wait for. -/
def execSportStageEnd (s : State) : Host.Outcome State Fault Refusal :=
  keep s (if s.stage ≠ 8 ∨ s.wholeReset then s else s.setStage (if s.noLockWait then 0x0A else 9))

/-- TB_LOCK_END (R460): the lock, no source, or 5 s after entry. -/
def execTbLockEnd (timeout : Bool) (s : State) : Host.Outcome State Fault Refusal :=
  keep s (if s.stage = 9 ∧ !s.wholeReset ∧ (timeout || s.noLockWait) then s.setStage 0x0A else s)

end Sys2Proof.Machine
end

