-- ==== Sys2Proof/Machine/Mgmt.lean ====
section
/-! DEFINITION. The management plane (R428, R435–R447): lanes, the open requests, key installation and erasure, the lifecycle. -/

namespace Sys2Proof.Machine

/-! ### Lanes and notifications (R435, R440) -/

/-- The field of a lane's state. -/
def laneUp (l : Nat) : Fld := if l = 0 then MGT_STATUS_LANE0_UP else MGT_STATUS_LANE1_UP

/-- MGT_LANE_FAULT (R435): the lane has reported a fault for 1 ms. The active lane hands over to the other while that is up. -/
def execMgtLaneFault (lane : Fin 2) (s : State) : Host.Outcome State Fault Refusal :=
  keep s (if s.rd pMGT (laneUp lane) = 0 then s
    else
      let s := s.wr pMGT (laneUp lane) 0
      let other := 1 - lane.val
      if !s.mgtUp then s.raiseErr pMGT MGT_ERR_STATUS_LANES_DOWN
      else if s.rd pMGT MGT_STATUS_ACTIVE_LANE ≠ lane.val then s
      else
        let s := (s.wr pMGT MGT_STATUS_ACTIVE_LANE other).raiseEvt pMGT MGT_EVT_STATUS_FAILOVER
        (s.bump pMGT MGT_C_FAILOVERS).sendNotify 1)

/-- MGT_LANE_UP (R435): what waited while both lanes were down leaves on this one. Held lanes stay idle (R470). -/
def execMgtLaneUp (lane : Fin 2) (s : State) : Host.Outcome State Fault Refusal :=
  keep s (if s.heldReset then s
    else
      let down := !s.mgtUp
      let s := s.wr pMGT (laneUp lane) 1
      if down then ((s.wr pMGT MGT_STATUS_ACTIVE_LANE lane).flushMgt).flushReports else s)

/-- NOTIFY_GAP_EXPIRY (R440): the NOTIFY that waited for MIN_GAP_US goes out with the maps as they stand. -/
def execNotifyGapExpiry (s : State) : Host.Outcome State Fault Refusal :=
  keep s (let n := s.notify
    let s := { s with notify := {} }
    if n.gap && n.deferred then s.sendNotify n.cause else s)

/-! ### Identity (R44, R438, R446) -/

/-- Whether the identity key is held: a RETIRED module has erased it. -/
def State.identityHeld (s : State) : Bool := s.lifecycle != 3

/-- Six registers as 48 bytes. -/
def State.words48 (s : State) (page off : Nat) : List Byte :=
  (List.range 6).flatMap fun k => leBytes 8 (s.getReg (regAddr page (off + 8 * k))).toNat

/-- MODULE_ID as 2 bytes. -/
def State.moduleId (s : State) : List Byte := leBytes 2 (s.rd pGLB GLB_MODULE_ID_ID + 2 ^ 15 * s.rd pGLB GLB_MODULE_ID_VALID)

/-- The payload of GET_INFO with a public key. -/
def State.infoBytes (s : State) (pub : List Byte) : List Byte :=
  leBytes 8 (s.rd pSEC SEC_SERIAL_SERIAL) ++ leBytes 1 s.lifecycle ++ leBytes 1 0 ++ s.moduleId
    ++ leBytes 8 (s.getReg (regAddr pFWC 0x108)).toNat ++ pub ++ leBytes 1 (s.rd pMGT MGT_OWNER_BOUND)

/-- GET_INFO (R438). What it answers for an erased identity key is not stated: free bytes (log 49). -/
def execGetInfo (f : MgtReq) (s : State) : Host.Outcome State Fault Refusal :=
  keep s (s.mailbox 0x01 true true 0 f fun s =>
    if s.identityHeld then (s, stOk, s.infoBytes (pointBytes (publicKey Config.identityKey)))
    else ((s.drawBytes 97).2, stOk, s.infoBytes (s.drawBytes 97).1))

/-- Bytes 0–191 of a quote (R446). -/
def State.quoteBytes (s : State) (nonce : List Byte) : List Byte :=
  [0x42#8, 0x52#8, 0x41#8, 0x54#8] ++ leBytes 1 1 ++ leBytes 1 s.lifecycle ++ s.moduleId ++ leBytes 8 (s.rd pSEC SEC_SERIAL_SERIAL)
    ++ leBytes 8 s.tb.count ++ nonce ++ s.words48 pSEC 0x110 ++ s.words48 pSEC 0x140
    ++ leBytes 2 (s.rd pFWC FWC_IMAGE_SEC_VERSION) ++ leBytes 2 (s.rd pSEC SEC_ROLLBACK_MIN_VERSION)
    ++ leBytes 4 (s.rd pFWC FWC_IMAGE_RELEASE) ++ leBytes 16 0

/-- A signed quote. -/
def State.quote (s : State) (nonce : List Byte) : List Byte :=
  s.quoteBytes nonce ++ ecdsaSign Config.identityKey (Config.signNonce s.free) (sha384 (s.quoteBytes nonce))

/-- ATTEST (R446). -/
def execAttest (f : MgtReq) (s : State) : Host.Outcome State Fault Refusal :=
  keep s (s.mailbox 0x02 true true 48 f fun s =>
    if s.lifecycle = 3 then (s, stDenied, []) else ({ s with free := s.free + 1 }, stOk, s.quote (f.payload.take 48)))

/-- Bind the module to an owner's public key. -/
def State.bindOwner (s : State) (pub : List Byte) : State :=
  let h := sha384 pub
  ((List.range 6).foldl (fun s k => s.wr pMGT MGT_OWNER_HASH_HASH (leAt h (8 * k) 8) k) s).wr pMGT MGT_OWNER_BOUND 1

/-- OWNER_BIND (R442): once in the module's life. -/
def execOwnerBind (f : MgtReq) (s : State) : Host.Outcome State Fault Refusal :=
  keep s (s.mailbox 0x03 (s.rd pMGT MGT_OWNER_BOUND == 0) true 97 f fun s =>
    if s.rd pMGT MGT_OWNER_BOUND = 1 then (s, stDenied, []) else (s.bindOwner (f.payload.take 97), stOk, []))

/-! ### Wrapped secrets (R444) -/

/-- The ASCII string "BRL-SV9 wrap". -/
def wrapInfo : List Byte := [0x42#8, 0x52#8, 0x4C#8, 0x2D#8, 0x53#8, 0x56#8, 0x39#8, 0x20#8, 0x77#8, 0x72#8, 0x61#8, 0x70#8]

/-- Unwrap a 209-byte block. -/
def State.unwrap (s : State) (b : List Byte) : Option (List Byte) :=
  if !s.identityHeld then none
  else match parsePoint ((b.drop 64).take 97) with
    | none => none
    | some p =>
      let k := hkdf384 (leBytes 8 (s.rd pSEC SEC_SERIAL_SERIAL)) (ecdhX Config.identityKey p) wrapInfo 44
      gcmOpen (k.take 32) (k.drop 32) (b.take 64) ((b.drop 161).take 32) ((b.drop 193).take 16)

/-- A block that fails to unwrap. -/
def State.unwrapFail (s : State) : State := (s.raiseErr pSEC SEC_ERR_STATUS_UNWRAP_FAIL).bump pSEC SEC_C_UNWRAP_FAILS

/-- Whether a provisioning payload is the owner's, for this nonce, and its block is one of TARGET 4. -/
def State.provSigned (s : State) (b : List Byte) : Bool :=
  let pub := (b.drop 209).take 97
  let digest := sha384 (b.take 209 ++ leBytes 8 (s.rd pMGT MGT_PROV_NONCE_NONCE))
  s.rd pMGT MGT_OWNER_BOUND == 1 && sha384 pub == s.words48 pMGT 0x128
    && (match parsePoint pub with | some k => ecdsaVerify k digest ((b.drop 306).take 96) | none => false) && byteAt b 0 == 4

/-- A management key comes into use: every pair starts again, the nonce is replaced, and the waiting reports go out. -/
def State.useMgtKey (s : State) (key : List Byte) : State :=
  let s := { s with mgtKey := key }.wr pMGT MGT_STATUS_KEY_VALID 1
  let s := (List.range 32).foldl (fun s p => s.wr pMBX MBX_PAIR_LAST_SEQ_IN 0 p) s
  (s.newProvNonce.raiseEvt pMGT MGT_EVT_STATUS_KEY_PROVISIONED).flushReports

/-- The action of PROVISION_MGT_KEY. -/
def State.provision (f : MgtReq) (s : State) : State × Nat × List Byte :=
  if !s.provSigned f.payload then (s.raiseErr pMGT MGT_ERR_STATUS_PROV_FAIL, stDenied, [])
  else match s.unwrap (f.payload.take 209) with
    | none => (s.unwrapFail, stUnwrap, [])
    | some key => (s.useMgtKey key, stOk, [])

/-- PROVISION_MGT_KEY (R443). -/
def execProvisionMgtKey (f : MgtReq) (s : State) : Host.Outcome State Fault Refusal :=
  keep s (s.mailbox 0x04 true true 402 f (State.provision f))

/-! ### KEY_INSTALL (R445) -/

/-- The key check value (R187). -/
def kcvOf (key : List Byte) : Nat := beAt (aesBlock aesSbox (aesKeys aesSbox key) (List.replicate 16 0#8)) 0 3

/-- Fill a key slot from a block's metadata. -/
def State.fillKeySlot (s : State) (k owner : Nat) (b key : List Byte) : State :=
  let w := s.wsp
  let s := { s with wsp := { w with keys := tabSet (fun _ => []) w.keys k key } }
  let s := s.wrs pWSP [(WSP_KEYSLOT_VALID, 1), (WSP_KEYSLOT_KEY_LOADED, 1), (WSP_KEYSLOT_OWNER, owner), (WSP_KEYSLOT_MODEL, leAt b 8 2)] k
  let s := s.wrs pWSP [(WSP_KEYSLOT_GEN_OUT, byteAt b 3), (WSP_KEYSLOT_EPOCH_PUB, leAt b 16 4)] k
  let s := s.wrs pWSP [(WSP_KEYSLOT_ENDPOINT, leAt b 12 4), (WSP_KEYSLOT_SPORT, byteAt b 2)] k
  (s.wr pWSP WSP_KEYSLOT_KCV (kcvOf key) k).raiseEvt pWSP WSP_EVT_STATUS_KEY_LOADED

/-- TARGET WEIGHT: the job's slot of the MODEL, else a reserved slot without a key. -/
def State.installWeight (s : State) (b key : List Byte) : State × Nat :=
  match s.slotOfJob (leAt b 4 4) with
  | none => (s, stNoJob)
  | some j =>
    let model := leAt b 8 2
    match (s.keyOf j model).or ((s.keySlots j).find? fun k => s.rd pWSP WSP_KEYSLOT_KEY_LOADED k == 0) with
    | none => (s, stNoSlot)
    | some k => (((s.fillKeySlot k j b key).keyInstalled j model).updKeyInstalled j model, stOk)

/-- TARGET CACHE: the entry of the MODEL, else a new entry on free key and cache slots (R296). -/
def State.installCache (s : State) (b key : List Byte) : State × Nat :=
  let model := leAt b 8 2
  let place := match s.entryOf model with
    | some e => some (e, s.rd pCELL CELL_MODEL_KEYSLOT e)
    | none => match (List.range 32).find? (fun e => !s.entryValid e), (List.range 64).find? (fun k => s.rd pWSP WSP_KEYSLOT_VALID k == 0) with
      | some e, some k => some (e, k)
      | _, _ => none
  match place with
  | none => (s, stNoSlot)
  | some (e, k) =>
    let s := (s.fillKeySlot k 31 b key).setCacheEnt e { s.cacheEnt e with erase := false }
    let s := s.wrs pCELL [(CELL_MODEL_VALID, 1), (CELL_MODEL_SOURCE, byteAt b 10), (CELL_MODEL_KEYSLOT, k),
      (CELL_MODEL_CELLAR_INDEX, byteAt b 11), (CELL_MODEL_MODEL, model)] e
    ((s.wr pCELL CELL_MODEL_TARGET_EPOCH (leAt b 16 4) e).wr pCELL CELL_MODEL_TENANT (leAt b 24 8) e, stOk)

/-- TARGET MIRROR: the job's mirror key; restores asked for and streams recorded before it came are sent now (R230, R231, R233). -/
def State.installMirror (s : State) (b key : List Byte) : State × Nat :=
  match s.slotOfJob (leAt b 4 4) with
  | none => (s, stNoJob)
  | some j =>
    let u := s.upd j
    let s := s.setUpd j { u with mirrorKey := key }
    (if u.mirrorKey.isEmpty then (u.restores.foldl (fun s x => s.askRestore j x.entry x.owner x.area x.dst) s).mirrorUnsent j else s, stOk)

/-- TARGET EXPERT: the expert secret (R41). -/
def State.installExpert (s : State) (key : List Byte) : State × Nat :=
  (({ s with expertSecret := key }.wr pGLB GLB_EXPERT_STATUS_SECRET_VALID 1).wr pSEC SEC_STATUS_SECRET_VALID 1, stOk)

/-- KEY_INSTALL: a RETIRED module denies it; then the block is unwrapped, and its TARGET says what it fills. A TARGET above 4
is denied (DESIGN CHOICE, log 50). -/
def State.keyInstall (f : MgtReq) (s : State) : State × Nat × List Byte :=
  let b := f.payload.take 209
  if s.lifecycle = 3 then (s, stDenied, [])
  else match s.unwrap b with
    | none => (s.unwrapFail, stUnwrap, [])
    | some key =>
      let (s, st) := match byteAt b 0 with
        | 0 => s.installWeight b key
        | 1 => s.installCache b key
        | 2 => s.installMirror b key
        | 3 => s.installExpert key
        | _ => (s, stDenied)
      (s, st, [])

/-- KEY_INSTALL_WEIGHT (R187, R445). -/
def execKeyInstallWeight (f : MgtReq) (s : State) : Host.Outcome State Fault Refusal :=
  keepQ s (s.mailbox 0x20 false true 209 f (State.keyInstall f))

/-- KEY_INSTALL_CACHE (R296, R445). -/
def execKeyInstallCache (f : MgtReq) (s : State) : Host.Outcome State Fault Refusal :=
  keepQ s (s.mailbox 0x20 false true 209 f (State.keyInstall f))

/-- KEY_INSTALL_MIRROR (R231, R445). -/
def execKeyInstallMirror (f : MgtReq) (s : State) : Host.Outcome State Fault Refusal :=
  keepQ s (s.mailbox 0x20 false true 209 f (State.keyInstall f))

/-- KEY_INSTALL_EXPERT (R41, R445). -/
def execKeyInstallExpert (f : MgtReq) (s : State) : Host.Outcome State Fault Refusal :=
  keepQ s (s.mailbox 0x20 false true 209 f (State.keyInstall f))

/-- KEY_INSTALL_MGT (R445): denied; only PROVISION_MGT_KEY installs a management key. -/
def execKeyInstallMgt (f : MgtReq) (s : State) : Host.Outcome State Fault Refusal :=
  keepQ s (s.mailbox 0x20 false true 209 f (State.keyInstall f))

/-! ### KEY_ERASE (R296, R445) -/

/-- Erase a weight key slot that stays reserved to its job. -/
def State.eraseReserved (s : State) (k owner : Nat) : State :=
  (s.eraseKeySlot k).wrs pWSP [(WSP_KEYSLOT_VALID, 1), (WSP_KEYSLOT_OWNER, owner)] k

/-- The action of KEY_ERASE. The statuses of an erase that names nothing are those of KEY_INSTALL (DESIGN CHOICE, log 50). -/
def State.eraseReq (f : MgtReq) (s : State) : State × Nat × List Byte :=
  let b := f.payload
  let model := leAt b 8 2
  match byteAt b 0 with
  | 0 => match s.slotOfJob (leAt b 4 4) with
    | none => (s, stNoJob, [])
    | some j => match s.keyOf j model with
      | none => (s, stNoSlot, [])
      | some k => (s.eraseReserved k j, stOk, [])
  | 1 => match s.entryOf model with
    | none => (s, stNoSlot, [])
    | some e =>
      let s := s.setCacheEnt e { s.cacheEnt e with erase := true }
      (((s.wr pCELL CELL_MODEL_UNLOADING 1 e).unloadDone e).retrySpace, stOk, [])
  | 2 => match s.slotOfJob (leAt b 4 4) with
    | none => (s, stNoJob, [])
    | some j => (s.setUpd j { s.upd j with mirrorKey := [] }, stOk, [])
  | _ => (s, stDenied, [])

/-- KEY_ERASE (R445). -/
def execKeyErase (f : MgtReq) (s : State) : Host.Outcome State Fault Refusal :=
  keep s (s.mailbox 0x21 false true 10 f (State.eraseReq f))

/-! ### LIFECYCLE (R447) -/

/-- Erase every provisioned secret: management key, expert secret, key slots. -/
def State.eraseSecrets (s : State) : State :=
  let s := ({ s with mgtKey := [], expertSecret := [] } : State).wr pMGT MGT_STATUS_KEY_VALID 0
  let s := (s.wr pGLB GLB_EXPERT_STATUS_SECRET_VALID 0).wr pSEC SEC_STATUS_SECRET_VALID 0
  (List.range 64).foldl (fun s k => s.eraseKeySlot k) s

/-- Whether the token of a transition to DEBUG is Brearo's. -/
def State.tokenOk (s : State) (b : List Byte) : Bool :=
  ecdsaVerify Config.lifecycleKey
    (sha384 (leBytes 8 (s.rd pSEC SEC_SERIAL_SERIAL) ++ leBytes 8 (s.rd pMGT MGT_PROV_NONCE_NONCE) ++ b.take 1)) ((b.drop 4).take 96)

/-- A transition: LIFECYCLE_CHANGED, the jobs end, secrets go, a warm reset with SOURCE 2. -/
def State.lifecycleTo (s : State) (target : Nat) : State :=
  let s := (s.wr pSEC SEC_LIFECYCLE_STATE target).raiseEvt pMGT MGT_EVT_STATUS_LIFECYCLE_CHANGED
  (s.startWarm 2).eraseSecrets

/-- The head and the token of a LIFECYCLE request. -/
def State.lifecycleReq (f : MgtReq) (s : State) : State × Nat × List Byte :=
  let b := f.payload
  let from_ := s.lifecycle
  let ok := byteAt b 1 == 0 && (match byteAt b 0 with
    | 2 => leAt b 2 2 == 0 && from_ == 1 && s.tokenOk b
    | 3 => leAt b 2 2 == 0xA5C3 && (from_ == 1 || from_ == 2)
    | _ => false)
  if ok then (s.lifecycleTo (byteAt b 0), stOk, []) else (s, stBadToken, [])

/-- LIFECYCLE_DEBUG (R447). -/
def execLifecycleDebug (f : MgtReq) (s : State) : Host.Outcome State Fault Refusal :=
  keep s (s.mailbox 0x60 false true 4 f (State.lifecycleReq f))

/-- LIFECYCLE_RETIRED (R447). -/
def execLifecycleRetired (f : MgtReq) (s : State) : Host.Outcome State Fault Refusal :=
  keep s (s.mailbox 0x60 false true 4 f (State.lifecycleReq f))

/-! ### IMAGE_PUSH (R427, R428) -/

/-- The fields of an image header. -/
def imgBytes (b : List Byte) : Nat := leAt b 16 4

/-- Check 1 of R428: MAGIC, FORMAT, reserved fields; both sections lie inside the image. -/
def imageFormOk (b : List Byte) : Bool :=
  let z := fun o n => (List.range n).all fun k => byteAt b (o + k) == 0
  let n := imgBytes b
  leAt b 0 4 == 0x57465242 && leAt b 4 2 == 0x0100 && decide (leAt b 6 2 < 2) && z 10 2 && z 36 60 && z 144 272
    && decide (512 ≤ n ∧ n ≤ 67108864) && decide (leAt b 20 4 + leAt b 24 4 ≤ n) && decide (leAt b 28 4 + leAt b 32 4 ≤ n)

/-- The four checks of R428. -/
def State.imageOk (s : State) (b : List Byte) : Bool :=
  imageFormOk b && ecdsaVerify Config.firmwareKey (sha384 (b.take 416)) ((b.drop 416).take 96)
    && decide (s.rd pSEC SEC_ROLLBACK_MIN_VERSION ≤ leAt b 8 2) && sha384 (b.drop 512) == (b.drop 96).take 48

/-- A pass: the measurement, FWC.IMAGE, the verified copy, both MMCs, whose first act is the PMBus setup once entries are valid
(R451); RAISE_MIN raises MIN_VERSION; REGION_BIST begins. -/
def State.acceptImage (s : State) (b : List Byte) : State :=
  let h := sha384 b
  let s := (List.range 6).foldl (fun s k => s.wr pSEC SEC_IMAGE_MEASURE_HASH (leAt h (8 * k) 8) k) s
  let s := s.wrs pFWC [(FWC_IMAGE_SEC_VERSION, leAt b 8 2), (FWC_IMAGE_RELEASE, leAt b 12 4)]
  let s : State := { s with boot := { s.boot with pushed := [], image := b } }
  let s := s.wrs pFWC [(FWC_STATUS_MMC_FAILED, 0), (FWC_STATUS_TWIN_READY, 1), (FWC_STATUS_MMC_ACTIVE, 0)]
  let s := if byteAt b 6 % 2 = 1 then s.wr pSEC SEC_ROLLBACK_MIN_VERSION (leAt b 8 2) else s
  let s := s.enterBist
  if s.pmbusWaits then s else s.pmbusWrites

/-- An image that fails a check is discarded; the status of its last push is not stated: a free value (log 51). -/
def State.rejectImage (s : State) : State × Nat :=
  let s := ((s.raiseErr pSEC SEC_ERR_STATUS_IMAGE_AUTH_FAIL).bump pSEC SEC_C_IMAGE_AUTH_FAILS)
  let (v, s) := ({ s with boot := { s.boot with pushed := [] } } : State).draw
  (s, v.toNat % 256)

/-- The action of IMAGE_PUSH (R428): bytes at ascending offsets without gaps. Offset 0 begins a new push; any other offset that
does not continue the push is denied (DESIGN CHOICE, log 51). -/
def State.pushImage (f : MgtReq) (s : State) : State × Nat × List Byte :=
  let held := if f.arg = 0#64 then [] else s.boot.pushed
  let b := held ++ f.payload
  let n := imgBytes b
  if s.stage ≠ 2 ∨ f.arg.toNat ≠ held.length then (s, stDenied, [])
  else if b.length < 20 ∨ (b.length < n ∧ n ≤ 67108864) then ({ s with boot := { s.boot with pushed := b } }, stOk, [])
  else if s.imageOk (b.take n) then (s.acceptImage (b.take n), stOk, [])
  else (s.rejectImage.1, s.rejectImage.2, [])

/-- IMAGE_PUSH (R428). -/
def execImagePush (f : MgtReq) (s : State) : Host.Outcome State Fault Refusal :=
  keep s (s.mailbox 0x05 true true 0 f (State.pushImage f))

/-! ### Frames that no row takes (R435, R437) -/

/-- Whether an opcode is one of the requests of R438, and whether it is open. -/
def knownOpcode (op : Nat) : Bool := [0x01, 0x02, 0x03, 0x04, 0x05, 0x10, 0x11, 0x20, 0x21, 0x30, 0x40, 0x41, 0x60].contains op
def State.openOpcode (s : State) (op : Nat) : Bool := [0x01, 0x02, 0x04, 0x05].contains op || (op == 3 && s.rd pMGT MGT_OWNER_BOUND == 0)

/-- The minimum payload of a request's opcode. -/
def minLength (op : Nat) : Nat :=
  match op with
  | 0x02 => 48 | 0x03 => 97 | 0x04 => 402 | 0x10 => 8 | 0x11 => 8 | 0x20 => 209 | 0x21 => 10 | 0x30 => 8 | 0x40 => 256 | 0x60 => 4
  | _ => 0

/-- BAD_MGT_FRAME (R435, R437): a bad frame is dropped and counted; any other goes through the checks of a request, the last of
which it fails. One that would pass them all is its own row's, and does nothing here. -/
def execBadMgtFrame (fr : MgtFrame) (s : State) : Host.Outcome State Fault Refusal :=
  keep s (if s.wholeReset ∨ s.stage = 1 then s
    else if !fr.fcsOk then s.bump pMGT MGT_C_FCS_ERRS
    else if fr.ethertype ≠ s.rd pMGT MGT_NET_ETHERTYPE ∨ !fr.destOk then s.bump pMGT MGT_C_FOREIGN_DROPS
    -- a response to what the module sent that no row takes, as to TELEMETRY and NOTIFY, is discarded (R438)
    else if fr.req.major = 2 ∧ fr.req.flags % 4 = 3 ∧ 28 ≤ fr.req.pair ∧ s.stage ≠ 0xFE then s.bump pMGT MGT_C_FRAMES_IN
    else if knownOpcode fr.opcode && decide (minLength fr.opcode ≤ fr.req.length) && fr.req.major == 2
        && fr.req.flags % 4 == 0 && decide (fr.req.pair < 28) && fr.req.length == fr.req.payload.length
        && (s.openOpcode fr.opcode || (s.rd pMGT MGT_STATUS_KEY_VALID == 1 && s.tagOk fr.opcode fr.req
          && decide (s.rd pMBX MBX_PAIR_LAST_SEQ_IN fr.req.pair < fr.req.seq))) && s.stage != 0xFE then s
    else s.mailbox fr.opcode (s.openOpcode fr.opcode) (knownOpcode fr.opcode) (minLength fr.opcode) fr.req fun s => (s, stOk, []))

end Sys2Proof.Machine
end

