-- ==== Sys2Proof/Machine/RegAccess.lean ====
section
/-! DEFINITION. Reads and writes of the register space by the requesters (R23–R29, R31, R35, R39): what a read returns, the
ranges that a write must keep, the writes that act on a block, and the two mailbox commands (R438). -/

namespace Sys2Proof.Machine

/-! ### What a register reads as (R25, R31, R33, R43) -/

/-- STATUS of a page: the common bits of R33 and the page's own fields that count what a block holds. -/
def State.statusRead (s : State) (page : Nat) : Nat :=
  let v := s.statusWord page
  let put := fun (v : Nat) (f : Fld) (x : Nat) => putBits v f.hi f.lo x
  if page = pSEC then put v SEC_STATUS_SECRET_VALID (s.rd pGLB GLB_EXPERT_STATUS_SECRET_VALID)
  else if page = pMBX then put v MBX_STATUS_PAIRS_BUSY ((List.range 32).filter fun p => s.rd pMBX MBX_PAIR_BUSY p == 1).length
  else if page = pDOCK then put v DOCK_STATUS_JOBS ((List.range 16).filter fun j => s.jobState j != 0).length
  else if page = pSCT then put v SCT_STATUS_LIVE s.ctxs.length
  else if page = pCE then put (put v CE_STATUS_BUCKETS_LIVE ((List.range 16).map fun j => (s.ce j).buckets.length).sum)
    CE_STATUS_STALLED (maskOf (s.ces.flatMap fun x => x.2.held).eraseDups)
  else if page = pUPD then
    put (put v UPD_STATUS_AREAS ((List.range 2048).filter fun a => s.rd pUPD UPD_AREA_VALID a == 1).length)
      UPD_STATUS_QUEUED ((List.range 16).map fun j => (s.upd j).queue.length).sum
  else if page = pWSP then
    put (put v WSP_STATUS_LOADS_IN_FLIGHT s.wsp.loads.length)
      WSP_STATUS_KEYS_LOADED ((List.range 64).filter fun k => s.rd pWSP WSP_KEYSLOT_KEY_LOADED k == 1).length
  else if page = pCAVE then
    put (put v CAVE_STATUS_RECORDS ((List.range 84).map fun r => (s.cave r).recs.length).sum)
      CAVE_STATUS_HOLD_AREAS ((List.range 1024).filter fun a => s.rd pCAVE CAVE_HOLD_VALID a == 1).length
  else if page = pFLT then
    put v FLT_STATUS_JOBS_RECOVERING ((List.range 16).filter fun j => s.rd pPLC PLC_JOB_RECOVERING j == 1).length
  else if page = pPLC then
    put (put v PLC_STATUS_ACTIVE ((List.range 84).filter fun r => s.regionState r == 0).length)
      PLC_STATUS_STANDBY ((List.range 84).filter fun r => s.regionState r == 1).length
  else if page = pCELL then
    put v CELL_STATUS_LOADS_ACTIVE ((List.range 32).filter fun e => (s.cacheEnt e).load.isSome || (s.cacheEnt e).waiting.isSome).length
  else v

/-- SCT.ENTRY: the context that SCT.SELECT names (R190). -/
def State.sctEntry (s : State) : Nat :=
  let slot := s.rd pSCT SCT_SELECT_SLOT
  let sid := s.rd pSCT SCT_SELECT_SID
  match s.ctxs.find? fun c => c.slot == slot && c.sid == sid with
  | none => 0
  | some c =>
    [(SCT_ENTRY_LIVE, 1), (SCT_ENTRY_KIND, c.kind), (SCT_ENTRY_REGION, c.region), (SCT_ENTRY_SPEC, b2n c.spec),
      (SCT_ENTRY_BYTES_DONE, min c.bytes (2 ^ (SCT_ENTRY_BYTES_DONE.hi + 1 - SCT_ENTRY_BYTES_DONE.lo) - 1))].foldl
      (fun (a : Nat) (x : Fld × Nat) => putBits a x.1.hi x.1.lo x.2) 0

/-- SCT.ENTRY_TIME of the same context. -/
def State.sctTime (s : State) : Nat :=
  match s.ctxs.find? fun c => c.slot == s.rd pSCT SCT_SELECT_SLOT && c.sid == s.rd pSCT SCT_SELECT_SID with
  | none => 0
  | some c => c.t0

/-- DOCK.FREE (R155). -/
def State.dockFree (s : State) : Nat :=
  [(DOCK_FREE_KEY_SLOTS, s.freeKeys false), (DOCK_FREE_BUCKETS, s.freeBuckets false), (DOCK_FREE_STREAM_CTX, s.freeCtx false),
    (DOCK_FREE_STACK_GB, s.freeGb false),
    (DOCK_FREE_REGIONS, ((List.range 84).filter fun r => s.regionState r == 0 && (s.slotOf r).isNone).length)].foldl
    (fun (a : Nat) (x : Fld × Nat) => putBits a x.1.hi x.1.lo x.2) 0

/-- The value of a register, before its write-only and self-clearing fields are hidden. -/
def State.rawRead (s : State) (page off : Nat) : Nat :=
  let v := (s.getReg (regAddr page off)).toNat
  if off = 0x18 then s.statusRead page
  else if page = pGLB ∧ 0x1000 ≤ off ∧ off < 0x1030 then s.errMap ((off - 0x1000) / 8)
  else if page = pGLB ∧ 0x1040 ≤ off ∧ off < 0x1070 then s.evtMap ((off - 0x1040) / 8)
  else if page = pTBASE ∧ off = TBASE_COUNT_COUNT.off then s.tb.count
  else if page = pSCT ∧ off = SCT_ENTRY_LIVE.off then s.sctEntry
  else if page = pSCT ∧ off = SCT_ENTRY_TIME_T_START.off then s.sctTime
  else if page = pDOCK ∧ off = DOCK_FREE_REGIONS.off then s.dockFree
  else if page = pFAB ∧ 0x7000 ≤ off ∧ off < 0x7400 then
    let e := (off - 0x7000) / 8
    putBits (Config.attach e).toNat FAB_ATTACH_USING.hi FAB_ATTACH_USING.lo (s.attachUsing e)
  else if page = pFWC ∧ 0x1000 ≤ off ∧ off < 0x12A0 then
    putBits v FWC_RCC_CRASHES_60S.hi FWC_RCC_CRASHES_60S.lo (min 255 (s.crashes60 ((off - 0x1000) / 8)))
  else if pMEM ≤ page ∧ page < pMEM + 26 ∧ 0xA000 ≤ off then (s.getReg (regAddr pMEM off)).toNat
  else if pREG ≤ page ∧ off = REG_FLAG_SUMMARY_VAT_SAT.off then s.flagSummary (page - pREG)
  else v

/-- What a read of a register returns: WO fields and W1S fields read 0, an undefined offset reads 0, and a dead page shows
STATUS and ERR_STATUS as they stood when its unit was fenced (R24, R25, R31). -/
def State.readValue (s : State) (page off : Nat) : Nat :=
  let d := tabGet deadInit s.dead page
  if s.deadPage page && off == 0x18 && d != deadInit page then d.1.toNat
  else if s.deadPage page && off == 0x20 && d != deadInit page then d.2.toNat
  else match regDefAt page off with
    | none => 0
    | some r => r.fields.foldl (fun (a : Nat) (f : FieldDef) =>
        if f.acc = .wo ∨ f.acc = .w1s then putBits a f.hi f.lo 0 else a) (s.rawRead page off)

/-- The RC fields of a register return to 0 with the read (R25, R35). -/
def State.readClear (s : State) (page off : Nat) : State :=
  match regDefAt page off with
  | none => s
  | some r =>
    if r.fields.any (fun f => f.acc == .rc) then
      s.setReg (regAddr page off) (BitVec.ofNat 64 (r.fields.foldl (fun (a : Nat) (f : FieldDef) =>
        if f.acc = .rc then putBits a f.hi f.lo 0 else a) (s.getReg (regAddr page off)).toNat))
    else s

/-- Serve a read: while a warm reset runs only GLB.ID and GLB.STATUS answer; a refused read returns 0 and is recorded
(R24, R39). -/
def State.serveRead (s : State) (q : Requester) (addr bytes : Nat) : State × Word :=
  let p := pageOf addr
  let o := offOf addr
  if s.wholeReset ∧ addr ≠ regAddr pGLB 0 ∧ addr ≠ regAddr pGLB 0x18 then (s, 0#64)
  else match s.refuses q addr bytes false 0#64 with
    | some f => (s.refuseAccess q addr false f, 0#64)
    | none => (s.readClear p o, BitVec.ofNat 64 (s.readValue p o))

/-- COUNTER_READ_CLEAR (R35): a read by a requester; the value returned and the clear are one access. -/
def execCounterReadClear (q : Requester) (addr bytes : Nat) (s : State) : Host.Outcome State Fault Refusal :=
  keep s (let (s, v) := s.serveRead q addr bytes
    s.emit (.readData q addr v))

/-! ### The ranges that a write must keep -/

/-- The fields with a range, as (page kind, whether a field out of range voids the whole write, fields with least and greatest
value). Where the chapter does not void the whole write, only that field keeps its value (DEDUCED, log 53). -/
def rangeRules : List (Nat × Bool × List (Fld × Nat × Nat)) := [
  (pWSP, true, [(WSP_LIMITS_EPOCH_WAIT, 1, 65535), (WSP_LIMITS_LEADER_WAIT, 1, 65535), (WSP_LIMITS_SEG_TIMEOUT, 10, 65535),
    (WSP_LIMITS_RETRIES, 1, 15)]),
  (pUPD, true, [(UPD_LIMITS_INIT_TIMEOUT, 1, 65535), (UPD_LIMITS_MIRROR_TIMEOUT, 1, 65535), (UPD_LIMITS_EGRESS_TIMEOUT, 1, 65535),
    (UPD_LIMITS_MIRROR_RETRIES, 1, 15)]),
  (pCE, true, [(CE_LIMITS_COLL_TIMEOUT, 1, 65535), (CE_LIMITS_BARRIER_TIMEOUT, 1, 65535), (CE_LIMITS_CHUNK_TIMEOUT, 10, 65535),
    (CE_LIMITS_CHUNK_RETRIES, 1, 15)]),
  (pFAB, true, [(FAB_QUANTA_REQ, 1, 255), (FAB_QUANTA_RSP, 1, 255), (FAB_QUANTA_COLL, 1, 255), (FAB_QUANTA_WST, 1, 255),
    (FAB_QUANTA_DET, 1, 255)]),
  (pFLT, true, [(FLT_LIMITS_DRAIN_MS, 1, 65535), (FLT_LIMITS_SENTINEL_US, 10, 65535), (FLT_LIMITS_STRIKE_WINDOW_S, 1, 65535),
    (FLT_LIMITS_STRIKE_LIMIT, 1, 255)]),
  (pOPT, true, [(OPT_LIMITS_SINK_US, 10, 65535), (OPT_LIMITS_REPLAY_TIMEOUT_US, 2, 1000), (OPT_LIMITS_REPLAY_MAX, 1, 255),
    (OPT_LIMITS_SER_LIMIT, 1, 1048575)]),
  (pOPT, true, [(OPT_LIMITS2_XFER_S, 1, 4095)]),
  (pOPT, true, [(OPT_BERT_SOAK_MIN, 1, 255), (OPT_BERT_BER_LIMIT, 1, 16777215)]),
  (pPWR, true, [(PWR_ALERT_CFG_HOLD_US, 1, 65535), (PWR_ALERT_CFG_ALERT_K, 0, 34)]),
  (pTHM, true, [(THM_LIMITS_READMIT_C, 60, 100), (THM_LIMITS_TARGET_C, 60, 104)]),
  (pFWC, true, [(FWC_WDOG_MMC_WDOG_US, 500, 5000), (FWC_WDOG_RCC_WDOG_US, 100, 500)]),
  (pREG, false, [(REG_TILE_EXPERT_SCRUB_PERIOD, 8, 1024)]),
  (pREG, false, [(REG_SEQ_EXPERT_FENCE_TIMEOUT, 1, 65535)]),
  (pREG, false, [(REG_PT_REQ_CLK_K, 0, 34)]),
  (pREG, false, [(REG_PT_EXPERT_GUARD, 2, 20)]),
  (pDOCK, false, [(DOCK_FETCH_CFG_PERIOD, 1, 65535)]),
  (pWSP, false, [(WSP_DEPTH_RUN_AHEAD, 1, 3)]),
  (pCE, false, [(CE_TUNE_CHUNK, 0, 2)]),
  (pFAB, false, [(FAB_LIMITS_STALL_US, 10, 65535)]),
  (pMEM, false, [(MEM_SCRUB_CFG_PASS_H, 1, 255)]),
  (pMEM, false, [(MEM_LIMITS_UE_LIMIT, 1, 65535)]),
  (pCELL, false, [(CELL_CACHE_CFG_DECAY_S, 1, 65535)]),
  (pCAL, false, [(CAL_TB_CFG_SRC_SEL, 0, 2), (CAL_TB_CFG_SYNC_MS, 1, 255)]),
  (pMGT, false, [(MGT_NOTIFY_CFG_MIN_GAP_US, 10, 65535)])]

/-- Whether a written value keeps a field's range. -/
def keepsRange (v : Word) (x : Fld × Nat × Nat) : Bool := decide (x.2.1 ≤ x.1.of v) && decide (x.1.of v ≤ x.2.2)

/-- A write of a register with the ranges of its fields. -/
def State.rangedWrite (s : State) (page off : Nat) (v : Word) : State :=
  let a := regAddr page off
  match rangeRules.find? fun r => r.1 == pageKind page && r.2.2.any fun x => x.1.off == off with
  | none => s.plainWrite a v
  | some (_, whole, fs) =>
    if whole then (if fs.all (keepsRange v) then s.plainWrite a v else s)
    else
      let old := (s.getReg a).toNat
      s.plainWrite a (BitVec.ofNat 64 ((fs.filter fun x => !keepsRange v x).foldl (fun (w : Nat) (x : Fld × Nat × Nat) =>
        putBits w x.1.hi x.1.lo (bits old x.1.hi x.1.lo)) v.toNat))

/-! ### Writes that act on a block -/

/-- CELL.CACHE_CFG: SIZE_GB moves CACHE_BASE, and only while every entry is EMPTY and no job holds what it takes. -/
def State.writeCacheCfg (s : State) (v : Word) : State :=
  let cap := s.rd pMEM MEM_MAP_CAP_GB
  let size := CELL_CACHE_CFG_SIZE_GB.of v
  let held := (List.range 16).any fun j => (s.extents j).any fun e => decide (cap - 24 - size < e.2.2 + e.2.1)
  let ok := decide (size ≤ cap - 24) && (List.range 32).all (fun e => s.cacheState e == 0) && !held
  let old := s.rd pCELL CELL_CACHE_CFG_SIZE_GB
  let w := if ok then v else BitVec.ofNat 64 (putBits v.toNat CELL_CACHE_CFG_SIZE_GB.hi CELL_CACHE_CFG_SIZE_GB.lo old)
  let s := s.rangedWrite pCELL CELL_CACHE_CFG_SIZE_GB.off w
  if ok ∧ size ≠ old then (s.writeMap (s.rd pMEM MEM_MAP_N)).retrySpace else s

/-- A write that is served and has no row of its own, by register. -/
def State.otherWrite (s : State) (q : Requester) (page off : Nat) (v : Word) : State :=
  let a := regAddr page off
  if off = 0x20 then
    -- the cores clear only bits [31:24] of a REG page's ERR_STATUS (R29)
    (match q with
    | .mmc => s.plainWrite a (if pREG ≤ page then v &&& 0xFF000000#64 else v)
    | .rcc _ => s.plainWrite a (v &&& 0xFF000000#64)
    | _ => s.plainWrite a v)
  else if off = 0x28 then
    let was := s.errPending page
    let s := s.plainWrite a v
    if !was && s.errPending page then s.sendNotify 0 else s
  else if page = pGLB ∧ off = 0x100 then
    let was := s.getReg a
    let s := s.plainWrite a v
    if s.getReg a = was then s else s.resendIdent
  else if page = pCELL ∧ off = CELL_CACHE_CFG_SIZE_GB.off then s.writeCacheCfg v
  else if page = pMGT ∧ off = MGT_CLUSTER_MAC_MAC.off then (s.plainWrite a v).flushReports
  else if page = pFAB ∧ ((0x1000 ≤ off ∧ off < 0x3000 ∧ s.rd pFAB FAB_STATUS_ACTIVE_BANK = 0)
      ∨ (0x3000 ≤ off ∧ off < 0x5000 ∧ s.rd pFAB FAB_STATUS_ACTIVE_BANK = 1)) then
    (if (regDefAt page off).isSome then s.raiseErr pFAB FAB_ERR_STATUS_ROUTE_BUSY else s)
  else s.rangedWrite page off v

/-- A write of a register of an engine's page. -/
def State.writeOpt (s : State) (q : Requester) (e : EngineIx) (off : Nat) (v : Word) : State :=
  let addr := regAddr (pOPT + e) off
  if off = 0x100 then nextOf s (execEngineCfg q e v s)
  else if off = 0x120 then s.bertCmd q e v
  else if off = 0x128 then nextOf s (execLaneOutWrite q e v s)
  else if off = 0x130 then nextOf s (execPortEnable q e 0 v s)
  else if off = 0x138 then nextOf s (execPortEnable q e 1 v s)
  else if off = 0x140 then nextOf s (execPortEnable q e 2 v s)
  else if off = 0x148 then nextOf s (execPortEnable q e 3 v s)
  else s.serveWrite q addr v fun s => s.otherWrite q (pOPT + e) off v

/-- A write of a module-level register that a row of its own describes; none for any other. -/
def State.writeOwn (s : State) (q : Requester) (page off : Nat) (v : Word) : Option State :=
  if off = 0x30 then some (nextOf s (execErrForce q page v s))
  else if page = pGLB ∧ off = 0x108 then some (s.resetReq q v)
  else if page = pGLB ∧ off = 0x118 then some (nextOf s (execExpertKey q v s))
  else if page = pGLB ∧ off = 0x130 then some (nextOf s (execExpertLock q v s))
  else if page = pTBASE ∧ off = 0x110 then some (nextOf s (execTbaseAdjust q v s))
  else if page = pTBASE ∧ off = 0x118 then some (nextOf s (execRateTrim q v s))
  else if page = pPWR ∧ off = 0x100 then some (nextOf s (execCapWrite q v s))
  else if page = pFAB ∧ off = 0x100 then some (nextOf s (execRouteCommit q v s))
  else if page = pFLT ∧ off = 0x800 then some (nextOf s (execFltInject q v s))
  else if page = pFLT ∧ off = 0x808 then some (nextOf s (execForceDisable q v s))
  else if page = pCELL ∧ off = 0x108 then some (match bits v.toNat 2 0 with
    | 1 => nextOf s (execCacheLoad q v s)
    | 2 => nextOf s (execCacheUnload q v s)
    | 3 => nextOf s (execCachePin q v s)
    | _ => nextOf s (execCacheUnpin q v s))
  else none

/-- A write of a register by a requester (R24–R29). -/
def State.writeAny (s : State) (q : Requester) (addr bytes : Nat) (v : Word) : State :=
  let p := pageOf addr
  let off := offOf addr
  if bytes ≠ 8 ∨ addr % 8 ≠ 0 ∨ pageAssigned p = false then s.serveWrite q addr v (fun s => s) bytes
  else if off = 0x10 then s.writeCtrl q p v
  else match s.writeOwn q p off v with
    | some t => t
    | none =>
      if h : pOPT ≤ p ∧ p < pOPT + 64 then s.writeOpt q ⟨p - pOPT, by omega⟩ off v
      else if h : pREG ≤ p ∧ p < pREG + 84 ∧ off = 0x148 then nextOf s (execSeqResume q ⟨p - pREG, by omega⟩ v s)
      else if h : p = pCAL ∧ 0x2000 ≤ off ∧ off < 0x2000 + 8 * 84 then
        nextOf s (execTrimWrite q ⟨(off - 0x2000) / 8, by omega⟩ v s)
      else if h : p = pTHM ∧ 0x1000 ≤ off ∧ off < 0x1800 then
        nextOf s (execTsetWrite q ⟨(off - 0x1000) / 0x80, by omega⟩ ⟨(off - 0x1000) % 0x80 / 8, by omega⟩ v s)
      else s.serveWrite q addr v fun s => s.otherWrite q p off v

/-- REGISTER_WRITE (R24–R29). -/
def execRegisterWrite (q : Requester) (addr bytes : Nat) (v : Word) (s : State) : Host.Outcome State Fault Refusal :=
  keepQ s (s.writeAny q addr bytes v)

/-! ### REG_READ and REG_WRITE (R438) -/

/-- The action of REG_READ: each register in turn, 8 bytes each, after the count. -/
def State.readMany (f : MgtReq) (s : State) : State × Nat × List Byte :=
  let n := leAt f.payload 0 2
  if n = 0 ∨ 511 < n ∨ f.payload.length < 8 + 4 * n then (s, stBadLength, [])
  else
    let r := (List.range n).foldl (fun (a : State × List Byte) (k : Nat) =>
      let x := a.1.serveRead .mgmt (leAt f.payload (8 + 4 * k) 4) 8
      (x.1, a.2 ++ leBytes 8 x.2.toNat)) (s, leBytes 8 n)
    (r.1, stOk, r.2)

/-- The action of REG_WRITE: each register in turn. -/
def State.writeMany (f : MgtReq) (s : State) : State × Nat × List Byte :=
  let n := leAt f.payload 0 2
  if n = 0 ∨ 255 < n ∨ f.payload.length < 8 + 16 * n then (s, stBadLength, [])
  else ((List.range n).foldl (fun (s : State) (k : Nat) =>
    s.writeAny .mgmt (leAt f.payload (8 + 16 * k) 4) 8 (BitVec.ofNat 64 (leAt f.payload (16 + 16 * k) 8))) s, stOk, [])

/-- REG_READ: the listed registers, in payload order, as reads of the management port. -/
def execRegRead (f : MgtReq) (s : State) : Host.Outcome State Fault Refusal :=
  keep s (s.mailbox 0x10 false true 8 f (State.readMany f))

/-- REG_WRITE: the listed registers, in payload order, as writes of the management port. -/
def execRegWrite (f : MgtReq) (s : State) : Host.Outcome State Fault Refusal :=
  keepQ s (s.mailbox 0x11 false true 8 f (State.writeMany f))

end Sys2Proof.Machine
end

