-- ==== Sys2Proof/Machine/Dispatch.lean ====
section
/-! DEFINITION. One arm per command: each arm calls that command's one meaning. -/

namespace Sys2Proof.Machine

def exec (i : Instr) (s : State) : Host.Outcome State Fault Refusal :=
  match i with
  | .registerWrite q addr bytes v => Sys2Proof.Machine.execRegisterWrite q addr bytes v s
  | .counterReadClear q addr bytes => Sys2Proof.Machine.execCounterReadClear q addr bytes s
  | .warmResetReq q v => Sys2Proof.Machine.execWarmResetReq q v s
  | .jobResetReq q v => Sys2Proof.Machine.execJobResetReq q v s
  | .blockReset q page v => Sys2Proof.Machine.execBlockReset q page v s
  | .resetDone kind page => Sys2Proof.Machine.execResetDone kind page s
  | .blockDisable q page v => Sys2Proof.Machine.execBlockDisable q page v s
  | .blockEnable q page v => Sys2Proof.Machine.execBlockEnable q page v s
  | .drainDone page => Sys2Proof.Machine.execDrainDone page s
  | .drainTimeout page => Sys2Proof.Machine.execDrainTimeout page s
  | .expertOpen q page v => Sys2Proof.Machine.execExpertOpen q page v s
  | .errForce q page v => Sys2Proof.Machine.execErrForce q page v s
  | .expertKey q v => Sys2Proof.Machine.execExpertKey q v s
  | .expertLock q v => Sys2Proof.Machine.execExpertLock q v s
  | .tbaseAdjust q v => Sys2Proof.Machine.execTbaseAdjust q v s
  | .slewDone => Sys2Proof.Machine.execSlewDone s
  | .rateTrim q v => Sys2Proof.Machine.execRateTrim q v s
  | .ppsEdge => Sys2Proof.Machine.execPpsEdge s
  | .ppsMissing => Sys2Proof.Machine.execPpsMissing s
  | .scrubTick r tile sram vat => Sys2Proof.Machine.execScrubTick r tile sram vat s
  | .commandFetch r deferred ue => Sys2Proof.Machine.execCommandFetch r deferred ue s
  | .commandComplete r id => Sys2Proof.Machine.execCommandComplete r id s
  | .gemm r deferred c => Sys2Proof.Machine.execGemm r deferred c s
  | .gemmT r deferred c => Sys2Proof.Machine.execGemmT r deferred c s
  | .drain r deferred c => Sys2Proof.Machine.execDrain r deferred c s
  | .row r deferred c => Sys2Proof.Machine.execRow r deferred c s
  | .vcfg r deferred c => Sys2Proof.Machine.execVcfg r deferred c s
  | .vdrainHold r deferred c => Sys2Proof.Machine.execVdrainHold r deferred c s
  | .vdrainCe r deferred c => Sys2Proof.Machine.execVdrainCe r deferred c s
  | .vdrainConvert r deferred c => Sys2Proof.Machine.execVdrainConvert r deferred c s
  | .vclear r deferred c => Sys2Proof.Machine.execVclear r deferred c s
  | .cavePush r deferred c => Sys2Proof.Machine.execCavePush r deferred c s
  | .cavePop r deferred c => Sys2Proof.Machine.execCavePop r deferred c s
  | .wload r deferred c => Sys2Proof.Machine.execWload r deferred c s
  | .wloadSpec r deferred c => Sys2Proof.Machine.execWloadSpec r deferred c s
  | .send r deferred c => Sys2Proof.Machine.execSend r deferred c s
  | .recv r deferred c => Sys2Proof.Machine.execRecv r deferred c s
  | .collRs r deferred c => Sys2Proof.Machine.execCollRs r deferred c s
  | .collAg r deferred c => Sys2Proof.Machine.execCollAg r deferred c s
  | .collBcast r deferred c => Sys2Proof.Machine.execCollBcast r deferred c s
  | .collA2a r deferred c => Sys2Proof.Machine.execCollA2a r deferred c s
  | .upd r deferred c => Sys2Proof.Machine.execUpd r deferred c s
  | .param r deferred c => Sys2Proof.Machine.execParam r deferred c s
  | .epochBind r deferred c => Sys2Proof.Machine.execEpochBind r deferred c s
  | .epochPublish r deferred c => Sys2Proof.Machine.execEpochPublish r deferred c s
  | .fence r deferred c => Sys2Proof.Machine.execFence r deferred c s
  | .fenceArrival r peer fid setLo setHi => Sys2Proof.Machine.execFenceArrival r peer fid setLo setHi s
  | .fenceTimeout r => Sys2Proof.Machine.execFenceTimeout r s
  | .anchorCheck r deferred c => Sys2Proof.Machine.execAnchorCheck r deferred c s
  | .anchorCheckEval r => Sys2Proof.Machine.execAnchorCheckEval r s
  | .reversalDone r => Sys2Proof.Machine.execReversalDone r s
  | .idleWindow r deferred c => Sys2Proof.Machine.execIdleWindow r deferred c s
  | .windowEnd r => Sys2Proof.Machine.execWindowEnd r s
  | .windowBudgetExpiry r => Sys2Proof.Machine.execWindowBudgetExpiry r s
  | .markOpen r deferred c => Sys2Proof.Machine.execMarkOpen r deferred c s
  | .markClose r deferred c => Sys2Proof.Machine.execMarkClose r deferred c s
  | .stepEnd r deferred c => Sys2Proof.Machine.execStepEnd r deferred c s
  | .stepEnded slot => Sys2Proof.Machine.execStepEnded slot s
  | .stepSyncPulse widthNs gapNs => Sys2Proof.Machine.execStepSyncPulse widthNs gapNs s
  | .syncMessage m => Sys2Proof.Machine.execSyncMessage m s
  | .seqResume q r v => Sys2Proof.Machine.execSeqResume q r v s
  | .docketFetch => Sys2Proof.Machine.execDocketFetch s
  | .docket c => Sys2Proof.Machine.execDocket c s
  | .empty c => Sys2Proof.Machine.execEmpty c s
  | .fetchTimeout => Sys2Proof.Machine.execFetchTimeout s
  | .fitRecheck slot waitOver => Sys2Proof.Machine.execFitRecheck slot waitOver s
  | .programLoadDone slot image => Sys2Proof.Machine.execProgramLoadDone slot image s
  | .loadTimeout slot => Sys2Proof.Machine.execLoadTimeout slot s
  | .keyWaitTimeout port => Sys2Proof.Machine.execKeyWaitTimeout port s
  | .install c => Sys2Proof.Machine.execInstall c s
  | .revoke c => Sys2Proof.Machine.execRevoke c s
  | .cancel c => Sys2Proof.Machine.execCancel c s
  | .installPendingExpiry entry => Sys2Proof.Machine.execInstallPendingExpiry entry s
  | .portQuiesceDone port => Sys2Proof.Machine.execPortQuiesceDone port s
  | .reportLost slot => Sys2Proof.Machine.execReportLost slot s
  | .weightSegment m => Sys2Proof.Machine.execWeightSegment m s
  | .wsAnswer m => Sys2Proof.Machine.execWsAnswer m s
  | .notReadyRetry load => Sys2Proof.Machine.execNotReadyRetry load s
  | .epochWaitTimeout load => Sys2Proof.Machine.execEpochWaitTimeout load s
  | .segTimeout load => Sys2Proof.Machine.execSegTimeout load s
  | .leaderWaitTimeout load => Sys2Proof.Machine.execLeaderWaitTimeout load s
  | .keyMissingTimeout load => Sys2Proof.Machine.execKeyMissingTimeout load s
  | .cavePushArrival r => Sys2Proof.Machine.execCavePushArrival r s
  | .recomputeDone r => Sys2Proof.Machine.execRecomputeDone r s
  | .updRun upd => Sys2Proof.Machine.execUpdRun upd s
  | .egressDone slot model epoch => Sys2Proof.Machine.execEgressDone slot model epoch s
  | .egressTimeout slot model epoch => Sys2Proof.Machine.execEgressTimeout slot model epoch s
  | .mirrorSeg m => Sys2Proof.Machine.execMirrorSeg m s
  | .mirrorDone m => Sys2Proof.Machine.execMirrorDone m s
  | .mirrorAck m => Sys2Proof.Machine.execMirrorAck m s
  | .mirrorCommit m => Sys2Proof.Machine.execMirrorCommit m s
  | .mirrorRollback m => Sys2Proof.Machine.execMirrorRollback m s
  | .restoreReq m => Sys2Proof.Machine.execRestoreReq m s
  | .restoreEnd m => Sys2Proof.Machine.execRestoreEnd m s
  | .mirrorTimeout slot area => Sys2Proof.Machine.execMirrorTimeout slot area s
  | .initTimeout slot area => Sys2Proof.Machine.execInitTimeout slot area s
  | .level0Complete slot tag => Sys2Proof.Machine.execLevel0Complete slot tag s
  | .collVote m => Sys2Proof.Machine.execCollVote m s
  | .collData m => Sys2Proof.Machine.execCollData m s
  | .collResult m => Sys2Proof.Machine.execCollResult m s
  | .resultReadbackDone slot tag => Sys2Proof.Machine.execResultReadbackDone slot tag s
  | .collDigest m => Sys2Proof.Machine.execCollDigest m s
  | .collAbort m => Sys2Proof.Machine.execCollAbort m s
  | .collResend m => Sys2Proof.Machine.execCollResend m s
  | .collRedo m => Sys2Proof.Machine.execCollRedo m s
  | .collMove m => Sys2Proof.Machine.execCollMove m s
  | .barrierEnter slot => Sys2Proof.Machine.execBarrierEnter slot s
  | .collBarrier m => Sys2Proof.Machine.execCollBarrier m s
  | .outcome m => Sys2Proof.Machine.execOutcome m s
  | .collRollback m => Sys2Proof.Machine.execCollRollback m s
  | .chunkTimeout slot tag rank => Sys2Proof.Machine.execChunkTimeout slot tag rank s
  | .resultMissingTimeout slot tag => Sys2Proof.Machine.execResultMissingTimeout slot tag s
  | .collTimeout r tag => Sys2Proof.Machine.execCollTimeout r tag s
  | .barrierTimeout slot => Sys2Proof.Machine.execBarrierTimeout slot s
  | .heartbeatSend slot => Sys2Proof.Machine.execHeartbeatSend slot s
  | .heartbeat m => Sys2Proof.Machine.execHeartbeat m s
  | .heartbeatMiss slot sender => Sys2Proof.Machine.execHeartbeatMiss slot sender s
  | .suspect m => Sys2Proof.Machine.execSuspect m s
  | .probe m => Sys2Proof.Machine.execProbe m s
  | .probeAck m => Sys2Proof.Machine.execProbeAck m s
  | .probeWaitExpiry slot subject => Sys2Proof.Machine.execProbeWaitExpiry slot subject s
  | .leaderSilence slot => Sys2Proof.Machine.execLeaderSilence slot s
  | .propose m => Sys2Proof.Machine.execPropose m s
  | .accept m => Sys2Proof.Machine.execAccept m s
  | .memberCommit m => Sys2Proof.Machine.execMemberCommit m s
  | .acceptWaitExpiry slot => Sys2Proof.Machine.execAcceptWaitExpiry slot s
  | .leave m => Sys2Proof.Machine.execLeave m s
  | .abandon m => Sys2Proof.Machine.execAbandon m s
  | .join m => Sys2Proof.Machine.execJoin m s
  | .joinAck m => Sys2Proof.Machine.execJoinAck m s
  | .serveRequest m => Sys2Proof.Machine.execServeRequest m s
  | .serveClose m => Sys2Proof.Machine.execServeClose m s
  | .streamIdle slot sid => Sys2Proof.Machine.execStreamIdle slot sid s
  | .queueWaitExpiry slot reqId => Sys2Proof.Machine.execQueueWaitExpiry slot reqId s
  | .batchWaitExpiry slot model => Sys2Proof.Machine.execBatchWaitExpiry slot model s
  | .batchAdmit slot => Sys2Proof.Machine.execBatchAdmit slot s
  | .batchDone slot => Sys2Proof.Machine.execBatchDone slot s
  | .cacheLoad q v => Sys2Proof.Machine.execCacheLoad q v s
  | .cacheUnload q v => Sys2Proof.Machine.execCacheUnload q v s
  | .cachePin q v => Sys2Proof.Machine.execCachePin q v s
  | .cacheUnpin q v => Sys2Proof.Machine.execCacheUnpin q v s
  | .manifestChunk m => Sys2Proof.Machine.execManifestChunk m s
  | .cacheRetry entry => Sys2Proof.Machine.execCacheRetry entry s
  | .useDecay => Sys2Proof.Machine.execUseDecay s
  | .openWrite f => Sys2Proof.Machine.execOpenWrite f s
  | .erase f => Sys2Proof.Machine.execErase f s
  | .seal f => Sys2Proof.Machine.execSeal f s
  | .abort f => Sys2Proof.Machine.execAbort f s
  | .cellarData f => Sys2Proof.Machine.execCellarData f s
  | .cellarSessionIdle => Sys2Proof.Machine.execCellarSessionIdle s
  | .routeCommit q v => Sys2Proof.Machine.execRouteCommit q v s
  | .routeCheckDone => Sys2Proof.Machine.execRouteCheckDone s
  | .detourDrainTimeout discarded => Sys2Proof.Machine.execDetourDrainTimeout discarded s
  | .vcStall r => Sys2Proof.Machine.execVcStall r s
  | .xferPost r => Sys2Proof.Machine.execXferPost r s
  | .xferAck r => Sys2Proof.Machine.execXferAck r s
  | .faultReport rep => Sys2Proof.Machine.execFaultReport rep s
  | .sentinelTick r wrong => Sys2Proof.Machine.execSentinelTick r wrong s
  | .blockHeartbeatMiss page => Sys2Proof.Machine.execBlockHeartbeatMiss page s
  | .recoveryResume slot => Sys2Proof.Machine.execRecoveryResume slot s
  | .strikeWindowExpiry => Sys2Proof.Machine.execStrikeWindowExpiry s
  | .fltInject q v => Sys2Proof.Machine.execFltInject q v s
  | .forceDisable q v => Sys2Proof.Machine.execForceDisable q v s
  | .engineFail e cause => Sys2Proof.Machine.execEngineFail e cause s
  | .engineCfg q e v => Sys2Proof.Machine.execEngineCfg q e v s
  | .trainRetry port light => Sys2Proof.Machine.execTrainRetry port light s
  | .linkTrained port credits => Sys2Proof.Machine.execLinkTrained port credits s
  | .ident m => Sys2Proof.Machine.execIdent m s
  | .linkDown port lanes => Sys2Proof.Machine.execLinkDown port lanes s
  | .downFlit port => Sys2Proof.Machine.execDownFlit port s
  | .dataFlit port flit => Sys2Proof.Machine.execDataFlit port flit s
  | .nak port ack => Sys2Proof.Machine.execNak port ack s
  | .replayTimeout port => Sys2Proof.Machine.execReplayTimeout port s
  | .sinkTimeout port => Sys2Proof.Machine.execSinkTimeout port s
  | .faultyExpiry port => Sys2Proof.Machine.execFaultyExpiry port s
  | .portEnable q e k v => Sys2Proof.Machine.execPortEnable q e k v s
  | .serCheck e lane symErrs symbols => Sys2Proof.Machine.execSerCheck e lane symErrs symbols s
  | .lmap e fromLane toLane => Sys2Proof.Machine.execLmap e fromLane toLane s
  | .lmapAck e fromLane toLane => Sys2Proof.Machine.execLmapAck e fromLane toLane s
  | .lmapTimeout e => Sys2Proof.Machine.execLmapTimeout e s
  | .laneOutWrite q e v => Sys2Proof.Machine.execLaneOutWrite q e v s
  | .soak q e v => Sys2Proof.Machine.execSoak q e v s
  | .bertRunNow q e v => Sys2Proof.Machine.execBertRunNow q e v s
  | .bertAbort q e v => Sys2Proof.Machine.execBertAbort q e v s
  | .bertInterval e => Sys2Proof.Machine.execBertInterval e s
  | .bertStart e lane => Sys2Proof.Machine.execBertStart e lane s
  | .bertEnd e errs => Sys2Proof.Machine.execBertEnd e errs s
  | .xferPostMsg m => Sys2Proof.Machine.execXferPostMsg m s
  | .xferData m => Sys2Proof.Machine.execXferData m s
  | .xferAckMsg m => Sys2Proof.Machine.execXferAckMsg m s
  | .sizeErr m => Sys2Proof.Machine.execSizeErr m s
  | .xferTimeout r id => Sys2Proof.Machine.execXferTimeout r id s
  | .tsyncTick => Sys2Proof.Machine.execTsyncTick s
  | .tsyncResp port seq t2 t3 t4 => Sys2Proof.Machine.execTsyncResp port seq t2 t3 t4 s
  | .tsyncMiss => Sys2Proof.Machine.execTsyncMiss s
  | .stackScrubTick site line found => Sys2Proof.Machine.execStackScrubTick site line found s
  | .stackFail site cause => Sys2Proof.Machine.execStackFail site cause s
  | .stackRemapDone site => Sys2Proof.Machine.execStackRemapDone site s
  | .zoneFrame => Sys2Proof.Machine.execZoneFrame s
  | .governorTick volts => Sys2Proof.Machine.execGovernorTick volts s
  | .droop r mv => Sys2Proof.Machine.execDroop r mv s
  | .droopEnd r => Sys2Proof.Machine.execDroopEnd r s
  | .powerSample zones rails => Sys2Proof.Machine.execPowerSample zones rails s
  | .capWrite q v => Sys2Proof.Machine.execCapWrite q v s
  | .alertAssert ns => Sys2Proof.Machine.execAlertAssert ns s
  | .alertDeassert => Sys2Proof.Machine.execAlertDeassert s
  | .alertHoldExpiry => Sys2Proof.Machine.execAlertHoldExpiry s
  | .alertRampTick => Sys2Proof.Machine.execAlertRampTick s
  | .thermalSample temps => Sys2Proof.Machine.execThermalSample temps s
  | .readmit r => Sys2Proof.Machine.execReadmit r s
  | .zoneTimeout r => Sys2Proof.Machine.execZoneTimeout r s
  | .overvolt r => Sys2Proof.Machine.execOvervolt r s
  | .railFault rail => Sys2Proof.Machine.execRailFault rail s
  | .refclkLoss => Sys2Proof.Machine.execRefclkLoss s
  | .regionPllUnlock r => Sys2Proof.Machine.execRegionPllUnlock r s
  | .trimWrite q r v => Sys2Proof.Machine.execTrimWrite q r v s
  | .tsetWrite q set word v => Sys2Proof.Machine.execTsetWrite q set word v s
  | .telemetryRecord set => Sys2Proof.Machine.execTelemetryRecord set s
  | .mmcPowerLoop => Sys2Proof.Machine.execMmcPowerLoop s
  | .rccPowerLoop r => Sys2Proof.Machine.execRccPowerLoop r s
  | .mpuTrap cpx => Sys2Proof.Machine.execMpuTrap cpx s
  | .rccWatchdog r core => Sys2Proof.Machine.execRccWatchdog r core s
  | .rccRestartDone r => Sys2Proof.Machine.execRccRestartDone r s
  | .mmcWatchdog => Sys2Proof.Machine.execMmcWatchdog s
  | .mmcTwinReady => Sys2Proof.Machine.execMmcTwinReady s
  | .mgtLaneFault lane => Sys2Proof.Machine.execMgtLaneFault lane s
  | .getInfo f => Sys2Proof.Machine.execGetInfo f s
  | .attest f => Sys2Proof.Machine.execAttest f s
  | .ownerBind f => Sys2Proof.Machine.execOwnerBind f s
  | .provisionMgtKey f => Sys2Proof.Machine.execProvisionMgtKey f s
  | .imagePush f => Sys2Proof.Machine.execImagePush f s
  | .regRead f => Sys2Proof.Machine.execRegRead f s
  | .regWrite f => Sys2Proof.Machine.execRegWrite f s
  | .keyInstallWeight f => Sys2Proof.Machine.execKeyInstallWeight f s
  | .keyInstallCache f => Sys2Proof.Machine.execKeyInstallCache f s
  | .keyInstallMirror f => Sys2Proof.Machine.execKeyInstallMirror f s
  | .keyInstallExpert f => Sys2Proof.Machine.execKeyInstallExpert f s
  | .keyInstallMgt f => Sys2Proof.Machine.execKeyInstallMgt f s
  | .keyErase f => Sys2Proof.Machine.execKeyErase f s
  | .lifecycleDebug f => Sys2Proof.Machine.execLifecycleDebug f s
  | .lifecycleRetired f => Sys2Proof.Machine.execLifecycleRetired f s
  | .notifyGapExpiry => Sys2Proof.Machine.execNotifyGapExpiry s
  | .powerUp => Sys2Proof.Machine.execPowerUp s
  | .modResetAssert => Sys2Proof.Machine.execModResetAssert s
  | .modResetRelease => Sys2Proof.Machine.execModResetRelease s
  | .regionBistDone failCols failed => Sys2Proof.Machine.execRegionBistDone failCols failed s
  | .stackTrainDone passed => Sys2Proof.Machine.execStackTrainDone passed s
  | .linkTrainExpiry => Sys2Proof.Machine.execLinkTrainExpiry s
  | .helloTick => Sys2Proof.Machine.execHelloTick s
  | .assign c => Sys2Proof.Machine.execAssign c s
  | .updateResend => Sys2Proof.Machine.execUpdateResend s
  | .updateAck c => Sys2Proof.Machine.execUpdateAck c s
  | .sportStageEnd => Sys2Proof.Machine.execSportStageEnd s
  | .tbLockEnd timeout => Sys2Proof.Machine.execTbLockEnd timeout s
  | .presentLoss => Sys2Proof.Machine.execPresentLoss s
  | .extestEnter => Sys2Proof.Machine.execExtestEnter s
  | .extestLeave => Sys2Proof.Machine.execExtestLeave s
  | .laneLockLoss e lane => Sys2Proof.Machine.execLaneLockLoss e lane s
  | .mgtLaneUp lane => Sys2Proof.Machine.execMgtLaneUp lane s
  | .clkPllUnlock which => Sys2Proof.Machine.execClkPllUnlock which s
  | .coreCheckFail cpx core => Sys2Proof.Machine.execCoreCheckFail cpx core s
  | .lockstepMismatch => Sys2Proof.Machine.execLockstepMismatch s
  | .selftestDone ok => Sys2Proof.Machine.execSelftestDone ok s
  | .updateGapExpiry => Sys2Proof.Machine.execUpdateGapExpiry s
  | .cellarLoadDone entry => Sys2Proof.Machine.execCellarLoadDone entry s
  | .badMgtFrame fr => Sys2Proof.Machine.execBadMgtFrame fr s
  | .badOpcode r deferred c => Sys2Proof.Machine.execBadOpcode r deferred c s

end Sys2Proof.Machine
end

