-- ==== Sys2Proof/Machine/Step.lean ====
section
/-! DEFINITION. One step of the block: the command at the front of the queue runs; with none waiting, time passes. -/

namespace Sys2Proof.Machine

/-- The command that a word spells, put at the front of the queue; no word spells one. -/
def State.withFetchWord (s : State) (nbits w : Nat) : State :=
  match decodeTableWord nbits w with
  | some c => { s with pending := c :: s.pending }
  | none => s

/-- An empty queue: one nanosecond of reference time passes (R45, DESIGN CHOICE, log 3), but for a module that is held in
cold reset. -/
def State.idle (s : State) : State := if s.heldReset then s else s.tick

/-- One step. -/
def step (s : State) : Host.Outcome State Fault Refusal :=
  match s.pending with
  | c :: rest => exec c { s with pending := rest }
  | [] => .next s.idle

end Sys2Proof.Machine
end

