-- ==== Sys2Proof/Safety.lean ====
section
/-! DEFINITION. The terms that statements use: what it is for a command to answer its effect, when each kind of command is
taken as the spec's checks say, and which commands may write stack memory. -/

namespace Sys2Proof.Machine

/-! ### Answers -/

/-- The command answers the next state `u`, with stack memory and the queue as they were. Everything but what `u` changes is
unchanged. -/
def Answers (c : Instr) (s u : State) : Prop := exec c s = .next { u with mem := s.mem, pending := s.pending }

/-- The command answers the next state `u`, whose stack memory is listed in canonical form, with the queue as it was. -/
def AnswersMem (c : Instr) (s u : State) : Prop := exec c s = .next { u with mem := Memory.canon u.mem, pending := s.pending }

/-- Every register outside `l` reads in `t` as in `s`. -/
def RegsKeptBut (l : List Nat) (s t : State) : Prop := ∀ a, a ∉ l → t.getReg a = s.getReg a

/-- Every byte of stack memory reads in `t` as in `s`. -/
def StackKept (s t : State) : Prop := ∀ a, t.memByte a = s.memByte a

/-! ### Register writes (R24, R39) -/

/-- A 64-bit write that is served: no warm reset runs, and no row of R24 refuses it. -/
def State.served (s : State) (q : Requester) (addr : Nat) (v : Word) : Bool := !s.wholeReset && (s.refuses q addr 8 true v).isNone

/-- Whether a write at an offset of a page has a row of its own: CTRL, ERR_FORCE, and the registers whose write acts. -/
def ownRow (page off : Nat) : Bool :=
  off == 0x10 || off == 0x30 || (page == pGLB && (off == 0x108 || off == 0x118 || off == 0x130))
    || (page == pTBASE && (off == 0x110 || off == 0x118)) || (page == pPWR && off == 0x100) || (page == pFAB && off == 0x100)
    || (page == pFLT && (off == 0x800 || off == 0x808)) || (page == pCELL && off == 0x108)
    || (decide (pOPT ≤ page ∧ page < pOPT + 64) && (off == 0x100 || off == 0x120 || off == 0x128 || off == 0x130 || off == 0x138
      || off == 0x140 || off == 0x148))
    || (decide (pREG ≤ page ∧ page < pREG + 84) && off == 0x148)
    || (page == pCAL && decide (0x2000 ≤ off ∧ off < 0x2000 + 8 * 84))
    || (page == pTHM && decide (0x1000 ≤ off ∧ off < 0x1800))

/-! ### Commands of a region's streams (R124–R128, R488) -/

/-- Where the next command of a stream stands. -/
def State.standsAt (s : State) (r : Nat) (d : Bool) (ix : Nat) (c : Cmd) : At :=
  ⟨r, d, ix, match s.recompAt r with | some rc => rc.mb | none => c.mb, (s.recompAt r).isSome⟩

/-- Whether the command at index `ix` of a stream may issue now: the stream runs and stands there, no check of R488 refuses
it, its micro-batch is not refused, no breakpoint stops it, and nothing makes it wait. -/
def State.canIssue (s : State) (r : Nat) (d : Bool) (ix : Nat) (c : Cmd) (op : Nat) (i : Issue) : Bool :=
  s.issueIx r d == some ix && c.op == op && s.fetchedOk r d ix c && (d || decide (ix < s.rd (regPage r) REG_SEQ_LEN_MAIN_LEN))
    && (d || (s.recompAt r).isSome || s.rd (regPage r) REG_SEQ_EXPERT_BREAK_EN != 1
      || s.rd (regPage r) REG_SEQ_EXPERT_BREAK_PC != ix || (s.seq r).breakSkip)
    && (i.openMark || c.mb == 0xFF || !(s.seq r).opens.contains c.mb || !s.refusedMb r c.mb)
    && (s.refusal r d c i).isNone && ((s.recompAt r).isNone || (i.inRec && c.mb == 0xFF))
    && (s.seqState r != 7 || i.replayed) && !i.wait && !(s.wsp.binds.any fun b => b.region == r)
    && (match i.block with | some p => s.on p | none => true)
    && (match i.ctx with | some (sid, k) => !s.ctxWaits (s.jobOf r) r sid k | none => true)
    && !(s.seq r).hazard i.reads i.writes && i.window.isNone && i.instead.isNone

/-- A command of a stream runs: whenever it may issue, it issues and then has the effect `eff`, writing no stack memory. -/
def IssueRuns (row : Instr) (s : State) (r : Nat) (d : Bool) (c : Cmd) (op : Nat) (i : Issue) (eff : At → State → State) : Prop :=
  ∀ ix, s.canIssue r d ix c op i = true → Answers row s (eff (s.standsAt r d ix c) (s.issueNow r d ix op i))

/-- The same for a command that may write stack memory. -/
def IssueRunsMem (row : Instr) (s : State) (r : Nat) (d : Bool) (c : Cmd) (op : Nat) (i : Issue) (eff : At → State → State) : Prop :=
  ∀ ix, s.canIssue r d ix c op i = true → AnswersMem row s (eff (s.standsAt r d ix c) (s.issueNow r d ix op i))

/-! ### Mailbox requests (R437) -/

/-- Whether a request passes the six checks of R437; `open_` says that its opcode needs no TAG now. -/
def State.mailOk (s : State) (opcode : Nat) (open_ : Bool) (least : Nat) (f : MgtReq) : Bool :=
  !s.wholeReset && s.stage != 1 && s.stage != 0xFE && f.major == 2
    && f.flags % 4 == 0 && decide (f.pair < 28) && f.length == f.payload.length && decide (f.length ≤ 4096)
    && (open_ || (s.rd pMGT MGT_STATUS_KEY_VALID != 0 && s.tagOk opcode f && decide (s.rd pMBX MBX_PAIR_LAST_SEQ_IN f.pair < f.seq)))
    && s.rd pMBX MBX_PAIR_BUSY f.pair != 1 && decide (least ≤ f.length)

/-- The state in which the action of a request that passed the checks runs. -/
def State.mailTaken (s : State) (opcode : Nat) (f : MgtReq) : State :=
  ((s.bump pMGT MGT_C_FRAMES_IN).wrs pMBX [(MBX_PAIR_LAST_SEQ_IN, f.seq), (MBX_PAIR_LAST_OPCODE, opcode)] f.pair).bump
    pMBX MBX_C_REQUESTS

/-- A request that passes the checks runs `act` and is answered with the status and the payload that it gives. -/
def MailRuns (row : Instr) (s : State) (opcode : Nat) (open_ : Bool) (least : Nat) (f : MgtReq)
    (act : State → State × Nat × List Byte) : Prop :=
  s.mailOk opcode open_ least f = true →
    let (t, st, p) := act (s.mailTaken opcode f)
    Answers row s (t.respond opcode f st p)

/-- The same for a request that may write stack memory. -/
def MailRunsMem (row : Instr) (s : State) (opcode : Nat) (open_ : Bool) (least : Nat) (f : MgtReq)
    (act : State → State × Nat × List Byte) : Prop :=
  s.mailOk opcode open_ least f = true →
    let (t, st, p) := act (s.mailTaken opcode f)
    AnswersMem row s (t.respond opcode f st p)

/-! ### Messages (R373 and the checks of each class) -/

/-- A message passes the port's checks for a job slot. -/
def Admitted (s : State) (m : Msg) (slot : Nat) : Prop := s.admitMsg m = (s, some slot)

/-- A weight message of a TYPE byte is taken (R178, R181). -/
def WeightTaken (s : State) (m : Msg) (slot : Nat) : Prop := Admitted s m slot ∧ m.cls = 1

/-- A packet of a kind is taken for bucket `b` (R236–R242). -/
def CollTaken (s : State) (m : Msg) (kind slot : Nat) (b : Bucket) (p : CPkt) : Prop :=
  Admitted s m slot ∧ m.cls = 2 ∧ byteAt m.body 0 = 0x43 ∧ parseCPkt m.body = p ∧ p.kind = kind ∧ cpktCrcOk m.body = true
    ∧ s.bucket slot p.tag p.step = some b ∧ p.gepoch = s.gepoch slot ∧ b.done ≠ 3
    ∧ (kind ≠ 4 → p.dhash = b.dhash ∧ (b.has p.level = true → p.members = s.bMembers slot b p.level))
    ∧ b.has p.level = true ∧ p.level ≠ 0

/-- A packet of the commit group is taken (R252, R253). -/
def BarTaken (s : State) (m : Msg) (kind slot : Nat) (p : CPkt) : Prop :=
  Admitted s m slot ∧ m.cls = 2 ∧ byteAt m.body 0 = 0x43 ∧ parseCPkt m.body = p ∧ p.kind = kind ∧ cpktCrcOk m.body = true
    ∧ p.gepoch = s.gepoch slot ∧ p.tag = 0 ∧ p.payload.length = 512 ∧ p.level ≤ 2 ∧ p.level ≠ 0

/-- A mirror message of an OP is taken, with its decrypted payload (R231). -/
def MirrorTaken (s : State) (m : Msg) (op slot : Nat) (x : MirMsg) (pt : List Byte) : Prop :=
  Admitted s m slot ∧ m.cls = 3 ∧ x.op = op ∧ (s.upd slot).mirrorKey ≠ [] ∧ ∃ ct tag, parseMir m.body = some (x, ct, tag)
    ∧ gcmOpen (s.upd slot).mirrorKey x.nonce (m.body.take 32) ct tag = some pt

/-- A membership message of an OP is taken (R272); `anyEpoch` as R272 has it for that OP. -/
def MemberTaken (s : State) (m : Msg) (op : Nat) (anyEpoch : Bool) (slot : Nat) (x : MemMsg) : Prop :=
  Admitted s m slot ∧ m.cls = 4 ∧ parseMember m.body = some x ∧ x.op = op ∧ (anyEpoch = true ∨ x.gepoch = s.gepoch slot)

/-- A serving message of an OP is taken (R286). -/
def SrvTaken (s : State) (m : Msg) (op slot : Nat) : Prop := Admitted s m slot ∧ m.cls = 5 ∧ srvForm m.body op = true

/-- An XFER message of an XTYPE is taken (R375). -/
def XferTaken (s : State) (m : Msg) (xtype slot : Nat) : Prop :=
  Admitted s m slot ∧ m.cls = 6 ∧ 24 ≤ m.body.length ∧ byteAt m.body 0 = xtype ∧ byteAt m.body 11 = 0 ∧ leAt m.body 18 6 = 0
    ∧ (xtype = 2 ∨ m.body.length = 24)

/-- A CONTROL answer comes in on its path and answers what the docket unit sent (R149). -/
def FetchTaken (s : State) (c : CtlMsg) (ctype : Nat) (u : State) : Prop :=
  ∃ f, s.ctlArrive c = (u, true) ∧ u.dock.fetch = some f ∧ u.ctlAnswers c f = true ∧ c.ctype = ctype

end Sys2Proof.Machine

namespace Sys2Proof

/-- Whether a command may write stack memory, or start what writes it; every other one leaves each byte as it is. -/
def Instr.mayWriteStack : Instr → Bool
  | .registerWrite _ _ _ _ | .blockReset _ _ _ | .blockDisable _ _ _ | .blockEnable _ _ _ | .expertOpen _ _ _
  | .vdrainHold _ _ _ | .vdrainCe _ _ _ | .docket _ | .fitRecheck _ _ | .programLoadDone _ _ | .loadTimeout _
  | .portQuiesceDone _ | .cavePushArrival _ | .updRun _ | .mirrorAck _ | .restoreEnd _ | .mirrorTimeout _ _
  | .level0Complete _ _ | .collVote _ | .collData _ | .collResult _ | .resultReadbackDone _ _ | .collDigest _ | .collRedo _
  | .collMove _ | .barrierEnter _ | .collBarrier _ | .outcome _ | .collRollback _ | .chunkTimeout _ _ _
  | .resultMissingTimeout _ _ | .barrierTimeout _ | .heartbeatMiss _ _ | .suspect _ | .probeWaitExpiry _ _
  | .leaderSilence _ | .propose _ | .accept _ | .memberCommit _ | .acceptWaitExpiry _ | .leave _ | .routeCheckDone
  | .faultReport _ | .recoveryResume _ | .fltInject _ _ | .engineCfg _ _ _ | .ident _ | .linkDown _ _ | .downFlit _
  | .dataFlit _ _ | .nak _ _ | .replayTimeout _ | .sinkTimeout _ | .portEnable _ _ _ _ | .lmapTimeout _
  | .laneOutWrite _ _ _ | .soak _ _ _ | .bertRunNow _ _ _ | .bertAbort _ _ _ | .stackRemapDone _ | .mmcPowerLoop
  | .regWrite _ | .keyInstallWeight _ | .keyInstallCache _ | .keyInstallMirror _ | .keyInstallExpert _ | .keyInstallMgt _
  | .stackTrainDone _ | .lockstepMismatch => true
  | _ => false

end Sys2Proof
end

