-- ==== Sys2Proof/Certificates/Slice0/Obligations.lean ====
section
/-! DEFINITION. The statements for the provers. -/

open Sys2Proof Sys2Proof.Machine

/-! ### The queue, the memory, and reset -/

/-- Every command: a step takes the command at the front of the queue and runs it with the queue's rest. On an empty queue one
nanosecond passes, but for a module held in cold reset, whose state stays as it is; that time passes there is the model's
choice (log 3). -/
def Obligations.StepRunsTheFrontCommand : Prop :=
  (∀ (c : Instr) (rest : List Instr) (s : State), s.pending = c :: rest → step s = exec c { s with pending := rest }) ∧
  (∀ s : State, s.pending = [] → step s = .next (if s.boot.pinLow || s.boot.extest then s else s.tick))

/-- Every command answers a next state, in every state: it takes nothing from the queue and adds nothing to it, leaves the
memory in canonical form when it was so, and, unless it is one of the commands that may write stack memory, leaves every byte
of it as it was. -/
def Obligations.EveryCommandAnswersANextState : Prop :=
  ∀ (c : Instr) (s : State), ∃ t, exec c s = .next t ∧ t.pending = s.pending
    ∧ (Memory.wf s.mem = true → Memory.wf t.mem = true) ∧ (c.mayWriteStack = false → t.mem = s.mem ∧ StackKept s t)

/-- The invariant of stack memory: a step from any state with its memory in canonical form leaves it so, and the queue loses
its front and nothing else. -/
def Obligations.MemoryStaysCanonical : Prop :=
  ∀ s t : State, Memory.wf s.mem = true → step s = .next t → Memory.wf t.mem = true ∧ t.pending = s.pending.tail

/-- The state at reset: canonical memory, no command waiting, BOOT_STAGE SELFTEST, the time base at 0, no reset running and
nothing sent. That every byte of the stacks then reads 0 is the model's choice (log 4). -/
def Obligations.ResetIsTheStartOfSelftest : Prop :=
  Memory.wf State.reset.mem = true ∧ State.reset.pending = [] ∧ State.reset.stage = 0x01 ∧ State.reset.tb.count = 0
    ∧ (∀ a, State.reset.memByte a = 0#8) ∧ State.reset.resets = [] ∧ State.reset.out = []

/-- R30: the page indices that are assigned, and what the ID register of each reports: the block type in bits 63…48 and the
instance in bits 47…32. An index that the table does not list is refused as R24 has it. -/
def Obligations.ResetIdNamesBlockTypeAndInstance : Prop :=
  (∀ p : Nat, pageAssigned p = true ↔ p ≤ 0x012 ∨ (0x020 ≤ p ∧ p ≤ 0x039) ∨ (0x040 ≤ p ∧ p ≤ 0x07F) ∨ (0x100 ≤ p ∧ p ≤ 0x153)) ∧
  (∀ (p f n : Nat), (p ≤ 0x012 ∧ f = p) ∨ (0x020 ≤ p ∧ p ≤ 0x039 ∧ f = 0x020) ∨ (0x040 ≤ p ∧ p ≤ 0x07F ∧ f = 0x040) ∨
      (0x100 ≤ p ∧ p ≤ 0x153 ∧ f = 0x100) → n = p - f →
    bits (State.reset.getReg (regAddr p 0)).toNat 63 48 = f ∧ bits (State.reset.getReg (regAddr p 0)).toNat 47 32 = n ∧
    State.reset.readValue p 0 = (State.reset.getReg (regAddr p 0)).toNat) ∧
  (∀ (q : Requester) (addr bytes : Nat) (w : Bool) (v : Word) (s : State), pageAssigned (pageOf addr) = false →
    s.refuses q addr bytes w v = some GLB_ERR_STATUS_UNMAPPED)

/-! ### The register space -/

/-- R24: a refused write changes nothing and a refused read returns 0; the first row of the table that applies is the one that
is recorded, it sets that row's bit, the access counts once, and ACCESS_ERR_ADDR takes it only while its VALID is 0. No register
defined: a read returns 0 and a write is ignored. -/
def Obligations.RefusedAccessIsRecordedOnce : Prop :=
  (∀ (q : Requester) (addr bytes : Nat) (v : Word) (f : Fld) (s : State),
    s.wholeReset = false → s.refuses q addr bytes true v = some f →
    AnswersMem (.registerWrite q addr bytes v) s (s.refuseAccess q addr true f)) ∧
  (∀ (q : Requester) (addr bytes : Nat) (f : Fld) (s : State),
    s.wholeReset = false → s.refuses q addr bytes false 0#64 = some f →
    Answers (.counterReadClear q addr bytes) s ((s.refuseAccess q addr false f).emit (.readData q addr 0#64))) ∧
  (∀ (q : Requester) (addr : Nat) (w : Bool) (f : Fld) (s : State), s.rd pGLB GLB_ACCESS_ERR_ADDR_VALID = 1 →
    s.refuseAccess q addr w f = (s.raiseErr pGLB f).bump pGLB GLB_C_ACCESS_ERR_COUNT) ∧
  (∀ (q : Requester) (addr : Nat) (w : Bool) (f : Fld) (s : State), s.rd pGLB GLB_ACCESS_ERR_ADDR_VALID = 0 →
    s.refuseAccess q addr w f = ((s.raiseErr pGLB f).bump pGLB GLB_C_ACCESS_ERR_COUNT).wrs pGLB [(GLB_ACCESS_ERR_ADDR_ADDR, addr),
      (GLB_ACCESS_ERR_ADDR_PATH, pathCode q), (GLB_ACCESS_ERR_ADDR_WRITE, b2n w), (GLB_ACCESS_ERR_ADDR_VALID, 1)]) ∧
  (∀ (q : Requester) (addr : Nat) (w : Bool) (f : Fld) (s : State), s.rd pMGT MGT_NOTIFY_CFG_EN = 0 →
    RegsKeptBut [regAddr pGLB 0x20, regAddr pGLB GLB_C_ACCESS_ERR_COUNT.off, regAddr pGLB GLB_ACCESS_ERR_ADDR_VALID.off] s
      (s.refuseAccess q addr w f) ∧
    s.refuseAccess q addr w f = { s with regs := (s.refuseAccess q addr w f).regs }) ∧
  (∀ (q : Requester) (addr bytes : Nat) (w : Bool) (v : Word) (s : State),
    let p := pageOf addr
    let o := offOf addr
    let alive := s.deadPage p = false ∨ (w = false ∧ (o = 0 ∨ o = 8 ∨ o = 0x18 ∨ o = 0x20))
    let expert := (0x800 ≤ o ∧ o < 0xC00 ∧ ¬(s.rd pGLB GLB_EXPERT_STATUS_MATCHED = 1 ∧ s.rd p cExpert = 1)) ∨
      (o = 0x10 ∧ bit v.toNat 1 = true ∧ s.rd pGLB GLB_EXPERT_STATUS_MATCHED ≠ 1)
    (pageAssigned p = false → s.refuses q addr bytes w v = some GLB_ERR_STATUS_UNMAPPED) ∧
    (pageAssigned p = true → bytes ≠ 8 ∨ addr % 8 ≠ 0 → s.refuses q addr bytes w v = some GLB_ERR_STATUS_BAD_ACCESS) ∧
    (pageAssigned p = true → bytes = 8 → addr % 8 = 0 →
      (s.mayAccess q p o w = false → s.refuses q addr bytes w v = some GLB_ERR_STATUS_PERM_DENIED) ∧
      (s.mayAccess q p o w = true → ¬alive → s.refuses q addr bytes w v = some GLB_ERR_STATUS_DEAD_PAGE) ∧
      (s.mayAccess q p o w = true → alive →
        (w = true → s.resetBusy p = true → s.refuses q addr bytes w v = some GLB_ERR_STATUS_BUSY_WRITE) ∧
        (w = true → s.resetBusy p = false → expert → s.refuses q addr bytes w v = some GLB_ERR_STATUS_EXPERT_DENIED) ∧
        (w = false ∨ (s.resetBusy p = false ∧ ¬expert) → s.refuses q addr bytes w v = none)))) ∧
  (∀ (a : Nat) (v : Word) (s : State), regDefAt (pageOf a) (offOf a) = none →
    s.plainWrite a v = s ∧ (s.deadPage (pageOf a) = false → s.readValue (pageOf a) (offOf a) = 0))

/-- R25: what a plain write leaves in each field of a register, and what it leaves of the rest: RW takes the value, a W1C
field loses the bits written 1, every other type keeps its value, and no other register changes. -/
def Obligations.PlainWriteFollowsEachFieldsAccessType : Prop :=
  (∀ (a : Nat) (v : Word) (s : State) (d : RegDef) (f : FieldDef),
    regDefAt (pageOf a) (offOf a) = some d → f ∈ d.fields →
    bits ((s.plainWrite a v).getReg a).toNat f.hi f.lo =
      match f.acc with
      | .rw => bits v.toNat f.hi f.lo
      | .w1c => Nat.land (bits (s.getReg a).toNat f.hi f.lo) (2 ^ (f.hi + 1 - f.lo) - 1 - bits v.toNat f.hi f.lo)
      | _ => bits (s.getReg a).toNat f.hi f.lo) ∧
  (∀ (a b : Nat) (v : Word) (s : State), b ≠ a → (s.plainWrite a v).getReg b = s.getReg b) ∧
  (∀ (a : Nat) (v : Word) (s : State), regDefAt (pageOf a) (offOf a) = none → s.plainWrite a v = s)

/-- REGISTER_WRITE and COUNTER_READ_CLEAR complete: a served write of a register without a row of its own does what that
register's write does; a read that no check refuses gives the register's value and clears its RC fields in the same access;
while a warm reset runs, a write is ignored. -/
def Obligations.RegisterRowsComplete : Prop :=
  (∀ (q : Requester) (addr : Nat) (v : Word) (s : State), s.served q addr v = true →
    ownRow (pageOf addr) (offOf addr) = false →
    AnswersMem (.registerWrite q addr 8 v) s (s.otherWrite q (pageOf addr) (offOf addr) v)) ∧
  (∀ (q : Requester) (addr : Nat) (s : State), s.wholeReset = false → s.refuses q addr 8 false 0#64 = none →
    Answers (.counterReadClear q addr 8) s ((s.readClear (pageOf addr) (offOf addr)).emit
      (.readData q addr (BitVec.ofNat 64 (s.readValue (pageOf addr) (offOf addr)))))) ∧
  (∀ (q : Requester) (addr bytes : Nat) (v : Word) (s : State), s.wholeReset = true →
    AnswersMem (.registerWrite q addr bytes v) s s)

/-- R35: a counter advances by n, stops at its greatest value and never wraps; every other register keeps its value. -/
def Obligations.CountersSaturate : Prop :=
  ∀ (p : Nat) (f : Fld) (n : Nat) (s : State), f.hi = 63 → f.lo = 0 →
    (s.bump p f n).rd p f = min (s.rd p f + n) (2 ^ 64 - 1) ∧ s.rd p f ≤ (s.bump p f n).rd p f ∧
    RegsKeptBut [regAddr p (f.atIx 0)] s (s.bump p f n)

/-- R34: a detected error sets its bit whatever ERR_MASK holds, and while NOTIFY is off nothing but ERR_STATUS of its page
changes; an event does the same with EVT_STATUS of its page. On a page that ERR_PAGE_MAP marks already, an error sets its bit
and does nothing else, whether NOTIFY is on or off. -/
def Obligations.ErrorsAndEventsSetTheirBits : Prop :=
  (∀ (p : Nat) (f : Fld) (s : State), f.hi = f.lo → f.off = 0x20 → f.stride = 0 → f.lo < 64 → s.rd pMGT MGT_NOTIFY_CFG_EN = 0 →
    (s.raiseErr p f).rd p f = 1 ∧ RegsKeptBut [regAddr p 0x20] s (s.raiseErr p f) ∧
    s.raiseErr p f = { s with regs := (s.raiseErr p f).regs }) ∧
  (∀ (p : Nat) (f : Fld) (s : State), f.hi = f.lo → f.off = 0x38 → f.stride = 0 → f.lo < 64 → s.rd pMGT MGT_NOTIFY_CFG_EN = 0 →
    (s.raiseEvt p f).rd p f = 1 ∧ RegsKeptBut [regAddr p 0x38] s (s.raiseEvt p f) ∧
    s.raiseEvt p f = { s with regs := (s.raiseEvt p f).regs }) ∧
  (∀ (p : Nat) (f : Fld) (s : State), s.errPending p = true → s.raiseErr p f =
    s.setReg (regAddr p 0x20) (s.getReg (regAddr p 0x20) ||| (1#64 <<< f.lo)))

/-! ### Resets and the common registers -/

/-- The reset rows complete: a served RESET_REQ with the right CONFIRM starts the warm or the job reset of its KIND and one with
another CONFIRM does nothing; BLOCK_RESET of a page starts its reset; RESET_DONE ends the reset that runs and does nothing where
none runs. R38: a warm reset that starts takes over from the resets that run, and every job and port is taken down; a job reset
takes over from the block resets of the pages it covers and runs beside the others; a block reset of a page that no running
reset covers runs beside those that run, and the page is busy; a request for a reset that covers no more than a running one
changes nothing. -/
def Obligations.ResetRowsComplete : Prop :=
  (∀ (q : Requester) (v : Word) (s : State), s.served q (regAddr pGLB 0x108) v = true →
    GLB_RESET_REQ_CONFIRM.of v = 0xA5C3 → GLB_RESET_REQ_KIND.of v = 1 →
    Answers (.warmResetReq q v) s (s.startWarm (resetSource q))) ∧
  (∀ (q : Requester) (v : Word) (s : State), s.served q (regAddr pGLB 0x108) v = true →
    GLB_RESET_REQ_CONFIRM.of v = 0xA5C3 → GLB_RESET_REQ_KIND.of v = 2 →
    Answers (.jobResetReq q v) s (s.startJobReset (resetSource q))) ∧
  (∀ (q : Requester) (v : Word) (s : State), s.served q (regAddr pGLB 0x108) v = true → GLB_RESET_REQ_CONFIRM.of v ≠ 0xA5C3 →
    Answers (.warmResetReq q v) s s ∧ Answers (.jobResetReq q v) s s) ∧
  (∀ (q : Requester) (p : Nat) (v : Word) (s : State), s.served q (regAddr p 0x10) v = true → bit v.toNat 2 = true →
    ctrlHas p 2 = true → (s.plainWrite (regAddr p 0x10) v).rd p cEnable = s.rd p cEnable →
    AnswersMem (.blockReset q p v) s ((s.plainWrite (regAddr p 0x10) v).startBlockReset p)) ∧
  (∀ (n p : Nat) (s : State), s.resets = [(.warm, n)] → Answers (.resetDone .warm p) s (s.warmDone n)) ∧
  (∀ (n p : Nat) (s : State), s.resets = [(.job, n)] → Answers (.resetDone .job p) s (s.jobResetDone n)) ∧
  (∀ (p : Nat) (s : State), s.resets = [(.block, p)] → Answers (.resetDone .block p) s (s.blockResetDone p)) ∧
  (∀ (kind : ResetKind) (p : Nat) (s : State), s.resets = [] → Answers (.resetDone kind p) s s) ∧
  (∀ (n : Nat) (s : State), s.wholeReset = true → s.startWarm n = s ∧ s.startJobReset n = s ∧ ∀ p, s.startBlockReset p = s) ∧
  (∀ (n : Nat) (s : State), s.wholeReset = false → s.stage ≠ 1 → s.stage ≠ 0xFE →
    let t := ({ s with resets := [(.warm, n)] } : State).resetJobs
    s.startWarm n = { ((List.range 256).filter fun p => t.portExists p && t.lstate p != 0).foldl (fun t p => t.portLeave p 1) t with
      unrouted := [] }) ∧
  (∀ (n : Nat) (s : State), s.wholeReset = false → s.stage ≠ 1 → s.resets.any (fun x => x.1 == .job) = false →
    s.startJobReset n = ({ s with resets := s.resets.filter (fun x => !(x.1 == .block && jobPages.contains x.2)) ++
      [(.job, n)] } : State).resetJobs) ∧
  (∀ (n : Nat) (s : State), s.resets.any (fun x => x.1 == .job) = true → s.startJobReset n = s ∧
    ∀ p, jobPages.contains p = true → s.startBlockReset p = s) ∧
  (∀ (p : Nat) (s : State), s.wholeReset = false → s.stage ≠ 1 → s.resets.contains (.block, p) = false →
    (s.resets.any (fun x => x.1 == .job) && jobPages.contains p) = false →
    s.startBlockReset p = { s with resets := s.resets ++ [(.block, p)] } ∧ (s.startBlockReset p).resetBusy p = true)

/-- R33, R34, R40, R355: a write of CTRL that clears ENABLE starts the block's draining and one that sets it enables the block;
one that changes neither and asks for no reset is a plain write (EXPERT_OPEN's bit among it). DRAIN_DONE ends the draining of a
page below the REG pages that holds nothing more; DRAIN_TIMEOUT of a block that drains raises its error; ERR_FORCE raises the
error bits that its page defines among those written 1. -/
def Obligations.DisableAndEnableComplete : Prop :=
  (∀ (q : Requester) (p : Nat) (v : Word) (s : State), s.served q (regAddr p 0x10) v = true → bit v.toNat 2 = false →
    s.rd p cEnable = 1 → (s.plainWrite (regAddr p 0x10) v).rd p cEnable = 0 →
    AnswersMem (.blockDisable q p v) s ((s.plainWrite (regAddr p 0x10) v).wr p cDraining 1)) ∧
  (∀ (q : Requester) (p : Nat) (v : Word) (s : State), s.served q (regAddr p 0x10) v = true → bit v.toNat 2 = false →
    s.rd p cEnable = 0 → (s.plainWrite (regAddr p 0x10) v).rd p cEnable = 1 →
    AnswersMem (.blockEnable q p v) s ((s.plainWrite (regAddr p 0x10) v).enableBlock p)) ∧
  (∀ (q : Requester) (p : Nat) (v : Word) (s : State), s.served q (regAddr p 0x10) v = true → bit v.toNat 2 = false →
    (s.plainWrite (regAddr p 0x10) v).rd p cEnable = s.rd p cEnable →
    AnswersMem (.expertOpen q p v) s (s.plainWrite (regAddr p 0x10) v)) ∧
  (∀ (p : Nat) (s : State), pageAssigned p = true → s.rd p cDraining = 1 → s.blockItems p = [] → p < pREG →
    Answers (.drainDone p) s ((s.wr p cEnabled 0).wr p cDraining 0)) ∧
  (∀ (p : Nat) (s : State), pageAssigned p = true → s.rd p cDraining = 1 →
    Answers (.drainTimeout p) s (s.raiseErr pFLT FLT_ERR_STATUS_DRAIN_TIMEOUT)) ∧
  (∀ (q : Requester) (p : Nat) (v : Word) (s : State), s.served q (regAddr p 0x30) v = true →
    Answers (.errForce q p v) s (s.raiseErrBits p (v &&& definedBits p 0x20)))

/-- R41 and R42: what a served write of EXPERT_KEY does in each row of the table, how a failure counts toward the lockout, and
what a write of 1 to EXPERT_LOCK does. -/
def Obligations.ExpertGate : Prop :=
  (∀ (q : Requester) (v : Word) (s : State), s.served q (regAddr pGLB 0x118) v = true →
    (s.rd pGLB GLB_EXPERT_STATUS_LOCKED_OUT = 1 → Answers (.expertKey q v) s s) ∧
    (s.rd pGLB GLB_EXPERT_STATUS_LOCKED_OUT = 0 → s.rd pGLB GLB_EXPERT_STATUS_SECRET_VALID = 0 →
      Answers (.expertKey q v) s s.expertFail) ∧
    (s.rd pGLB GLB_EXPERT_STATUS_LOCKED_OUT = 0 → s.rd pGLB GLB_EXPERT_STATUS_SECRET_VALID = 1 → v.toNat = s.expectedKey →
      Answers (.expertKey q v) s (s.wr pGLB GLB_EXPERT_STATUS_MATCHED 1)) ∧
    (s.rd pGLB GLB_EXPERT_STATUS_LOCKED_OUT = 0 → s.rd pGLB GLB_EXPERT_STATUS_SECRET_VALID = 1 → v.toNat ≠ s.expectedKey →
      Answers (.expertKey q v) s s.expertFail.newExpertNonce)) ∧
  (∀ s : State, s.expertFail.rd pGLB GLB_EXPERT_STATUS_MATCHED = 0 ∧
    s.expertFail.rd pGLB GLB_EXPERT_STATUS_FAILS = min 8 (s.rd pGLB GLB_EXPERT_STATUS_FAILS + 1) ∧
    (7 ≤ s.rd pGLB GLB_EXPERT_STATUS_FAILS → s.expertFail.rd pGLB GLB_EXPERT_STATUS_LOCKED_OUT = 1) ∧
    (s.rd pGLB GLB_EXPERT_STATUS_FAILS < 7 →
      s.expertFail.rd pGLB GLB_EXPERT_STATUS_LOCKED_OUT = s.rd pGLB GLB_EXPERT_STATUS_LOCKED_OUT)) ∧
  (∀ (q : Requester) (v : Word) (s : State), s.served q (regAddr pGLB 0x130) v = true → GLB_EXPERT_LOCK_LOCK.of v = 1 →
    Answers (.expertLock q v) s (s.wr pGLB GLB_EXPERT_STATUS_MATCHED 0))

/-! ### The time base -/

/-- R46: what a served write of TBASE.ADJUST does. With rem the OFFSET less the slew still to be absorbed: below −100,000,000 it
is ignored as a whole with ADJ_RANGE; else a remainder of 0 or more steps COUNT and ends the slew, a negative one is the new
slew. R418: unless OFFSET is a whole number of seconds and the source is PPS, the lock is lost by it. -/
def Obligations.TimeBaseAdjustment : Prop :=
  ∀ (q : Requester) (v : Word) (s : State), s.served q (regAddr pTBASE 0x110) v = true →
    let off := signed 48 (TBASE_ADJUST_OFFSET.of v)
    let rem := off - s.tb.slew
    let keepsLock := decide (off % 1000000000 = 0 ∧ s.rd pTBASE TBASE_STATUS_SOURCE = 1)
    let settle := fun t : State => if keepsLock then t else t.loseLock
    (rem < -100000000 → Answers (.tbaseAdjust q v) s (s.raiseErr pTBASE TBASE_ERR_STATUS_ADJ_RANGE)) ∧
    (0 ≤ rem → ∃ t, Answers (.tbaseAdjust q v) s (settle t) ∧ t.tb.count = (s.tb.count + rem.toNat) % 2 ^ 64 ∧ t.tb.slew = 0
      ∧ t.rd pTBASE TBASE_STATUS_SLEWING = 0 ∧ RegsKeptBut [regAddr pTBASE 0x18] s t) ∧
    (-100000000 ≤ rem → rem < 0 → ∃ t, Answers (.tbaseAdjust q v) s (settle t) ∧ t.tb.count = s.tb.count ∧
      (t.tb.slew : Int) = -rem ∧ t.rd pTBASE TBASE_STATUS_SLEWING = 1 ∧ RegsKeptBut [regAddr pTBASE 0x18] s t)

/-- R46: the slew stays within 100,000,000 ns. No nanosecond that passes, no adjustment, no end of a slew, no edge and no sync
answer takes it past that. -/
def Obligations.SlewNeverLastsLongerThanAllowed : Prop :=
  ∀ s : State, s.tb.slew ≤ 100000000 →
    s.idle.tb.slew ≤ 100000000 ∧
    (∀ (q : Requester) (v : Word) (t : State), exec (.tbaseAdjust q v) s = .next t → t.tb.slew ≤ 100000000) ∧
    (∀ t, exec .slewDone s = .next t → t.tb.slew ≤ 100000000) ∧
    (∀ t, exec .ppsEdge s = .next t → t.tb.slew ≤ 100000000) ∧
    (∀ (p : PortIx) (n a b c : Nat) (t : State), exec (.tsyncResp p n a b c) s = .next t → t.tb.slew ≤ 100000000)

/-- The other rows of the time base complete. SLEW_DONE: the time that the rest of the slew takes has passed, and
the slew is over; with no rate trim COUNT gains that time less the slew. RATE_TRIM
within ±100,000 is written, another raises ADJ_RANGE. An edge with PPS_EN set captures COUNT and counts, and steers the time
base where PPS is its source (stated for the first half of a second); a missing edge loses the lock. The sync exchange of
source 2: its tick sends a request, the answer to it steers the time base, and a request without an answer is a miss. -/
def Obligations.TimeBaseRowsComplete : Prop :=
  (∀ s : State, let t := s.absorbSlew.setSlew 0
    Answers .slewDone s t ∧ t.tb.slew = 0 ∧ t.rd pTBASE TBASE_STATUS_SLEWING = 0 ∧ (s.ratePpb = 0 → s.tb.rateFrac = 0 →
      t.tb.count = (s.tb.count + (1000 * s.tb.slew - s.tb.slewFrac - s.tb.slew)) % 2 ^ 64)) ∧
  (∀ (q : Requester) (v : Word) (s : State), s.served q (regAddr pTBASE 0x118) v = true →
    let ppb := signed 24 (TBASE_RATE_TRIM_PPB.of v)
    (-100000 ≤ ppb → ppb ≤ 100000 →
      Answers (.rateTrim q v) s (s.wr pTBASE TBASE_RATE_TRIM_PPB (TBASE_RATE_TRIM_PPB.of v))) ∧
    (ppb < -100000 ∨ 100000 < ppb → Answers (.rateTrim q v) s (s.raiseErr pTBASE TBASE_ERR_STATUS_ADJ_RANGE))) ∧
  (∀ s : State, s.rd pTBASE TBASE_CTRL_PPS_EN = 1 → s.rd pCAL CAL_TB_CFG_SRC_SEL ≠ 1 →
    Answers .ppsEdge s ((s.wr pTBASE TBASE_PPS_CAPTURE_COUNT_AT_EDGE s.tb.count).bump pTBASE TBASE_C_PPS_EDGES)) ∧
  (∀ s : State, s.rd pTBASE TBASE_CTRL_PPS_EN = 1 → s.rd pCAL CAL_TB_CFG_SRC_SEL = 1 → s.tb.count % 1000000000 < 500000000 →
    Answers .ppsEdge s (((s.wr pTBASE TBASE_PPS_CAPTURE_COUNT_AT_EDGE s.tb.count).bump pTBASE TBASE_C_PPS_EDGES).servo
      (-((s.tb.count % 1000000000 : Nat) : Int)) 1)) ∧
  (∀ s : State, s.rd pTBASE TBASE_CTRL_PPS_EN = 1 → s.rd pTBASE TBASE_STATUS_SOURCE = 1 →
    Answers .ppsMissing s
      ((s.raiseErr pTBASE TBASE_ERR_STATUS_PPS_MISSING).bump pTBASE TBASE_C_PPS_MISSING_COUNT).loseLock) ∧
  (∀ s : State, s.rd pCAL CAL_TB_CFG_SRC_SEL = 2 → s.portExists (s.rd pCAL CAL_TB_CFG_SPORT) = true →
    s.isS (s.rd pCAL CAL_TB_CFG_SPORT) = true → s.portUp (s.rd pCAL CAL_TB_CFG_SPORT) = true →
    Answers .tsyncTick s ((s.setPower { s.power with
      sync := some (s.power.syncSeq, s.tb.count), syncSeq := (s.power.syncSeq + 1) % 2 ^ 32 }).sendOn (s.rd pCAL CAL_TB_CFG_SPORT)
      ⟨7, 0#64, 0, 0, none, tsyncBody 2 s.power.syncSeq s.tb.count 0 0⟩)) ∧
  (∀ (p : PortIx) (n t1 t2 t3 t4 : Nat) (s : State), s.rd pCAL CAL_TB_CFG_SRC_SEL = 2 → s.rd pCAL CAL_TB_CFG_SPORT = p →
    s.power.sync = some (n, t1) → Answers (.tsyncResp p n t2 t3 t4) s
      (((s.setPower { s.power with sync := none, syncMiss := 0 }).wr pCAL CAL_TB_DELAY_PATH_NS
        (wrap 32 ((((t4 : Int) - t1) - ((t3 : Int) - t2)) / 2))).servo ((((t2 : Int) - t1) + ((t3 : Int) - t4)) / 2) 2)) ∧
  (∀ s : State, s.power.sync ≠ none → Answers .tsyncMiss s s.syncMissed)

/-! ### Tiles and command streams -/

/-- R80: SCRUB_TICK of a tile whose region is tested scans one place: its position advances, and wraps after 32,768 with a pass
counted; a corrected error is counted, an uncorrectable one is counted and fails the tile. It does nothing where SCRUB_EN is 0.
R118: COMMAND_FETCH appends the 32 bytes at the next index of a stream, as four little-endian words, to the region's buffer
while it holds fewer than 2,048 commands; a fetch whose bytes cannot be corrected fails, raises FETCH_UE and is reported.
R131: COMMAND_COMPLETE of a command whose router rows are all acknowledged ends its classes, but for the third of a push that is
still on its way. -/
def Obligations.TileAndFetchRowsComplete : Prop :=
  (∀ (r : RegionIx) (tile : Fin 256) (s : State), s.rd (regPage r) REG_TILE_CTRL_SCRUB_EN = 1 → s.regionState r < 3 →
    tabGet (fun _ => 0) (s.tileMem r).scrub tile < 32767 →
    let t := s.setTileMem r { s.tileMem r with
      scrub := tabSet (fun _ => 0) (s.tileMem r).scrub tile (tabGet (fun _ => 0) (s.tileMem r).scrub tile + 1) }
    Answers (.scrubTick r tile .ok .ok) s t ∧
    Answers (.scrubTick r tile .ce .ok) s (t.bump (regPage r) REG_C_SRAM_CE) ∧
    Answers (.scrubTick r tile .ok .ce) s (t.bump (regPage r) REG_C_VAT_CE) ∧
    Answers (.scrubTick r tile .ue .ok) s ((t.bump (regPage r) REG_C_SRAM_UE_COUNT).tileFault r tile REG_ERR_STATUS_SRAM_UE) ∧
    Answers (.scrubTick r tile .ok .ue) s ((t.bump (regPage r) REG_C_VAT_UE_COUNT).tileFault r tile REG_ERR_STATUS_VAT_UE)) ∧
  (∀ (r : RegionIx) (tile : Fin 256) (s : State), s.rd (regPage r) REG_TILE_CTRL_SCRUB_EN = 1 → s.regionState r < 3 →
    tabGet (fun _ => 0) (s.tileMem r).scrub tile = 32767 →
    Answers (.scrubTick r tile .ok .ok) s ((s.setTileMem r { s.tileMem r with
      scrub := tabSet (fun _ => 0) (s.tileMem r).scrub tile 0 }).bump (regPage r) REG_C_SCRUB_PASSES)) ∧
  (∀ (r : RegionIx) (tile : Fin 256) (a b : MemErr) (s : State), s.rd (regPage r) REG_TILE_CTRL_SCRUB_EN = 0 →
    Answers (.scrubTick r tile a b) s s) ∧
  (∀ (r : RegionIx) (d : Bool) (a : Nat) (s : State), s.seqState r ≠ 0 → s.seqState r ≠ 11 → (s.seq r).buffer.length < 2048 →
    let base := if d then s.rd (regPage r) REG_DEF_BASE_ADDR else s.rd (regPage r) REG_SEQ_BASE_ADDR
    let len := if d then s.rd (regPage r) REG_SEQ_LEN_DEF_LEN else s.rd (regPage r) REG_SEQ_LEN_MAIN_LEN
    let pc := if d then s.rd (regPage r) REG_SEQ_STATUS_DEF_PC else s.rd (regPage r) REG_SEQ_STATUS_PC
    let got := ((s.seq r).buffer.map fun e => (e.1, e.2.1)) ++ (s.seq r).failed
    let ix := (got.filter (·.1 == d)).foldl (fun a e => max a (e.2 + 1)) pc
    let word := fun k => BitVec.ofNat 64 (s.jobNat (s.jobOf r) (base + 32 * ix + 8 * k) 8)
    ix < len → s.jobAddr (s.jobOf r) (base + 32 * ix) = some a →
    (s.jobPoison (s.jobOf r) (base + 32 * ix) 32 = none → Answers (.commandFetch r d false) s (s.setSeq r { s.seq r with
      buffer := (s.seq r).buffer ++ [(d, ix, ⟨word 0, word 1, word 2, word 3⟩)] })) ∧
    Answers (.commandFetch r d true) s (((s.failFetch r d ix).raiseErr (regPage r) REG_ERR_STATUS_FETCH_UE).reportOn .stack (s.siteOf a)
      (regPage r) REG_ERR_STATUS_FETCH_UE (s.jobOf r) r)) ∧
  (∀ (r : RegionIx) (id : Nat) (s : State), (s.cave r).pushes.any (fun p => p.outId == id) = false →
    s.fab.sends.any (fun p => p.src == r && p.outId == id && p.dst.isNone) = false →
    Answers (.commandComplete r id) s (s.finish r id 7)) ∧
  (∀ (r : RegionIx) (id : Nat) (s : State), (s.cave r).pushes.any (fun p => p.outId == id) = true →
    s.fab.sends.any (fun p => p.src == r && p.outId == id && p.dst.isNone) = false →
    Answers (.commandComplete r id) s (s.finish r id 3))

/-- GEMM, GEMM_T, DRAIN and ROW: whenever the command may issue, it issues and runs its operation, and stack memory stays as it
was. -/
def Obligations.ArrayCommandsComplete : Prop :=
  (∀ (r : RegionIx) (d : Bool) (c : Cmd) (s : State),
    IssueRuns (.gemm r d c) s r d c 0x10 (s.gemmIssue r c false) fun a t => t.runGemm a (gemmOp c)) ∧
  (∀ (r : RegionIx) (d : Bool) (c : Cmd) (s : State),
    IssueRuns (.gemmT r d c) s r d c 0x11 (s.gemmIssue r c true) fun a t => t.runGemm a (gemmOp c)) ∧
  (∀ (r : RegionIx) (d : Bool) (c : Cmd) (s : State),
    IssueRuns (.drain r d c) s r d c 0x20 (s.drainIssue r c d) fun a t => t.runDrain a (drainOp c)) ∧
  (∀ (r : RegionIx) (d : Bool) (c : Cmd) (s : State),
    IssueRuns (.row r d c) s r d c 0x21 (s.rowIssue r c) fun a t => t.runRow a (rowOp c))

/-- VCFG, VDRAIN in its three forms, and VCLEAR: whenever the command may issue, it issues and runs its operation; VCFG leaves
the entry's V, BASE, LENGTH, LAYER and VALID as the command gives them, its COUNT as it was, and no other register changed. -/
def Obligations.VatCommandsComplete : Prop :=
  (∀ (r : RegionIx) (d : Bool) (c : Cmd) (s : State),
    IssueRuns (.vcfg r d c) s r d c 0x22 (s.vcfgIssue r c) fun a t => t.setVatRegion a.r (vcfgOp c)) ∧
  (∀ (r : RegionIx) (d : Bool) (c : Cmd) (s : State), (vdrainOp c).form = 0 →
    IssueRunsMem (.vdrainHold r d c) s r d c 0x23 { s.vdrainIssue r c with block := some pCAVE }
      fun a t => t.vdrainToHold a (vdrainOp c)) ∧
  (∀ (r : RegionIx) (d : Bool) (c : Cmd) (s : State), (vdrainOp c).form = 1 →
    IssueRunsMem (.vdrainCe r d c) s r d c 0x23 (s.vdrainCeIssue r c) fun a t => t.vdrainToCe a (vdrainOp c)) ∧
  (∀ (r : RegionIx) (d : Bool) (c : Cmd) (s : State), (vdrainOp c).form = 2 →
    IssueRuns (.vdrainConvert r d c) s r d c 0x23 (s.vdrainIssue r c) fun a t => t.vdrainConvert a.r (vdrainOp c)) ∧
  (∀ (r : RegionIx) (d : Bool) (c : Cmd) (s : State),
    IssueRuns (.vclear r d c) s r d c 0x24 (s.vclearIssue r c) fun a t =>
      t.vatClear a.r (vdrainOp c).vreg (vdrainOp c).offset (vdrainOp c).count (vdrainOp c).rect) ∧
  (∀ (r : Nat) (o : VcfgOp) (s : State), o.vreg < 16 → r < 84 → o.v < 256 → o.base < 2 ^ 18 → o.length < 2 ^ 19 → o.layer < 2 ^ 16 → o.valid < 2 →
    let t := s.setVatRegion r o
    t.rd (regPage r) REG_VAT_REGION_V o.vreg = o.v ∧ t.rd (regPage r) REG_VAT_REGION_BASE o.vreg = o.base ∧
    t.rd (regPage r) REG_VAT_REGION_LENGTH o.vreg = o.length ∧ t.rd (regPage r) REG_VAT_LAYER_LAYER o.vreg = o.layer ∧
    t.rd (regPage r) REG_VAT_REGION_VALID o.vreg = o.valid ∧ t.rd (regPage r) REG_VAT_LAYER_VALID o.vreg = o.valid ∧
    t.rd (regPage r) REG_VAT_REGION_COUNT o.vreg = s.rd (regPage r) REG_VAT_REGION_COUNT o.vreg ∧
    RegsKeptBut [regAddr (regPage r) (REG_VAT_REGION_V.atIx o.vreg), regAddr (regPage r) (REG_VAT_LAYER_LAYER.atIx o.vreg)] s t)

/-- CAVE_PUSH, CAVE_POP, WLOAD in both forms, SEND and RECV: whenever the command may issue, it issues and runs its operation; a
WLOAD with SPEC = 1 that the job serves runs as one with SPEC = 0. -/
def Obligations.MoverCommandsComplete : Prop :=
  (∀ (r : RegionIx) (d : Bool) (c : Cmd) (s : State),
    IssueRuns (.cavePush r d c) s r d c 0x30 (s.pushIssue r c) fun a t => t.pushTiles a c) ∧
  (∀ (r : RegionIx) (d : Bool) (c : Cmd) (s : State),
    IssueRuns (.cavePop r d c) s r d c 0x31 (s.popIssue r c) fun a t =>
      match (t.cave a.r).topmost (c.w 1 47 32, a.mb, c.w 2 31 16) with
      | some (ix, e) => t.deliverPop a c ix e
      | none => t) ∧
  (∀ (r : RegionIx) (d : Bool) (c : Cmd) (s : State), c.w 0 16 16 = 0 →
    IssueRuns (.wload r d c) s r d c 0x40 (s.wloadIssue r c) fun a t => t.startWload a (wcmd c)) ∧
  (∀ (r : RegionIx) (d : Bool) (c : Cmd) (s : State), c.w 0 16 16 = 1 → s.wloadServed r (wcmd c) = false →
    IssueRuns (.wloadSpec r d c) s r d c 0x40 (s.specIssue r c) fun a t => t.runSpec a (wcmd c)) ∧
  (∀ (r : RegionIx) (d : Bool) (c : Cmd) (s : State), c.w 0 16 16 = 1 → s.wloadServed r (wcmd c) = true →
    IssueRuns (.wloadSpec r d c) s r d c 0x40 (s.wloadIssue r c) fun a t => t.startWload a (wcmd c)) ∧
  (∀ (r : RegionIx) (d : Bool) (c : Cmd) (s : State),
    IssueRuns (.send r d c) s r d c 0x50 (s.xferIssue r c false) fun a t => t.startSend a (xferOp c)) ∧
  (∀ (r : RegionIx) (d : Bool) (c : Cmd) (s : State),
    IssueRuns (.recv r d c) s r d c 0x51 (s.xferIssue r c true) fun a t => t.startRecv a (xferOp c))

/-- The four kinds of COLL, UPD, PARAM and both kinds of EPOCH: whenever the command may issue, it issues and runs its operation.
UPD with a matching area and good parameters, of an area that is not yet written, joins the update queue of its job; PARAM of kind 0 writes its slot with the step; EPOCH BIND runs at once when its model has a key slot, and waits for one
otherwise; EPOCH PUBLISH is queued with its step. -/
def Obligations.EngineCommandsComplete : Prop :=
  (∀ (r : RegionIx) (d : Bool) (c : Cmd) (s : State), c.w 0 17 16 = 0 →
    IssueRuns (.collRs r d c) s r d c 0x60 (s.collIssue r c) fun a t => t.runColl a c) ∧
  (∀ (r : RegionIx) (d : Bool) (c : Cmd) (s : State), c.w 0 17 16 = 1 →
    IssueRuns (.collAg r d c) s r d c 0x60 (s.collIssue r c) fun a t => t.runColl a c) ∧
  (∀ (r : RegionIx) (d : Bool) (c : Cmd) (s : State), c.w 0 17 16 = 2 →
    IssueRuns (.collBcast r d c) s r d c 0x60 (s.collIssue r c) fun a t => t.runColl a c) ∧
  (∀ (r : RegionIx) (d : Bool) (c : Cmd) (s : State), c.w 0 17 16 = 3 →
    IssueRuns (.collA2a r d c) s r d c 0x60 (s.collIssue r c) fun a t => t.runColl a c) ∧
  (∀ (r : RegionIx) (d : Bool) (c : Cmd) (s : State),
    IssueRuns (.upd r d c) s r d c 0x70 (updIssue c) fun a t => t.startUpd a c) ∧
  (∀ (a : At) (c : Cmd) (e ix : Nat) (s : State), s.areaBy (s.jobOf a.r) (c.w 1 40 0) = some (e, ix) →
    s.areaMatches (s.jobOf a.r) ix c = true → paramsOk (c.w 0 18 16) (s.updParams a.r c) = true → s.rd pUPD UPD_AREA_WROTE e = 0 →
    s.startUpd a c = s.queueUpd a c e ∧
      ((s.startUpd a c).upd (s.jobOf a.r)).queue.length = (s.upd (s.jobOf a.r)).queue.length + 1) ∧
  (∀ (r : RegionIx) (d : Bool) (c : Cmd) (s : State),
    IssueRuns (.param r d c) s r d c 0x71 (paramIssue c) fun a t => t.setParam a c) ∧
  (∀ (a : At) (c : Cmd) (s : State), c.w 0 16 16 = 0 →
    s.setParam a c = s.wrs (regPage a.r) [(REG_PARAM_SLOT_VALUE, c.w 0 63 32),
      (REG_PARAM_SLOT_STEP_LOW, s.rd (regPage a.r) REG_STEP_COUNT_COUNT)] (c.w 0 31 24) ∧
    (s.setParam a c).rd (regPage a.r) REG_PARAM_SLOT_VALUE (c.w 0 31 24) = c.w 0 63 32) ∧
  (∀ (r : RegionIx) (d : Bool) (c : Cmd) (s : State), c.w 0 17 16 = 0 →
    IssueRuns (.epochBind r d c) s r d c 0x72 (epochIssue c pWSP) fun a t =>
      match t.keyOf (t.bindOf a c).slot (t.bindOf a c).model with
      | some _ => t.runBind (t.bindOf a c)
      | none => { t with wsp := { t.wsp with binds := t.wsp.binds ++ [t.bindOf a c] } }) ∧
  (∀ (r : RegionIx) (d : Bool) (c : Cmd) (s : State), c.w 0 17 16 = 1 →
    IssueRuns (.epochPublish r d c) s r d c 0x72 (epochIssue c pUPD) fun a t =>
      t.setUpd (t.jobOf a.r) { t.upd (t.jobOf a.r) with pubs := (t.upd (t.jobOf a.r)).pubs ++
        [(t.rd (regPage a.r) REG_STEP_COUNT_COUNT, c.w 0 47 32, c.w 1 15 0, c.w 1 31 16)] })

/-- R119, R120, R488: a command whose opcode R120 does not name is the program fault BAD_OPCODE at its index, and a ROW that a
check of R488 other than VAT_RANGE refuses is a program fault at its index with the check that refuses it (both for a command of
the main stream inside its length, as it was fetched, without a breakpoint, whose micro-batch is not open). The fault sets
FAULT_INFO and HALTED and changes no other register. -/
def Obligations.RefusedCommandHaltsTheRegion : Prop :=
  (∀ (r : RegionIx) (c : Cmd) (ix : Nat) (s : State), s.issueIx r false = some ix → opcodes.contains c.op = false →
    s.fetchedOk r false ix c = true →
    ix < s.rd (regPage r) REG_SEQ_LEN_MAIN_LEN → s.rd (regPage r) REG_SEQ_EXPERT_BREAK_EN = 0 →
    (s.seq r).opens.contains c.mb = false →
    Answers (.badOpcode r false c) s (s.progFault r false ix REG_ERR_STATUS_BAD_OPCODE)) ∧
  (∀ (r : RegionIx) (c : Cmd) (ix : Nat) (f : Fld) (s : State), s.issueIx r false = some ix → c.op = 0x21 →
    s.fetchedOk r false ix c = true →
    ix < s.rd (regPage r) REG_SEQ_LEN_MAIN_LEN → s.rd (regPage r) REG_SEQ_EXPERT_BREAK_EN = 0 →
    (s.seq r).opens.contains c.mb = false → s.refusal r false c (s.rowIssue r c) = some f → f ≠ REG_ERR_STATUS_VAT_RANGE →
    Answers (.row r false c) s (s.progFault r false ix f)) ∧
  (∀ (r : RegionIx) (d : Bool) (ix code : Nat) (s : State), ix < 2 ^ 24 → code < 64 →
    let t := s.haltAt r d ix code
    t.rd (regPage r) REG_SEQ_STATUS_STATE = 10 ∧ t.rd (regPage r) REG_FAULT_INFO_PC = ix ∧
    t.rd (regPage r) REG_FAULT_INFO_DEFERRED = b2n d ∧ t.rd (regPage r) REG_FAULT_INFO_CODE = code ∧
    RegsKeptBut [regAddr (regPage r) REG_FAULT_INFO_PC.off, regAddr (regPage r) REG_SEQ_STATUS_STATE.off] s t)

/-- R130–R132: FENCE issues whenever it may and arrives; an arrival of another participant is recorded, and where the region waits
at its own FENCE of the same set that FENCE is tried again; FENCE_TIMEOUT of a region in FENCE_WAIT raises its error and is
reported. A region alone in its fence's set, with nothing in its WAIT classes to wait for, passes at once. -/
def Obligations.FencesComplete : Prop :=
  (∀ (r : RegionIx) (d : Bool) (c : Cmd) (s : State),
    IssueRuns (.fence r d c) s r d c 0x80 (s.fenceIssue r c) fun a t => t.atFence a.r c) ∧
  (∀ (r : RegionIx) (peer : Fin 80) (fid : Nat) (lo : Word) (hi : Nat) (s : State), (s.seq r).fenceAt = none →
    Answers (.fenceArrival r peer fid lo hi) s (s.setSeq r { s.seq r with
      arrivals := (s.seq r).arrivals ++ [⟨peer, fid, lo.toNat + hi % 65536 * 2 ^ 64⟩] })) ∧
  (∀ (r : RegionIx) (peer : Fin 80) (fid : Nat) (lo : Word) (hi : Nat) (f : FenceAt) (s : State), (s.seq r).fenceAt = some f →
    f.clash (s.logical r) ⟨peer, fid, lo.toNat + hi % 65536 * 2 ^ 64⟩ = false →
    Answers (.fenceArrival r peer fid lo hi) s ((s.setSeq r { s.seq r with
      arrivals := (s.seq r).arrivals ++ [⟨peer, fid, lo.toNat + hi % 65536 * 2 ^ 64⟩] }).tryFence r)) ∧
  (∀ (r : RegionIx) (s : State), s.seqState r = 4 →
    Answers (.fenceTimeout r) s ((s.raiseErr (regPage r) REG_ERR_STATUS_FENCE_TIMEOUT).reportOn .program r (regPage r)
      REG_ERR_STATUS_FENCE_TIMEOUT (s.jobOf r))) ∧
  (∀ (r : Nat) (f : FenceAt) (s : State), (s.seq r).fenceAt = some f → s.seqState r = 4 → fencePeers f.parts (s.logical r) = [] →
    (s.seq r).waitMet f.wait = true → f.back < 16 →
    ((s.tryFence r).seq r).fenceAt = none ∧ (s.tryFence r).seqState r = f.back)

/-- R133, R134: ANCHOR_CHECK, whenever it may issue, enters CHECK; its evaluation, once the span's commands are done, passes the
span, faults it for NONFINITE or after the second replay, or starts a reversal with the next attempt where the raised anchor
fits; REVERSAL_DONE enters REPLAY with the span open and its vat log empty. -/
def Obligations.AnchorChecksComplete : Prop :=
  (∀ (r : RegionIx) (d : Bool) (c : Cmd) (s : State),
    IssueRuns (.anchorCheck r d c) s r d c 0x81 { badField := malformed c [] [] [] [], inRec := true } fun a t =>
      (t.setSeq a.r { t.seq a.r with checkFrom := t.seqState a.r, checkDef := a.d }).setSeqState a.r 5) ∧
  (∀ (r : RegionIx) (s : State), s.seqState r = 5 →
    let d := (s.seq r).checkDef
    let p := (s.seq r).span d
    let ix := if d then s.rd (regPage r) REG_SEQ_STATUS_DEF_PC else s.rd (regPage r) REG_SEQ_STATUS_PC
    (s.seq r).outst.any (fun o => o.deferred == d && Nat.land o.cls 1 != 0) = false →
    (s.anyFlag r (fNonfinite d) = true → Answers (.anchorCheckEval r) s (s.anchorFault r d (ix - 1))) ∧
    (s.anyFlag r (fNonfinite d) = false → s.anyFlag r (fAnchorSat d) = false →
      Answers (.anchorCheckEval r) s (s.checkPass r d)) ∧
    (s.anyFlag r (fNonfinite d) = false → s.anyFlag r (fAnchorSat d) = true → p.attempt = 2 →
      Answers (.anchorCheckEval r) s (s.anchorFault r d (ix - 1))) ∧
    (s.anyFlag r (fNonfinite d) = false → s.anyFlag r (fAnchorSat d) = true → p.attempt ≠ 2 →
      p.maxAnchor + 8 * ((p.attempt : Int) + 1) ≤ 127 →
      Answers (.anchorCheckEval r) s (((s.setSeq r ((s.seq r).setSpan d { p with attempt := p.attempt + 1 })).wr (regPage r)
        REG_SEQ_STATUS_ATTEMPT (p.attempt + 1)).setSeqState r 6))) ∧
  (∀ (r : RegionIx) (s : State), s.seqState r = 6 → ∃ t, Answers (.reversalDone r) s t ∧ t.seqState r = 7 ∧
    ((t.seq r).span (s.seq r).checkDef).opened = true ∧ ((t.seq r).span (s.seq r).checkDef).vatLog = []
    ∧ (t.seq r).pend = none)

/-- R138, R139: IDLE_WINDOW, whenever it may issue, raises DEF_RELEASE and opens the window: state WINDOW, and no other register
changes; WINDOW_END closes one whose conditions hold and does nothing where they do not; WINDOW_BUDGET_EXPIRY marks its budget
as spent. -/
def Obligations.IdleWindowsComplete : Prop :=
  (∀ (r : RegionIx) (d : Bool) (c : Cmd) (s : State),
    IssueRuns (.idleWindow r d c) s r d c 0x82 (s.windowIssue r c) fun a t =>
      (t.setSeq a.r { t.seq a.r with defRelease := max (t.seq a.r).defRelease (c.w 1 15 0) }).startWindow a.r (c.w 1 31 16)
        (c.w 0 63 32 == 0)) ∧
  (∀ (r u : Nat) (b : Bool) (s : State), (s.startWindow r u b).seqState r = 3 ∧
    ((s.startWindow r u b).seq r).window = some ⟨u, b⟩ ∧
    RegsKeptBut [regAddr (regPage r) REG_SEQ_STATUS_STATE.off] s (s.startWindow r u b)) ∧
  (∀ (r : RegionIx) (w : Window) (s : State), (s.seq r).window = some w → s.seqState r = 3 → s.windowEnds r w = true →
    Answers (.windowEnd r) s ((s.setSeq r { s.seq r with window := none }).setSeqState r 2)) ∧
  (∀ (r : RegionIx) (w : Window) (s : State), (s.seq r).window = some w → s.windowEnds r w = false →
    Answers (.windowEnd r) s s) ∧
  (∀ (r : RegionIx) (w : Window) (s : State), (s.seq r).window = some w →
    Answers (.windowBudgetExpiry r) s (s.setSeq r { s.seq r with window := some { w with budgetOver := true } }))

/-- R135, R136, R143: MARK OPEN, MARK CLOSE and STEP_END, whenever they may issue: OPEN decides its micro-batch and opens it,
STEP_END puts its region into STEP_WAIT with its LAST and its next PC; STEP_ENDED of a job whose regions all wait and that
serves no batch: a program fault LAST_MISMATCH in every region where their LAST flags differ, and otherwise, for a job without
the staleness option, the check whether its update is ready. -/
def Obligations.MarksAndStepEndComplete : Prop :=
  (∀ (r : RegionIx) (d : Bool) (c : Cmd) (s : State), c.w 0 17 16 = 0 →
    IssueRuns (.markOpen r d c) s r d c 0x83 (markIssue c 0) fun a t =>
      (t.decideMb a.r c.mb).setSeq a.r { (t.decideMb a.r c.mb).seq a.r with
        opens := ((t.decideMb a.r c.mb).seq a.r).opens ++ [c.mb] }) ∧
  (∀ (r : RegionIx) (d : Bool) (c : Cmd) (s : State), c.w 0 17 16 = 1 →
    IssueRuns (.markClose r d c) s r d c 0x83 (markIssue c 1) fun a t => t.closeMark a c) ∧
  (∀ (r : RegionIx) (d : Bool) (c : Cmd) (s : State),
    IssueRuns (.stepEnd r d c) s r d c 0x84 (s.stepEndIssue r c) fun a t => t.endStep a.r c) ∧
  (∀ (r : Nat) (c : Cmd) (s : State), (s.endStep r c).seqState r = 8 ∧ ((s.endStep r c).seq r).lastFlag = (c.w 0 16 16 == 1) ∧
    ((s.endStep r c).seq r).nextPc = c.w 1 23 0) ∧
  (∀ (slot : SlotIx) (s : State), s.allStepWait slot = true → s.serves slot = false →
    let last := (s.regionsOf slot).map fun r => (s.seq r).lastFlag
    (last.any (· != last.headD false) = true → Answers (.stepEnded slot) s ((s.regionsOf slot).foldl (fun s r =>
      s.progFault r false (s.rd (regPage r) REG_SEQ_STATUS_PC - 1) REG_ERR_STATUS_LAST_MISMATCH) s)) ∧
    (last.any (· != last.headD false) = false → s.stale slot = false → Answers (.stepEnded slot) s (s.checkReady slot)))

/-- R144–R147: a STEP_SYNC pulse, stated for a module that runs one job or none. It acts on a job whose SYNC_SRC selects the pin,
as one of two kinds by its width; it is counted as ignored by every region of the job within 2 µs of the last edge, while the
job's regions all wait, and when its width is of no kind. A SYNC message that passes the port, and SEQ_RESUME, complete. -/
def Obligations.StepSyncRowsComplete : Prop :=
  (∀ (w g : Nat) (s : State), s.runningJobs = [] → Answers (.stepSyncPulse w g) s s) ∧
  (∀ (w g j r : Nat) (rs : List Nat) (s : State), s.runningJobs = [j] → s.regionsOf j = r :: rs →
    s.rd (regPage r) REG_STEP_CFG_SYNC_SRC % 2 = 1 →
    let ignored := (r :: rs).foldl (fun s x => s.bump (regPage x) REG_C_SYNC_IGNORED) s
    (g < 2000 → Answers (.stepSyncPulse w g) s ignored) ∧
    (s.allStepWait j = true → Answers (.stepSyncPulse w g) s ignored) ∧
    (w < 80 ∨ 200 < w ∧ w < 400 ∨ 800 < w → Answers (.stepSyncPulse w g) s ignored) ∧
    (2000 ≤ g → s.allStepWait j = false → 80 ≤ w → w ≤ 200 →
      Answers (.stepSyncPulse w g) s (s.applySync j 1 (s.rd (regPage r) REG_STEP_CFG_STEP_MB_MAX))) ∧
    (2000 ≤ g → s.allStepWait j = false → 400 ≤ w → w ≤ 800 →
      Answers (.stepSyncPulse w g) s (s.applySync j 2 (s.rd (regPage r) REG_STEP_CFG_STEP_MB_MAX)))) ∧
  (∀ (m : Msg) (slot : Nat) (s : State), Admitted s m slot → m.cls = 0 → byteAt m.body 0 = 7 → leAt m.body 1 3 = 0 →
    s.isS m.port = true → Answers (.syncMessage m) s (s.takeSync slot (m.body.drop 8))) ∧
  (∀ (q : Requester) (r : RegionIx) (v : Word) (s : State), s.served q (regAddr (regPage r) 0x148) v = true →
    (bit v.toNat 0 = true → Answers (.seqResume q r v) s (s.resumeBreak r)) ∧
    (bit v.toNat 0 = false → Answers (.seqResume q r v) s s))

/-! ### Dockets and jobs -/

/-- R149: DOCKET_FETCH sends its request while fetching is enabled, a slot is free, none is outstanding, the module is READY and
neither failed nor retired, and the source is one that a request can go to; it does nothing where fetching is off. An answer that
matches ends the fetch: a DOCKET joins those that wait, an EMPTY changes nothing more. FETCH_TIMEOUT ends a fetch. -/
def Obligations.DocketFetchingCompletes : Prop :=
  (∀ (q : Nat) (t s : State), s.rd pDOCK DOCK_CTRL_FETCH_EN = 1 → s.freeSlots ≠ [] → s.dock.fetch = none → s.stage = 0x0A →
    s.on pDOCK = true → s.rd pFLT FLT_STATUS_MODULE_FAILED = 0 →
    let path : CtlPath := if s.rd pDOCK DOCK_FETCH_CFG_SOURCE = 0 then .mgmt else .port (s.rd pDOCK DOCK_FETCH_CFG_SPORT)
    s.canAsk path = true → s.lifecycle ≠ 3 →
    s.sendControl path 1 (leBytes 2 (s.rd pGLB GLB_MODULE_ID_ID + 2 ^ 15 * s.rd pGLB GLB_MODULE_ID_VALID)
      ++ leBytes 1 s.freeSlots.length ++ leBytes 5 0) = (q, t) →
    Answers .docketFetch s (({ t with dock := { t.dock with fetch := some (path, q) } }.wr pDOCK DOCK_STATUS_FETCH_OUT 1).bump
      pDOCK DOCK_C_FETCHES)) ∧
  (∀ s : State, s.rd pDOCK DOCK_CTRL_FETCH_EN = 0 → Answers .docketFetch s s) ∧
  (∀ (c : CtlMsg) (u s : State), FetchTaken s c 2 u → AnswersMem (.docket c) s
    { u.endFetch with dock := { u.endFetch.dock with behind := u.endFetch.dock.behind ++ [(c.path, c.body)] } }.admitNext) ∧
  (∀ (c : CtlMsg) (u s : State), FetchTaken s c 3 u → Answers (.empty c) s u.endFetch) ∧
  (∀ s : State, s.dock.fetch ≠ none → Answers .fetchTimeout s s.endFetch ∧ s.endFetch.dock.fetch = none ∧
    s.endFetch.rd pDOCK DOCK_STATUS_FETCH_OUT = 0)

/-- R154–R156, R158: check 3 runs again for a docket that waits to fit; the end of a program load leads to check 4, and of a
reload under recovery to the job's reload; a load's timeout is LOAD_FAIL 0x32, a reload's ends the job; an image of the right
length whose hash differs is LOAD_FAIL 0x30. R161: a port that waits too long for its key ends its job with cause 4. -/
def Obligations.JobLoadingRowsComplete : Prop :=
  (∀ (slot : SlotIx) (w : Bool) (s : State), s.jobState slot = 1 → (s.job slot).fitWait = true → s.rd pFAB FAB_STATUS_CHECK ≠ 1 →
    w = true ∨ s.fits slot (s.job slot).docket false = true ∨ s.fits slot (s.job slot).docket true = false →
    AnswersMem (.fitRecheck slot w) s
      ((s.setJob slot { s.job slot with fitWait := false }).check3 slot (s.job slot).docket true).admitNext) ∧
  (∀ (slot : SlotIx) (image : List Byte) (s : State), s.jobState slot = 2 →
    AnswersMem (.programLoadDone slot image) s ((s.sourceImage slot image).1.programLoaded slot (s.sourceImage slot image).2)) ∧
  (∀ (slot : SlotIx) (image : List Byte) (s : State), s.jobState slot = 3 → s.flt.reload.contains slot.val = true →
    s.flt.remaps = [] →
    AnswersMem (.programLoadDone slot image) s ((s.sourceImage slot image).1.reloadJob slot (s.sourceImage slot image).2)) ∧
  (∀ (slot : SlotIx) (s : State), s.jobState slot = 2 → AnswersMem (.loadTimeout slot) s (s.loadFail slot 0x32)) ∧
  (∀ (slot : SlotIx) (s : State), s.jobState slot = 3 → s.flt.reload.contains slot.val = true →
    AnswersMem (.loadTimeout slot) s (s.abortFault slot)) ∧
  (∀ (port : PortIx) (j : Nat) (s : State), s.portSlot port = some j → s.portState port = 1 → s.jobState j = 3 →
    Answers (.keyWaitTimeout port) s (s.endJob j 0x41 4)) ∧
  (∀ (slot : Nat) (img : List Byte) (s : State), s.jobState slot = 2 → img.length = leAt (s.job slot).docket 104 8 →
    sha384 img ≠ ((s.job slot).docket.drop 120).take 48 → s.programLoaded slot img = s.loadFail slot 0x30)

/-- R162, R163: a job control message runs on either path. Once it is accepted its KEY_SEQ is recorded and its action runs: INSTALL
for a job in a slot installs its keys and for another job is held; REVOKE of one port whose key is installed takes the key away;
CANCEL ends the job, and where no slot holds it is too late. Each free value that a draw takes is a byte. -/
def Obligations.JobControlCompletes : Prop :=
  (∀ row, row = Instr.install ∨ row = Instr.revoke ∨ row = Instr.cancel → ∀ (f : MgtReq) (s : State),
    (CtlMsg.mgmt f).ctype = 4 → MailRuns (row (.mgmt f)) s 0x30 false 8 f fun t =>
      ((t.jobCtlAct (CtlMsg.mgmt f).body).1, (t.jobCtlAct (CtlMsg.mgmt f).body).2, [])) ∧
  (∀ row, row = Instr.install ∨ row = Instr.revoke ∨ row = Instr.cancel → ∀ (m : Msg) (s : State),
    s.admitCtl m = (s, true) → (CtlMsg.port m).ctype = 4 → Answers (row (.port m)) s (s.jobCtlAct (CtlMsg.port m).body).1) ∧
  (∀ (b : List Byte) (t u s : State), s.jobCtlOk b = (t, true) →
    (t.wr pDOCK DOCK_KEY_SEQ_SEQ (leAt b 8 8)).jobCtlRun b = (u, false) → s.jobCtlAct b = (u, stOk)) ∧
  (∀ (b : List Byte) (j : Nat) (s : State), byteAt b 6 = 1 → s.slotOfJob (leAt b 16 4) = some j →
    s.jobCtlRun b = (s.installKeys j (leAt b 24 8) (maskList 256 (leAt b 32 32)), false)) ∧
  (∀ (b : List Byte) (s : State), byteAt b 6 = 1 → s.slotOfJob (leAt b 16 4) = none →
    s.jobCtlRun b = (s.holdInstall ⟨leAt b 16 4, leAt b 24 8, leAt b 32 32⟩, false)) ∧
  (∀ (b : List Byte) (j p : Nat) (s : State), byteAt b 6 = 2 → s.slotOfJob (leAt b 16 4) = some j →
    maskList 256 (leAt b 32 32) = [p] → s.portSlot p = some j → s.portState p = 2 →
    s.jobCtlRun b = ((s.bump pDOCK DOCK_C_KEY_MSG_SKIPPED 0).wrs pDOCK [(DOCK_PORT_STATE, 1), (DOCK_PORT_KEY_TAG, 0)] p, false)) ∧
  (∀ (b : List Byte) (j : Nat) (s : State), byteAt b 6 = 3 → s.slotOfJob (leAt b 16 4) = some j →
    s.jobCtlRun b = (s.endJob j 0x41 1, s.jobState j == 4)) ∧
  (∀ (b : List Byte) (s : State), byteAt b 6 = 3 → s.slotOfJob (leAt b 16 4) = none →
    s.jobCtlRun b = (s.bump pFLT FLT_C_TOO_LATE_COUNT, true)) ∧
  (∀ (s : State), s.freeStatus.1 = { s with free := s.free + 1 } ∧ s.freeStatus.2 < 256)

/-- R163, R164, R166: the rest of a job's rows: an INSTALL that no admission used is dropped; a port that is quiet is FENCED
and teardown goes on; a report that no path carried in 10 s is lost, of the slot's earlier jobs first. R357: an end of a job that
is in TEARDOWN is too late: it is counted and changes nothing else; an end of a slot in FREE or ADMITTING changes nothing. -/
def Obligations.JobEndRowsComplete : Prop :=
  (∀ (e : Fin 16) (s : State), Answers (.installPendingExpiry e) s
    { s with dock := { s.dock with installs := s.dock.installs.filter fun x => x.1 != e.val } }) ∧
  (∀ (port : PortIx) (j : Nat) (s : State), s.portSlot port = some j → s.portState port = 3 →
    AnswersMem (.portQuiesceDone port) s ((s.fencePort port).tearDone j).admitNext) ∧
  (∀ (slot : SlotIx) (s : State), s.dock.reports.any (fun x => x.1 == slot.val) = false →
    ((s.job slot).report ≠ [] → Answers (.reportLost slot) s
      ((s.raiseErr pDOCK DOCK_ERR_STATUS_REPORT_LOST).setJob slot { s.job slot with lost := true })) ∧
    ((s.job slot).report = [] → Answers (.reportLost slot) s s)) ∧
  (∀ (slot : SlotIx) (s : State), s.dock.reports.any (fun x => x.1 == slot.val) = true →
    Answers (.reportLost slot) s ((s.raiseErr pDOCK DOCK_ERR_STATUS_REPORT_LOST).dropOld slot)) ∧
  (∀ (slot o c : Nat) (s : State), s.jobState slot = 4 → s.endJob slot o c = s.bump pFLT FLT_C_TOO_LATE_COUNT) ∧
  (∀ (slot o c : Nat) (s : State), s.jobState slot = 0 ∨ s.jobState slot = 1 → s.endJob slot o c = s)

/-! ### Weight streaming -/

/-- R177, R178, R180, R297: weight segments, answers and manifest chunks that pass the port are taken, and a segment that is
malformed is dropped with HDR_BAD. R175, R177, R180, R183, R187: the timers, each for a load that still waits for what it
measures: a NOT_READY load asks again, and after the epoch wait fails with cause 5 (a model-cache load with 1); an expired
segment wait asks for the missing segments again and after the last retry fails with cause 1; an expired leader wait falls back
to reads; a load, and a BIND, whose key does not come fail with cause 4. -/
def Obligations.WeightRowsComplete : Prop :=
  (∀ (m : Msg) (slot : Nat) (s : State), WeightTaken s m slot → Answers (.weightSegment m) s (s.weightSegment slot m.body)) ∧
  (∀ (m : Msg) (slot : Nat) (s : State), WeightTaken s m slot → byteAt m.body 0 = 0x52 →
    Answers (.wsAnswer m) s (s.wsAnswer slot m.body)) ∧
  (∀ (m : Msg) (slot : Nat) (s : State), WeightTaken s m slot → byteAt m.body 0 = 0x4E →
    Answers (.manifestChunk m) s (s.manifestChunk slot m.body)) ∧
  (∀ (slot : Nat) (b : List Byte) (s : State), parseWSeg b = none →
    s.weightSegment slot b = (s.raiseErr pWSP WSP_ERR_STATUS_HDR_BAD).bump pWSP WSP_C_HDR_DROPS) ∧
  (∀ (n : Nat) (l : Load) (s : State), timerEntry n = none → s.loadAt n = some l → l.notReady = true →
    Answers (.notReadyRetry n) s (s.requestMissing l)) ∧
  (∀ (n e : Nat) (l : CacheLoad) (s : State), timerEntry n = some e → (s.cacheEnt e).load = some l → l.notReady = true →
    Answers (.notReadyRetry n) s ((s.moveCarrier e).cacheAgain e)) ∧
  (∀ (n : Nat) (l : Load) (s : State), timerEntry n = none → s.loadAt n = some l → l.epochWait = true ∨ l.notReady = true →
    Answers (.epochWaitTimeout n) s (s.failLoad l 5)) ∧
  (∀ (n e : Nat) (l : CacheLoad) (s : State), timerEntry n = some e → (s.cacheEnt e).load = some l → l.notReady = true →
    Answers (.epochWaitTimeout n) s (s.cacheFail e 1)) ∧
  (∀ (n : Nat) (l : Load) (s : State), timerEntry n = none → s.loadAt n = some l → l.reads = true → l.keyWait = false →
    l.epochWait = false →
    (l.tries < s.rd pWSP WSP_LIMITS_RETRIES → Answers (.segTimeout n) s
      (((s.setLoad { l with tries := l.tries + 1 }).bump pWSP WSP_C_RE_REQUESTS).askTiles { l with tries := l.tries + 1 }
        ({ l with tries := l.tries + 1 } : Load).missing)) ∧
    (s.rd pWSP WSP_LIMITS_RETRIES ≤ l.tries → Answers (.segTimeout n) s (s.failLoad l 1))) ∧
  (∀ (n : Nat) (l : Load) (s : State), s.loadAt n = some l → l.reads = false → l.lead = false → l.keyWait = false →
    l.epochWait = false → Answers (.leaderWaitTimeout n) s
      (((s.setLoad { l with reads := true }).bump pWSP WSP_C_LEADER_FALLBACKS).requestMissing { l with reads := true })) ∧
  (∀ (n : Nat) (l : Load) (s : State), n < 2 ^ 33 → s.loadAt n = some l → l.keyWait = true →
    Answers (.keyMissingTimeout n) s (s.failLoad l 4)) ∧
  (∀ (r : Nat) (b : BindWait) (s : State), s.wsp.binds.find? (fun b => b.region == r) = some b →
    Answers (.keyMissingTimeout (2 ^ 33 + r)) s
      (((({ s with wsp := { s.wsp with binds := s.wsp.binds.filter fun x => x.region != r } } : State).raiseErr pWSP
        WSP_ERR_STATUS_LOAD_FAIL).wrs pWSP [(WSP_LAST_FAIL_SID, 0), (WSP_LAST_FAIL_SLOT, b.slot), (WSP_LAST_FAIL_CAUSE, 4),
        (WSP_LAST_FAIL_MODEL, b.model), (WSP_LAST_FAIL_LAYER, b.first)]).reportOn .program r pWSP WSP_ERR_STATUS_LOAD_FAIL b.slot))

/-! ### The cave -/

/-- R195, R200: the oldest push on its way is taken by its region's cave and its command's cave class ends, and where none is on
its way nothing happens; a recompute whose sequence and commands have ended issues its pop again, or is RECOMP_FAIL for that pop
when its sequence left a span open or its record unpushed. -/
def Obligations.CaveRowsComplete : Prop :=
  (∀ (r : RegionIx) (p : CavePush) (rest : List CavePush) (s : State), (s.cave r).pushes = p :: rest →
    AnswersMem (.cavePushArrival r) s (((s.setCave r { s.cave r with pushes := rest }).takePush r p).finish r p.outId 4)) ∧
  (∀ (r : RegionIx) (s : State), (s.cave r).pushes = [] → AnswersMem (.cavePushArrival r) s s) ∧
  (∀ (r : RegionIx) (rc : Recomp) (s : State), (s.cave r).recomp = some rc → rc.stop ≤ rc.pc →
    (s.seq r).outst.any (fun o => Nat.land o.cls 5 != 0) = false →
    (((s.seq r).span rc.deferred).opened = true ∨ rc.pushed = false → Answers (.recomputeDone r) s
      (s.caveFault r rc.deferred rc.popPc CAVE_ERR_STATUS_RECOMP_FAIL rc.mb (rc.cmd.w 2 31 16) (rc.cmd.w 1 47 32))) ∧
    (((s.seq r).span rc.deferred).opened = false → rc.pushed = true → Answers (.recomputeDone r) s
      ((((((s.setCave r { s.cave r with recomp := none, recs := (s.cave r).recs.modify rc.recIdx fun e => { e with fromDrop := true } }).wr
        pCAVE CAVE_REGION_RECOMP_ACTIVE 0 r).bump pCAVE CAVE_C_RECOMPUTES).raiseEvt pCAVE CAVE_EVT_STATUS_RECOMPUTED).issuePop r
        rc.deferred rc.cmd))))

/-! ### The update engine and mirroring -/

/-- R216, R217: an UPD whose area is initialised runs over its area once its bucket has been handed on; for a bucket without
contributions or an aborted one it is skipped and counted; of a stale job whose next commit is not its own it waits. R227: an
egress ends by completion, and by timeout with EGRESS_FAIL; of an egress that is not open neither does anything. R233:
INIT_TIMEOUT of a restore that did not come drops it and the initialisation fails. -/
def Obligations.UpdateRowsComplete : Prop :=
  (∀ (n : Nat) (c : UpdCmd) (b : Bucket) (e ix : Nat) (s : State), (s.upd (n % 16)).queue.find? (fun c => c.id == n / 16) = some c →
    s.bucket (n % 16) c.tag c.step = some b → (s.areas (n % 16)).find? (fun x => x.1 == c.area) = some (e, ix) →
    ((s.stale (n % 16) = true ∧ s.nextCommit (n % 16) ≠ c.count) → AnswersMem (.updRun n) s (s.updWaits (n % 16) c)) ∧
    (s.stale (n % 16) = false ∨ s.nextCommit (n % 16) = c.count → s.rd pUPD UPD_AREA_INIT_DONE e ≠ 0 →
      (b.done = 2 → AnswersMem (.updRun n) s ((s.bump pUPD UPD_C_UPD_SKIPS).updDone (n % 16) c)) ∧
      (b.done ≠ 2 → b.handed = true → ∀ lanes nb, s.localResult (n % 16) b = some (lanes, nb) →
        (nb = 0 → AnswersMem (.updRun n) s ((s.bump pUPD UPD_C_UPD_SKIPS).updDone (n % 16) c)) ∧
        (nb ≠ 0 → AnswersMem (.updRun n) s (((s.setUpd (n % 16) { s.upd (n % 16) with
          ran := (s.upd (n % 16)).ran.filter (fun x => x.area != c.area) ++ [c] }).updArea (n % 16) c e ix b lanes nb).updDone
            (n % 16) c))))) ∧
  (∀ (slot : SlotIx) (m e : Nat) (s : State), (s.upd slot).egress.contains (m, e) = true →
    Answers (.egressDone slot m e) s ((s.setUpd slot { s.upd slot with
      egress := (s.upd slot).egress.filter (· != (m, e)) }).lastEgress slot)) ∧
  (∀ (slot : SlotIx) (m e : Nat) (s : State), (s.upd slot).egress.contains (m, e) = true →
    Answers (.egressTimeout slot m e) s ((((s.setUpd slot { s.upd slot with
      egress := (s.upd slot).egress.filter (· != (m, e)), egressFail := (s.job slot).lastDone }).raiseErr pUPD
      UPD_ERR_STATUS_EGRESS_FAIL).reportOn .load 255 pUPD UPD_ERR_STATUS_EGRESS_FAIL slot).lastEgress slot)) ∧
  (∀ (slot : SlotIx) (m e : Nat) (s : State), (s.upd slot).egress.contains (m, e) = false →
    Answers (.egressDone slot m e) s s ∧ Answers (.egressTimeout slot m e) s s) ∧
  (∀ (slot : SlotIx) (area e : Nat) (s : State), (s.areas slot).find? (fun x => x.2 == area) = some (e, area) →
    (s.upd slot).restores.any (fun t => t.entry == e) = true →
    Answers (.initTimeout slot area) s ((s.setUpd slot { s.upd slot with
      restores := (s.upd slot).restores.filter fun t => t.entry != e }).initFail slot))

/-- R232, R233, for a mirror message that passes the port and whose tag is right. The holder's side: a segment of an owner that it
holds for is held and one of a restore joins it; MIRROR_DONE of an attempt of which every segment is held makes its image whole
and is acknowledged with status 0, and of an owner it does not hold for with 2; a commit and a rollback move the held images on;
a request for a restore is answered with the segments of the image and its end. The owner's side: an acknowledgement with status
0 ends the stream, with 1 the stream is sent again, with another it fails; a stream that is not acknowledged in time is sent
again; the end of a restore whose segments are all there installs the image. -/
def Obligations.MirrorRowsComplete : Prop :=
  (∀ (m : Msg) (slot : Nat) (x : MirMsg) (pt : List Byte) (s : State), MirrorTaken s m 1 slot x pt → x.dir = 0 →
    (s.ownerPlace slot x.owner).isSome = true → Answers (.mirrorSeg m) s (s.holdSeg slot x pt)) ∧
  (∀ (m : Msg) (slot : Nat) (x : MirMsg) (pt : List Byte) (s : State), MirrorTaken s m 1 slot x pt → x.dir ≠ 0 →
    Answers (.mirrorSeg m) s (s.setUpd slot { s.upd slot with restores := (s.upd slot).restores.map fun t =>
      if t.owner = x.owner ∧ t.area = x.area ∧ t.step = x.step then
        { t with segs := t.segs.filter (fun g => g.1 != x.seg) ++ [(x.seg, pt)] } else t })) ∧
  (∀ (m : Msg) (slot : Nat) (x : MirMsg) (pt : List Byte) (w : HeldImg) (s : State), MirrorTaken s m 2 slot x pt →
    (s.ownerPlace slot x.owner).isSome = true → (s.upd slot).rebuild.any (fun r => r.1 == x.owner) = false →
    heldOf (s.upd slot).held x.owner x.area 0 = some w → w.step = x.step → w.mseq = x.mseq → w.segs.length = x.seg →
    Answers (.mirrorDone m) s ((s.setHeld slot (dropHeld (s.upd slot).held x.owner x.area 0 ++ [{ w with complete := true }])).mirrorAnswer
      slot m { x with op := 3, dir := 1, status := 0 } [])) ∧
  (∀ (m : Msg) (slot : Nat) (x : MirMsg) (pt : List Byte) (s : State), MirrorTaken s m 2 slot x pt →
    s.ownerPlace slot x.owner = none →
    Answers (.mirrorDone m) s (s.mirrorAnswer slot m { x with op := 3, dir := 1, status := 2 } [])) ∧
  (∀ (m : Msg) (slot : Nat) (x : MirMsg) (pt : List Byte) (s : State), MirrorTaken s m 4 slot x pt →
    Answers (.mirrorCommit m) s (s.setHeld slot (commitHeld (s.upd slot).held x.owner x.step))) ∧
  (∀ (m : Msg) (slot : Nat) (x : MirMsg) (pt : List Byte) (s : State), MirrorTaken s m 5 slot x pt →
    Answers (.mirrorRollback m) s (s.setHeld slot (rollbackHeld (s.upd slot).held x.owner))) ∧
  (∀ (m : Msg) (slot : Nat) (x : MirMsg) (pt : List Byte) (o : MirrorOut) (s : State), MirrorTaken s m 3 slot x pt →
    (s.upd slot).out.find? (fun o => s.mirrorName slot o.area == (x.owner, x.area) && o.step == x.step && o.mseq == x.mseq
      && !o.acked) = some o →
    (x.status = 0 → AnswersMem (.mirrorAck m) s ((s.setUpd slot { s.upd slot with
      out := (s.upd slot).out.map fun y => if y.area = o.area then { y with acked := true } else y }).checkReady slot)) ∧
    (x.status = 1 → AnswersMem (.mirrorAck m) s ((s.mirrorResend slot o).afterCommits s)) ∧
    (1 < x.status → AnswersMem (.mirrorAck m) s ((s.mirrorFail slot).afterCommits s))) ∧
  (∀ (slot : SlotIx) (area : Nat) (o : MirrorOut) (s : State),
    (s.upd slot).out.find? (fun o => o.area == area && !o.acked) = some o →
    AnswersMem (.mirrorTimeout slot area) s ((s.mirrorResend slot o).afterCommits s)) ∧
  (∀ (m : Msg) (slot : Nat) (x : MirMsg) (pt : List Byte) (s : State), MirrorTaken s m 6 slot x pt →
    Answers (.restoreReq m) s (s.takeRestoreReq slot m x)) ∧
  (∀ (m : Msg) (slot : Nat) (x : MirMsg) (h : HeldImg) (s : State), x.dir = 0 →
    (s.upd slot).rebuild.any (fun r => r.1 == x.owner) = false → restoreImage (s.upd slot).held x.owner x.area x.step = some h →
    let q := (s.upd slot).holdSeq
    s.takeRestoreReq slot m x = (h.segs.foldl (fun s g => s.mirrorAnswer slot m ⟨1, x.owner, x.area, x.step, q, g.1, 1, 0⟩ g.2)
      (s.setUpd slot { s.upd slot with holdSeq := (q + 1) % 2 ^ 32 })).mirrorAnswer slot m
        ⟨7, x.owner, x.area, x.step, q, h.segs.length, 1, 0⟩ []) ∧
  (∀ (m : Msg) (slot : Nat) (x : MirMsg) (pt b : List Byte) (t : Restore) (e ix : Nat) (s : State), MirrorTaken s m 7 slot x pt →
    x.dir = 1 → x.status = 0 →
    (s.upd slot).restores.find? (fun t => t.owner == x.owner && t.area == x.area && t.step == x.step) = some t →
    segStream t.segs x.seg = some b → (s.areas slot).find? (fun y => y.1 == t.entry) = some (e, ix) →
    AnswersMem (.restoreEnd m) s (((s.setUpd slot { s.upd slot with
      restores := (s.upd slot).restores.filter (· != t) }).installArea slot e ix b).checkReady slot))

/-! ### Collectives -/

/-- R240, R244–R246, R251, R253, R257, R259: each of the eight kinds of packets of a bucket acts on the bucket that it names, once
it is past the port, the CRC, the epoch and the descriptor hash (an ABORT past no hash): a vote, data, a result, a digest, an
abort, a resend, a redo of a later attempt, a moved chunk. R253, R269: a packet of any of those kinds whose CRC fails sets
CHUNK_CRC and counts, and data and a moved chunk are asked for again; one of another membership epoch is counted as stale and
does nothing else. -/
def Obligations.CollPacketsComplete : Prop :=
  (∀ (m : Msg) (slot : Nat) (b : Bucket) (p : CPkt) (s : State), CollTaken s m 1 slot b p →
    AnswersMem (.collVote m) s (s.takeVote slot b p)) ∧
  (∀ (m : Msg) (slot : Nat) (b : Bucket) (p : CPkt) (s : State), CollTaken s m 2 slot b p →
    AnswersMem (.collData m) s (s.takeData slot b p)) ∧
  (∀ (m : Msg) (slot : Nat) (b : Bucket) (p : CPkt) (s : State), CollTaken s m 3 slot b p →
    AnswersMem (.collResult m) s (s.takeResult slot b p)) ∧
  (∀ (m : Msg) (slot : Nat) (b : Bucket) (p : CPkt) (s : State), CollTaken s m 5 slot b p →
    AnswersMem (.collDigest m) s (s.takeDigest slot b p)) ∧
  (∀ (m : Msg) (slot : Nat) (b : Bucket) (p : CPkt) (s : State), CollTaken s m 4 slot b p →
    Answers (.collAbort m) s (s.abortBucket slot b p.cause ([1, 2].filter (· != p.level)))) ∧
  (∀ (m : Msg) (slot : Nat) (b : Bucket) (p : CPkt) (s : State), CollTaken s m 6 slot b p →
    Answers (.collResend m) s (s.takeResend slot b p)) ∧
  (∀ (m : Msg) (slot : Nat) (b : Bucket) (p : CPkt) (s : State), CollTaken s m 7 slot b p → b.attempt < p.attempt → p.attempt ≤ 2 →
    p.level = b.top → AnswersMem (.collRedo m) s (s.applyRedo slot b p.attempt)) ∧
  (∀ (m : Msg) (slot : Nat) (b : Bucket) (p : CPkt) (s : State), CollTaken s m 10 slot b p →
    AnswersMem (.collMove m) s (s.takeMove slot b p)) ∧
  (∀ x ∈ [(1, Instr.collVote), (2, Instr.collData), (3, Instr.collResult), (5, Instr.collDigest), (7, Instr.collRedo),
      (10, Instr.collMove)], ∀ (m : Msg) (slot : Nat) (s : State), Admitted s m slot → m.cls = 2 → byteAt m.body 0 = 0x43 →
    (parseCPkt m.body).kind = x.1 →
    let t := (s.raiseErr pCE CE_ERR_STATUS_CHUNK_CRC).bump pCE CE_C_CRC_ERRS
    (cpktCrcOk m.body = false → x.1 = 2 ∨ x.1 = 10 →
      AnswersMem (x.2 m) s (t.askChunk slot (parseCPkt m.body) (parseCPkt m.body).level)) ∧
    (cpktCrcOk m.body = false → x.1 ≠ 2 → x.1 ≠ 10 → AnswersMem (x.2 m) s t) ∧
    (cpktCrcOk m.body = true → (parseCPkt m.body).gepoch ≠ s.gepoch slot →
      AnswersMem (x.2 m) s (s.bump pPLC PLC_C_STALE_EPOCH_DROPS))) ∧
  (∀ x ∈ [(4, Instr.collAbort), (6, Instr.collResend)], ∀ (m : Msg) (slot : Nat) (s : State), Admitted s m slot → m.cls = 2 →
    byteAt m.body 0 = 0x43 → (parseCPkt m.body).kind = x.1 →
    (cpktCrcOk m.body = false → Answers (x.2 m) s ((s.raiseErr pCE CE_ERR_STATUS_CHUNK_CRC).bump pCE CE_C_CRC_ERRS)) ∧
    (cpktCrcOk m.body = true → (parseCPkt m.body).gepoch ≠ s.gepoch slot →
      Answers (x.2 m) s (s.bump pPLC PLC_C_STALE_EPOCH_DROPS)))

/-- R244, R246, R259, R260: what the engine does of itself. The first open bucket of a TAG whose level 0 is ready completes it: an
RS bucket votes, and every bucket goes on. A result is read back. A rank that owes chunks is asked for each again, and after the
last retry is reported and suspected with cause 3; a result that is missing at the top level starts a redo; a COLL that takes too
long raises COLL_TIMEOUT, is counted, leaves its cause, and is reported. -/
def Obligations.CollMomentsComplete : Prop :=
  (∀ (slot : SlotIx) (tag : Nat) (b : Bucket) (s : State),
    (s.ce slot).buckets.find? (fun b => b.tag == tag && !b.level0 && b.done == 0 && s.level0Ready slot b) = some b →
    let u := s.setBucket slot { b with level0 := true }
    AnswersMem (.level0Complete slot tag) s (((u.setCe slot { u.ce slot with
      line := (u.ce slot).line ++ [(tag, b.step)] }).takeEarly slot tag b.step).withB slot tag b.step fun s b =>
        if b.op = 0 then ((if b.type = 0 then s.endColls b else s).startVote slot tag b.step).pump slot else s.pump slot)) ∧
  (∀ (slot : SlotIx) (tag : Nat) (b : Bucket) (s : State),
    (s.ce slot).buckets.find? (fun b => b.tag == tag && b.op == 0 && b.level0 && !b.handed && b.done == 0) = some b →
    AnswersMem (.resultReadbackDone slot tag) s (s.readback slot b)) ∧
  (∀ (slot : SlotIx) (tag rank n : Nat) (b : Bucket) (s : State),
    (s.ce slot).buckets.find? (fun b => b.tag == tag && b.has 1 && b.op == 0 && b.done == 0) = some b →
    s.missingFrom slot b rank ≠ [] → (s.bPlayed slot b 1).contains rank = false → rank < (s.bRanks slot b 1).length →
    ((((s.ce slot).resends.find? fun x => x.1 == tag && x.2.1 == rank).map (·.2.2)).getD 0) = n →
    (s.rd pCE CE_LIMITS_CHUNK_RETRIES ≤ n →
      AnswersMem (.chunkTimeout slot tag rank) s ((((s.bump pCE CE_C_TIMEOUTS).reportOn .notice 255 pCE
        CE_ERR_STATUS_COLL_TIMEOUT slot rank).suspect slot (s.rankMember slot b rank) 3).afterCommits s)) ∧
    (n < s.rd pCE CE_LIMITS_CHUNK_RETRIES → AnswersMem (.chunkTimeout slot tag rank) s
      ((s.missingFrom slot b rank).foldl (fun s x => s.sendCPkt slot b.group 1 rank { s.bPkt slot b 6 1 x.1 rank with chunk := x.2 })
        (s.setCe slot { s.ce slot with
          resends := (s.ce slot).resends.filter (fun x => x.1 != tag || x.2.1 != rank) ++ [(tag, rank, n + 1)] })))) ∧
  (∀ (slot : SlotIx) (tag : Nat) (b : Bucket) (s : State),
    (s.ce slot).buckets.find? (fun b => b.tag == tag && b.op == 0 && b.done == 0 && b.exps.any (·.1 == b.top)
      && decide (0 < b.top) && (s.localResult slot b).isNone) = some b →
    AnswersMem (.resultMissingTimeout slot tag) s (s.startRedo slot b)) ∧
  (∀ (r : RegionIx) (tag : Nat) (b : Bucket) (s : State),
    (s.ce (s.jobOf r)).buckets.find? (fun b => b.tag == tag && b.done == 0 && b.colls.any fun c => c.region == r) = some b →
    Answers (.collTimeout r tag) s ((((s.raiseErr pCE CE_ERR_STATUS_COLL_TIMEOUT).bump pCE CE_C_TIMEOUTS).lastAbort (s.jobOf r) b
      4).reportOn .program r pCE CE_ERR_STATUS_COLL_TIMEOUT (s.jobOf r)))

/-- R262–R265: the commit barrier. A ready member whose layers are not saturated beyond the limit enters it, sending its saturated
layers at level 1 or, where its level-1 group has one member, at level 2; one that is not ready does not. A level-1 packet that
reaches rank 0 joins the level's sum, and one that reaches another rank is ignored; an OUTCOME of level 2 decides, and one of
level 1 goes to level 2 of a member that has entered; a ROLLBACK of a step that can be rolled back is passed on and done, and
another is ignored; BARRIER_TIMEOUT of a member that has entered raises its error, reports it and suspects with cause 4. -/
def Obligations.BarrierRowsComplete : Prop :=
  (∀ (slot : SlotIx) (s : State), s.barReady slot = true → (s.ce slot).satSaved = none → s.satFault slot = none →
    let x := layerBits ((s.satLayers slot).map (·.2))
    let t := (s.setCe slot { s.ce slot with entered := true }).wrs pCE [(CE_JOB_BARRIER, 1), (CE_JOB_T_ENTER, s.tb.count)] slot
    ((t.rankList slot (t.commitGroup slot) 1).length ≤ 1 →
      AnswersMem (.barrierEnter slot) s ((t.barLevel2 slot (s.barrierStep slot) x).afterCommits s)) ∧
    (1 < (t.rankList slot (t.commitGroup slot) 1).length → AnswersMem (.barrierEnter slot) s
      (((t.barSend slot (s.barrierStep slot) 1 x).barLevel1 slot (s.barrierStep slot)).afterCommits s))) ∧
  (∀ (slot : SlotIx) (s : State), s.barReady slot = false → (s.ce slot).due = none →
    AnswersMem (.barrierEnter slot) s (s.afterCommits s)) ∧
  (∀ (m : Msg) (slot : Nat) (p : CPkt) (s : State), BarTaken s m 8 slot p → p.level = 1 →
    (s.ranksPlayed slot (s.rankList slot (s.commitGroup slot) 1)).contains 0 = true →
    AnswersMem (.collBarrier m) s (((s.barPut slot p.step 1 p.src p.payload).barLevel1 slot p.step).afterCommits s)) ∧
  (∀ (m : Msg) (slot : Nat) (p : CPkt) (s : State), BarTaken s m 8 slot p →
    (s.ranksPlayed slot (s.rankList slot (s.commitGroup slot) p.level)).contains 0 = false →
    AnswersMem (.collBarrier m) s (s.afterCommits s)) ∧
  (∀ (m : Msg) (slot : Nat) (p : CPkt) (s : State), BarTaken s m 9 slot p → p.level = 2 →
    AnswersMem (.outcome m) s ((s.barDecide slot p.step p.payload).afterCommits s)) ∧
  (∀ (m : Msg) (slot : Nat) (p : CPkt) (s : State), BarTaken s m 9 slot p → p.level = 1 → (s.ce slot).entered = true →
    s.barrierStep slot = p.step → AnswersMem (.outcome m) s ((s.barLevel2 slot p.step p.payload).afterCommits s)) ∧
  (∀ (m : Msg) (slot : Nat) (p : CPkt) (s : State), BarTaken s m 11 slot p → s.canRollback slot p.step = true →
    AnswersMem (.collRollback m) s ((s.castRollback slot p.step).rollback slot)) ∧
  (∀ (m : Msg) (slot : Nat) (p : CPkt) (s : State), BarTaken s m 11 slot p → s.canRollback slot p.step = false →
    AnswersMem (.collRollback m) s s) ∧
  (∀ (slot : SlotIx) (s : State), (s.ce slot).entered = true → AnswersMem (.barrierTimeout slot) s
    ((((s.raiseErr pCE CE_ERR_STATUS_BARRIER_TIMEOUT).reportOn .notice 255 pCE CE_ERR_STATUS_BARRIER_TIMEOUT slot).suspect slot
      0xFFFF 4).afterCommits s)) ∧
  (∀ (slot : SlotIx) (s : State), (s.ce slot).entered = false → AnswersMem (.barrierTimeout slot) s s)

/-! ### Membership -/

/-- R270, R271, R273, R274: a heartbeat of a running job in a group that is not joining goes to its targets, and one from a sender
that is watched is noted; a missed one is counted and suspected with cause 2; a SUSPECT is taken by a leader and forwarded by
another member; a PROBE is answered, and ends the wait for the leader about its subject; a PROBE_ACK is taken; a probe that is
not answered confirms the loss; a leader that stays silent after a SUSPECT is suspected itself, and what was sent to it goes to
the next. -/
def Obligations.HeartbeatAndSuspectRowsComplete : Prop :=
  (∀ (slot : SlotIx) (s : State), s.jobState slot = 3 → s.grouped slot = true → s.joining slot = false →
    Answers (.heartbeatSend slot) s (s.sendMembers slot (s.heartTargets slot) (s.memMsg slot 1))) ∧
  (∀ (m : Msg) (slot : Nat) (x : MemMsg) (s : State), MemberTaken s m 1 false slot x → (s.heartSenders slot).contains x.src = true →
    Answers (.heartbeat m) s (s.setGrp slot { s.grp slot with
      heard := tabSet (fun _ => 0) (s.grp slot).heard x.src s.tb.ref })) ∧
  (∀ (slot : SlotIx) (i : Nat) (s : State), s.jobState slot = 3 → (s.heartSenders slot).contains i = true →
    AnswersMem (.heartbeatMiss slot i) s (((s.bump pPLC PLC_C_HB_MISSES).suspect slot i 2).afterCommits s)) ∧
  (∀ (m : Msg) (slot : Nat) (x : MemMsg) (s : State), MemberTaken s m 2 false slot x →
    (s.leads slot = true → AnswersMem (.suspect m) s ((s.takeSuspect slot x.src x.subject x.cause).afterCommits s)) ∧
    (s.leads slot = false → AnswersMem (.suspect m) s ((s.forward slot x).afterCommits s))) ∧
  (∀ (m : Msg) (slot : Nat) (x : MemMsg) (s : State), MemberTaken s m 3 false slot x →
    let t := s.setGrp slot { s.grp slot with
      silent := (s.grp slot).silent.filter fun y => y.1 != x.subject && y.1 != 0xFFFF }
    Answers (.probe m) s (t.sendMember slot x.src { t.memMsg slot 4 with dst := x.src, subject := t.gSelf slot, seq := x.seq })) ∧
  (∀ (m : Msg) (slot : Nat) (x : MemMsg) (s : State), MemberTaken s m 4 false slot x →
    Answers (.probeAck m) s (s.takeProbeAck slot x)) ∧
  (∀ (slot : SlotIx) (i : Nat) (s : State), (s.grp slot).probes.any (fun p => p.1 == i) = true →
    AnswersMem (.probeWaitExpiry slot i) s ((s.confirmLoss slot i).afterCommits s)) ∧
  (∀ (slot : SlotIx) (i : Nat) (s : State), (s.grp slot).probes.any (fun p => p.1 == i) = false →
    AnswersMem (.probeWaitExpiry slot i) s (s.afterCommits s)) ∧
  (∀ (slot : SlotIx) (s : State), s.jobState slot = 3 → (s.grp slot).silent ≠ [] → s.leads slot = false →
    AnswersMem (.leaderSilence slot) s (((s.grp slot).silent.foldl (fun s x =>
      if (s.grp slot).silent.isEmpty || s.jobState slot != 3 then s else s.toLeader slot 2 x.1 x.2)
        (s.suspect slot (s.leaderOf slot) 2)).afterCommits s))

/-- R271, R275, R276, R278, R283: proposals, acceptances, commits, leaving, abandoning and joining, each once it is taken. An accept
wait that expires without a proposal does nothing, with the acceptances of fewer than half of the live members abandons the job,
of more than half proposes again without the silent ones, and of exactly half does so only with the lowest live member among
them. A member named in the proposed lost set ends its job; one that has accepted a lower proposer for the target ignores a
PROPOSE, and a PROPOSE of another epoch is counted as stale; a JOIN that reaches a member which does not lead is forwarded, and
one of a member that is not lost is refused with cause 1. -/
def Obligations.ReformRowsComplete : Prop :=
  (∀ (m : Msg) (slot : Nat) (x : MemMsg) (s : State), MemberTaken s m 5 true slot x →
    AnswersMem (.propose m) s (s.takePropose slot x)) ∧
  (∀ (m : Msg) (slot : Nat) (x : MemMsg) (s : State), MemberTaken s m 6 true slot x →
    AnswersMem (.accept m) s ((s.takeAccept slot x).afterCommits s)) ∧
  (∀ (m : Msg) (slot : Nat) (x : MemMsg) (s : State), MemberTaken s m 7 true slot x →
    AnswersMem (.memberCommit m) s ((s.takeCommit slot x).afterCommits s)) ∧
  (∀ (slot : SlotIx) (p : Proposal) (s : State), (s.grp slot).prop = some p →
    let live := s.liveMembers slot
    let acc := live.filter fun i => p.accepts.any fun a => a.1 == i
    let silent := live.filter fun i => !acc.contains i && !p.lost.contains i
    let half := 2 * acc.length = live.length ∧ acc.contains (live.headD 0) = true
    (2 * acc.length ≤ live.length → ¬half → AnswersMem (.acceptWaitExpiry slot) s ((s.castAbandon slot).afterCommits s)) ∧
    (live.length < 2 * acc.length ∨ half → AnswersMem (.acceptWaitExpiry slot) s
      ((((s.bump pPLC PLC_C_CONFIRMS silent.length).setGrp slot { s.grp slot with
        confirmed := (s.grp slot).confirmed ++ silent }).openProp slot
          (s.lostSet slot ++ (s.grp slot).confirmed ++ silent).eraseDups none).afterCommits s))) ∧
  (∀ (slot : SlotIx) (s : State), (s.grp slot).prop = none → AnswersMem (.acceptWaitExpiry slot) s (s.afterCommits s)) ∧
  (∀ (m : Msg) (slot : Nat) (x : MemMsg) (s : State), MemberTaken s m 8 false slot x →
    (s.leads slot = true → AnswersMem (.leave m) s ((s.takeSuspect slot x.src x.src 6).afterCommits s)) ∧
    (s.leads slot = false → AnswersMem (.leave m) s ((s.forward slot x).afterCommits s))) ∧
  (∀ (m : Msg) (slot : Nat) (x : MemMsg) (s : State), MemberTaken s m 11 false slot x → Answers (.abandon m) s
    (((s.bump pPLC PLC_C_ABANDONS).sendMembers slot (s.heartTargets slot) x).endJob slot 0x41 2)) ∧
  (∀ (m : Msg) (slot : Nat) (x : MemMsg) (s : State), MemberTaken s m 9 true slot x →
    Answers (.join m) s (s.takeJoin slot x)) ∧
  (∀ (m : Msg) (slot : Nat) (x : MemMsg) (s : State), MemberTaken s m 10 true slot x → s.joining slot = true →
    (x.cause = 0 → Answers (.joinAck m) s (s.wr pPLC PLC_JOB_GEPOCH x.gepoch slot)) ∧
    (x.cause ≠ 0 → Answers (.joinAck m) s (s.endJob slot 0x41 2))) ∧
  (∀ (slot : Nat) (x : MemMsg) (s : State), s.joining slot = false → x.gepoch = s.target slot →
    x.lostA = s.gSelf slot ∨ x.lostB = s.gSelf slot → s.takePropose slot x = s.endJob slot 0x41 2) ∧
  (∀ (slot q : Nat) (j : Option Nat) (x : MemMsg) (s : State), s.joining slot = false → x.gepoch = s.target slot →
    x.lostA ≠ s.gSelf slot → x.lostB ≠ s.gSelf slot → (s.grp slot).accepted = some (x.gepoch, q, j) → q < x.src →
    s.takePropose slot x = s) ∧
  (∀ (slot : Nat) (x : MemMsg) (s : State), s.joining slot = false → x.gepoch ≠ s.target slot →
    s.takePropose slot x = s.bump pPLC PLC_C_STALE_EPOCH_DROPS) ∧
  (∀ (slot : Nat) (x : MemMsg) (s : State), s.leads slot = false → s.takeJoin slot x = s.forward slot x) ∧
  (∀ (slot : Nat) (x : MemMsg) (s : State), s.leads slot = true → (s.lostSet slot).contains x.src = false →
    s.takeJoin slot x = (s.sendJob slot 4 (addrModule x.module) ({ s.memMsg slot 10 with
      dst := x.src, subject := x.src, cause := 1, seq := x.seq } : MemMsg).bytes).showGrp slot)

/-! ### Serving and the model cache -/

/-- R288–R291, R293: a serving request and a close that pass their checks are taken (a close of a stream that its port opened); an
idle stream is counted and closed; a request that waits too long in the queue is rejected with cause 6, and one that waits too
long for a batch asks for its model; a free batch admits the first request in the queue that qualifies and whose model is ready;
BATCH_DONE of a batch whose regions all wait, with nothing outstanding and one LAST flag, ends it, and without a batch does
nothing. -/
def Obligations.ServingRowsComplete : Prop :=
  (∀ (m : Msg) (slot : Nat) (s : State), SrvTaken s m 1 slot → Answers (.serveRequest m) s (s.takeRequest slot
    { id := 0, model := leAt m.body 2 2, sid := leAt m.body 4 2, port := m.port, src := m.src, seq := leAt m.body 8 4,
      payload := m.body.drop 24 })) ∧
  (∀ (m : Msg) (slot : Nat) (s : State), SrvTaken s m 2 slot →
    (s.srv slot).streams.any (fun x => x.sid == leAt m.body 4 2 && x.port == m.port) = true →
    Answers (.serveClose m) s (s.closeStream slot (leAt m.body 4 2))) ∧
  (∀ (slot : SlotIx) (sid : Nat) (s : State), (s.srv slot).streams.any (fun x => x.sid == sid && !x.closing) = true →
    Answers (.streamIdle slot sid) s ((s.bump pCELL CELL_C_STREAM_TIMEOUTS).closeStream slot sid)) ∧
  (∀ (slot : SlotIx) (n : Nat) (r : SrvReq) (s : State), (s.srv slot).queue.find? (fun r => r.id == n) = some r →
    Answers (.queueWaitExpiry slot n) s (((s.setQueue slot ((s.srv slot).queue.filter fun x => x.id != n)).srvReject slot r
      6).freeStreams slot)) ∧
  (∀ (slot : SlotIx) (model : Nat) (r : SrvReq) (rs : List SrvReq) (s : State), s.queued slot model = r :: rs →
    Answers (.batchWaitExpiry slot model) s ((s.setQueue slot ((s.srv slot).queue.map fun x =>
      if x.id == r.id then { x with waited := true } else x)).wantLoad slot model)) ∧
  (∀ (slot : SlotIx) (s : State), s.jobState slot = 3 → s.serves slot = true → s.batchFree slot = true →
    s.rd pPLC PLC_JOB_RECOVERING slot = 0 →
    let t := ((s.srv slot).queue.map (·.model)).eraseDups.foldl (fun (s : State) m => s.wantLoad slot m) s
    ∀ r d e k, (t.srv slot).queue.find? (fun r => t.qualifies slot r.model && (match t.entryOf r.model with
        | some e => (t.curReady e).isSome
        | none => false)) = some r →
      t.serveEntry slot r.model = some d → t.entryOf r.model = some e → t.curReady e = some k →
      Answers (.batchAdmit slot) s (t.admitBatch slot d e k r.model)) ∧
  (∀ (slot : SlotIx) (b : SrvBatch) (s : State), (s.srv slot).batch = some b → s.allStepWait slot = true →
    (s.regionsOf slot).any (fun r => !(s.seq r).outst.isEmpty) = false →
    let last := (s.regionsOf slot).map fun r => (s.seq r).lastFlag
    last.any (· != last.headD false) = false → Answers (.batchDone slot) s (s.endBatch slot b)) ∧
  (∀ (slot : SlotIx) (s : State), (s.srv slot).batch = none → Answers (.batchDone slot) s s)

/-- R295, R300, R301: a served write of CACHE_CMD that names a valid entry does its command: load, unload, pin, unpin; one of
another entry or command raises BAD_CMD; a failed entry is tried again; USE_DECAY halves every entry's USE and changes no other
register. -/
def Obligations.CacheCommandsComplete : Prop :=
  (∀ (q : Requester) (v : Word) (s : State), s.served q (regAddr pCELL 0x108) v = true →
    s.entryValid (bits v.toNat 12 8) = true →
    (bits v.toNat 2 0 = 1 → Answers (.cacheLoad q v) s (s.cacheLoadCmd (bits v.toNat 12 8) (bits v.toNat 63 32))) ∧
    (bits v.toNat 2 0 = 2 → Answers (.cacheUnload q v) s
      ((s.wr pCELL CELL_MODEL_UNLOADING 1 (bits v.toNat 12 8)).unloadDone (bits v.toNat 12 8)).retrySpace) ∧
    (bits v.toNat 2 0 = 3 → Answers (.cachePin q v) s (s.wr pCELL CELL_MODEL_PINNED 1 (bits v.toNat 12 8))) ∧
    (bits v.toNat 2 0 = 4 → Answers (.cacheUnpin q v) s (s.wr pCELL CELL_MODEL_PINNED 0 (bits v.toNat 12 8)).retrySpace)) ∧
  (∀ (q : Requester) (v : Word) (s : State), s.served q (regAddr pCELL 0x108) v = true →
    s.entryValid (bits v.toNat 12 8) = false ∨ bits v.toNat 2 0 = 0 ∨ 4 < bits v.toNat 2 0 →
    ∀ row ∈ [Instr.cacheLoad, Instr.cacheUnload, Instr.cachePin, Instr.cacheUnpin],
      Answers (row q v) s (s.raiseErr pCELL CELL_ERR_STATUS_BAD_CMD)) ∧
  (∀ (e : Fin 32) (s : State), s.entryValid e = true → s.cacheState e = 4 → Answers (.cacheRetry e) s
    ((s.wr pCELL CELL_MODEL_STATE 0 e).startCacheLoad e (s.rd pCELL CELL_MODEL_TARGET_EPOCH e) false)) ∧
  (∀ (e : Nat) (s : State), e < 32 → ∃ t, Answers .useDecay s t ∧
    t.rd pCELL CELL_MODEL_USE e = s.rd pCELL CELL_MODEL_USE e / 2) ∧
  (∀ s : State, ∃ t, Answers .useDecay s t ∧ t = { s with regs := t.regs } ∧
    RegsKeptBut ((List.range 32).map fun e => regAddr pCELL (CELL_MODEL_USE.atIx e)) s t)

/-- R297: a load from the cellar of a placed load whose image fits and reads well is done with its pieces; where there is no such
image, the load fails with cause 4 or, for an entry of SOURCE 2, goes on from its carrier; without a load nothing happens.
R394, R395: a cellar command past the mailbox: refused in a RETIRED module and where its signature is bad, and else done, with
KEY_SEQ recorded where it succeeds; the data of an open session at its place is kept and at another place refused; a session
left idle is aborted. -/
def Obligations.CellarRowsComplete : Prop :=
  (∀ (e : Fin 32) (l : CacheLoad) (s : State), (s.cacheEnt e).load = some l → l.source ≠ 0 →
    s.cellarImage (s.rd pCELL CELL_MODEL_CELLAR_INDEX e) = none → s.rd pCELL CELL_MODEL_SOURCE e ≠ 2 →
    Answers (.cellarLoadDone e) s ((s.raiseErr pCELL CELL_ERR_STATUS_IMAGE_BAD).cacheFail e 4)) ∧
  (∀ (e : Fin 32) (l : CacheLoad) (s : State), (s.cacheEnt e).load = some l → l.source = 1 →
    s.cellarImage (s.rd pCELL CELL_MODEL_CELLAR_INDEX e) = none → s.rd pCELL CELL_MODEL_SOURCE e = 2 →
    Answers (.cellarLoadDone e) s (((((s.raiseErr pCELL CELL_ERR_STATUS_IMAGE_BAD).setCacheLoad e none).freeSlotOf e l.slot).startCacheLoad
      e l.epoch true).retrySpace)) ∧
  (∀ (e : Fin 32) (l : CacheLoad) (b body : List Byte) (ps : List (List CacheSeg)) (s : State), (s.cacheEnt e).load = some l →
    l.source ≠ 0 → l.placed = true → s.cellarImage (s.rd pCELL CELL_MODEL_CELLAR_INDEX e) = some b → imageBody b = some body →
    byteAt b 6 = 0 → leAt b 10 2 = s.rd pCELL CELL_MODEL_MODEL e → leAt b 12 4 = l.epoch →
    readPieces b (s.keyBytes (s.rd pCELL CELL_MODEL_KEYSLOT e)) (s.rd pCELL CELL_MODEL_MODEL e) l.epoch (parseManifest body) =
      some ps →
    let got := ps.map landPiece
    let t := (s.bump pWSP WSP_C_DUP_DROPS (got.map fun x => x.2.1).sum).bump pWSP WSP_C_GEN_RESTARTS (got.map fun x => x.2.2).sum
    let k : CacheLoad := { l with manifest := some (parseManifest body), placed := true, segs := got.flatMap (·.1) }
    k.segs.length = (ps.map List.length).sum → Answers (.cellarLoadDone e) s (t.loadDone e k k.assemble)) ∧
  (∀ (e : Fin 32) (s : State), (s.cacheEnt e).load = none → Answers (.cellarLoadDone e) s s) ∧
  (∀ row, row = Instr.openWrite ∨ row = Instr.erase ∨ row = Instr.seal ∨ row = Instr.abort → ∀ (f : MgtReq) (s : State),
    s.mailOk 0x40 false 256 f = true →
    let t := s.mailTaken 0x40 f
    let b := f.payload.take 256
    (t.lifecycle = 3 → Answers (row f) s (t.respond 0x40 f stOk (leBytes 1 cellProtected))) ∧
    (∀ u, t.lifecycle ≠ 3 → t.cellCmdOk b = (u, false) → Answers (row f) s (u.respond 0x40 f stOk (leBytes 1 cellBadSig))) ∧
    (∀ u, t.lifecycle ≠ 3 → t.cellCmdOk b = (u, true) →
      let r := if byteAt b 5 = 1 then u.openWrite (leAt b 16 2) (leAt b 24 8) else if byteAt b 5 = 2 then u.eraseImage (leAt b 16 2)
        else if byteAt b 5 = 3 then u.sealImage (leAt b 16 2) else u.abortCmd
      (r.2 = cellOk → Answers (row f) s ((r.1.wr pDOCK DOCK_KEY_SEQ_SEQ (leAt b 8 8)).respond 0x40 f stOk (leBytes 1 r.2))) ∧
      (r.2 ≠ cellOk → Answers (row f) s (r.1.respond 0x40 f stOk (leBytes 1 r.2))))) ∧
  (∀ (f : MgtReq) (x : CellSession) (s : State), s.mailOk 0x41 false 0 f = true →
    let t := s.mailTaken 0x41 f
    t.lifecycle ≠ 3 → t.cellar.session = some x → f.arg.toNat = x.data.length →
    Answers (.cellarData f) s ((({ t with cellar := { t.cellar with session := some { x with data := x.data ++ f.payload } } } : State).wr
      pMEM MEM_CELLAR_SESSION_BYTES (x.data ++ f.payload).length).respond 0x41 f stOk (leBytes 1 cellOk))) ∧
  (∀ (f : MgtReq) (x : CellSession) (s : State), s.mailOk 0x41 false 0 f = true →
    let t := s.mailTaken 0x41 f
    t.lifecycle ≠ 3 → t.cellar.session = some x → f.arg.toNat ≠ x.data.length →
    Answers (.cellarData f) s (t.respond 0x41 f stOk (leBytes 1 cellOrder))) ∧
  (∀ s : State, Answers .cellarSessionIdle s s.abortSession) ∧
  (∀ s : State, s.abortSession.cellar.session = none)

/-! ### The fabric -/

/-- R316, R317: a served ROUTE_CTRL with COMMIT starts the check of the staged bank while the module runs no job, holds no flit on
channels 0–3 and runs no check, and raises ROUTE_BUSY otherwise; the end of the check (stated while no job is in ADMITTING) takes
the bank or reports what failed. R321: a detour that does not drain in time counts and discards what is left and is installed.
R326: a stalled channel raises VC_STALL, is counted and reported. R323: a post and an acknowledgement inside the module reach
the end that waits. R375: transfers between modules: each message acts on the end that it belongs to; DATA that completes its
RECV is acknowledged, an acknowledgement or a SIZE_ERR of no end is an orphan; XFER_TIMEOUT halts the region at its command and
is reported. -/
def Obligations.FabricAndTransferRowsComplete : Prop :=
  (∀ (q : Requester) (v : Word) (s : State), s.served q (regAddr pFAB 0x100) v = true →
    (FAB_ROUTE_CTRL_COMMIT.of v = 0 → Answers (.routeCommit q v) s s) ∧
    (FAB_ROUTE_CTRL_COMMIT.of v ≠ 0 → (∀ j, j < 16 → s.jobState j = 0) → s.net.busy = false → s.rd pFAB FAB_STATUS_CHECK ≠ 1 →
      Answers (.routeCommit q v) s (s.wr pFAB FAB_STATUS_CHECK 1)) ∧
    (FAB_ROUTE_CTRL_COMMIT.of v ≠ 0 → (∃ j, j < 16 ∧ s.jobState j ≠ 0) ∨ s.net.busy = true ∨ s.rd pFAB FAB_STATUS_CHECK = 1 →
      Answers (.routeCommit q v) s (s.raiseErr pFAB FAB_ERR_STATUS_ROUTE_BUSY))) ∧
  (∀ s : State, s.rd pFAB FAB_STATUS_CHECK = 1 → (∀ j, j < 16 → s.jobState j ≠ 1) →
    let bank := 1 - s.rd pFAB FAB_STATUS_ACTIVE_BANK
    let t := s.bump pFAB FAB_C_ROUTE_CHECKS
    AnswersMem .routeCheckDone s (match routeCheck (t.routeEntry bank) with
      | none => (t.wrs pFAB [(FAB_STATUS_ACTIVE_BANK, bank), (FAB_STATUS_CHECK, 2), (FAB_ROUTE_RESULT_KIND, 0),
          (FAB_ROUTE_RESULT_SRC, 0), (FAB_ROUTE_RESULT_DST, 0)]).raiseEvt pFAB FAB_EVT_STATUS_ROUTE_COMMITTED
      | some (k, a, d) => (t.wrs pFAB [(FAB_STATUS_CHECK, 3), (FAB_ROUTE_RESULT_KIND, k), (FAB_ROUTE_RESULT_SRC, a),
          (FAB_ROUTE_RESULT_DST, d)]).raiseErr pFAB FAB_ERR_STATUS_ROUTE_CHECK_FAIL).admitNext) ∧
  (∀ (n : Nat) (s : State), (s.rd pFAB FAB_STATUS_DETOUR_BUSY ≠ 0 →
      Answers (.detourDrainTimeout n) s (s.bump pFAB FAB_C_BYPASS_DISCARDS n).clearDetour.installDetour) ∧
    (s.rd pFAB FAB_STATUS_DETOUR_BUSY = 0 → Answers (.detourDrainTimeout n) s s)) ∧
  (∀ (r : RegionIx) (s : State), Answers (.vcStall r) s
    (((s.raiseErr pFAB FAB_ERR_STATUS_VC_STALL).bump pFAB FAB_C_VC_STALLS).reportOn .notice r pFAB FAB_ERR_STATUS_VC_STALL)) ∧
  (∀ (r : RegionIx) (p : Post) (s : State), s.fab.posts.find? (fun p => p.src == r.val && !p.here) = some p →
    Answers (.xferPost r) s ((s.setFab { s.fab with
      posts := s.fab.posts.map fun q => if q = p then { p with here := true } else q }).tryMatch r)) ∧
  (∀ (r : RegionIx) (x : Sending) (s : State), s.fab.sends.find? (fun x => x.src == r.val && x.landed) = some x →
    Answers (.xferAck r) s ((s.setFab { s.fab with sends := s.fab.sends.erase x }).finish r x.outId 8)) ∧
  (∀ (m : Msg) (slot : Nat) (s : State), XferTaken s m 1 slot → Answers (.xferPostMsg m) s ((s.setFab { s.fab with
    xposts := s.fab.xposts ++ [⟨slot, m.src, byteAt m.body 1, leAt m.body 2 2, leAt m.body 4 4, leAt m.body 8 2⟩] }).tryMatchX slot)) ∧
  (∀ (m : Msg) (slot : Nat) (x : Xfer) (s : State), XferTaken s m 2 slot →
    let piece := (byteAt m.body 10, leAt m.body 12 4, (m.body.drop 24).length)
    s.fab.xrecvs.find? (fun x => s.xferOf m slot x && x.bytes == leAt m.body 4 4 && x.rect == leAt m.body 8 2
      && (rectTiles x.rect).contains (byteAt m.body 10) && (xferPieces x.bytes).contains (leAt m.body 12 4, (m.body.drop 24).length)
      && !x.landed.contains piece) = some x →
    let y := { x with landed := x.landed ++ [piece] }
    let t := (s.sramWrite x.region (byteAt m.body 10) (x.addr + leAt m.body 12 4) (m.body.drop 24)).ctxBytes slot x.sid
      (m.body.drop 24).length
    (y.whole = true → Answers (.xferData m) s
      (((t.setFab { t.fab with xrecvs := t.fab.xrecvs.erase x }).sendXfer x 3 0 0 []).finish x.region x.outId 8)) ∧
    (y.whole = false → Answers (.xferData m) s
      (t.setFab { t.fab with xrecvs := t.fab.xrecvs.map fun z => if z = x then y else z }))) ∧
  (∀ (m : Msg) (slot : Nat) (s : State), XferTaken s m 3 slot →
    (∀ x, s.fab.xsends.find? (fun x => s.xferOf m slot x && x.sent) = some x →
      Answers (.xferAckMsg m) s ((s.setFab { s.fab with xsends := s.fab.xsends.erase x }).finish x.region x.outId 8)) ∧
    (s.fab.xsends.find? (fun x => s.xferOf m slot x && x.sent) = none → Answers (.xferAckMsg m) s (s.xferOrphan m slot))) ∧
  (∀ (m : Msg) (slot : Nat) (s : State), XferTaken s m 4 slot →
    (∀ x, s.fab.xrecvs.find? (fun x => s.xferOf m slot x && x.landed.isEmpty) = some x →
      Answers (.sizeErr m) s ((s.setFab { s.fab with xrecvs := s.fab.xrecvs.erase x }).xferSize x)) ∧
    (s.fab.xrecvs.find? (fun x => s.xferOf m slot x && x.landed.isEmpty) = none →
      Answers (.sizeErr m) s (s.xferOrphan m slot))) ∧
  (∀ (r : RegionIx) (id : Nat) (x : Xfer) (s : State),
    (s.fab.xsends ++ s.fab.xrecvs).find? (fun x => x.region == r.val && x.outId == id) = some x →
    Answers (.xferTimeout r id) s (((s.haltAt x.region false x.ix OPT_ERR_STATUS_XFER_TIMEOUT.lo).raiseErr (portPage x.port)
      OPT_ERR_STATUS_XFER_TIMEOUT).reportOn .program x.region (portPage x.port) OPT_ERR_STATUS_XFER_TIMEOUT (s.jobOf x.region)))

/-- R307: the route word of a packet gives back each of its fields, at the bits that the table gives it, and its reserved bits are
0; a packet has at most 66 flits exactly when its payload has at most 16,864 bytes. R308, R309, R312, R313, R318, R320: what the
fabric does with a packet. While it is on its class channel and its next link
leads into no bypassed region it goes on along its legs; where the link leads into one it is discarded if its destination lies
in a bypassed region, waits while the detour table is being replaced, is discarded as unreachable where the table holds no way,
and moves to channel 4 otherwise; on channel 4 it never moves again to another, goes to the side that the table gives for its
region, and in the destination region along X and then Y. A move to channel 4 sets DETOUR and counts. A tile endpoint discards a
packet where it drops what reaches it, or of another job than its region's. A flit put into an input buffer uses a credit, and one taken out gives it back two cycles later. -/
def Obligations.PacketsFollowTheirRoutes : Prop :=
  (∀ p : Packet, p.dstX < 256 → p.dstY < 256 → p.srcX < 256 → p.srcY < 256 → p.vc < 8 → p.cls < 4 → p.mid < 16 → p.flits < 128 →
    p.job < 32 → p.ep < 256 →
    bits p.word 7 0 = p.dstX ∧ bits p.word 15 8 = p.dstY ∧ bits p.word 23 16 = p.srcX ∧ bits p.word 31 24 = p.srcY ∧
    bits p.word 34 32 = p.vc ∧ bits p.word 35 35 = b2n p.detour ∧ bits p.word 37 36 = p.cls ∧ bits p.word 41 38 = p.mid ∧
    bits p.word 48 42 = p.flits ∧ bits p.word 53 49 = p.job ∧ bits p.word 55 54 = 0 ∧ bits p.word 63 56 = p.ep) ∧
  (∀ n, packetFlits n ≤ 66 ↔ n ≤ 16864) ∧
  (∀ (x y r d : Nat) (p : Packet) (s : State), regionOfTile x y = some r → regionOfTile p.dstX p.dstY = some d →
    (p.detour = false →
      let leg := (legFrom x y (p.goals.drop p.leg) p.leg).1
      let side := (legFrom x y (p.goals.drop p.leg) p.leg).2
      (side = 4 ∨ s.forwards x y side = true → s.hop x y p = .go side leg) ∧
      (side ≠ 4 → s.forwards x y side = false →
        (s.bypassed d = true → s.hop x y p = .drop FAB_C_BYPASS_DISCARDS) ∧
        (s.bypassed d = false → s.rd pFAB FAB_STATUS_DETOUR_BUSY = 1 → s.hop x y p = .wait) ∧
        (s.bypassed d = false → s.rd pFAB FAB_STATUS_DETOUR_BUSY ≠ 1 → s.detourTo r d = 7 →
          s.hop x y p = .drop FAB_C_UNREACH_DROPS) ∧
        (s.bypassed d = false → s.rd pFAB FAB_STATUS_DETOUR_BUSY ≠ 1 → s.detourTo r d ≠ 7 → s.hop x y p = .switch))) ∧
    (p.detour = true → s.hop x y p ≠ .switch ∧
      (s.detourTo r d < 4 → s.forwards x y (s.detourTo r d) = true → s.hop x y p = .go (s.detourTo r d) 0) ∧
      (s.detourTo r d = 4 →
        (x < p.dstX → s.hop x y p = .go 1 0) ∧ (p.dstX < x → s.hop x y p = .go 3 0) ∧
        (x = p.dstX → y < p.dstY → s.hop x y p = .go 2 0) ∧ (x = p.dstX → p.dstY < y → s.hop x y p = .go 0 0) ∧
        (x = p.dstX → y = p.dstY → s.hop x y p = .go 4 0)))) ∧
  (∀ (k : Nat) (p : Packet) (s : State), s.net.head k = some p → s.hop (keyX k) (keyY k) p = .switch →
    s.settle k = ({ s with net := s.net.setPkt { p with detour := true } } : State).bump pFAB FAB_C_DETOUR_PACKETS ∧
    ({ p with detour := true } : Packet).chan = 4) ∧
  (∀ (r : Nat) (p : Packet) (s : State), p.ep ≠ 1 → regionOfTile p.dstX p.dstY = some r →
    (s.endDrops r p.dstX = true → s.endDiscards p = some FAB_C_INACTIVE_DROPS) ∧
    (s.endDrops r p.dstX = false → s.slotOf r ≠ some p.job → s.endDiscards p = some FAB_C_XJOB_DROPS) ∧
    (s.endDrops r p.dstX = false → s.slotOf r = some p.job → s.endDiscards p = none)) ∧
  (∀ (k : Nat) (f : Flit) (n : Net), 0 < n.credit k → (n.push k f).credit k + 1 = n.credit k ∧ (n.push k f).buf k = n.buf k ++ [f]) ∧
  (∀ (k : Nat) (n : Net), (n.pop k).buf k = (n.buf k).tail ∧ (n.pop k).credit k = n.credit k ∧ (n.now + 2, k) ∈ (n.pop k).returns)

/-- R315: the default route table, which boot loads: XY for every pair of regions but for those whose source lies in region
rows 0–1 or 8–9 and whose destination lies in region column 0, 1, 8 or 9: those are YXY with MID 2 or 7, and they are exactly
the pairs whose XY route would cross an absent position. -/
def Obligations.DefaultRoutesAvoidAbsentPositions : Prop :=
  (∀ s : State, s.stage = 1 → s.heldReset = false → Answers (.selftestDone true) s (s.loadDefaultRoutes.setStage 2)) ∧
  (∀ (s : State) (i j : Nat), i < 84 → j < 84 →
    let entry := s.loadDefaultRoutes.routeEntry 0 (84 * i + j)
    let (x, y) := regionPos i
    let (c, r) := regionPos j
    let edge := c = 0 ∨ c = 1 ∨ c = 8 ∨ c = 9
    (y ≤ 1 → edge → bits entry 1 0 = 2 ∧ bits entry 5 2 = 2 ∧ bits entry 7 6 = 0) ∧
    (8 ≤ y → edge → bits entry 1 0 = 2 ∧ bits entry 5 2 = 7 ∧ bits entry 7 6 = 0) ∧
    ((2 ≤ y ∧ y ≤ 7) ∨ ¬edge → entry = 0) ∧
    (entry ≠ 0 ↔ (∃ n, min x c ≤ n ∧ n ≤ max x c ∧ posPresent n y = false) ∨
      (∃ n, min y r ≤ n ∧ n ≤ max y r ∧ posPresent c n = false)))

/-! ### Faults -/

/-- R327, R331, R332, R339, R348, R356, R358, R474: a fault report that waits in the module's queue is taken from it, and one that
a block makes at that moment is detected first, unless it is only counted; a sentinel check reports each tile that answered
wrongly in an ACTIVE region; a block heartbeat that is missed is reported for its region or the module; an injected fault with
the right CONFIRM is counted and taken, and a forced disable with it is done; a lockstep mismatch and the lost presence are
faults of the module; recovery resumes a running job that waits for nothing. R388–R391: the scrub of a stack line counts what it
finds and its last line ends a pass; a site that is in use or spare fails; a remap ends by a spare site, which takes the lost
slot, or by going on with fewer stacks. -/
def Obligations.FaultAndStackRowsComplete : Prop :=
  (∀ (rep : Report) (s : State),
    (s.reports.contains rep = true →
      AnswersMem (.faultReport rep) s (({ s with reports := s.reports.erase rep } : State).takeReport rep)) ∧
    (s.reports.contains rep = false → pageAssigned rep.page = false → AnswersMem (.faultReport rep) s (s.takeReport rep)) ∧
    (s.reports.contains rep = false → pageAssigned rep.page = true → s.onlyCounted rep = false →
      AnswersMem (.faultReport rep) s ((s.detect rep).takeReport rep)) ∧
    (s.reports.contains rep = false → pageAssigned rep.page = true → s.onlyCounted rep = true →
      AnswersMem (.faultReport rep) s (s.bump rep.page REG_C_RESIDUE_ERRS))) ∧
  (∀ (r : RegionIx) (wrong : List Nat) (s : State),
    (s.regionState r ≠ 0 → Answers (.sentinelTick r wrong) s s) ∧
    (s.regionState r = 0 → Answers (.sentinelTick r wrong) s ((wrong.filter (· < 272)).foldl (fun s t =>
      let u := if t < 256 then s.wr (regPage r) REG_TILE_FLAGS_ERR 1 t else s
      (u.raiseErr pFLT FLT_ERR_STATUS_SENTINEL).reportOn .tile r pFLT FLT_ERR_STATUS_SENTINEL (u.jobOf r) t) s))) ∧
  (∀ (page : Nat) (s : State), pREG ≤ page → page < pREG + 84 → Answers (.blockHeartbeatMiss page) s
    ((s.raiseErr pFLT FLT_ERR_STATUS_HEARTBEAT).reportOn .region (page - pREG) pFLT FLT_ERR_STATUS_HEARTBEAT
      (s.jobOf (page - pREG)))) ∧
  (∀ (page : Nat) (s : State), page < pREG → heartPages.contains page = true → Answers (.blockHeartbeatMiss page) s
    ((s.raiseErr pFLT FLT_ERR_STATUS_HEARTBEAT).reportOn .module 0 pFLT FLT_ERR_STATUS_HEARTBEAT)) ∧
  (∀ (slot : SlotIx) (s : State), s.jobState slot = 3 → s.rd pPLC PLC_JOB_RECOVERING slot = 1 → s.flt.remaps = [] →
    s.flt.reload.contains slot.val = false → (s.grp slot).accepted = none →
    AnswersMem (.recoveryResume slot) s (s.resumeJob slot)) ∧
  (∀ s : State, Answers .strikeWindowExpiry s s.pruneStrikes) ∧
  (∀ (q : Requester) (v : Word) (s : State), s.served q (regAddr pFLT 0x800) v = true →
    (FLT_INJECT_CONFIRM.of v ≠ 0x5A3C → AnswersMem (.fltInject q v) s s) ∧
    (FLT_INJECT_CONFIRM.of v = 0x5A3C →
      ∀ rep, s.injected (FLT_INJECT_KIND.of v) (FLT_INJECT_TARGET.of v) = some rep →
        AnswersMem (.fltInject q v) s ((s.bump pFLT FLT_C_INJECTIONS).takeReport rep))) ∧
  (∀ (q : Requester) (v : Word) (s : State), s.served q (regAddr pFLT 0x808) v = true →
    (FLT_FORCE_DISABLE_CONFIRM.of v = 0x5A3C →
      Answers (.forceDisable q v) s (s.forceDisable (FLT_FORCE_DISABLE_PAGE.of v))) ∧
    (FLT_FORCE_DISABLE_CONFIRM.of v ≠ 0x5A3C → Answers (.forceDisable q v) s s)) ∧
  (∀ s : State, AnswersMem .lockstepMismatch s
    (s.takeReport { cls := .module, unit := 0, page := pFLT, code := FLT_ERR_STATUS_MODULE_FAULT.lo, count := s.tb.count })) ∧
  (∀ s : State, s.heldReset = false → Answers .presentLoss s (s.reportOn .module pFLT pFLT FLT_ERR_STATUS_MODULE_FAULT)) ∧
  (∀ (site : SiteIx) (line : Nat) (s : State), s.rd (memPage site) MEM_CTRL_SCRUB_EN ≠ 0 → s.rd (memPage site) MEM_STATUS_STATE < 2 →
    (line < 999999999 →
      Answers (.stackScrubTick site line .ok) s s ∧
      Answers (.stackScrubTick site line .ce) s (s.bump (memPage site) MEM_C_SCRUB_CE) ∧
      Answers (.stackScrubTick site line .ue) s ((s.bump (memPage site) MEM_C_SCRUB_UE).lineLost site line)) ∧
    (line = 999999999 → Answers (.stackScrubTick site line .ok) s
      ((s.bump (memPage site) MEM_C_SCRUB_PASSES).raiseEvt (memPage site) MEM_EVT_STATUS_SCRUB_PASS))) ∧
  (∀ (site : SiteIx) (cause : Nat) (s : State), cause ≤ 3 → s.rd (memPage site) MEM_STATUS_STATE < 2 →
    Answers (.stackFail site cause) s (s.siteFails site ⟨0x20, cause, cause, 0⟩)) ∧
  (∀ (site : SiteIx) (cause : Nat) (s : State), 2 ≤ s.rd (memPage site) MEM_STATUS_STATE → Answers (.stackFail site cause) s s) ∧
  (∀ (site : SiteIx) (i k : Nat) (s : State), s.flt.remaps.find? (fun x => x.1 == site.val) = some (i, k) →
    let t : State := { s with flt := { s.flt with remaps := s.flt.remaps.filter fun x => x.1 != i } }
    (∀ j, (List.range 26).find? (fun i => s.rd (memPage i) MEM_STATUS_STATE == 1) = some j → AnswersMem (.stackRemapDone site) s
      (((((t.wrs (memPage j) [(MEM_STATUS_STATE, 0), (MEM_STATUS_SLOT, k)]).zeroSlot (s.rd pMEM MEM_MAP_N) k).writeMap
        (s.rd pMEM MEM_MAP_N)).raiseEvt (memPage j) MEM_EVT_STATUS_REMAPPED).recacheAll)) ∧
    ((List.range 26).find? (fun i => s.rd (memPage i) MEM_STATUS_STATE == 1) = none → AnswersMem (.stackRemapDone site) s
      (((t.shrinkStacks i).raiseEvt (memPage (t.shrinkStacks i).lowestSite) MEM_EVT_STATUS_REMAPPED).recacheAll)))

/-! ### Optical engines, ports and lanes -/

/-- R359, R360, R363, R364, R369, R372: an engine fails by its PLL, its transmitter or its memory; its configuration is refused
while it is held or soaks and is taken where it changes something; a port trains again, and a trained one sends IDENT; an IDENT
that is right is recorded and brings the port up, and one that is not fails it; a port that is UP goes down with two lanes lost
or more, and by a DOWN flit; FAULTY ends; a port that no job holds is disabled, and enabled, by PORT_CFG, and one that a job
holds is refused. -/
def Obligations.EngineAndPortRowsComplete : Prop :=
  (∀ (e : EngineIx) (s : State),
    Answers (.engineFail e 0) s ((s.failEngine e OPT_ERR_STATUS_PLL_UNLOCK).wr (pOPT + e) OPT_STATUS_PLL_LOCKED 0) ∧
    Answers (.engineFail e 1) s (s.failEngine e OPT_ERR_STATUS_TX_FAULT) ∧
    Answers (.engineFail e 2) s (s.failEngine e OPT_ERR_STATUS_ENG_UE)) ∧
  (∀ (q : Requester) (e : EngineIx) (v : Word) (s : State), s.served q (regAddr (pOPT + e) 0x100) v = true →
    let role := if OPT_CFG_ROLE.of v = 3 then s.rd (pOPT + e) OPT_CFG_ROLE else OPT_CFG_ROLE.of v
    let split := if OPT_CFG_SPLIT.of v = 3 then s.rd (pOPT + e) OPT_CFG_SPLIT else OPT_CFG_SPLIT.of v
    (s.engineHeld e = true ∨ s.engineSoak e = true →
      AnswersMem (.engineCfg q e v) s (s.raiseErr (pOPT + e) OPT_ERR_STATUS_CFG_BUSY)) ∧
    (s.engineHeld e = false → s.engineSoak e = false → role = s.rd (pOPT + e) OPT_CFG_ROLE →
      split = s.rd (pOPT + e) OPT_CFG_SPLIT → AnswersMem (.engineCfg q e v) s s) ∧
    (s.engineHeld e = false → s.engineSoak e = false → role ≠ s.rd (pOPT + e) OPT_CFG_ROLE ∨ split ≠ s.rd (pOPT + e) OPT_CFG_SPLIT →
      AnswersMem (.engineCfg q e v) s (s.reconfigure e role split))) ∧
  (∀ (port : PortIx) (light : Bool) (s : State), s.lstate port = 1 ∨ (s.lstate port = 2 ∧ light = false) →
    Answers (.trainRetry port light) s (s.trainPort port)) ∧
  (∀ (port : PortIx) (credits : List Nat) (s : State), s.lstate port = 2 → s.portExists port = true →
    Answers (.linkTrained port credits) s ((((s.setLink port
      { ready := true, credits := credits.take 8, viols := (s.link port).viols, faulty := (s.link port).faulty }).wr
        (portPage port) OPT_STATUS_PLL_LOCKED 1).advertise port).sendIdent port)) ∧
  (∀ (m : Msg) (s : State), s.portExists m.port = true → (s.link m.port).ready = true → Msg.wellFormed m = true → m.cls = 7 →
    (s.lstate m.port = 2 ∨ s.lstate m.port = 3 → s.identOk m.port m.body = true →
      let t := s.recordIdent m.port m.body
      (t.lstate m.port = 2 → AnswersMem (.ident m) s (t.portBecomesUp m.port)) ∧
      (t.lstate m.port ≠ 2 → AnswersMem (.ident m) s t.flushUnrouted)) ∧
    (s.lstate m.port = 2 ∨ s.lstate m.port = 3 → s.identOk m.port m.body = false →
      AnswersMem (.ident m) s ((s.raiseErr (portPage m.port) OPT_ERR_STATUS_IDENT_MISMATCH).portFail m.port))) ∧
  (∀ (port : PortIx) (lanes : Nat) (s : State), s.portUp port = true →
    (2 ≤ lanes → AnswersMem (.linkDown port lanes) s (s.portDown port 1)) ∧
    (lanes < 2 → AnswersMem (.linkDown port lanes) s s) ∧ AnswersMem (.downFlit port) s (s.portDown port 1)) ∧
  (∀ (port : PortIx) (s : State), s.lstate port = 4 → Answers (.faultyExpiry port) s (s.setLstate port 1)) ∧
  (∀ (q : Requester) (e : EngineIx) (k : Fin 4) (v : Word) (s : State),
    s.served q (regAddr (pOPT + e) (0x130 + 8 * k)) v = true →
    let p := 4 * e.val + k.val
    let t := s.plainWrite (regAddr (pOPT + e) (0x130 + 8 * k)) v
    ((s.portSlot p).isSome = true → AnswersMem (.portEnable q e k v) s (s.raiseErr (pOPT + e) OPT_ERR_STATUS_CFG_BUSY)) ∧
    (s.portSlot p = none → t.rd (pOPT + e) OPT_PORT_CFG_EN k = 0 → t.lstate p ≠ 0 →
      AnswersMem (.portEnable q e k v) s (t.portDown p 0)) ∧
    (s.portSlot p = none → t.rd (pOPT + e) OPT_PORT_CFG_EN k ≠ 0 → s.rd (pOPT + e) OPT_PORT_CFG_EN k = 0 →
      let u := (t.setLink p { t.link p with faulty := [] }).wr (pOPT + e) OPT_PORT_FAULTY_COUNT 0 k
      (u.portExists p = true → AnswersMem (.portEnable q e k v) s (u.setLstate p 1)) ∧
      (u.portExists p = false → AnswersMem (.portEnable q e k v) s u)))

/-- R365, R367: a flit of another length or whose CRC fails is only counted; a flit that is whole gives its acknowledgement and its
credits and then, as DATA, its message, or, as NAK, sends again; on a port that is not trained a flit does nothing; NAK and the
replay timer send again; a port that is UP and whose message waits for credits when SINK_TIMEOUT comes raises its error and
fails. -/
def Obligations.FlitRowsComplete : Prop :=
  (∀ (port : PortIx) (flit : List Byte) (s : State), (s.link port).ready = true → s.portExists port = true →
    (flit.length ≠ 256 → AnswersMem (.dataFlit port flit) s (s.bump (portPage port) OPT_C_CRC_ERRS)) ∧
    (leAt flit 252 4 ≠ (crc32 (flit.take 252)).toNat →
      AnswersMem (.dataFlit port flit) s (s.bump (portPage port) OPT_C_CRC_ERRS)) ∧
    (flit.length = 256 → leAt flit 252 4 = (crc32 (flit.take 252)).toNat →
      let t := s.takeAck port (leAt flit 2 2)
      let u := (t.setLink port { t.link port with
        credits := (t.link port).credits.modify (byteAt flit 4 / 32) fun c => c + leAt flit 5 2 % 4096 }).pumpPort port
      (byteAt flit 4 % 16 = 0 → AnswersMem (.dataFlit port flit) s u) ∧
      (byteAt flit 4 % 16 = 1 → AnswersMem (.dataFlit port flit) s
        (u.takeDataFlit port (leAt flit 0 2) (bit (byteAt flit 4) 4) ((flit.drop 8).take 244))) ∧
      (byteAt flit 4 % 16 = 2 → AnswersMem (.dataFlit port flit) s (u.resend port)))) ∧
  (∀ (port : PortIx) (flit : List Byte) (s : State), (s.link port).ready = false → AnswersMem (.dataFlit port flit) s s) ∧
  (∀ (port : PortIx) (ack : Nat) (s : State), (s.link port).ready = true →
    AnswersMem (.nak port ack) s ((s.takeAck port ack).resend port) ∧ AnswersMem (.replayTimeout port) s (s.resend port)) ∧
  (∀ (port : PortIx) (m : QMsg) (s : State), s.portUp port = true → m ∈ (s.link port).queue →
    (s.link port).credits.getD m.cls 0 < msgFlits m.body.length →
    AnswersMem (.sinkTimeout port) s ((s.raiseErr (portPage port) OPT_ERR_STATUS_SINK_TIMEOUT).portFail port))

/-- R376, R377: a lane over its symbol error limit, and one that loses lock, is treated as a bad lane, which (outside a soak and a
move of its own) moves to a spare or, without one, fails the engine. A partner's LMAP to a free lane moves the transmitter and is
acknowledged; its acknowledgement moves the receiver; moves that are not acknowledged in time are made and their ports go down;
LANE_OUT is written lane by lane. BERT_CMD starts a soak, the next test, or an abort, and does nothing with 0; the interval timer
starts the next test while it is set; a test starts where none runs; a test ends skipped, or with its result recorded; a soak
ends with every lane's result recorded, the failed lanes out, and its ports training. -/
def Obligations.LaneRowsComplete : Prop :=
  (∀ (e : EngineIx) (lane : Fin 18) (n k : Nat) (s : State),
    (s.rd (pOPT + e) OPT_LIMITS_SER_LIMIT * k < n * 1000000000 → Answers (.serCheck e lane n k) s (s.badLane e lane)) ∧
    (n * 1000000000 ≤ s.rd (pOPT + e) OPT_LIMITS_SER_LIMIT * k → Answers (.serCheck e lane n k) s s) ∧
    Answers (.laneLockLoss e lane) s (s.badLane e lane)) ∧
  (∀ (e l : Nat) (s : State), s.engineFenced e = false → s.rxState e l = 0 → (s.eng e).lmaps.any (fun x => x.1 == l) = false →
    (∀ b, s.rxSpare e = some b → s.badLane e l = s.askMove e l b) ∧
    (s.rxSpare e = none → s.badLane e l = s.failEngine e OPT_ERR_STATUS_LANES_EXHAUSTED)) ∧
  (∀ (e : EngineIx) (a b : Fin 18) (p : Nat) (s : State), s.engineFenced e = false → s.txState e a = 0 →
    s.txState e b = 1 ∨ s.txState e b = 3 →
    (s.moveTx e a b).lanePort e ((s.moveTx e a b).rd (pOPT + e) OPT_LANE_TX_LOGICAL b) = some p →
    Answers (.lmap e a b) s ((s.moveTx e a b).emit (.ctl p 5 a b))) ∧
  (∀ (e : EngineIx) (a b : Fin 18) (x : Nat × Nat) (s : State), (s.eng e).lmaps.find? (fun x =>
      s.rd (pOPT + e) OPT_LANE_RX_FROM x.1 == a.val && s.rd (pOPT + e) OPT_LANE_RX_FROM x.2 == b.val) = some x →
    Answers (.lmapAck e a b) s ((s.setEng e { s.eng e with lmaps := (s.eng e).lmaps.erase x }).moveRx e x.1 x.2)) ∧
  (∀ (e : EngineIx) (s : State), AnswersMem (.lmapTimeout e) s ((s.eng e).lmaps.foldl (fun s x =>
    match s.lanePort e (s.rd (pOPT + e) OPT_LANE_RX_LOGICAL x.1) with
    | some p => if (s.moveRx e x.1 x.2).portUp p then (s.moveRx e x.1 x.2).portDown p 1 else s.moveRx e x.1 x.2
    | none => s.moveRx e x.1 x.2) (s.setEng e { s.eng e with lmaps := [] }))) ∧
  (∀ (q : Requester) (e : EngineIx) (v : Word) (s : State), s.served q (regAddr (pOPT + e) 0x128) v = true →
    AnswersMem (.laneOutWrite q e v) s ((List.range 18).foldl (fun s l => s.writeTxOut e l (bit (OPT_LANE_OUT_TX.of v) l))
      ((List.range 18).foldl (fun s l => s.writeRxOut e l (bit (OPT_LANE_OUT_RX.of v) l)) s))) ∧
  (∀ (q : Requester) (e : EngineIx) (v : Word) (s : State), s.served q (regAddr (pOPT + e) 0x120) v = true →
    (OPT_BERT_CMD_CMD.of v = 1 → AnswersMem (.soak q e v) s (s.startSoak e)) ∧
    (OPT_BERT_CMD_CMD.of v = 2 → AnswersMem (.bertRunNow q e v) s (s.nextTest e)) ∧
    (OPT_BERT_CMD_CMD.of v = 3 → AnswersMem (.bertAbort q e v) s (s.abortTest e)) ∧
    (OPT_BERT_CMD_CMD.of v = 0 → AnswersMem (.soak q e v) s s)) ∧
  (∀ (e : EngineIx) (s : State),
    (s.rd (pOPT + e) OPT_BERT_INTERVAL_MIN ≠ 0 → Answers (.bertInterval e) s (s.nextTest e)) ∧
    (s.rd (pOPT + e) OPT_BERT_INTERVAL_MIN = 0 → Answers (.bertInterval e) s s)) ∧
  (∀ (e : EngineIx) (lane : Fin 18) (s : State), s.engineFenced e = false → (s.eng e).test = none →
    Answers (.bertStart e lane) s (s.startTest e lane false)) ∧
  (∀ (e : EngineIx) (l : Nat) (sp : Option Nat) (s : State), (s.eng e).test = some (false, l, sp) →
    Answers (.bertEnd e []) s ((s.endTest e l sp false false).bump (pOPT + e) OPT_C_BERT_SKIPPED) ∧
    ∀ n, bit (s.rd (pOPT + e) OPT_LANE_OUT_RX) l = false → Answers (.bertEnd e [n]) s
      ((((s.recordTest e l (s.testBits e false) n).bump (pOPT + e) OPT_C_BERT_RUNS).endTest e l sp
        (s.berFails e (s.testBits e false) n) false).raiseEvt (pOPT + e) OPT_EVT_STATUS_BERT_DONE)) ∧
  (∀ (e : EngineIx) (x l : Nat) (errs : List Nat) (sp : Option Nat) (s : State), (s.eng e).test = some (true, l, sp) →
    let n := s.testBits e true
    let u := ((x :: errs).take 18).zipIdx.foldl (fun (s : State) (y : Nat × Nat) => s.recordTest e y.2 n y.1)
      (s.bump (pOPT + e) OPT_C_BERT_RUNS)
    let bad := ((((x :: errs).take 18).zipIdx.filter fun (y : Nat × Nat) => u.berFails e n y.1).map (·.2))
    Answers (.bertEnd e (x :: errs)) s (((bad.foldl (fun s l => s.soakOut e l) ((List.range 18).foldl (fun s l =>
      (s.restRx e l).restTx e l) u)).leaveSoak e).raiseEvt (pOPT + e) OPT_EVT_STATUS_BERT_DONE)) ∧
  (∀ (e : EngineIx) (errs : List Nat) (s : State), (s.eng e).test = none → Answers (.bertEnd e errs) s s)

/-! ### Power, clocks, temperature and telemetry -/

/-- R399, R407, R409, R411, R412, R423, R473: the zone frame carries every region's slot; the governor goes over the 84 regions; a droop below
the limit at a region's clock is counted once, until its end; a power sample records its readings and totals and is held against
the cap; a cap of 0 or 500 to 6,000 is written and another ignored; an ALERT of 200 ns or more acts, one below 100 ns does
not, and one between acts where a free value says so; its release holds and then ramps up a step at a time. R401, R403: a zone below its voltage at the timeout raises ZONE_TIMEOUT and counts; an overvoltage
shuts its region down; a lost rail, reference clock or module PLL is a fault of the module, and a region's PLL an error of its
page that stops its clock. -/
def Obligations.PowerRowsComplete : Prop :=
  (∀ s : State, s.heldReset = false →
    let t := (List.range 84).foldl (fun (s : State) r => s.showZone r) s
    Answers .zoneFrame s (t.emit (.zoneFrame ((List.range 84).map fun r =>
      zoneSlot (t.rd (regPage r) REG_PT_STATUS_ZMODE) (t.rd (regPage r) REG_PT_STATUS_VID_SENT))))) ∧
  (∀ (volts : List Nat) (s : State), Answers (.governorTick volts) s ((List.range 84).foldl (fun (s : State) r =>
    if 3 ≤ s.regionState r then s.showZone r else (s.wr (regPage r) REG_PT_STATUS_V_MEAS (volts.getD r 0)).govern r) s)) ∧
  (∀ (r : RegionIx) (mv : Nat) (s : State), s.zoneMode r = 2 →
    (2 * mv : Int) < 800 + 5 * s.vMinAt r (s.rd (regPage r) REG_PT_STATUS_K_RUN) → s.power.droop.contains r.val = false →
    Answers (.droop r mv) s ((s.setPower { s.power with droop := r.val :: s.power.droop }).bump (regPage r) REG_C_DROOP_EVENTS)) ∧
  (∀ (r : RegionIx) (s : State), Answers (.droopEnd r) s
    (s.setPower { s.power with droop := s.power.droop.filter (· != r.val) })) ∧
  (∀ (zones rails : List Reading) (s : State),
    let zs := s.trimZones zones
    let core := (zs.map (·.power)).sum
    let total := core + ((rails.take 7).map (·.power)).sum
    Answers (.powerSample zones rails) s (((s.samples zs rails).totalSample total core).capSample total core)) ∧
  (∀ (total core : Nat) (s : State), let t := s.totalSample total core
    t.power.totals = (total :: s.power.totals).take 10 ∧ t.rd pPWR PWR_MEAS_TOTAL_W = total / 10 % 2 ^ 16 ∧
    t.rd pPWR PWR_MEAS_CORE_W = core / 10 % 2 ^ 16) ∧
  (∀ (q : Requester) (v : Word) (s : State), s.served q (regAddr pPWR 0x100) v = true →
    let c := PWR_CAP_CAP_DW.of v
    (c = 0 ∨ (500 ≤ c ∧ c ≤ 6000) → Answers (.capWrite q v) s
      ((s.wr pPWR PWR_CAP_CAP_DW c).setPower { s.power with capNew := true })) ∧
    (¬(c = 0 ∨ (500 ≤ c ∧ c ≤ 6000)) → Answers (.capWrite q v) s s)) ∧
  (∀ (ns : Nat) (s : State), s.power.alertLow = false → s.heldReset = false →
    let acts := fun t : State => (((t.setPower { t.power with alertLow := true, alertHold := false }).setAlert
      (t.rd pPWR PWR_ALERT_CFG_ALERT_K)).bump pPWR PWR_C_ALERTS).raiseEvt pPWR PWR_EVT_STATUS_ALERT_ASSERTED
    (200 ≤ ns → Answers (.alertAssert ns) s (acts s)) ∧
    (100 ≤ ns → ns < 200 → let t := { s with free := s.free + 1 }
      Answers (.alertAssert ns) s (if bit (Config.freeWord s.free).toNat 0 then acts t else t)) ∧
    (ns < 100 → Answers (.alertAssert ns) s s)) ∧
  (∀ s : State, s.power.alertLow = true → Answers .alertDeassert s
    (s.setPower { s.power with alertLow := false, alertHold := true })) ∧
  (∀ s : State, s.power.alertHold = true → Answers .alertHoldExpiry s
    ((s.setPower { s.power with alertHold := false }).raiseEvt pPWR PWR_EVT_STATUS_ALERT_RELEASED)) ∧
  (∀ s : State, s.power.alertLow = false → s.power.alertHold = false → s.power.alert < 34 →
    Answers .alertRampTick s (s.setAlert (s.power.alert + 1))) ∧
  (∀ s : State, s.power.alertHold = true → Answers .alertRampTick s s) ∧
  (∀ (r : RegionIx) (s : State), s.zoneMode r = 2 →
    (vidOf (s.rd (regPage r) REG_PT_STATUS_V_MEAS) < (s.rd (regPage r) REG_PT_STATUS_VID_SENT : Int) → Answers (.zoneTimeout r) s
      ((s.raiseErr (regPage r) REG_ERR_STATUS_ZONE_TIMEOUT).bump (regPage r) REG_C_ZONE_TIMEOUTS)) ∧
    ((s.rd (regPage r) REG_PT_STATUS_VID_SENT : Int) ≤ vidOf (s.rd (regPage r) REG_PT_STATUS_V_MEAS) →
      Answers (.zoneTimeout r) s s)) ∧
  (∀ (r : RegionIx) (s : State), Answers (.overvolt r) s (s.shutdown r REG_ERR_STATUS_OVERVOLT)) ∧
  (∀ (rail : Fin 7) (s : State), s.heldReset = false → Answers (.railFault rail) s
    ((s.wr pPWR PWR_RAIL_OK 0 rail).moduleReport pPWR PWR_ERR_STATUS_RAIL_FAULT)) ∧
  (∀ (k : Fin 3) (s : State), Answers .refclkLoss s (s.moduleReport pPWR PWR_ERR_STATUS_REFCLK_LOSS) ∧
    Answers (.clkPllUnlock k) s (s.moduleReport pPWR PWR_ERR_STATUS_CLK_PLL_UNLOCK)) ∧
  (∀ (r : RegionIx) (s : State), s.regionState r < 3 → Answers (.regionPllUnlock r) s
    (((s.setPower { s.power with clockOff := r.val :: s.power.clockOff.filter (· != r.val) }).raiseErr (regPage r)
      REG_ERR_STATUS_PLL_UNLOCK).wr (regPage r) REG_PT_STATUS_K_RUN 0))

/-- R413–R415, R420, R423, R430: a thermal sample takes its readings and shows the hottest; READMIT of a fenced region below the
limit records it as cooled, to return at once where no job runs and otherwise when the last running job ends, and of any other
region does nothing; a trim in its ranges is written and another raises TRIM_RANGE; a word of a telemetry set is written, its
first word (with a period and a count in range) unless the sets would then be too much; a telemetry record of a set that is on
is sent, or counted as an overrun without a management link; the management core's loop gives each ACTIVE region its budget in
turn, and a region's loop sends its request. -/
def Obligations.ThermalAndTelemetryRowsComplete : Prop :=
  (∀ (temps : List TempReading) (s : State), Answers (.thermalSample temps) s
    ((s.takeTemps temps).wr pTHM THM_STATUS_T_MAX (wrap 16 (s.takeTemps temps).hottestNow))) ∧
  (∀ (r : RegionIx) (s : State), s.regionState r = 2 →
    signed 16 (s.rd (regPage r) REG_PT_TEMP_T_MAX) < degC (s.rd pTHM THM_LIMITS_READMIT_C) →
    let t := s.setPower { s.power with cooled := s.power.cooled.filter (· != r.val) ++ [r.val] }
    Answers (.readmit r) s t.readmitIdle ∧ (((List.range 16).any fun j => s.jobState j == 3) = true → t.readmitIdle = t)) ∧
  (∀ (r : RegionIx) (s : State), s.regionState r ≠ 2 → Answers (.readmit r) s s) ∧
  (∀ (q : Requester) (r : RegionIx) (v : Word) (s : State), s.served q (regAddr pCAL (0x2000 + 8 * r)) v = true →
    let inside := (-20 ≤ signed 8 (CAL_TRIM_IGAIN.of v) ∧ signed 8 (CAL_TRIM_IGAIN.of v) ≤ 20) ∧
      (-16 ≤ signed 8 (CAL_TRIM_TOFF.of v) ∧ signed 8 (CAL_TRIM_TOFF.of v) ≤ 16) ∧
      (-8 ≤ signed 8 (CAL_TRIM_VOFF.of v) ∧ signed 8 (CAL_TRIM_VOFF.of v) ≤ 8)
    (inside → Answers (.trimWrite q r v) s (s.plainWrite (regAddr pCAL (0x2000 + 8 * r)) v)) ∧
    (¬inside → Answers (.trimWrite q r v) s (s.raiseErr pCAL CAL_ERR_STATUS_TRIM_RANGE))) ∧
  (∀ (q : Requester) (set word : Fin 16) (v : Word) (s : State),
    s.served q (regAddr pTHM (0x1000 + 0x80 * set + 8 * word)) v = true → word.val ≠ 0 →
    Answers (.tsetWrite q set word v) s (s.plainWrite (regAddr pTHM (0x1000 + 0x80 * set + 8 * word)) v)) ∧
  (∀ (q : Requester) (set : Fin 16) (v : Word) (s : State), s.served q (regAddr pTHM (0x1000 + 0x80 * set)) v = true →
    100 ≤ THM_TSET_PERIOD_US.of v → THM_TSET_PERIOD_US.of v ≤ 16000000 → 1 ≤ THM_TSET_COUNT.of v → THM_TSET_COUNT.of v ≤ 60 →
    let all := (THM_TSET_EN.of v, THM_TSET_PERIOD_US.of v, THM_TSET_COUNT.of v) ::
      ((List.range 16).filter (· != set.val)).map s.setEntry
    (overload all = true → Answers (.tsetWrite q set 0 v) s (s.raiseErr pTHM THM_ERR_STATUS_TELEM_LOAD)) ∧
    (overload all = false → Answers (.tsetWrite q set 0 v) s (s.wrs pTHM [(THM_TSET_EN, THM_TSET_EN.of v),
      (THM_TSET_PERIOD_US, THM_TSET_PERIOD_US.of v), (THM_TSET_COUNT, THM_TSET_COUNT.of v)] set))) ∧
  (∀ (set : Fin 16) (p n : Nat) (s : State), s.setEntry set = (1, p, n) → n ≠ 0 → s.mmcRuns = true →
    (s.mgtUp = true → Answers (.telemetryRecord set) s ((s.sendMgt 0x50 30 (s.telemetry set)).bump pTHM THM_C_TELEM_RECORDS)) ∧
    (s.mgtUp = false → Answers (.telemetryRecord set) s (s.bump pTHM THM_C_TELEM_OVERRUNS))) ∧
  (∀ s : State, s.mmcRuns = false → AnswersMem .mmcPowerLoop s s) ∧
  (∀ s : State, s.mmcRuns = true →
    let t := s.pmbusSetup
    let cap := if t.capDw = 0 then 100 * t.rd pCAL CAL_LIMITS_CORE_MAX_DW else t.capDw
    AnswersMem .mmcPowerLoop s (((List.range 84).filter fun r => t.regionState r == 0).foldl (fun (a : State × Nat) r =>
      let b := min a.2 (Config.loopBudget r (a.1.rd pPWR PWR_MEAS_TOTAL_W)).toNat
      (a.1.wr (regPage r) REG_PT_BUDGET_BUDGET_DW b, a.2 - b)) (t, cap)).1) ∧
  (∀ (r : RegionIx) (s : State), s.rd pFWC FWC_RCC_STATE r = 1 → s.regionState r < 3 →
    Answers (.rccPowerLoop r) s (s.loopRequest r))

/-! ### Firmware complexes -/

/-- R425, R432–R434: an MPU violation of a complex that runs is an error and counted; a region core's watchdog crashes an active
core of a complex that runs, and fails it at its third crash; a restart ends without a swap; the management core's watchdog hands
over to a ready twin or fails the MMC; its twin becomes ready; a core that fails its check is out, and with both cores out the
MMC has failed. -/
def Obligations.FirmwareRowsComplete : Prop :=
  (∀ (r : RegionIx) (s : State), s.rd pFWC FWC_RCC_STATE r = 1 → Answers (.mpuTrap (.rcc r)) s
    ((s.raiseErr pFWC FWC_ERR_STATUS_MPU_VIOLATION).bump pFWC FWC_C_MPU_VIOLATIONS)) ∧
  (∀ s : State, s.mmcRuns = true → Answers (.mpuTrap .mmc) s
    ((s.raiseErr pFWC FWC_ERR_STATUS_MPU_VIOLATION).bump pFWC FWC_C_MPU_VIOLATIONS)) ∧
  (∀ (r : RegionIx) (core : Fin 3) (s : State), s.rd pFWC FWC_RCC_STATE r ≠ 1 → Answers (.rccWatchdog r core) s s) ∧
  (∀ (r : RegionIx) (core : Fin 3) (s : State), s.rd pFWC FWC_RCC_STATE r = 1 → s.coreActive r core = true →
    let t := s.rccCrash r core
    (t.coreCrashes r core < 3 → Answers (.rccWatchdog r core) s (t.rccJudge r)) ∧
    (3 ≤ t.coreCrashes r core → Answers (.rccWatchdog r core) s ((t.coreFails r core).rccJudge r))) ∧
  (∀ (r : RegionIx) (s : State), s.rd pFWC FWC_RCC_STATE r = 2 → s.fw.swap.any (fun x => x.1 == r.val) = false →
    let t : State := { s with fw := { s.fw with swap := s.fw.swap.filter fun x => x.1 != r.val } }
    let u := t.loopRequest r
    Answers (.rccRestartDone r) s (((u.wrs pFWC [(FWC_RCC_STATE, 1), (FWC_RCC_RESTARTS, t.rd pFWC FWC_RCC_RESTARTS r + 1)] r).bump
      pFWC FWC_C_RCC_RESTARTS).raiseEvt pFWC FWC_EVT_STATUS_RCC_RESTARTED)) ∧
  (∀ s : State, s.mmcRuns = true →
    let t := s.raiseErr pFWC FWC_ERR_STATUS_MMC_CRASH
    (t.rd pFWC FWC_STATUS_TWIN_READY = 1 → Answers .mmcWatchdog s (((t.wrs pFWC [(FWC_STATUS_MMC_ACTIVE, t.twin),
      (FWC_STATUS_TWIN_READY, 0)]).raiseEvt pFWC FWC_EVT_STATUS_MMC_FAILOVER).bump pFWC FWC_C_MMC_FAILOVERS)) ∧
    (t.rd pFWC FWC_STATUS_TWIN_READY ≠ 1 → Answers .mmcWatchdog s (t.wr pFWC FWC_STATUS_MMC_FAILED 1))) ∧
  (∀ s : State, s.mmcRuns = true → s.fw.mmcOut.contains s.twin = false →
    Answers .mmcTwinReady s (s.wr pFWC FWC_STATUS_TWIN_READY 1)) ∧
  (∀ (r : RegionIx) (core : Fin 3) (s : State), s.rd pFWC FWC_RCC_STATE r = 1 ∨ s.rd pFWC FWC_RCC_STATE r = 2 →
    Answers (.coreCheckFail (.rcc r) core) s ((s.coreFails r core).rccJudge r)) ∧
  (∀ (core : Fin 3) (s : State), core.val < 2 → s.mmcRuns = true →
    let out := core.val :: s.fw.mmcOut.filter (· != core.val)
    let t : State := { s with fw := { s.fw with mmcOut := out } }
    let u := if core.val = t.twin then t.wr pFWC FWC_STATUS_TWIN_READY 0 else t
    (out.length = 2 → Answers (.coreCheckFail .mmc core) s (u.wr pFWC FWC_STATUS_MMC_FAILED 1)) ∧
    (out.length ≠ 2 → Answers (.coreCheckFail .mmc core) s u)) ∧
  (∀ (core : Fin 3) (s : State), 2 ≤ core.val → Answers (.coreCheckFail .mmc core) s s)

/-! ### The management port -/

/-- R428, R437, R438, R442, R443, R445–R447: each management request that passes the six checks of the mailbox runs its action and is
answered. What KEY_INSTALL does with a key that it could unwrap, by the key's kind, and with one that it could not, and the first
piece of an IMAGE_PUSH, are stated; ATTEST for a module that is not RETIRED, OWNER_BIND for one without an owner. -/
def Obligations.ManagementRequestsComplete : Prop :=
  (∀ (f : MgtReq) (s : State), MailRuns (.getInfo f) s 0x01 true 0 f fun t =>
    if t.identityHeld then (t, stOk, t.infoBytes (pointBytes (publicKey Config.identityKey)))
    else ((t.drawBytes 97).2, stOk, t.infoBytes (t.drawBytes 97).1)) ∧
  (∀ (f : MgtReq) (s : State), s.lifecycle ≠ 3 → MailRuns (.attest f) s 0x02 true 48 f fun t =>
    ({ t with free := t.free + 1 }, stOk, t.quote (f.payload.take 48))) ∧
  (∀ (f : MgtReq) (s : State), s.rd pMGT MGT_OWNER_BOUND = 0 → MailRuns (.ownerBind f) s 0x03 true 97 f fun t =>
    (t.bindOwner (f.payload.take 97), stOk, [])) ∧
  (∀ (f : MgtReq) (s : State), MailRuns (.provisionMgtKey f) s 0x04 true 402 f (State.provision f)) ∧
  (∀ (f : MgtReq) (s : State), MailRuns (.imagePush f) s 0x05 true 0 f (State.pushImage f)) ∧
  (∀ (f : MgtReq) (s : State), MailRuns (.regRead f) s 0x10 false 8 f (State.readMany f)) ∧
  (∀ (f : MgtReq) (s : State), MailRunsMem (.regWrite f) s 0x11 false 8 f (State.writeMany f)) ∧
  (∀ row, row = Instr.keyInstallWeight ∨ row = Instr.keyInstallCache ∨ row = Instr.keyInstallMirror ∨ row = Instr.keyInstallExpert ∨
    row = Instr.keyInstallMgt → ∀ (f : MgtReq) (s : State), MailRunsMem (row f) s 0x20 false 209 f (State.keyInstall f)) ∧
  (∀ (f : MgtReq) (s : State), MailRuns (.keyErase f) s 0x21 false 10 f (State.eraseReq f)) ∧
  (∀ row, row = Instr.lifecycleDebug ∨ row = Instr.lifecycleRetired → ∀ (f : MgtReq) (s : State),
    MailRuns (row f) s 0x60 false 4 f (State.lifecycleReq f)) ∧
  (∀ (f : MgtReq) (key : List Byte) (s : State), s.lifecycle ≠ 3 → s.unwrap (f.payload.take 209) = some key →
    (byteAt f.payload 0 = 0 → s.keyInstall f = ((s.installWeight (f.payload.take 209) key).1,
      (s.installWeight (f.payload.take 209) key).2, [])) ∧
    (byteAt f.payload 0 = 1 → s.keyInstall f = ((s.installCache (f.payload.take 209) key).1,
      (s.installCache (f.payload.take 209) key).2, [])) ∧
    (byteAt f.payload 0 = 2 → s.keyInstall f = ((s.installMirror (f.payload.take 209) key).1,
      (s.installMirror (f.payload.take 209) key).2, [])) ∧
    (byteAt f.payload 0 = 3 → s.keyInstall f = ((s.installExpert key).1, stOk, [])) ∧
    (byteAt f.payload 0 = 4 → s.keyInstall f = (s, stDenied, []))) ∧
  (∀ (f : MgtReq) (s : State), s.unwrap (f.payload.take 209) = none → s.lifecycle ≠ 3 →
    s.keyInstall f = (s.unwrapFail, stUnwrap, [])) ∧
  (∀ (f : MgtReq) (s : State), s.stage = 2 → f.arg = 0#64 → f.payload.length < 20 →
    s.pushImage f = ({ s with boot := { s.boot with pushed := f.payload } }, stOk, []))

/-- R435, R437, R440: a management lane that was up goes down, with LANES_DOWN where it was the last, and the active lane fails
over to the other; a lane comes up; the gap of NOTIFY ends, and sends what waited; a frame whose FCS is bad is counted, a foreign
one is counted and dropped, one of another version is answered BAD_VERSION, and while the self-test runs a frame does nothing. -/
def Obligations.ManagementPortRowsComplete : Prop :=
  (∀ (lane : Fin 2) (s : State), s.rd pMGT (laneUp lane) ≠ 0 →
    let t := s.wr pMGT (laneUp lane) 0
    (t.mgtUp = false → Answers (.mgtLaneFault lane) s (t.raiseErr pMGT MGT_ERR_STATUS_LANES_DOWN)) ∧
    (t.mgtUp = true → t.rd pMGT MGT_STATUS_ACTIVE_LANE ≠ lane.val → Answers (.mgtLaneFault lane) s t) ∧
    (t.mgtUp = true → t.rd pMGT MGT_STATUS_ACTIVE_LANE = lane.val → Answers (.mgtLaneFault lane) s
      ((((t.wr pMGT MGT_STATUS_ACTIVE_LANE (1 - lane.val)).raiseEvt pMGT MGT_EVT_STATUS_FAILOVER).bump pMGT
        MGT_C_FAILOVERS).sendNotify 1))) ∧
  (∀ (lane : Fin 2) (s : State), s.heldReset = false →
    (s.mgtUp = true → Answers (.mgtLaneUp lane) s (s.wr pMGT (laneUp lane) 1)) ∧
    (s.mgtUp = false → Answers (.mgtLaneUp lane) s
      (((s.wr pMGT (laneUp lane) 1).wr pMGT MGT_STATUS_ACTIVE_LANE lane).flushMgt).flushReports)) ∧
  (∀ s : State,
    (s.notify.gap = true → s.notify.deferred = true →
      Answers .notifyGapExpiry s (({ s with notify := {} } : State).sendNotify s.notify.cause)) ∧
    (s.notify.deferred = false → Answers .notifyGapExpiry s { s with notify := {} })) ∧
  (∀ (fr : MgtFrame) (s : State), s.wholeReset = false → s.stage ≠ 1 →
    (fr.fcsOk = false → Answers (.badMgtFrame fr) s (s.bump pMGT MGT_C_FCS_ERRS)) ∧
    (fr.fcsOk = true → fr.ethertype ≠ s.rd pMGT MGT_NET_ETHERTYPE ∨ fr.destOk = false →
      Answers (.badMgtFrame fr) s (s.bump pMGT MGT_C_FOREIGN_DROPS)) ∧
    (fr.fcsOk = true → fr.ethertype = s.rd pMGT MGT_NET_ETHERTYPE → fr.destOk = true → s.stage ≠ 0xFE → fr.req.major ≠ 2 →
      Answers (.badMgtFrame fr) s ((((s.bump pMGT MGT_C_FRAMES_IN).raiseErr pMBX MBX_ERR_STATUS_BAD_VERSION).bump pMBX
        MBX_C_VERSION_FAILS).respond fr.opcode fr.req stBadVersion []))) ∧
  (∀ (fr : MgtFrame) (s : State), s.stage = 1 → Answers (.badMgtFrame fr) s s)

/-! ### Boot and registration -/

/-- R392, R449, R450, R452, R453, R459, R460, R470, R479: the cold starts, by power, by MOD_RESET_N and by EXTEST; the end of the
self-test, of the region test, of stack training, of link training, of the S-port stage and of the wait for lock, each in its
own stage. R455, R457: in stage REGISTER a tick sends HELLO, and an ASSIGN that answers it gives the module its identity and
enters the next stage; an UPDATE that is not acknowledged is sent again, its acknowledgement ends it, and the gap's end sends the
one that waited. -/
def Obligations.BootAndRegistrationRowsComplete : Prop :=
  (∀ s : State, Answers .powerUp s (s.coldStart 0 { pinLow := s.boot.pinLow } {})) ∧
  (∀ s : State, Answers .modResetAssert s
    ((s.coldStart 1 { pinLow := true, extest := s.boot.extest } s.latched).emit (.pin 2 0))) ∧
  (∀ s : State, s.boot.pinLow = true → Answers .modResetRelease s
    (s.coldStart (s.rd pGLB GLB_RESET_CAUSE_SOURCE) { extest := s.boot.extest } s.latched).releaseTrip) ∧
  (∀ s : State, s.stage = 1 → s.heldReset = false →
    Answers (.selftestDone true) s (s.loadDefaultRoutes.setStage 2) ∧ Answers (.selftestDone false) s (s.setStage 0xFE)) ∧
  (∀ (cols failed : List Nat) (s : State), s.stage ≠ 3 → Answers (.regionBistDone cols failed) s s) ∧
  (∀ (cols failed : List Nat) (s : State), s.stage = 3 → s.wholeReset = false →
    let cs := fun r => ((cols.filter fun x => x / 32 == r && decide (x % 32 < 17)).map (· % 32)).eraseDups
    let pass := (List.range 84).filter fun r => s.regionState r != 4 && !failed.contains r && decide ((cs r).length ≤ 1)
    let spare := (standbyOrder.filter pass.contains).take (pass.length - 80)
    Answers (.regionBistDone cols failed) s
      ((pass.foldl (fun (s : State) r => s.passRegion r (cs r) (spare.contains r)) s).updateBypass.installDetour.setStage 4)) ∧
  (∀ (passed : List Nat) (s : State), (s.stage = 4 → s.wholeReset = false →
      AnswersMem (.stackTrainDone passed) s (s.trainStacks passed).startLinks) ∧ (s.trainStacks passed).mem = []) ∧
  (∀ s : State, s.stage = 5 → s.wholeReset = false → Answers .linkTrainExpiry s (s.setStage 7).sendHello) ∧
  (∀ s : State, s.stage = 8 → s.wholeReset = false →
    (s.noLockWait = true → Answers .sportStageEnd s (s.setStage 0x0A)) ∧
    (s.noLockWait = false → Answers .sportStageEnd s (s.setStage 9))) ∧
  (∀ s : State, s.stage = 9 → s.wholeReset = false → Answers (.tbLockEnd true) s (s.setStage 0x0A) ∧
    (s.noLockWait = true → Answers (.tbLockEnd false) s (s.setStage 0x0A)) ∧
    (s.noLockWait = false → Answers (.tbLockEnd false) s s)) ∧
  (∀ s : State, s.boot.extest = false → Answers .extestEnter s
    ((s.coldStart 4 { pinLow := s.boot.pinLow, extest := true } s.latched).emit (.pin 2 0))) ∧
  (∀ s : State, s.boot.extest = true → Answers .extestLeave s (s.coldStart 4 { pinLow := s.boot.pinLow } s.latched)) ∧
  (∀ s : State, (s.stage = 0x07 → Answers .helloTick s s.sendHello) ∧ (s.stage ≠ 0x07 → Answers .helloTick s s)) ∧
  (∀ (c : CtlMsg) (h : CtlPath × Nat) (t s : State), s.ctlArrive c = (t, true) → t.boot.hello = some h → t.stage = 0x07 →
    t.ctlAnswers c h = true → assignGood c = true →
    Answers (.assign c) s ((((t.assignIdentity c.body).resendIdent).setStage 0x08).checkUpdate)) ∧
  (∀ (c : CtlMsg) (t s : State), s.ctlArrive c = (t, false) → Answers (.assign c) s t) ∧
  (∀ (b : List Byte) (s : State), let t := s.assignIdentity b
    t.rd pGLB GLB_MODULE_ID_ID = leAt b 2 2 % 2 ^ 14 ∧ t.rd pGLB GLB_MODULE_ID_VALID = 1 ∧ t.boot.hello = none ∧
    (leAt b 4 2 ≠ 0 → t.boot.linkWait = leAt b 4 2) ∧ (leAt b 4 2 = 0 → t.boot.linkWait = s.boot.linkWait)) ∧
  (∀ (p : CtlPath) (c : Nat) (b : List Byte) (x : Bool) (s : State), s.boot.update = some (p, c, b, x) →
    Answers .updateResend s (s.resendReg c b)) ∧
  (∀ (c : CtlMsg) (p : CtlPath) (b : List Byte) (x : Bool) (t s : State), s.ctlArrive c = (t, true) →
    t.boot.update = some (p, c.cseq, b, x) → c.ctype = 6 → byteAt c.body 0 = 4 → t.ctlAuth c = true →
    Answers (.updateAck c) s { t with boot := { t.boot with update := none, jobReset := t.boot.jobReset && !x } }) ∧
  (∀ s : State,
    (s.boot.updateDue = true →
      Answers .updateGapExpiry s ({ s with boot := { s.boot with updateGap := false } } : State).sendUpdate) ∧
    (s.boot.updateDue = false → Answers .updateGapExpiry s { s with boot := { s.boot with updateGap := false } }))

/-! ### Arithmetic and space, over all data -/

/-- R59: within the limit of 2^24 addends an anchored accumulation holds the exact sum of its clamped addends, which stays inside
88 bits, whatever their order; the overflow state says whether clamping changed one. -/
def Obligations.AccumulationIsExactInAnyOrder : Prop :=
  (∀ (a : Acc) (l : List Int), a.count + l.length ≤ 2 ^ 24 →
    (l.foldl accAdd a).sum = a.sum + (l.map (clampInt (-(2 ^ 63)) (2 ^ 63 - 1))).sum ∧
    (l.foldl accAdd a).count = a.count + l.length ∧ (l.foldl accAdd a).anchor = a.anchor ∧
    (l.foldl accAdd a).ovf = (a.ovf || l.any fun q => clampInt (-(2 ^ 63)) (2 ^ 63 - 1) q != q)) ∧
  (∀ (a : Acc) (l m : List Int), l.Perm m → a.count + l.length ≤ 2 ^ 24 → l.foldl accAdd a = m.foldl accAdd a) ∧
  (∀ (v : Int) (l : List Int), -(2 ^ 87) ≤ (l.foldl accAdd { anchor := v }).sum ∧
    (l.foldl accAdd { anchor := v }).sum < 2 ^ 87) ∧
  (∀ (a : Acc) (q : Int), 2 ^ 24 ≤ a.count → accAdd a q = { a with ovf := true })

/-- R56 and R61: each product contributes the floor of P × 2^d, d being the shift of its pair and the anchor, which biases it
toward −∞ by less than one unit of the least significant bit; so what the drain reads of an accumulation of K products that did
not saturate lies below their exact sum, by less than K such units. -/
def Obligations.AccumulationErrorBound : Prop :=
  (∀ (a b : Opnd) (v : Int), addend a b v = ⌊((a.m * b.m : Int) : ℚ) * (2 : ℚ) ^ (pairShift a b v)⌋) ∧
  (∀ (a b : Opnd) (v : Int),
    (a.f = .bsi8 → b.f = .bsi8 → pairShift a b v = a.x + b.x - 228 - v) ∧
    (a.f = .bsi8 → b.f = .bsi4 → pairShift a b v = a.x + b.x - 224 - v ∧ pairShift b a v = a.x + b.x - 224 - v) ∧
    (a.f = .bsi4 → b.f = .bsi4 → pairShift a b v = a.x + b.x - 220 - v) ∧
    (a.f = .bf16 → b.f = .bf16 → pairShift a b v = a.x + b.x - 228 - v)) ∧
  (∀ (v : Int) (l : List (Opnd × Opnd)), l ≠ [] →
    let acc := (l.map fun p => addend p.1 p.2 v).foldl accAdd { anchor := v }
    let exact := (l.map fun p => ((p.1.m * p.2.m : Int) : ℚ) * (2 : ℚ) ^ (pairShift p.1 p.2 v + v - 40)).sum
    (accRead acc).2 = false →
    0 ≤ exact - (accRead acc).1 * (2 : ℚ) ^ (v - 40) ∧
      exact - (accRead acc).1 * (2 : ℚ) ^ (v - 40) < (l.length : ℚ) * (2 : ℚ) ^ (v - 40))

/-- R114: a reversal subtracts from each entry what the accumulates of the attempt added to it, so that every entry holds the
value that it had before the attempt, bit for bit (each entry taking at most one addend of the micro-batch: R111 leaves the
contents after a second one unspecified); REVERSAL_DONE reverses all that the failed attempt logged, and the replay begins after
it. -/
def Obligations.VatReversalRestoresEveryEntry : Prop :=
  (∀ (a : At) (vreg : Nat) (neg : Bool) (l : List VatIn) (s : State),
    (l.map fun x => x.tile * vatSize + x.entry).Nodup →
    (∀ x ∈ l, (tabGet (fun _ => 0) (s.tileMem a.r).vatMb (x.tile * vatSize + x.entry)).testBit a.mb = false) →
    let t := l.foldl (fun s x => (s.vatAdd1 a vreg neg x).1) s
    let log := (((t.seq a.r).span a.d).vatLog).take l.length
    ((t.seq a.r).span a.d).vatLog = log ++ ((s.seq a.r).span a.d).vatLog ∧
    (∀ r tile e, (t.vatReverse a.r log).vatEntry r tile e = s.vatEntry r tile e)) ∧
  (∀ (r : RegionIx) (s : State), s.seqState r = 6 → ∃ t, Answers (.reversalDone r) s t ∧ t.seqState r = 7 ∧
    ∀ k tile e, t.vatEntry k tile e = (s.vatReverse r ((s.seq r).span (s.seq r).checkDef).vatLog).vatEntry k tile e)

/-- R382: jobs whose extents lie apart never reach one byte: no offset of the one translates to an address of the other's, and
what one writes, none of the others sees. -/
def Obligations.JobSpacesAreApart : Prop :=
  ∀ (i j : Nat) (s : State),
    (∀ e ∈ s.extents i, ∀ f ∈ s.extents j, e.2.2 + e.2.1 ≤ f.2.2 ∨ f.2.2 + f.2.1 ≤ e.2.2) →
    (∀ o p a b, s.jobAddr i o = some a → s.jobAddr j p = some b → a ≠ b) ∧
    (∀ o n p (bytes : List Byte), (s.jobWrite i o bytes).jobRead j p n = s.jobRead j p n) ∧
    (∀ o (e : Nat × Nat × Nat), e ∈ s.extents i → e.1 * gb ≤ o → o < (e.1 + e.2.1) * gb →
      (∀ f ∈ s.extents i, f = e ∨ e.1 + e.2.1 ≤ f.1 ∨ f.1 + f.2.1 ≤ e.1) →
      s.jobAddr i o = some (e.2.2 * gb + (o - e.1 * gb)))
end

