-- ==== Sys2Proof/Laws/Table.lean ====
section
/-! SUPPORT. The laws of sparse tables: what a key reads as after a write, and that writing keeps the canonical form. They
hold for every list, in canonical form or not, except where the form itself is the claim. -/

namespace Sys2Proof.Machine

variable {α : Type} (d : Nat → α)

theorem tabDrop_cons (a : Nat) (v : α) (r : Tab α) (k : Nat) :
    tabDrop ((a, v) :: r) k = if a = k then tabDrop r k else (a, v) :: tabDrop r k := by
  by_cases h : a = k <;> simp [tabDrop, h]

theorem tabGet_drop_ne (t : Tab α) {j k : Nat} (h : j ≠ k) : tabGet d (tabDrop t k) j = tabGet d t j := by
  induction t with
  | nil => rfl
  | cons e r ih =>
    obtain ⟨a, v⟩ := e
    rw [tabDrop_cons]
    split
    · subst a; simp [tabGet, h, ih]
    · simp [tabGet, ih]

theorem tabGet_drop_same (t : Tab α) (k : Nat) : tabGet d (tabDrop t k) k = d k := by
  induction t with
  | nil => rfl
  | cons e r ih =>
    obtain ⟨a, v⟩ := e
    rw [tabDrop_cons]
    split
    · exact ih
    · rename_i h; simp [tabGet, Ne.symm h, ih]

variable [DecidableEq α]

/-- A key reads as what was written to it. -/
@[simp] theorem tabGet_set_same (t : Tab α) (k : Nat) (v : α) : tabGet d (tabSet d t k v) k = v := by
  induction t with
  | nil => unfold tabSet; split <;> simp_all [tabGet]
  | cons e r ih =>
    obtain ⟨a, w⟩ := e
    unfold tabSet
    split
    · subst a
      split
      · rw [tabGet_drop_same]; simp_all
      · simp [tabGet]
    · rename_i hne
      split
      · split
        · simp only [tabGet, hne, if_false]; rw [tabGet_drop_same]; simp_all
        · simp [tabGet]
      · simp only [tabGet, hne, if_false, ih]

/-- Every other key keeps what it read as. -/
theorem tabGet_set_ne (t : Tab α) {j k : Nat} (v : α) (h : j ≠ k) : tabGet d (tabSet d t k v) j = tabGet d t j := by
  induction t with
  | nil => unfold tabSet; split <;> simp [tabGet, h]
  | cons e r ih =>
    obtain ⟨a, w⟩ := e
    unfold tabSet
    split
    · subst a
      split
      · rw [tabGet_drop_ne d r h]; simp [tabGet, h]
      · simp [tabGet, h]
    · split
      · split
        · simp only [tabGet, tabGet_drop_ne d r h]
        · simp [tabGet, h]
      · simp only [tabGet, ih]

theorem tabGet_set (t : Tab α) (j k : Nat) (v : α) : tabGet d (tabSet d t k v) j = if j = k then v else tabGet d t j := by
  by_cases h : j = k
  · subst h; simp
  · simp [h, tabGet_set_ne]

/-! ### The canonical form -/

theorem tabWfFrom_mono {b c : Nat} (h : b ≤ c) (t : Tab α) (w : tabWfFrom d c t = true) : tabWfFrom d b t = true := by
  cases t with
  | nil => rfl
  | cons e r => obtain ⟨a, v⟩ := e; simp only [tabWfFrom, Bool.and_eq_true, decide_eq_true_eq] at w ⊢; exact ⟨⟨by omega, w.1.2⟩, w.2⟩

theorem tabWfFrom_drop (t : Tab α) (b k : Nat) (w : tabWfFrom d b t = true) : tabWfFrom d b (tabDrop t k) = true := by
  induction t generalizing b with
  | nil => rfl
  | cons e r ih =>
    obtain ⟨a, v⟩ := e
    simp only [tabWfFrom, Bool.and_eq_true, decide_eq_true_eq] at w
    have ih := ih (a + 1) w.2
    rw [tabDrop_cons]
    split
    · exact tabWfFrom_mono d (by omega) _ ih
    · simp only [tabWfFrom, Bool.and_eq_true, decide_eq_true_eq]
      exact ⟨w.1, ih⟩

theorem tabWfFrom_set (t : Tab α) (b k : Nat) (v : α) (hb : b ≤ k) (w : tabWfFrom d b t = true) :
    tabWfFrom d b (tabSet d t k v) = true := by
  induction t generalizing b with
  | nil =>
    unfold tabSet
    split <;> simp_all [tabWfFrom]
  | cons e r ih =>
    obtain ⟨a, u⟩ := e
    simp only [tabWfFrom, Bool.and_eq_true, decide_eq_true_eq] at w
    obtain ⟨⟨hba, hu⟩, wr⟩ := w
    unfold tabSet
    split
    · rename_i he
      subst he
      split
      · exact tabWfFrom_mono d (by omega) _ (tabWfFrom_drop d r _ _ wr)
      · simp_all [tabWfFrom]
    · rename_i hne
      split
      · rename_i hlt
        split
        · simp only [tabWfFrom, Bool.and_eq_true, decide_eq_true_eq]
          exact ⟨⟨hba, hu⟩, tabWfFrom_drop d r _ _ wr⟩
        · rename_i hv
          simp only [tabWfFrom, Bool.and_eq_true, decide_eq_true_eq]
          exact ⟨⟨hb, hv⟩, ⟨⟨hlt, hu⟩, wr⟩⟩
      · rename_i hlt
        simp only [tabWfFrom, Bool.and_eq_true, decide_eq_true_eq]
        exact ⟨⟨hba, hu⟩, ih (a + 1) (by omega) wr⟩

/-- A write keeps the canonical form. -/
theorem tabWf_set (t : Tab α) (k : Nat) (v : α) (w : tabWf d t = true) : tabWf d (tabSet d t k v) = true :=
  tabWfFrom_set d t 0 k v (Nat.zero_le k) w

/-- Listing a table again through the write gives the canonical form. -/
theorem tabWf_relist (t : Tab α) : tabWf d (t.foldr (fun c t => tabSet d t c.1 c.2) []) = true := by
  induction t with
  | nil => rfl
  | cons e r ih => exact tabWf_set d _ _ _ ih

/-- Listing a table again changes no key. -/
theorem tabGet_relist (t : Tab α) (k : Nat) : tabGet d (t.foldr (fun c t => tabSet d t c.1 c.2) []) k = tabGet d t k := by
  induction t with
  | nil => rfl
  | cons e r ih => obtain ⟨a, v⟩ := e; simp only [List.foldr, tabGet_set, tabGet, ih]

end Sys2Proof.Machine
end

