-- ==== Sys2Proof/Laws/State.lean ====
section
/-! SUPPORT. What the updates of State leave of each field: one lemma per field and update, true by rfl. An update of a
record table leaves every field but its own; of those the lemmas name the ones that statements speak of. -/

namespace Sys2Proof.Machine

variable (s : State)

@[simp] theorem State.setReg_mem_kept (a : Nat) (v : Word) : (s.setReg a v).mem = s.mem := rfl
@[simp] theorem State.setReg_dead_kept (a : Nat) (v : Word) : (s.setReg a v).dead = s.dead := rfl
@[simp] theorem State.setReg_resets_kept (a : Nat) (v : Word) : (s.setReg a v).resets = s.resets := rfl
@[simp] theorem State.setReg_tb_kept (a : Nat) (v : Word) : (s.setReg a v).tb = s.tb := rfl
@[simp] theorem State.setReg_free_kept (a : Nat) (v : Word) : (s.setReg a v).free = s.free := rfl
@[simp] theorem State.setReg_notify_kept (a : Nat) (v : Word) : (s.setReg a v).notify = s.notify := rfl
@[simp] theorem State.setReg_expertSecret_kept (a : Nat) (v : Word) : (s.setReg a v).expertSecret = s.expertSecret := rfl
@[simp] theorem State.setReg_reports_kept (a : Nat) (v : Word) : (s.setReg a v).reports = s.reports := rfl
@[simp] theorem State.setReg_seqs_kept (a : Nat) (v : Word) : (s.setReg a v).seqs = s.seqs := rfl
@[simp] theorem State.setReg_tiles_kept (a : Nat) (v : Word) : (s.setReg a v).tiles = s.tiles := rfl
@[simp] theorem State.setReg_caves_kept (a : Nat) (v : Word) : (s.setReg a v).caves = s.caves := rfl
@[simp] theorem State.setReg_ctxs_kept (a : Nat) (v : Word) : (s.setReg a v).ctxs = s.ctxs := rfl
@[simp] theorem State.setReg_wsp_kept (a : Nat) (v : Word) : (s.setReg a v).wsp = s.wsp := rfl
@[simp] theorem State.setReg_links_kept (a : Nat) (v : Word) : (s.setReg a v).links = s.links := rfl
@[simp] theorem State.setReg_bonds_kept (a : Nat) (v : Word) : (s.setReg a v).bonds = s.bonds := rfl
@[simp] theorem State.setReg_engines_kept (a : Nat) (v : Word) : (s.setReg a v).engines = s.engines := rfl
@[simp] theorem State.setReg_unrouted_kept (a : Nat) (v : Word) : (s.setReg a v).unrouted = s.unrouted := rfl
@[simp] theorem State.setReg_jobs_kept (a : Nat) (v : Word) : (s.setReg a v).jobs = s.jobs := rfl
@[simp] theorem State.setReg_dock_kept (a : Nat) (v : Word) : (s.setReg a v).dock = s.dock := rfl
@[simp] theorem State.setReg_boot_kept (a : Nat) (v : Word) : (s.setReg a v).boot = s.boot := rfl
@[simp] theorem State.setReg_fw_kept (a : Nat) (v : Word) : (s.setReg a v).fw = s.fw := rfl
@[simp] theorem State.setReg_mgtKey_kept (a : Nat) (v : Word) : (s.setReg a v).mgtKey = s.mgtKey := rfl
@[simp] theorem State.setReg_mgtWait_kept (a : Nat) (v : Word) : (s.setReg a v).mgtWait = s.mgtWait := rfl
@[simp] theorem State.setReg_grps_kept (a : Nat) (v : Word) : (s.setReg a v).grps = s.grps := rfl
@[simp] theorem State.setReg_upds_kept (a : Nat) (v : Word) : (s.setReg a v).upds = s.upds := rfl
@[simp] theorem State.setReg_ces_kept (a : Nat) (v : Word) : (s.setReg a v).ces = s.ces := rfl
@[simp] theorem State.setReg_srvs_kept (a : Nat) (v : Word) : (s.setReg a v).srvs = s.srvs := rfl
@[simp] theorem State.setReg_caches_kept (a : Nat) (v : Word) : (s.setReg a v).caches = s.caches := rfl
@[simp] theorem State.setReg_cellar_kept (a : Nat) (v : Word) : (s.setReg a v).cellar = s.cellar := rfl
@[simp] theorem State.setReg_fab_kept (a : Nat) (v : Word) : (s.setReg a v).fab = s.fab := rfl
@[simp] theorem State.setReg_net_kept (a : Nat) (v : Word) : (s.setReg a v).net = s.net := rfl
@[simp] theorem State.setReg_fused_kept (a : Nat) (v : Word) : (s.setReg a v).fused = s.fused := rfl
@[simp] theorem State.setReg_flt_kept (a : Nat) (v : Word) : (s.setReg a v).flt = s.flt := rfl
@[simp] theorem State.setReg_power_kept (a : Nat) (v : Word) : (s.setReg a v).power = s.power := rfl
@[simp] theorem State.setReg_out_kept (a : Nat) (v : Word) : (s.setReg a v).out = s.out := rfl
@[simp] theorem State.setReg_pending_kept (a : Nat) (v : Word) : (s.setReg a v).pending = s.pending := rfl

@[simp] theorem State.wr_mem_kept (p : Nat) (f : Fld) (v i : Nat) : (s.wr p f v i).mem = s.mem := rfl
@[simp] theorem State.wr_dead_kept (p : Nat) (f : Fld) (v i : Nat) : (s.wr p f v i).dead = s.dead := rfl
@[simp] theorem State.wr_resets_kept (p : Nat) (f : Fld) (v i : Nat) : (s.wr p f v i).resets = s.resets := rfl
@[simp] theorem State.wr_tb_kept (p : Nat) (f : Fld) (v i : Nat) : (s.wr p f v i).tb = s.tb := rfl
@[simp] theorem State.wr_free_kept (p : Nat) (f : Fld) (v i : Nat) : (s.wr p f v i).free = s.free := rfl
@[simp] theorem State.wr_notify_kept (p : Nat) (f : Fld) (v i : Nat) : (s.wr p f v i).notify = s.notify := rfl
@[simp] theorem State.wr_expertSecret_kept (p : Nat) (f : Fld) (v i : Nat) : (s.wr p f v i).expertSecret = s.expertSecret := rfl
@[simp] theorem State.wr_reports_kept (p : Nat) (f : Fld) (v i : Nat) : (s.wr p f v i).reports = s.reports := rfl
@[simp] theorem State.wr_seqs_kept (p : Nat) (f : Fld) (v i : Nat) : (s.wr p f v i).seqs = s.seqs := rfl
@[simp] theorem State.wr_tiles_kept (p : Nat) (f : Fld) (v i : Nat) : (s.wr p f v i).tiles = s.tiles := rfl
@[simp] theorem State.wr_caves_kept (p : Nat) (f : Fld) (v i : Nat) : (s.wr p f v i).caves = s.caves := rfl
@[simp] theorem State.wr_ctxs_kept (p : Nat) (f : Fld) (v i : Nat) : (s.wr p f v i).ctxs = s.ctxs := rfl
@[simp] theorem State.wr_wsp_kept (p : Nat) (f : Fld) (v i : Nat) : (s.wr p f v i).wsp = s.wsp := rfl
@[simp] theorem State.wr_links_kept (p : Nat) (f : Fld) (v i : Nat) : (s.wr p f v i).links = s.links := rfl
@[simp] theorem State.wr_bonds_kept (p : Nat) (f : Fld) (v i : Nat) : (s.wr p f v i).bonds = s.bonds := rfl
@[simp] theorem State.wr_engines_kept (p : Nat) (f : Fld) (v i : Nat) : (s.wr p f v i).engines = s.engines := rfl
@[simp] theorem State.wr_unrouted_kept (p : Nat) (f : Fld) (v i : Nat) : (s.wr p f v i).unrouted = s.unrouted := rfl
@[simp] theorem State.wr_jobs_kept (p : Nat) (f : Fld) (v i : Nat) : (s.wr p f v i).jobs = s.jobs := rfl
@[simp] theorem State.wr_dock_kept (p : Nat) (f : Fld) (v i : Nat) : (s.wr p f v i).dock = s.dock := rfl
@[simp] theorem State.wr_boot_kept (p : Nat) (f : Fld) (v i : Nat) : (s.wr p f v i).boot = s.boot := rfl
@[simp] theorem State.wr_fw_kept (p : Nat) (f : Fld) (v i : Nat) : (s.wr p f v i).fw = s.fw := rfl
@[simp] theorem State.wr_mgtKey_kept (p : Nat) (f : Fld) (v i : Nat) : (s.wr p f v i).mgtKey = s.mgtKey := rfl
@[simp] theorem State.wr_mgtWait_kept (p : Nat) (f : Fld) (v i : Nat) : (s.wr p f v i).mgtWait = s.mgtWait := rfl
@[simp] theorem State.wr_grps_kept (p : Nat) (f : Fld) (v i : Nat) : (s.wr p f v i).grps = s.grps := rfl
@[simp] theorem State.wr_upds_kept (p : Nat) (f : Fld) (v i : Nat) : (s.wr p f v i).upds = s.upds := rfl
@[simp] theorem State.wr_ces_kept (p : Nat) (f : Fld) (v i : Nat) : (s.wr p f v i).ces = s.ces := rfl
@[simp] theorem State.wr_srvs_kept (p : Nat) (f : Fld) (v i : Nat) : (s.wr p f v i).srvs = s.srvs := rfl
@[simp] theorem State.wr_caches_kept (p : Nat) (f : Fld) (v i : Nat) : (s.wr p f v i).caches = s.caches := rfl
@[simp] theorem State.wr_cellar_kept (p : Nat) (f : Fld) (v i : Nat) : (s.wr p f v i).cellar = s.cellar := rfl
@[simp] theorem State.wr_fab_kept (p : Nat) (f : Fld) (v i : Nat) : (s.wr p f v i).fab = s.fab := rfl
@[simp] theorem State.wr_net_kept (p : Nat) (f : Fld) (v i : Nat) : (s.wr p f v i).net = s.net := rfl
@[simp] theorem State.wr_fused_kept (p : Nat) (f : Fld) (v i : Nat) : (s.wr p f v i).fused = s.fused := rfl
@[simp] theorem State.wr_flt_kept (p : Nat) (f : Fld) (v i : Nat) : (s.wr p f v i).flt = s.flt := rfl
@[simp] theorem State.wr_power_kept (p : Nat) (f : Fld) (v i : Nat) : (s.wr p f v i).power = s.power := rfl
@[simp] theorem State.wr_out_kept (p : Nat) (f : Fld) (v i : Nat) : (s.wr p f v i).out = s.out := rfl
@[simp] theorem State.wr_pending_kept (p : Nat) (f : Fld) (v i : Nat) : (s.wr p f v i).pending = s.pending := rfl

@[simp] theorem State.bump_mem_kept (p : Nat) (f : Fld) (n : Nat) : (s.bump p f n).mem = s.mem := rfl
@[simp] theorem State.bump_dead_kept (p : Nat) (f : Fld) (n : Nat) : (s.bump p f n).dead = s.dead := rfl
@[simp] theorem State.bump_resets_kept (p : Nat) (f : Fld) (n : Nat) : (s.bump p f n).resets = s.resets := rfl
@[simp] theorem State.bump_tb_kept (p : Nat) (f : Fld) (n : Nat) : (s.bump p f n).tb = s.tb := rfl
@[simp] theorem State.bump_free_kept (p : Nat) (f : Fld) (n : Nat) : (s.bump p f n).free = s.free := rfl
@[simp] theorem State.bump_notify_kept (p : Nat) (f : Fld) (n : Nat) : (s.bump p f n).notify = s.notify := rfl
@[simp] theorem State.bump_expertSecret_kept (p : Nat) (f : Fld) (n : Nat) : (s.bump p f n).expertSecret = s.expertSecret := rfl
@[simp] theorem State.bump_reports_kept (p : Nat) (f : Fld) (n : Nat) : (s.bump p f n).reports = s.reports := rfl
@[simp] theorem State.bump_seqs_kept (p : Nat) (f : Fld) (n : Nat) : (s.bump p f n).seqs = s.seqs := rfl
@[simp] theorem State.bump_tiles_kept (p : Nat) (f : Fld) (n : Nat) : (s.bump p f n).tiles = s.tiles := rfl
@[simp] theorem State.bump_caves_kept (p : Nat) (f : Fld) (n : Nat) : (s.bump p f n).caves = s.caves := rfl
@[simp] theorem State.bump_ctxs_kept (p : Nat) (f : Fld) (n : Nat) : (s.bump p f n).ctxs = s.ctxs := rfl
@[simp] theorem State.bump_wsp_kept (p : Nat) (f : Fld) (n : Nat) : (s.bump p f n).wsp = s.wsp := rfl
@[simp] theorem State.bump_links_kept (p : Nat) (f : Fld) (n : Nat) : (s.bump p f n).links = s.links := rfl
@[simp] theorem State.bump_bonds_kept (p : Nat) (f : Fld) (n : Nat) : (s.bump p f n).bonds = s.bonds := rfl
@[simp] theorem State.bump_engines_kept (p : Nat) (f : Fld) (n : Nat) : (s.bump p f n).engines = s.engines := rfl
@[simp] theorem State.bump_unrouted_kept (p : Nat) (f : Fld) (n : Nat) : (s.bump p f n).unrouted = s.unrouted := rfl
@[simp] theorem State.bump_jobs_kept (p : Nat) (f : Fld) (n : Nat) : (s.bump p f n).jobs = s.jobs := rfl
@[simp] theorem State.bump_dock_kept (p : Nat) (f : Fld) (n : Nat) : (s.bump p f n).dock = s.dock := rfl
@[simp] theorem State.bump_boot_kept (p : Nat) (f : Fld) (n : Nat) : (s.bump p f n).boot = s.boot := rfl
@[simp] theorem State.bump_fw_kept (p : Nat) (f : Fld) (n : Nat) : (s.bump p f n).fw = s.fw := rfl
@[simp] theorem State.bump_mgtKey_kept (p : Nat) (f : Fld) (n : Nat) : (s.bump p f n).mgtKey = s.mgtKey := rfl
@[simp] theorem State.bump_mgtWait_kept (p : Nat) (f : Fld) (n : Nat) : (s.bump p f n).mgtWait = s.mgtWait := rfl
@[simp] theorem State.bump_grps_kept (p : Nat) (f : Fld) (n : Nat) : (s.bump p f n).grps = s.grps := rfl
@[simp] theorem State.bump_upds_kept (p : Nat) (f : Fld) (n : Nat) : (s.bump p f n).upds = s.upds := rfl
@[simp] theorem State.bump_ces_kept (p : Nat) (f : Fld) (n : Nat) : (s.bump p f n).ces = s.ces := rfl
@[simp] theorem State.bump_srvs_kept (p : Nat) (f : Fld) (n : Nat) : (s.bump p f n).srvs = s.srvs := rfl
@[simp] theorem State.bump_caches_kept (p : Nat) (f : Fld) (n : Nat) : (s.bump p f n).caches = s.caches := rfl
@[simp] theorem State.bump_cellar_kept (p : Nat) (f : Fld) (n : Nat) : (s.bump p f n).cellar = s.cellar := rfl
@[simp] theorem State.bump_fab_kept (p : Nat) (f : Fld) (n : Nat) : (s.bump p f n).fab = s.fab := rfl
@[simp] theorem State.bump_net_kept (p : Nat) (f : Fld) (n : Nat) : (s.bump p f n).net = s.net := rfl
@[simp] theorem State.bump_fused_kept (p : Nat) (f : Fld) (n : Nat) : (s.bump p f n).fused = s.fused := rfl
@[simp] theorem State.bump_flt_kept (p : Nat) (f : Fld) (n : Nat) : (s.bump p f n).flt = s.flt := rfl
@[simp] theorem State.bump_power_kept (p : Nat) (f : Fld) (n : Nat) : (s.bump p f n).power = s.power := rfl
@[simp] theorem State.bump_out_kept (p : Nat) (f : Fld) (n : Nat) : (s.bump p f n).out = s.out := rfl
@[simp] theorem State.bump_pending_kept (p : Nat) (f : Fld) (n : Nat) : (s.bump p f n).pending = s.pending := rfl

@[simp] theorem State.emit_regs_kept (o : Output) : (s.emit o).regs = s.regs := rfl
@[simp] theorem State.emit_mem_kept (o : Output) : (s.emit o).mem = s.mem := rfl
@[simp] theorem State.emit_dead_kept (o : Output) : (s.emit o).dead = s.dead := rfl
@[simp] theorem State.emit_resets_kept (o : Output) : (s.emit o).resets = s.resets := rfl
@[simp] theorem State.emit_tb_kept (o : Output) : (s.emit o).tb = s.tb := rfl
@[simp] theorem State.emit_free_kept (o : Output) : (s.emit o).free = s.free := rfl
@[simp] theorem State.emit_notify_kept (o : Output) : (s.emit o).notify = s.notify := rfl
@[simp] theorem State.emit_expertSecret_kept (o : Output) : (s.emit o).expertSecret = s.expertSecret := rfl
@[simp] theorem State.emit_reports_kept (o : Output) : (s.emit o).reports = s.reports := rfl
@[simp] theorem State.emit_seqs_kept (o : Output) : (s.emit o).seqs = s.seqs := rfl
@[simp] theorem State.emit_tiles_kept (o : Output) : (s.emit o).tiles = s.tiles := rfl
@[simp] theorem State.emit_caves_kept (o : Output) : (s.emit o).caves = s.caves := rfl
@[simp] theorem State.emit_ctxs_kept (o : Output) : (s.emit o).ctxs = s.ctxs := rfl
@[simp] theorem State.emit_wsp_kept (o : Output) : (s.emit o).wsp = s.wsp := rfl
@[simp] theorem State.emit_links_kept (o : Output) : (s.emit o).links = s.links := rfl
@[simp] theorem State.emit_bonds_kept (o : Output) : (s.emit o).bonds = s.bonds := rfl
@[simp] theorem State.emit_engines_kept (o : Output) : (s.emit o).engines = s.engines := rfl
@[simp] theorem State.emit_unrouted_kept (o : Output) : (s.emit o).unrouted = s.unrouted := rfl
@[simp] theorem State.emit_jobs_kept (o : Output) : (s.emit o).jobs = s.jobs := rfl
@[simp] theorem State.emit_dock_kept (o : Output) : (s.emit o).dock = s.dock := rfl
@[simp] theorem State.emit_boot_kept (o : Output) : (s.emit o).boot = s.boot := rfl
@[simp] theorem State.emit_fw_kept (o : Output) : (s.emit o).fw = s.fw := rfl
@[simp] theorem State.emit_mgtKey_kept (o : Output) : (s.emit o).mgtKey = s.mgtKey := rfl
@[simp] theorem State.emit_mgtWait_kept (o : Output) : (s.emit o).mgtWait = s.mgtWait := rfl
@[simp] theorem State.emit_grps_kept (o : Output) : (s.emit o).grps = s.grps := rfl
@[simp] theorem State.emit_upds_kept (o : Output) : (s.emit o).upds = s.upds := rfl
@[simp] theorem State.emit_ces_kept (o : Output) : (s.emit o).ces = s.ces := rfl
@[simp] theorem State.emit_srvs_kept (o : Output) : (s.emit o).srvs = s.srvs := rfl
@[simp] theorem State.emit_caches_kept (o : Output) : (s.emit o).caches = s.caches := rfl
@[simp] theorem State.emit_cellar_kept (o : Output) : (s.emit o).cellar = s.cellar := rfl
@[simp] theorem State.emit_fab_kept (o : Output) : (s.emit o).fab = s.fab := rfl
@[simp] theorem State.emit_net_kept (o : Output) : (s.emit o).net = s.net := rfl
@[simp] theorem State.emit_fused_kept (o : Output) : (s.emit o).fused = s.fused := rfl
@[simp] theorem State.emit_flt_kept (o : Output) : (s.emit o).flt = s.flt := rfl
@[simp] theorem State.emit_power_kept (o : Output) : (s.emit o).power = s.power := rfl
@[simp] theorem State.emit_pending_kept (o : Output) : (s.emit o).pending = s.pending := rfl

@[simp] theorem State.report_regs_kept (r : Report) : (s.report r).regs = s.regs := rfl
@[simp] theorem State.report_mem_kept (r : Report) : (s.report r).mem = s.mem := rfl
@[simp] theorem State.report_dead_kept (r : Report) : (s.report r).dead = s.dead := rfl
@[simp] theorem State.report_resets_kept (r : Report) : (s.report r).resets = s.resets := rfl
@[simp] theorem State.report_tb_kept (r : Report) : (s.report r).tb = s.tb := rfl
@[simp] theorem State.report_free_kept (r : Report) : (s.report r).free = s.free := rfl
@[simp] theorem State.report_notify_kept (r : Report) : (s.report r).notify = s.notify := rfl
@[simp] theorem State.report_expertSecret_kept (r : Report) : (s.report r).expertSecret = s.expertSecret := rfl
@[simp] theorem State.report_seqs_kept (r : Report) : (s.report r).seqs = s.seqs := rfl
@[simp] theorem State.report_tiles_kept (r : Report) : (s.report r).tiles = s.tiles := rfl
@[simp] theorem State.report_caves_kept (r : Report) : (s.report r).caves = s.caves := rfl
@[simp] theorem State.report_ctxs_kept (r : Report) : (s.report r).ctxs = s.ctxs := rfl
@[simp] theorem State.report_wsp_kept (r : Report) : (s.report r).wsp = s.wsp := rfl
@[simp] theorem State.report_links_kept (r : Report) : (s.report r).links = s.links := rfl
@[simp] theorem State.report_bonds_kept (r : Report) : (s.report r).bonds = s.bonds := rfl
@[simp] theorem State.report_engines_kept (r : Report) : (s.report r).engines = s.engines := rfl
@[simp] theorem State.report_unrouted_kept (r : Report) : (s.report r).unrouted = s.unrouted := rfl
@[simp] theorem State.report_jobs_kept (r : Report) : (s.report r).jobs = s.jobs := rfl
@[simp] theorem State.report_dock_kept (r : Report) : (s.report r).dock = s.dock := rfl
@[simp] theorem State.report_boot_kept (r : Report) : (s.report r).boot = s.boot := rfl
@[simp] theorem State.report_fw_kept (r : Report) : (s.report r).fw = s.fw := rfl
@[simp] theorem State.report_mgtKey_kept (r : Report) : (s.report r).mgtKey = s.mgtKey := rfl
@[simp] theorem State.report_mgtWait_kept (r : Report) : (s.report r).mgtWait = s.mgtWait := rfl
@[simp] theorem State.report_grps_kept (r : Report) : (s.report r).grps = s.grps := rfl
@[simp] theorem State.report_upds_kept (r : Report) : (s.report r).upds = s.upds := rfl
@[simp] theorem State.report_ces_kept (r : Report) : (s.report r).ces = s.ces := rfl
@[simp] theorem State.report_srvs_kept (r : Report) : (s.report r).srvs = s.srvs := rfl
@[simp] theorem State.report_caches_kept (r : Report) : (s.report r).caches = s.caches := rfl
@[simp] theorem State.report_cellar_kept (r : Report) : (s.report r).cellar = s.cellar := rfl
@[simp] theorem State.report_fab_kept (r : Report) : (s.report r).fab = s.fab := rfl
@[simp] theorem State.report_net_kept (r : Report) : (s.report r).net = s.net := rfl
@[simp] theorem State.report_fused_kept (r : Report) : (s.report r).fused = s.fused := rfl
@[simp] theorem State.report_flt_kept (r : Report) : (s.report r).flt = s.flt := rfl
@[simp] theorem State.report_power_kept (r : Report) : (s.report r).power = s.power := rfl
@[simp] theorem State.report_out_kept (r : Report) : (s.report r).out = s.out := rfl
@[simp] theorem State.report_pending_kept (r : Report) : (s.report r).pending = s.pending := rfl

@[simp] theorem State.setSeq_regs_kept (k : Nat) (v : Seq) : (s.setSeq k v).regs = s.regs := rfl
@[simp] theorem State.setSeq_mem_kept (k : Nat) (v : Seq) : (s.setSeq k v).mem = s.mem := rfl
@[simp] theorem State.setSeq_pending_kept (k : Nat) (v : Seq) : (s.setSeq k v).pending = s.pending := rfl
@[simp] theorem State.setSeq_out_kept (k : Nat) (v : Seq) : (s.setSeq k v).out = s.out := rfl
@[simp] theorem State.setSeq_notify_kept (k : Nat) (v : Seq) : (s.setSeq k v).notify = s.notify := rfl
@[simp] theorem State.setSeq_mgtWait_kept (k : Nat) (v : Seq) : (s.setSeq k v).mgtWait = s.mgtWait := rfl
@[simp] theorem State.setSeq_resets_kept (k : Nat) (v : Seq) : (s.setSeq k v).resets = s.resets := rfl
@[simp] theorem State.setSeq_tb_kept (k : Nat) (v : Seq) : (s.setSeq k v).tb = s.tb := rfl

@[simp] theorem State.setTileMem_regs_kept (k : Nat) (v : TileMem) : (s.setTileMem k v).regs = s.regs := rfl
@[simp] theorem State.setTileMem_mem_kept (k : Nat) (v : TileMem) : (s.setTileMem k v).mem = s.mem := rfl
@[simp] theorem State.setTileMem_pending_kept (k : Nat) (v : TileMem) : (s.setTileMem k v).pending = s.pending := rfl
@[simp] theorem State.setTileMem_out_kept (k : Nat) (v : TileMem) : (s.setTileMem k v).out = s.out := rfl
@[simp] theorem State.setTileMem_notify_kept (k : Nat) (v : TileMem) : (s.setTileMem k v).notify = s.notify := rfl
@[simp] theorem State.setTileMem_mgtWait_kept (k : Nat) (v : TileMem) : (s.setTileMem k v).mgtWait = s.mgtWait := rfl
@[simp] theorem State.setTileMem_resets_kept (k : Nat) (v : TileMem) : (s.setTileMem k v).resets = s.resets := rfl
@[simp] theorem State.setTileMem_tb_kept (k : Nat) (v : TileMem) : (s.setTileMem k v).tb = s.tb := rfl

@[simp] theorem State.setCave_regs_kept (k : Nat) (v : Cave) : (s.setCave k v).regs = s.regs := rfl
@[simp] theorem State.setCave_mem_kept (k : Nat) (v : Cave) : (s.setCave k v).mem = s.mem := rfl
@[simp] theorem State.setCave_pending_kept (k : Nat) (v : Cave) : (s.setCave k v).pending = s.pending := rfl
@[simp] theorem State.setCave_out_kept (k : Nat) (v : Cave) : (s.setCave k v).out = s.out := rfl
@[simp] theorem State.setCave_notify_kept (k : Nat) (v : Cave) : (s.setCave k v).notify = s.notify := rfl
@[simp] theorem State.setCave_mgtWait_kept (k : Nat) (v : Cave) : (s.setCave k v).mgtWait = s.mgtWait := rfl
@[simp] theorem State.setCave_resets_kept (k : Nat) (v : Cave) : (s.setCave k v).resets = s.resets := rfl
@[simp] theorem State.setCave_tb_kept (k : Nat) (v : Cave) : (s.setCave k v).tb = s.tb := rfl

@[simp] theorem State.setJob_regs_kept (k : Nat) (v : Job) : (s.setJob k v).regs = s.regs := rfl
@[simp] theorem State.setJob_mem_kept (k : Nat) (v : Job) : (s.setJob k v).mem = s.mem := rfl
@[simp] theorem State.setJob_pending_kept (k : Nat) (v : Job) : (s.setJob k v).pending = s.pending := rfl
@[simp] theorem State.setJob_out_kept (k : Nat) (v : Job) : (s.setJob k v).out = s.out := rfl
@[simp] theorem State.setJob_notify_kept (k : Nat) (v : Job) : (s.setJob k v).notify = s.notify := rfl
@[simp] theorem State.setJob_mgtWait_kept (k : Nat) (v : Job) : (s.setJob k v).mgtWait = s.mgtWait := rfl
@[simp] theorem State.setJob_resets_kept (k : Nat) (v : Job) : (s.setJob k v).resets = s.resets := rfl
@[simp] theorem State.setJob_tb_kept (k : Nat) (v : Job) : (s.setJob k v).tb = s.tb := rfl

@[simp] theorem State.setLink_regs_kept (k : Nat) (v : Link) : (s.setLink k v).regs = s.regs := rfl
@[simp] theorem State.setLink_mem_kept (k : Nat) (v : Link) : (s.setLink k v).mem = s.mem := rfl
@[simp] theorem State.setLink_pending_kept (k : Nat) (v : Link) : (s.setLink k v).pending = s.pending := rfl
@[simp] theorem State.setLink_out_kept (k : Nat) (v : Link) : (s.setLink k v).out = s.out := rfl
@[simp] theorem State.setLink_notify_kept (k : Nat) (v : Link) : (s.setLink k v).notify = s.notify := rfl
@[simp] theorem State.setLink_mgtWait_kept (k : Nat) (v : Link) : (s.setLink k v).mgtWait = s.mgtWait := rfl
@[simp] theorem State.setLink_resets_kept (k : Nat) (v : Link) : (s.setLink k v).resets = s.resets := rfl
@[simp] theorem State.setLink_tb_kept (k : Nat) (v : Link) : (s.setLink k v).tb = s.tb := rfl

@[simp] theorem State.setBond_regs_kept (k : Nat) (v : BondSt) : (s.setBond k v).regs = s.regs := rfl
@[simp] theorem State.setBond_mem_kept (k : Nat) (v : BondSt) : (s.setBond k v).mem = s.mem := rfl
@[simp] theorem State.setBond_pending_kept (k : Nat) (v : BondSt) : (s.setBond k v).pending = s.pending := rfl
@[simp] theorem State.setBond_out_kept (k : Nat) (v : BondSt) : (s.setBond k v).out = s.out := rfl
@[simp] theorem State.setBond_notify_kept (k : Nat) (v : BondSt) : (s.setBond k v).notify = s.notify := rfl
@[simp] theorem State.setBond_mgtWait_kept (k : Nat) (v : BondSt) : (s.setBond k v).mgtWait = s.mgtWait := rfl
@[simp] theorem State.setBond_resets_kept (k : Nat) (v : BondSt) : (s.setBond k v).resets = s.resets := rfl
@[simp] theorem State.setBond_tb_kept (k : Nat) (v : BondSt) : (s.setBond k v).tb = s.tb := rfl

@[simp] theorem State.setEng_regs_kept (k : Nat) (v : EngineSt) : (s.setEng k v).regs = s.regs := rfl
@[simp] theorem State.setEng_mem_kept (k : Nat) (v : EngineSt) : (s.setEng k v).mem = s.mem := rfl
@[simp] theorem State.setEng_pending_kept (k : Nat) (v : EngineSt) : (s.setEng k v).pending = s.pending := rfl
@[simp] theorem State.setEng_out_kept (k : Nat) (v : EngineSt) : (s.setEng k v).out = s.out := rfl
@[simp] theorem State.setEng_notify_kept (k : Nat) (v : EngineSt) : (s.setEng k v).notify = s.notify := rfl
@[simp] theorem State.setEng_mgtWait_kept (k : Nat) (v : EngineSt) : (s.setEng k v).mgtWait = s.mgtWait := rfl
@[simp] theorem State.setEng_resets_kept (k : Nat) (v : EngineSt) : (s.setEng k v).resets = s.resets := rfl
@[simp] theorem State.setEng_tb_kept (k : Nat) (v : EngineSt) : (s.setEng k v).tb = s.tb := rfl

@[simp] theorem State.setUpd_regs_kept (k : Nat) (v : UpdJob) : (s.setUpd k v).regs = s.regs := rfl
@[simp] theorem State.setUpd_mem_kept (k : Nat) (v : UpdJob) : (s.setUpd k v).mem = s.mem := rfl
@[simp] theorem State.setUpd_pending_kept (k : Nat) (v : UpdJob) : (s.setUpd k v).pending = s.pending := rfl
@[simp] theorem State.setUpd_out_kept (k : Nat) (v : UpdJob) : (s.setUpd k v).out = s.out := rfl
@[simp] theorem State.setUpd_notify_kept (k : Nat) (v : UpdJob) : (s.setUpd k v).notify = s.notify := rfl
@[simp] theorem State.setUpd_mgtWait_kept (k : Nat) (v : UpdJob) : (s.setUpd k v).mgtWait = s.mgtWait := rfl
@[simp] theorem State.setUpd_resets_kept (k : Nat) (v : UpdJob) : (s.setUpd k v).resets = s.resets := rfl
@[simp] theorem State.setUpd_tb_kept (k : Nat) (v : UpdJob) : (s.setUpd k v).tb = s.tb := rfl

@[simp] theorem State.setCe_regs_kept (k : Nat) (v : CeJob) : (s.setCe k v).regs = s.regs := rfl
@[simp] theorem State.setCe_mem_kept (k : Nat) (v : CeJob) : (s.setCe k v).mem = s.mem := rfl
@[simp] theorem State.setCe_pending_kept (k : Nat) (v : CeJob) : (s.setCe k v).pending = s.pending := rfl
@[simp] theorem State.setCe_out_kept (k : Nat) (v : CeJob) : (s.setCe k v).out = s.out := rfl
@[simp] theorem State.setCe_notify_kept (k : Nat) (v : CeJob) : (s.setCe k v).notify = s.notify := rfl
@[simp] theorem State.setCe_mgtWait_kept (k : Nat) (v : CeJob) : (s.setCe k v).mgtWait = s.mgtWait := rfl
@[simp] theorem State.setCe_resets_kept (k : Nat) (v : CeJob) : (s.setCe k v).resets = s.resets := rfl
@[simp] theorem State.setCe_tb_kept (k : Nat) (v : CeJob) : (s.setCe k v).tb = s.tb := rfl

@[simp] theorem State.setSrv_regs_kept (k : Nat) (v : SrvJob) : (s.setSrv k v).regs = s.regs := rfl
@[simp] theorem State.setSrv_mem_kept (k : Nat) (v : SrvJob) : (s.setSrv k v).mem = s.mem := rfl
@[simp] theorem State.setSrv_pending_kept (k : Nat) (v : SrvJob) : (s.setSrv k v).pending = s.pending := rfl
@[simp] theorem State.setSrv_out_kept (k : Nat) (v : SrvJob) : (s.setSrv k v).out = s.out := rfl
@[simp] theorem State.setSrv_notify_kept (k : Nat) (v : SrvJob) : (s.setSrv k v).notify = s.notify := rfl
@[simp] theorem State.setSrv_mgtWait_kept (k : Nat) (v : SrvJob) : (s.setSrv k v).mgtWait = s.mgtWait := rfl
@[simp] theorem State.setSrv_resets_kept (k : Nat) (v : SrvJob) : (s.setSrv k v).resets = s.resets := rfl
@[simp] theorem State.setSrv_tb_kept (k : Nat) (v : SrvJob) : (s.setSrv k v).tb = s.tb := rfl

@[simp] theorem State.setCacheEnt_regs_kept (k : Nat) (v : CacheEnt) : (s.setCacheEnt k v).regs = s.regs := rfl
@[simp] theorem State.setCacheEnt_mem_kept (k : Nat) (v : CacheEnt) : (s.setCacheEnt k v).mem = s.mem := rfl
@[simp] theorem State.setCacheEnt_pending_kept (k : Nat) (v : CacheEnt) : (s.setCacheEnt k v).pending = s.pending := rfl
@[simp] theorem State.setCacheEnt_out_kept (k : Nat) (v : CacheEnt) : (s.setCacheEnt k v).out = s.out := rfl
@[simp] theorem State.setCacheEnt_notify_kept (k : Nat) (v : CacheEnt) : (s.setCacheEnt k v).notify = s.notify := rfl
@[simp] theorem State.setCacheEnt_mgtWait_kept (k : Nat) (v : CacheEnt) : (s.setCacheEnt k v).mgtWait = s.mgtWait := rfl
@[simp] theorem State.setCacheEnt_resets_kept (k : Nat) (v : CacheEnt) : (s.setCacheEnt k v).resets = s.resets := rfl
@[simp] theorem State.setCacheEnt_tb_kept (k : Nat) (v : CacheEnt) : (s.setCacheEnt k v).tb = s.tb := rfl

/-! ### A record reads as it was written -/

@[simp] theorem State.seq_setSeq (k : Nat) (v : Seq) : (s.setSeq k v).seq k = v := tabGet_set_same _ _ _ _
theorem State.seq_setSeq_ne {j k : Nat} (v : Seq) (h : j ≠ k) : (s.setSeq k v).seq j = s.seq j := tabGet_set_ne _ _ _ h
@[simp] theorem State.tileMem_setTileMem (k : Nat) (v : TileMem) : (s.setTileMem k v).tileMem k = v := tabGet_set_same _ _ _ _
theorem State.tileMem_setTileMem_ne {j k : Nat} (v : TileMem) (h : j ≠ k) : (s.setTileMem k v).tileMem j = s.tileMem j := tabGet_set_ne _ _ _ h
@[simp] theorem State.cave_setCave (k : Nat) (v : Cave) : (s.setCave k v).cave k = v := tabGet_set_same _ _ _ _
theorem State.cave_setCave_ne {j k : Nat} (v : Cave) (h : j ≠ k) : (s.setCave k v).cave j = s.cave j := tabGet_set_ne _ _ _ h
@[simp] theorem State.job_setJob (k : Nat) (v : Job) : (s.setJob k v).job k = v := tabGet_set_same _ _ _ _
theorem State.job_setJob_ne {j k : Nat} (v : Job) (h : j ≠ k) : (s.setJob k v).job j = s.job j := tabGet_set_ne _ _ _ h
@[simp] theorem State.link_setLink (k : Nat) (v : Link) : (s.setLink k v).link k = v := tabGet_set_same _ _ _ _
theorem State.link_setLink_ne {j k : Nat} (v : Link) (h : j ≠ k) : (s.setLink k v).link j = s.link j := tabGet_set_ne _ _ _ h
@[simp] theorem State.bond_setBond (k : Nat) (v : BondSt) : (s.setBond k v).bond k = v := tabGet_set_same _ _ _ _
theorem State.bond_setBond_ne {j k : Nat} (v : BondSt) (h : j ≠ k) : (s.setBond k v).bond j = s.bond j := tabGet_set_ne _ _ _ h
@[simp] theorem State.eng_setEng (k : Nat) (v : EngineSt) : (s.setEng k v).eng k = v := tabGet_set_same _ _ _ _
theorem State.eng_setEng_ne {j k : Nat} (v : EngineSt) (h : j ≠ k) : (s.setEng k v).eng j = s.eng j := tabGet_set_ne _ _ _ h
@[simp] theorem State.upd_setUpd (k : Nat) (v : UpdJob) : (s.setUpd k v).upd k = v := tabGet_set_same _ _ _ _
theorem State.upd_setUpd_ne {j k : Nat} (v : UpdJob) (h : j ≠ k) : (s.setUpd k v).upd j = s.upd j := tabGet_set_ne _ _ _ h
@[simp] theorem State.ce_setCe (k : Nat) (v : CeJob) : (s.setCe k v).ce k = v := tabGet_set_same _ _ _ _
theorem State.ce_setCe_ne {j k : Nat} (v : CeJob) (h : j ≠ k) : (s.setCe k v).ce j = s.ce j := tabGet_set_ne _ _ _ h
@[simp] theorem State.srv_setSrv (k : Nat) (v : SrvJob) : (s.setSrv k v).srv k = v := tabGet_set_same _ _ _ _
theorem State.srv_setSrv_ne {j k : Nat} (v : SrvJob) (h : j ≠ k) : (s.setSrv k v).srv j = s.srv j := tabGet_set_ne _ _ _ h
@[simp] theorem State.cacheEnt_setCacheEnt (k : Nat) (v : CacheEnt) : (s.setCacheEnt k v).cacheEnt k = v := tabGet_set_same _ _ _ _
theorem State.cacheEnt_setCacheEnt_ne {j k : Nat} (v : CacheEnt) (h : j ≠ k) : (s.setCacheEnt k v).cacheEnt j = s.cacheEnt j := tabGet_set_ne _ _ _ h

/-! ### Registers depend on the register table alone -/

theorem State.getReg_of_regs {s t : State} (h : s.regs = t.regs) (a : Nat) : s.getReg a = t.getReg a := by
  unfold State.getReg; rw [h]

theorem State.rd_of_regs {s t : State} (h : s.regs = t.regs) (p : Nat) (f : Fld) (i : Nat) : s.rd p f i = t.rd p f i := by
  unfold State.rd; rw [State.getReg_of_regs h]

/-- A stack byte depends on the memory alone. -/
theorem State.memByte_of_mem {s t : State} (h : s.mem = t.mem) (a : Nat) : s.memByte a = t.memByte a := by
  unfold State.memByte; rw [h]

end Sys2Proof.Machine
end

