-- ==== Sys2Proof/Laws/Regs.lean ====
section
/-! SUPPORT. What registers and fields read as after a write: a field reads as what was written to it, and everything else as
before; counters (R35). -/

namespace Sys2Proof.Machine

/-! ### Bits -/

/-- What replacing bits leaves, as a sum. -/
theorem putBits_eq (v hi lo x : Nat) :
    putBits v hi lo x = v % 2 ^ lo + (x % 2 ^ (hi + 1 - lo) + 2 ^ (hi + 1 - lo) * (v / 2 ^ lo / 2 ^ (hi + 1 - lo))) * 2 ^ lo := by
  have h1 := Nat.div_add_mod v (2 ^ lo)
  have h2 := Nat.div_add_mod (v / 2 ^ lo) (2 ^ (hi + 1 - lo))
  unfold putBits bits
  generalize hq : v / 2 ^ lo = q at *
  generalize hw : 2 ^ (hi + 1 - lo) = w at *
  generalize hl : 2 ^ lo = l at *
  generalize q / w = a at *
  generalize q % w = b at *
  generalize v % l = c at *
  subst h2
  rw [← h1]
  have e : l * (w * a + b) + c - b * l = c + (w * a) * l := by
    have : l * (w * a + b) = (w * a) * l + b * l := by rw [Nat.mul_comm, Nat.add_mul]
    omega
  rw [e, Nat.add_mul]
  omega

/-- The replaced bits read as what replaced them. -/
theorem bits_putBits_same (v hi lo x : Nat) : bits (putBits v hi lo x) hi lo = x % 2 ^ (hi + 1 - lo) := by
  rw [putBits_eq]
  unfold bits
  rw [Nat.add_mul_div_right _ _ (Nat.two_pow_pos lo), Nat.div_eq_of_lt (Nat.mod_lt _ (Nat.two_pow_pos lo))]
  simp

theorem bits_testBit (v hi lo i : Nat) : (bits v hi lo).testBit i = (decide (i < hi + 1 - lo) && v.testBit (lo + i)) := by
  unfold bits
  rw [Nat.testBit_mod_two_pow, Nat.testBit_div_two_pow]
  congr 2; omega

theorem putBits_testBit (v hi lo x i : Nat) : (putBits v hi lo x).testBit i =
    if i < lo then v.testBit i else if i < lo + (hi + 1 - lo) then x.testBit (i - lo) else v.testBit i := by
  rw [putBits_eq, Nat.add_comm (v % 2 ^ lo), Nat.mul_comm _ (2 ^ lo), Nat.testBit_two_pow_mul_add _ (Nat.mod_lt _ (Nat.two_pow_pos lo))]
  split
  · simp [Nat.testBit_mod_two_pow, *]
  · rw [Nat.add_comm (x % _), Nat.testBit_two_pow_mul_add _ (Nat.mod_lt _ (Nat.two_pow_pos _))]
    rename_i h
    split
    · rename_i h2; rw [if_pos (by omega), Nat.testBit_mod_two_pow]; simp [h2]
    · rename_i h2; rw [if_neg (by omega), Nat.testBit_div_two_pow, Nat.testBit_div_two_pow]; congr 1; omega

/-- Bits outside the replaced ones read as before. -/
theorem bits_putBits_other (v hi lo x hi' lo' : Nat) (h : hi' < lo ∨ hi < lo') (h1 : lo ≤ hi) : bits (putBits v hi lo x) hi' lo' = bits v hi' lo' := by
  apply Nat.eq_of_testBit_eq
  intro i
  simp only [bits_testBit, putBits_testBit]
  by_cases hi2 : i < hi' + 1 - lo'
  · simp only [hi2, decide_true, Bool.true_and]
    split
    · rfl
    · split
      · omega
      · rfl
  · simp [hi2]

/-- Replacing bits of an n-bit number gives an n-bit number. -/
theorem putBits_lt (v hi lo x n : Nat) (hv : v < 2 ^ n) (h : hi < n) (h1 : lo ≤ hi) : putBits v hi lo x < 2 ^ n := by
  apply Nat.lt_pow_two_of_testBit
  intro i hi2
  rw [putBits_testBit]
  have := Nat.testBit_lt_two_pow (Nat.lt_of_lt_of_le hv (Nat.pow_le_pow_right (by omega) hi2))
  split
  · exact this
  · split
    · omega
    · exact this

/-! ### Registers -/

variable (s : State)

@[simp] theorem State.getReg_setReg (a : Nat) (v : Word) : (s.setReg a v).getReg a = v := tabGet_set_same _ _ _ _

/-- A register that was not written reads as before. -/
theorem State.getReg_setReg_ne {a b : Nat} (v : Word) (h : b ≠ a) : (s.setReg a v).getReg b = s.getReg b :=
  tabGet_set_ne _ _ _ h

/-- A register that a field write does not touch. -/
theorem State.getReg_wr_ne (p : Nat) (f : Fld) (v i b : Nat) (h : b ≠ regAddr p (f.atIx i)) :
    (s.wr p f v i).getReg b = s.getReg b := s.getReg_setReg_ne _ h

/-- What a field write leaves in its register. -/
theorem State.getReg_wr (p : Nat) (f : Fld) (v i : Nat) : (s.wr p f v i).getReg (regAddr p (f.atIx i)) =
    BitVec.ofNat 64 (putBits (s.getReg (regAddr p (f.atIx i))).toNat f.hi f.lo v) := s.getReg_setReg _ _

/-- The 64 bits of a register after a field write, for a field that lies within them. -/
theorem State.getReg_wr_toNat (p : Nat) (f : Fld) (v i : Nat) (h : f.hi < 64) (l : f.lo ≤ f.hi) :
    ((s.wr p f v i).getReg (regAddr p (f.atIx i))).toNat =
      putBits (s.getReg (regAddr p (f.atIx i))).toNat f.hi f.lo v := by
  rw [s.getReg_wr, BitVec.toNat_ofNat]
  exact Nat.mod_eq_of_lt (putBits_lt _ _ _ _ 64 (s.getReg _).isLt h l)

/-- A field reads as the low bits of what was written to it. -/
theorem State.rd_wr_same (p : Nat) (f : Fld) (v i : Nat) (h : f.hi < 64) (l : f.lo ≤ f.hi) :
    (s.wr p f v i).rd p f i = v % 2 ^ (f.hi + 1 - f.lo) := by
  unfold State.rd
  rw [s.getReg_wr_toNat p f v i h l, bits_putBits_same]

/-- A field of another register reads as before. -/
theorem State.rd_wr_ne (p q : Nat) (f g : Fld) (v i j : Nat) (h : regAddr q (g.atIx j) ≠ regAddr p (f.atIx i)) :
    (s.wr p f v i).rd q g j = s.rd q g j := by
  unfold State.rd
  rw [s.getReg_wr_ne p f v i _ h]

/-- Another field of the same register reads as before. -/
theorem State.rd_wr_field (p q : Nat) (f g : Fld) (v i j : Nat) (h : f.hi < 64) (l : f.lo ≤ f.hi)
    (a : regAddr q (g.atIx j) = regAddr p (f.atIx i)) (d : g.hi < f.lo ∨ f.hi < g.lo) :
    (s.wr p f v i).rd q g j = s.rd q g j := by
  unfold State.rd
  rw [a, s.getReg_wr_toNat p f v i h l, bits_putBits_other _ _ _ _ _ _ d l]

/-- A field that shares no bit with the one written reads as before, wherever the two stand. -/
theorem State.rd_wr_other (p q : Nat) (f g : Fld) (v i j : Nat) (h : f.hi < 64) (l : f.lo ≤ f.hi)
    (d : regAddr q (g.atIx j) = regAddr p (f.atIx i) → g.hi < f.lo ∨ f.hi < g.lo) :
    (s.wr p f v i).rd q g j = s.rd q g j := by
  by_cases a : regAddr q (g.atIx j) = regAddr p (f.atIx i)
  · exact s.rd_wr_field p q f g v i j h l a (d a)
  · exact s.rd_wr_ne p q f g v i j a

/-- Registers of different pages differ. -/
theorem regAddr_page_ne {p q a b : Nat} (h : p ≠ q) (ha : a < 65536) (hb : b < 65536) : regAddr p a ≠ regAddr q b := by
  unfold regAddr; omega

/-- Registers at different offsets differ on every page. -/
theorem regAddr_off_ne {p a b : Nat} (h : a ≠ b) : regAddr p a ≠ regAddr p b := by
  unfold regAddr; omega

/-- A field fits its width. -/
theorem State.rd_lt (p : Nat) (f : Fld) (i : Nat) : s.rd p f i < 2 ^ (f.hi + 1 - f.lo) := Nat.mod_lt _ (Nat.two_pow_pos _)

/-! ### Several fields, and counters -/

@[simp] theorem State.wrs_nil (p i : Nat) : s.wrs p [] i = s := rfl

@[simp] theorem State.wrs_cons (p : Nat) (f : Fld) (v : Nat) (l : List (Fld × Nat)) (i : Nat) :
    s.wrs p ((f, v) :: l) i = (s.wr p f v i).wrs p l i := rfl

/-- Writing fields touches registers only. -/
theorem State.wrs_eq (p : Nat) (l : List (Fld × Nat)) (i : Nat) : s.wrs p l i = { s with regs := (s.wrs p l i).regs } := by
  induction l generalizing s with
  | nil => rfl
  | cons e r ih => obtain ⟨f, v⟩ := e; rw [State.wrs_cons, ih]; rfl

/-- A counter advances by n and stops at its greatest value (R35). -/
theorem State.rd_bump (p : Nat) (f : Fld) (n : Nat) (h : f.hi = 63) (l : f.lo = 0) :
    (s.bump p f n).rd p f = min (s.rd p f + n) (2 ^ 64 - 1) := by
  unfold State.bump
  rw [s.rd_wr_same p f _ 0 (by omega) (by omega), h, l]
  exact Nat.mod_eq_of_lt (by omega)

/-- A counter that advances leaves every other register as it was. -/
theorem State.rd_bump_ne (p q : Nat) (f g : Fld) (n j : Nat) (h : regAddr q (g.atIx j) ≠ regAddr p (f.atIx 0)) :
    (s.bump p f n).rd q g j = s.rd q g j := s.rd_wr_ne p q f g _ 0 j h

theorem State.getReg_bump_ne (p : Nat) (f : Fld) (n b : Nat) (h : b ≠ regAddr p (f.atIx 0)) :
    (s.bump p f n).getReg b = s.getReg b := s.getReg_wr_ne p f _ 0 b h

end Sys2Proof.Machine
end

