-- ==== Sys2Proof/Laws/Memory.lean ====
section
/-! SUPPORT. Stack memory: every operation keeps its canonical form, a byte reads as what was written to it, and every other
byte as before. -/

namespace Sys2Proof.Machine

/-! ### Filtering a table -/

/-- Dropping entries keeps the canonical form. -/
theorem tabWfFrom_filter {α : Type} [DecidableEq α] (d : Nat → α) (p : Nat × α → Bool) (t : Tab α) (b : Nat)
    (w : tabWfFrom d b t = true) : tabWfFrom d b (t.filter p) = true := by
  induction t generalizing b with
  | nil => rfl
  | cons e r ih =>
    obtain ⟨k, v⟩ := e
    simp only [tabWfFrom, Bool.and_eq_true, decide_eq_true_eq] at w
    obtain ⟨⟨hb, hv⟩, hr⟩ := w
    have hr' := ih (k + 1) hr
    by_cases hp : p (k, v) = true
    · simp [List.filter, hp, tabWfFrom, hb, hv, hr']
    · simp only [List.filter, hp]
      exact tabWfFrom_mono d (by omega) _ hr'

theorem tabWf_filter {α : Type} [DecidableEq α] (d : Nat → α) (p : Nat × α → Bool) (t : Tab α) (w : tabWf d t = true) :
    tabWf d (t.filter p) = true := tabWfFrom_filter d p t 0 w

/-- What a key reads as once the entries of some keys are gone. -/
theorem tabGet_filter {α : Type} (d : Nat → α) (p : Nat → Bool) (t : Tab α) (k : Nat) :
    tabGet d (t.filter fun e => p e.1) k = if p k then tabGet d t k else d k := by
  induction t with
  | nil => simp [tabGet]
  | cons e r ih =>
    obtain ⟨a, v⟩ := e
    by_cases ha : p a = true
    · by_cases hk : k = a
      · subst hk; simp [List.filter, ha, tabGet]
      · simp [List.filter, ha, tabGet, hk, ih]
    · by_cases hk : k = a
      · subst hk; simp [List.filter, ha, ih]
      · simp [List.filter, ha, tabGet, hk, ih]

/-! ### The canonical listing -/

/-- What a command leaves is in canonical form. -/
theorem Memory.canon_wf (m : List Host.Cell) : Memory.wf (Memory.canon m) = true := by
  unfold Memory.canon
  split
  · assumption
  · exact tabWf_relist memInit m

/-- Memory in canonical form is listed as it is. -/
@[simp] theorem Memory.canon_of_wf {m : List Host.Cell} (w : Memory.wf m = true) : Memory.canon m = m := by
  simp [Memory.canon, w]

/-- Listing memory canonically changes no byte. -/
theorem Memory.get_canon (m : List Host.Cell) (a : Nat) : tabGet memInit (Memory.canon m) a = tabGet memInit m a := by
  unfold Memory.canon
  split
  · rfl
  · exact tabGet_relist memInit m a

/-! ### Writing bytes -/

variable (s : State)

theorem State.setMemByte_wf (a : Nat) (v : Byte) (w : Memory.wf s.mem = true) : Memory.wf (s.setMemByte a v).mem = true :=
  tabWf_set memInit s.mem a v w

theorem State.memByte_setMemByte (a b : Nat) (v : Byte) : (s.setMemByte a v).memByte b = if b = a then v else s.memByte b :=
  tabGet_set memInit s.mem b a v

/-- Writing bytes keeps the canonical form. -/
theorem State.memWrite_wf (a : Nat) (b : List Byte) (w : Memory.wf s.mem = true) : Memory.wf (s.memWrite a b).mem = true := by
  unfold State.memWrite
  generalize b.zipIdx = l
  induction l generalizing s with
  | nil => exact w
  | cons e r ih => exact ih _ (s.setMemByte_wf _ _ w)

/-- Clearing POISON marks leaves stack memory. -/
@[simp] theorem State.healLines_mem (slot o n : Nat) : (s.healLines slot o n).mem = s.mem := by
  unfold State.healLines
  generalize List.filter _ _ = l
  induction l generalizing s with
  | nil => rfl
  | cons e r ih => exact (ih _).trans rfl

/-- Writing into a job's space keeps the canonical form. -/
theorem State.jobWrite_wf (slot o : Nat) (b : List Byte) (w : Memory.wf s.mem = true) :
    Memory.wf (s.jobWrite slot o b).mem = true := by
  unfold State.jobWrite
  rw [State.healLines_mem]
  generalize b.zipIdx = l
  induction l generalizing s with
  | nil => exact w
  | cons e r ih =>
    simp only [List.foldl]
    split
    · exact ih _ (s.setMemByte_wf _ _ w)
    · exact ih _ w

/-- Zeroing a range of module addresses keeps the canonical form. -/
theorem State.memZero_wf (lo hi : Nat) (w : Memory.wf s.mem = true) : Memory.wf (s.memZero lo hi).mem = true :=
  tabWf_filter memInit _ _ w

/-- Zeroing a slot keeps the canonical form. -/
theorem State.zeroSlot_wf (n k : Nat) (w : Memory.wf s.mem = true) : Memory.wf (s.zeroSlot n k).mem = true :=
  tabWf_filter memInit _ _ w

/-- A zeroed range reads 0, and every other byte as before. -/
theorem State.memByte_memZero (lo hi a : Nat) :
    (s.memZero lo hi).memByte a = if lo ≤ a ∧ a < hi then 0#8 else s.memByte a := by
  have h := tabGet_filter memInit (fun k => decide (k < lo) || decide (hi ≤ k)) s.mem a
  unfold State.memByte State.memZero
  refine h.trans ?_
  by_cases h1 : a < lo <;> by_cases h2 : hi ≤ a <;> simp [h1, h2, memInit] <;> omega

/-- A zeroed slot's granules read 0, and every other byte as before. -/
theorem State.memByte_zeroSlot (n k a : Nat) : (s.zeroSlot n k).memByte a = if a / 256 % n = k then 0#8 else s.memByte a := by
  have h := tabGet_filter memInit (fun c => c / 256 % n != k) s.mem a
  unfold State.memByte State.zeroSlot
  refine h.trans ?_
  by_cases h1 : a / 256 % n = k <;> simp [h1, memInit]

/-- What a byte reads as after bytes were written from an address. -/
theorem State.memByte_memWrite (a : Nat) (b : List Byte) (x : Nat) :
    (s.memWrite a b).memByte x = if a ≤ x ∧ x < a + b.length then b.getD (x - a) 0#8 else s.memByte x := by
  unfold State.memWrite
  suffices h : ∀ (b : List Byte) (n : Nat) (s : State),
      ((b.zipIdx n).foldl (fun s p => s.setMemByte (a + p.2) p.1) s).memByte x
        = if a + n ≤ x ∧ x < a + n + b.length then b.getD (x - (a + n)) 0#8 else s.memByte x by
    simpa using h b 0 s
  intro b
  induction b with
  | nil => intro n s; simp <;> omega
  | cons v r ih =>
    intro n s
    simp only [List.zipIdx_cons, List.foldl_cons, ih, State.memByte_setMemByte, List.length_cons]
    by_cases h1 : x = a + n
    · subst h1; simp <;> omega
    · by_cases h2 : a + (n + 1) ≤ x ∧ x < a + (n + 1) + r.length
      · have : x - (a + n) = (x - (a + (n + 1))) + 1 := by omega
        rw [if_pos h2, if_pos (by omega), this, List.getD_cons_succ]
      · rw [if_neg h2, if_neg h1, if_neg (by omega)]

/-- A byte that no job offset of a write maps to reads as before. -/
theorem State.memByte_jobWrite_ne (slot o : Nat) (b : List Byte) (x : Nat)
    (h : ∀ k < b.length, ∀ a, s.jobAddr slot (o + k) = some a → x ≠ a) : (s.jobWrite slot o b).memByte x = s.memByte x := by
  unfold State.jobWrite State.memByte
  rw [State.healLines_mem]
  change State.memByte (List.foldl _ _ _) x = s.memByte x
  suffices H : ∀ (l : List (Byte × Nat)) (t : State), t.regs = s.regs → (∀ p ∈ l, ∀ a, s.jobAddr slot (o + p.2) = some a → x ≠ a) →
      (l.foldl (fun s p => match s.jobAddr slot (o + p.2) with | some a => s.setMemByte a p.1 | none => s) t).memByte x = t.memByte x by
    refine H _ s rfl fun p hp => h p.2 ?_
    have := List.snd_lt_of_mem_zipIdx hp
    simpa using this
  intro l
  induction l with
  | nil => intro t _ _; rfl
  | cons p r ih =>
    intro t ht hl
    have ha : t.jobAddr slot (o + p.2) = s.jobAddr slot (o + p.2) := by
      unfold State.jobAddr State.extents
      simp only [State.rd_of_regs ht]
    simp only [List.foldl, ha]
    have hr := fun q hq => hl q (List.mem_cons_of_mem p hq)
    split
    · rename_i a e
      rw [ih (t.setMemByte a p.1) ht hr, State.memByte_setMemByte, if_neg (hl p (List.mem_cons_self ..) a e)]
    · exact ih t ht hr

end Sys2Proof.Machine
end

