-- ==== Sys2Proof/Laws/Answers.lean ====
section
/-! SUPPORT. What the shared gates do when they let a command through: a served write has its effect, a stream's command that
may issue issues, a mailbox request that passes the checks runs, a message that is taken runs. -/

namespace Sys2Proof.Machine

/-! ### Answers -/

/-- A row whose meaning is `keep s t` answers `t`. -/
theorem answers_of_keep {c : Instr} {s t : State} (h : exec c s = keep s t) : Answers c s t := h

/-- A row whose meaning is `keepQ s t` answers `t`. -/
theorem answersMem_of_keepQ {c : Instr} {s t : State} (h : exec c s = keepQ s t) : AnswersMem c s t := h

/-! ### Writes -/

/-- A served write has its effect. -/
theorem serveWrite_served {s : State} {q : Requester} {addr : Nat} {v : Word} (eff : State → State)
    (h : s.served q addr v = true) : s.serveWrite q addr v eff = eff s := by
  unfold State.served at h
  unfold State.serveWrite
  cases hw : s.wholeReset <;> simp_all [Option.isNone_iff_eq_none]

/-- A refused write is recorded. -/
theorem serveWrite_refused {s : State} {q : Requester} {addr bytes : Nat} {v : Word} {f : Fld} (eff : State → State)
    (hw : s.wholeReset = false) (h : s.refuses q addr bytes true v = some f) :
    s.serveWrite q addr v eff bytes = s.refuseAccess q addr true f := by
  simp [State.serveWrite, hw, h]

/-- A write while a warm reset runs is ignored (R39). -/
theorem serveWrite_reset {s : State} {q : Requester} {addr bytes : Nat} {v : Word} (eff : State → State)
    (hw : s.wholeReset = true) : s.serveWrite q addr v eff bytes = s := by
  simp [State.serveWrite, hw]

/-! ### The issue of a stream's command -/

/-- A command that may issue issues, and then has its effect. -/
theorem issue_runs {s : State} {r : Nat} {d : Bool} {ix : Nat} {c : Cmd} {op : Nat} {i : Issue} (eff : At → State → State)
    (h : s.canIssue r d ix c op i = true) :
    s.issue r d c op i eff = eff (s.standsAt r d ix c) (s.issueNow r d ix op i) := by
  unfold State.canIssue at h
  simp only [Bool.and_eq_true] at h
  obtain ⟨⟨⟨⟨⟨⟨⟨⟨⟨⟨⟨⟨⟨⟨⟨h1, h2⟩, hf⟩, h3⟩, h4⟩, h5⟩, h6⟩, h7⟩, h8⟩, h9⟩, h10⟩, h11⟩, h12⟩, h13⟩, h14⟩, h15⟩ := h
  unfold State.issue
  rw [eq_of_beq h1]
  have hop : ¬(c.op ≠ op ∨ !s.fetchedOk r d ix c) := by simp [hf, eq_of_beq h2]
  have hend : (!d && decide (s.rd (regPage r) REG_SEQ_LEN_MAIN_LEN ≤ ix)) = false := by
    cases d <;> simp_all
  have hbrk : (!d && !(s.recompAt r).isSome && s.rd (regPage r) REG_SEQ_EXPERT_BREAK_EN == 1
      && s.rd (regPage r) REG_SEQ_EXPERT_BREAK_PC == ix && !(s.seq r).breakSkip) = false := by
    revert h4
    simp only [bne]
    cases d <;> cases (s.recompAt r).isSome <;> cases s.rd (regPage r) REG_SEQ_EXPERT_BREAK_EN == 1
      <;> cases s.rd (regPage r) REG_SEQ_EXPERT_BREAK_PC == ix <;> cases (s.seq r).breakSkip <;> simp
  have hmb : (!i.openMark && c.mb != 0xFF && (s.seq r).opens.contains c.mb && s.refusedMb r c.mb) = false := by
    revert h5
    simp only [bne]
    cases i.openMark <;> cases c.mb == 0xFF <;> cases (s.seq r).opens.contains c.mb <;> cases s.refusedMb r c.mb <;> simp
  have href : s.refusal r d c i = none := Option.isNone_iff_eq_none.mp h6
  have hrec : ((s.recompAt r).isSome && (!i.inRec || c.mb != 0xFF)) = false := by
    revert h7
    simp only [bne, ← Option.not_isSome]
    cases (s.recompAt r).isSome <;> cases i.inRec <;> cases c.mb == 0xFF <;> simp
  have hrep : (decide (s.seqState r = 7) && !i.replayed) = false := by
    revert h8
    simp only [bne]
    cases hs : s.seqState r == 7 <;> cases i.replayed <;> simp_all
  have hhaz : (s.seq r).hazard i.reads i.writes = false := by simpa using h13
  have hwin : i.window = none := Option.isNone_iff_eq_none.mp h14
  have hins : i.instead = none := Option.isNone_iff_eq_none.mp h15
  have hwait : i.wait = false := by simpa using h9
  have hbind : (s.wsp.binds.any fun b => b.region == r) = false := by simpa using h10
  simp only [if_neg hop, hend, hbrk, hmb, href, hrec, hrep, hwait, hbind, hhaz, hwin, hins, Bool.or_false, Bool.false_eq_true,
    if_false]
  refine (if_neg ?_).trans ((if_neg ?_).trans rfl)
  · revert h11; cases i.block <;> simp
  · revert h12; rcases i.ctx with _ | ⟨sid, k⟩ <;> simp

/-! ### Mailbox requests -/

/-- A request that passes the checks runs its action and is answered (R437). -/
theorem mailbox_ok {s : State} {opcode least : Nat} {open_ : Bool} {f : MgtReq} (act : State → State × Nat × List Byte)
    (h : s.mailOk opcode open_ least f = true) :
    s.mailbox opcode open_ true least f act
      = (act (s.mailTaken opcode f)).1.respond opcode f (act (s.mailTaken opcode f)).2.1 (act (s.mailTaken opcode f)).2.2 := by
  unfold State.mailOk at h
  simp only [Bool.and_eq_true] at h
  obtain ⟨⟨⟨⟨⟨⟨⟨⟨⟨⟨h1, h2⟩, h3⟩, h4⟩, h5⟩, h6⟩, h7⟩, h8⟩, h9⟩, h10⟩, h11⟩ := h
  have h6 : f.pair < 28 := by simpa using h6
  have e1 : (s.bump pMGT MGT_C_FRAMES_IN).stage = s.stage := s.rd_bump_ne pMGT pGLB MGT_C_FRAMES_IN GLB_STATUS_BOOT_STAGE 1 0 (by decide)
  have e2 : (s.bump pMGT MGT_C_FRAMES_IN).rd pMGT MGT_STATUS_KEY_VALID = s.rd pMGT MGT_STATUS_KEY_VALID :=
    s.rd_bump_ne pMGT pMGT MGT_C_FRAMES_IN MGT_STATUS_KEY_VALID 1 0 (by decide)
  have e3 : (s.bump pMGT MGT_C_FRAMES_IN).rd pMBX MBX_PAIR_LAST_SEQ_IN f.pair = s.rd pMBX MBX_PAIR_LAST_SEQ_IN f.pair :=
    s.rd_bump_ne _ _ _ _ _ _ (regAddr_page_ne (by decide) (by simp [Fld.atIx]; omega) (by decide))
  have e4 : (s.bump pMGT MGT_C_FRAMES_IN).rd pMBX MBX_PAIR_BUSY f.pair = s.rd pMBX MBX_PAIR_BUSY f.pair :=
    s.rd_bump_ne _ _ _ _ _ _ (regAddr_page_ne (by decide) (by simp [Fld.atIx]; omega) (by decide))
  have e5 : (s.bump pMGT MGT_C_FRAMES_IN).tagOk opcode f = s.tagOk opcode f := rfl
  unfold State.mailbox State.mailTaken
  have c1 : ¬((s.wholeReset || decide (s.stage = 1)) = true) := by
    simp only [Bool.not_eq_true', bne_iff_ne] at h1 h2; simp [h1, h2]
  have c2 : ¬s.stage = 0xFE := by simpa using h3
  have c3 : ¬f.major ≠ 2 := by simpa using h4
  have c4 : ¬(f.flags % 4 ≠ 0 ∨ 28 ≤ f.pair ∨ f.length ≠ f.payload.length ∨ 4096 < f.length) := by
    simp only [beq_iff_eq, decide_eq_true_eq] at h5 h7 h8; omega
  have c5 : ¬((!open_ && decide (s.rd pMGT MGT_STATUS_KEY_VALID = 0)) = true) := by
    cases open_ <;> simp_all
  have c6 : ¬((!open_ && !s.tagOk opcode f) = true) := by cases open_ <;> simp_all
  have c7 : ¬((!open_ && decide (f.seq ≤ s.rd pMBX MBX_PAIR_LAST_SEQ_IN f.pair)) = true) := by
    cases open_ <;> simp_all
  have c8 : ¬s.rd pMBX MBX_PAIR_BUSY f.pair = 1 := by simpa using h10
  have c9 : ¬f.length < least := by simpa using h11
  simp only [e1, e2, e3, e4, e5, if_neg c1, if_neg c2, if_neg c3, if_neg c4, if_neg c5, if_neg c6, if_neg c7, if_neg c8, if_neg c9,
    Bool.not_true, Bool.false_eq_true, if_false]

/-- A management row whose meaning is a request of the mailbox that runs `act`. -/
theorem mailRuns_of {row : Instr} {s : State} {opcode least : Nat} {open_ : Bool} {f : MgtReq} {act : State → State × Nat × List Byte}
    (e : exec row s = keep s (s.mailbox opcode open_ true least f act)) : MailRuns row s opcode open_ least f act := by
  intro h
  rw [mailbox_ok act h] at e
  exact e

/-- The same for one that may write stack memory. -/
theorem mailRunsMem_of {row : Instr} {s : State} {opcode least : Nat} {open_ : Bool} {f : MgtReq}
    {act : State → State × Nat × List Byte}
    (e : exec row s = keepQ s (s.mailbox opcode open_ true least f act)) : MailRunsMem row s opcode open_ least f act := by
  intro h
  rw [mailbox_ok act h] at e
  exact e

/-- A stream's row whose meaning is the issue of a command. -/
theorem issueRuns_of {row : Instr} {s : State} {r : Nat} {d : Bool} {c : Cmd} {op : Nat} {i : Issue} {eff : At → State → State}
    (e : exec row s = keep s (s.issue r d c op i eff)) : IssueRuns row s r d c op i eff := by
  intro ix h
  rw [issue_runs eff h] at e
  exact e

/-- The same for one that may write stack memory. -/
theorem issueRunsMem_of {row : Instr} {s : State} {r : Nat} {d : Bool} {c : Cmd} {op : Nat} {i : Issue} {eff : At → State → State}
    (e : exec row s = keepQ s (s.issue r d c op i eff)) : IssueRunsMem row s r d c op i eff := by
  intro ix h
  rw [issue_runs eff h] at e
  exact e

/-! ### Messages -/

/-- A transfer message that is taken runs (R375). -/
theorem xferIn_taken {s : State} {m : Msg} {xtype slot : Nat} (run : State → Nat → State) (h : XferTaken s m xtype slot) :
    s.xferIn m xtype run = run s slot := by
  obtain ⟨ha, h1, h2, h3, h4, h5, h6⟩ := h
  unfold State.xferIn
  rw [show s.admitMsg m = (s, some slot) from ha]
  have : ¬m.body.length < 24 := by omega
  refine if_neg ?_
  simp only [h1, h3, h4, h5, this, ne_eq, not_true_eq_false, false_or]
  rintro ⟨hx, hy⟩
  exact h6.elim hx hy

/-- A collective packet that is taken runs (R236–R242). -/
theorem collIn_taken {s : State} {m : Msg} {kind slot : Nat} {b : Bucket} {p : CPkt} (run : State → Nat → Bucket → CPkt → State)
    (h : CollTaken s m kind slot b p) : s.collIn m kind run = run s slot b p := by
  obtain ⟨ha, h1, h2, h3, h4, h5, h6, h7, h8, h9, h10, h11⟩ := h
  subst h3
  have hk : ¬(kind ≠ 4 ∧ ((parseCPkt m.body).dhash ≠ b.dhash ∨
      (b.has (parseCPkt m.body).level ∧ (parseCPkt m.body).members ≠ s.bMembers slot b (parseCPkt m.body).level))) := by
    rintro ⟨h, h' | ⟨h', h''⟩⟩
    · exact h' (h9 h).1
    · exact h'' ((h9 h).2 h')
  unfold State.collIn
  rw [show s.admitMsg m = (s, some slot) from ha]
  simp only [h10, true_and, ne_eq] at hk
  simp only [h1, h2, h4, h5, h6, h7, h8, h10, h11, true_and, if_neg hk, ne_eq, not_true_eq_false, or_false, if_false, Bool.not_true,
    Bool.false_eq_true]

/-- A packet of the commit group that is taken runs (R252, R253). -/
theorem barIn_taken {s : State} {m : Msg} {kind slot : Nat} {p : CPkt} (run : State → Nat → CPkt → State)
    (h : BarTaken s m kind slot p) : s.barIn m kind run = run s slot p := by
  obtain ⟨ha, h1, h2, h3, h4, h5, h6, h7, h8, h9, h10⟩ := h
  subst h3
  have : ¬2 < (parseCPkt m.body).level := by omega
  unfold State.barIn
  rw [show s.admitMsg m = (s, some slot) from ha]
  simp only [h1, h2, h4, h5, h6, h7, h8, h10, this, ne_eq, not_true_eq_false, or_false, if_false, Bool.not_true, Bool.false_eq_true]

/-- A mirror message that is taken runs (R231). -/
theorem mirrorIn_taken {s : State} {m : Msg} {op slot : Nat} {x : MirMsg} {pt : List Byte}
    (run : State → Nat → MirMsg → List Byte → State) (h : MirrorTaken s m op slot x pt) : s.mirrorIn m op run = run s slot x pt := by
  obtain ⟨ha, h1, h2, h3, ct, tag, h4, h5⟩ := h
  have hk : (s.upd slot).mirrorKey.isEmpty = false := by simpa using h3
  unfold State.mirrorIn
  rw [show s.admitMsg m = (s, some slot) from ha]
  simp only [h1, h2, h4, h5, hk, ne_eq, not_true_eq_false, if_false, Bool.false_eq_true]

/-- A membership message that is taken runs (R272). -/
theorem memberIn_taken {s : State} {m : Msg} {op slot : Nat} {any : Bool} {x : MemMsg} (run : State → Nat → MemMsg → State)
    (h : MemberTaken s m op any slot x) : s.memberIn m op any run = run s slot x := by
  obtain ⟨ha, h1, h2, h3, h4⟩ := h
  unfold State.memberIn
  rw [show s.admitMsg m = (s, some slot) from ha]
  have : ¬((!any && x.gepoch != s.gepoch slot) = true) := by rcases h4 with h | h <;> simp [h]
  simp only [h1, h2, h3, if_neg this, ne_eq, not_true_eq_false, if_false]

/-- A serving message that is taken runs (R286). -/
theorem srvIn_taken {s : State} {m : Msg} {op slot : Nat} (run : State → Nat → State) (h : SrvTaken s m op slot) :
    s.srvIn m op run = run s slot := by
  obtain ⟨ha, h1, h2⟩ := h
  unfold State.srvIn
  rw [show s.admitMsg m = (s, some slot) from ha]
  simp only [h1, h2, ne_eq, not_true_eq_false, if_false, Bool.not_true, Bool.false_eq_true]

/-- An answer to the docket unit's fetch that is taken runs (R149). -/
theorem fetchAnswer_taken {s u : State} {c : CtlMsg} {ctype : Nat} (run : State → State) (h : FetchTaken s c ctype u) :
    s.fetchAnswer c ctype run = run u.endFetch := by
  obtain ⟨f, h1, h2, h3, h4⟩ := h
  unfold State.fetchAnswer
  simp [h1, h2, h3, h4]

end Sys2Proof.Machine
end

