-- ==== Sys2Proof/Laws/Notify.lean ====
section
/-! SUPPORT. What setting an error or event bit leaves: nothing but that bit's register changes, except for the NOTIFY that a
page's first bit sends: its registers, the management port's output and the gap of NOTIFY. -/

namespace Sys2Proof.Machine

variable (s : State)

/-- The registers that sending a NOTIFY writes: its pair's SEQ_OUT and three counters. -/
def notifyRegs : List Nat :=
  [regAddr pMBX (MBX_PAIR_SEQ_OUT.atIx 31), regAddr pMBX (MBX_C_MODULE_REQUESTS.atIx 0), regAddr pMGT (MGT_C_FRAMES_OUT.atIx 0),
   regAddr pMGT (MGT_C_NOTIFY_SENT.atIx 0)]

/-- A register of a page other than MGT and MBX is none of NOTIFY's. -/
theorem notMem_notifyRegs {p a : Nat} (h : p ≠ pMGT) (h' : p ≠ pMBX) (ha : a < 65536) : regAddr p a ∉ notifyRegs := by
  simp only [notifyRegs, List.mem_cons, List.not_mem_nil, or_false, not_or]
  exact ⟨regAddr_page_ne h' ha (by decide), regAddr_page_ne h' ha (by decide), regAddr_page_ne h ha (by decide),
    regAddr_page_ne h ha (by decide)⟩

/-- What sending a request changes. -/
theorem State.sendMgt_eq (op pair : Nat) (b : List Byte) :
    ∃ r w o, s.sendMgt op pair b = { s with regs := r, mgtWait := w, out := o } := by
  unfold State.sendMgt State.nextSeq
  dsimp only
  split
  · exact ⟨_, s.mgtWait, _, rfl⟩
  · exact ⟨_, _, s.out, rfl⟩

/-- The registers that sending a request leaves. -/
theorem State.getReg_sendMgt (op pair : Nat) (p : List Byte) {b : Nat} (h1 : b ≠ regAddr pMBX (MBX_PAIR_SEQ_OUT.atIx pair))
    (h2 : b ≠ regAddr pMBX (MBX_C_MODULE_REQUESTS.atIx 0)) (h3 : b ≠ regAddr pMGT (MGT_C_FRAMES_OUT.atIx 0)) :
    (s.sendMgt op pair p).getReg b = s.getReg b := by
  unfold State.sendMgt State.nextSeq
  dsimp only
  split
  · rw [State.getReg_bump_ne _ _ _ _ _ h3, State.getReg_of_regs (t := ((s.wr _ _ _ _).bump _ _)) (by rfl),
      State.getReg_bump_ne _ _ _ _ _ h2, State.getReg_wr_ne _ _ _ _ _ _ h1]
  · rw [State.getReg_of_regs (t := ((s.wr _ _ _ _).bump _ _)) (by rfl),
      State.getReg_bump_ne _ _ _ _ _ h2, State.getReg_wr_ne _ _ _ _ _ _ h1]

/-- What a NOTIFY changes. -/
theorem State.sendNotify_eq (cause : Nat) : ∃ r w n o, s.sendNotify cause = { s with regs := r, mgtWait := w, notify := n, out := o } := by
  unfold State.sendNotify
  split
  · exact ⟨s.regs, s.mgtWait, s.notify, s.out, rfl⟩
  · split
    · exact ⟨s.regs, s.mgtWait, _, s.out, rfl⟩
    · obtain ⟨r, w, o, h⟩ := s.sendMgt_eq 0x51 31 (s.notifyBody cause)
      rw [h]; exact ⟨_, w, _, o, rfl⟩

/-- The registers that a NOTIFY leaves. -/
theorem State.getReg_sendNotify (cause : Nat) {b : Nat} (h : b ∉ notifyRegs) : (s.sendNotify cause).getReg b = s.getReg b := by
  simp only [notifyRegs, List.mem_cons, List.not_mem_nil, or_false, not_or] at h
  obtain ⟨h1, h2, h3, h4⟩ := h
  unfold State.sendNotify
  generalize s.notifyBody cause = body
  split
  · rfl
  · split
    · rfl
    · exact (State.getReg_bump_ne _ _ _ _ _ h4).trans (s.getReg_sendMgt _ _ body h1 h2 h3)

/-- What raising an error changes. -/
theorem State.raiseErrBits_eq (p : Nat) (m : Word) :
    ∃ r w n o, s.raiseErrBits p m = { s with regs := r, mgtWait := w, notify := n, out := o } := by
  unfold State.raiseErrBits
  dsimp only
  split
  · obtain ⟨r, w, n, o, h⟩ := (s.setReg (regAddr p 0x20) (s.getReg (regAddr p 0x20) ||| m)).sendNotify_eq 0
    exact ⟨r, w, n, o, h⟩
  · exact ⟨_, _, _, _, rfl⟩

/-- What raising an error changes. -/
theorem State.raiseErr_eq (p : Nat) (f : Fld) :
    ∃ r w n o, s.raiseErr p f = { s with regs := r, mgtWait := w, notify := n, out := o } := s.raiseErrBits_eq p _

/-- What raising an event changes. -/
theorem State.raiseEvt_eq (p : Nat) (f : Fld) :
    ∃ r w n o, s.raiseEvt p f = { s with regs := r, mgtWait := w, notify := n, out := o } := by
  unfold State.raiseEvt
  dsimp only
  split
  · exact ⟨_, _, _, _, rfl⟩
  · obtain ⟨r, w, n, o, h⟩ := (s.setReg (regAddr p 0x38) (s.getReg (regAddr p 0x38) ||| (1#64 <<< f.lo))).sendNotify_eq 0
    exact ⟨r, w, n, o, h⟩

/-- The registers that raising an error leaves. -/
theorem State.getReg_raiseErr (p : Nat) (f : Fld) {b : Nat} (h : b ≠ regAddr p 0x20) (hn : b ∉ notifyRegs) :
    (s.raiseErr p f).getReg b = s.getReg b := by
  unfold State.raiseErr State.raiseErrBits
  dsimp only
  split
  · rw [State.getReg_sendNotify _ _ hn, State.getReg_setReg_ne _ _ h]
  · rw [State.getReg_setReg_ne _ _ h]

/-- The registers that raising an event leaves. -/
theorem State.getReg_raiseEvt (p : Nat) (f : Fld) {b : Nat} (h : b ≠ regAddr p 0x38) (hn : b ∉ notifyRegs) :
    (s.raiseEvt p f).getReg b = s.getReg b := by
  unfold State.raiseEvt
  dsimp only
  split
  · rw [State.getReg_setReg_ne _ _ h]
  · rw [State.getReg_sendNotify _ _ hn, State.getReg_setReg_ne _ _ h]

/-- The fields that raising an error leaves. -/
theorem State.rd_raiseErr (p q : Nat) (f g : Fld) (j : Nat) (h : regAddr q (g.atIx j) ≠ regAddr p 0x20)
    (hn : regAddr q (g.atIx j) ∉ notifyRegs) : (s.raiseErr p f).rd q g j = s.rd q g j := by
  unfold State.rd; rw [s.getReg_raiseErr p f h hn]

/-- The fields that raising an event leaves. -/
theorem State.rd_raiseEvt (p q : Nat) (f g : Fld) (j : Nat) (h : regAddr q (g.atIx j) ≠ regAddr p 0x38)
    (hn : regAddr q (g.atIx j) ∉ notifyRegs) : (s.raiseEvt p f).rd q g j = s.rd q g j := by
  unfold State.rd; rw [s.getReg_raiseEvt p f h hn]

@[simp] theorem State.sendNotify_mem (c : Nat) : (s.sendNotify c).mem = s.mem := by
  obtain ⟨r, w, n, o, h⟩ := s.sendNotify_eq c; rw [h]
@[simp] theorem State.sendNotify_dead (c : Nat) : (s.sendNotify c).dead = s.dead := by
  obtain ⟨r, w, n, o, h⟩ := s.sendNotify_eq c; rw [h]
@[simp] theorem State.sendNotify_resets (c : Nat) : (s.sendNotify c).resets = s.resets := by
  obtain ⟨r, w, n, o, h⟩ := s.sendNotify_eq c; rw [h]
@[simp] theorem State.sendNotify_tb (c : Nat) : (s.sendNotify c).tb = s.tb := by
  obtain ⟨r, w, n, o, h⟩ := s.sendNotify_eq c; rw [h]
@[simp] theorem State.sendNotify_free (c : Nat) : (s.sendNotify c).free = s.free := by
  obtain ⟨r, w, n, o, h⟩ := s.sendNotify_eq c; rw [h]
@[simp] theorem State.sendNotify_expertSecret (c : Nat) : (s.sendNotify c).expertSecret = s.expertSecret := by
  obtain ⟨r, w, n, o, h⟩ := s.sendNotify_eq c; rw [h]
@[simp] theorem State.sendNotify_reports (c : Nat) : (s.sendNotify c).reports = s.reports := by
  obtain ⟨r, w, n, o, h⟩ := s.sendNotify_eq c; rw [h]
@[simp] theorem State.sendNotify_seqs (c : Nat) : (s.sendNotify c).seqs = s.seqs := by
  obtain ⟨r, w, n, o, h⟩ := s.sendNotify_eq c; rw [h]
@[simp] theorem State.sendNotify_tiles (c : Nat) : (s.sendNotify c).tiles = s.tiles := by
  obtain ⟨r, w, n, o, h⟩ := s.sendNotify_eq c; rw [h]
@[simp] theorem State.sendNotify_caves (c : Nat) : (s.sendNotify c).caves = s.caves := by
  obtain ⟨r, w, n, o, h⟩ := s.sendNotify_eq c; rw [h]
@[simp] theorem State.sendNotify_ctxs (c : Nat) : (s.sendNotify c).ctxs = s.ctxs := by
  obtain ⟨r, w, n, o, h⟩ := s.sendNotify_eq c; rw [h]
@[simp] theorem State.sendNotify_wsp (c : Nat) : (s.sendNotify c).wsp = s.wsp := by
  obtain ⟨r, w, n, o, h⟩ := s.sendNotify_eq c; rw [h]
@[simp] theorem State.sendNotify_links (c : Nat) : (s.sendNotify c).links = s.links := by
  obtain ⟨r, w, n, o, h⟩ := s.sendNotify_eq c; rw [h]
@[simp] theorem State.sendNotify_bonds (c : Nat) : (s.sendNotify c).bonds = s.bonds := by
  obtain ⟨r, w, n, o, h⟩ := s.sendNotify_eq c; rw [h]
@[simp] theorem State.sendNotify_engines (c : Nat) : (s.sendNotify c).engines = s.engines := by
  obtain ⟨r, w, n, o, h⟩ := s.sendNotify_eq c; rw [h]
@[simp] theorem State.sendNotify_unrouted (c : Nat) : (s.sendNotify c).unrouted = s.unrouted := by
  obtain ⟨r, w, n, o, h⟩ := s.sendNotify_eq c; rw [h]
@[simp] theorem State.sendNotify_jobs (c : Nat) : (s.sendNotify c).jobs = s.jobs := by
  obtain ⟨r, w, n, o, h⟩ := s.sendNotify_eq c; rw [h]
@[simp] theorem State.sendNotify_dock (c : Nat) : (s.sendNotify c).dock = s.dock := by
  obtain ⟨r, w, n, o, h⟩ := s.sendNotify_eq c; rw [h]
@[simp] theorem State.sendNotify_boot (c : Nat) : (s.sendNotify c).boot = s.boot := by
  obtain ⟨r, w, n, o, h⟩ := s.sendNotify_eq c; rw [h]
@[simp] theorem State.sendNotify_fw (c : Nat) : (s.sendNotify c).fw = s.fw := by
  obtain ⟨r, w, n, o, h⟩ := s.sendNotify_eq c; rw [h]
@[simp] theorem State.sendNotify_mgtKey (c : Nat) : (s.sendNotify c).mgtKey = s.mgtKey := by
  obtain ⟨r, w, n, o, h⟩ := s.sendNotify_eq c; rw [h]
@[simp] theorem State.sendNotify_grps (c : Nat) : (s.sendNotify c).grps = s.grps := by
  obtain ⟨r, w, n, o, h⟩ := s.sendNotify_eq c; rw [h]
@[simp] theorem State.sendNotify_upds (c : Nat) : (s.sendNotify c).upds = s.upds := by
  obtain ⟨r, w, n, o, h⟩ := s.sendNotify_eq c; rw [h]
@[simp] theorem State.sendNotify_ces (c : Nat) : (s.sendNotify c).ces = s.ces := by
  obtain ⟨r, w, n, o, h⟩ := s.sendNotify_eq c; rw [h]
@[simp] theorem State.sendNotify_srvs (c : Nat) : (s.sendNotify c).srvs = s.srvs := by
  obtain ⟨r, w, n, o, h⟩ := s.sendNotify_eq c; rw [h]
@[simp] theorem State.sendNotify_caches (c : Nat) : (s.sendNotify c).caches = s.caches := by
  obtain ⟨r, w, n, o, h⟩ := s.sendNotify_eq c; rw [h]
@[simp] theorem State.sendNotify_cellar (c : Nat) : (s.sendNotify c).cellar = s.cellar := by
  obtain ⟨r, w, n, o, h⟩ := s.sendNotify_eq c; rw [h]
@[simp] theorem State.sendNotify_fab (c : Nat) : (s.sendNotify c).fab = s.fab := by
  obtain ⟨r, w, n, o, h⟩ := s.sendNotify_eq c; rw [h]
@[simp] theorem State.sendNotify_net (c : Nat) : (s.sendNotify c).net = s.net := by
  obtain ⟨r, w, n, o, h⟩ := s.sendNotify_eq c; rw [h]
@[simp] theorem State.sendNotify_fused (c : Nat) : (s.sendNotify c).fused = s.fused := by
  obtain ⟨r, w, n, o, h⟩ := s.sendNotify_eq c; rw [h]
@[simp] theorem State.sendNotify_flt (c : Nat) : (s.sendNotify c).flt = s.flt := by
  obtain ⟨r, w, n, o, h⟩ := s.sendNotify_eq c; rw [h]
@[simp] theorem State.sendNotify_power (c : Nat) : (s.sendNotify c).power = s.power := by
  obtain ⟨r, w, n, o, h⟩ := s.sendNotify_eq c; rw [h]
@[simp] theorem State.sendNotify_pending (c : Nat) : (s.sendNotify c).pending = s.pending := by
  obtain ⟨r, w, n, o, h⟩ := s.sendNotify_eq c; rw [h]

@[simp] theorem State.raiseErr_mem (p : Nat) (f : Fld) : (s.raiseErr p f).mem = s.mem := by
  obtain ⟨r, w, n, o, h⟩ := s.raiseErr_eq p f; rw [h]
@[simp] theorem State.raiseErr_dead (p : Nat) (f : Fld) : (s.raiseErr p f).dead = s.dead := by
  obtain ⟨r, w, n, o, h⟩ := s.raiseErr_eq p f; rw [h]
@[simp] theorem State.raiseErr_resets (p : Nat) (f : Fld) : (s.raiseErr p f).resets = s.resets := by
  obtain ⟨r, w, n, o, h⟩ := s.raiseErr_eq p f; rw [h]
@[simp] theorem State.raiseErr_tb (p : Nat) (f : Fld) : (s.raiseErr p f).tb = s.tb := by
  obtain ⟨r, w, n, o, h⟩ := s.raiseErr_eq p f; rw [h]
@[simp] theorem State.raiseErr_free (p : Nat) (f : Fld) : (s.raiseErr p f).free = s.free := by
  obtain ⟨r, w, n, o, h⟩ := s.raiseErr_eq p f; rw [h]
@[simp] theorem State.raiseErr_expertSecret (p : Nat) (f : Fld) : (s.raiseErr p f).expertSecret = s.expertSecret := by
  obtain ⟨r, w, n, o, h⟩ := s.raiseErr_eq p f; rw [h]
@[simp] theorem State.raiseErr_reports (p : Nat) (f : Fld) : (s.raiseErr p f).reports = s.reports := by
  obtain ⟨r, w, n, o, h⟩ := s.raiseErr_eq p f; rw [h]
@[simp] theorem State.raiseErr_seqs (p : Nat) (f : Fld) : (s.raiseErr p f).seqs = s.seqs := by
  obtain ⟨r, w, n, o, h⟩ := s.raiseErr_eq p f; rw [h]
@[simp] theorem State.raiseErr_tiles (p : Nat) (f : Fld) : (s.raiseErr p f).tiles = s.tiles := by
  obtain ⟨r, w, n, o, h⟩ := s.raiseErr_eq p f; rw [h]
@[simp] theorem State.raiseErr_caves (p : Nat) (f : Fld) : (s.raiseErr p f).caves = s.caves := by
  obtain ⟨r, w, n, o, h⟩ := s.raiseErr_eq p f; rw [h]
@[simp] theorem State.raiseErr_ctxs (p : Nat) (f : Fld) : (s.raiseErr p f).ctxs = s.ctxs := by
  obtain ⟨r, w, n, o, h⟩ := s.raiseErr_eq p f; rw [h]
@[simp] theorem State.raiseErr_wsp (p : Nat) (f : Fld) : (s.raiseErr p f).wsp = s.wsp := by
  obtain ⟨r, w, n, o, h⟩ := s.raiseErr_eq p f; rw [h]
@[simp] theorem State.raiseErr_links (p : Nat) (f : Fld) : (s.raiseErr p f).links = s.links := by
  obtain ⟨r, w, n, o, h⟩ := s.raiseErr_eq p f; rw [h]
@[simp] theorem State.raiseErr_bonds (p : Nat) (f : Fld) : (s.raiseErr p f).bonds = s.bonds := by
  obtain ⟨r, w, n, o, h⟩ := s.raiseErr_eq p f; rw [h]
@[simp] theorem State.raiseErr_engines (p : Nat) (f : Fld) : (s.raiseErr p f).engines = s.engines := by
  obtain ⟨r, w, n, o, h⟩ := s.raiseErr_eq p f; rw [h]
@[simp] theorem State.raiseErr_unrouted (p : Nat) (f : Fld) : (s.raiseErr p f).unrouted = s.unrouted := by
  obtain ⟨r, w, n, o, h⟩ := s.raiseErr_eq p f; rw [h]
@[simp] theorem State.raiseErr_jobs (p : Nat) (f : Fld) : (s.raiseErr p f).jobs = s.jobs := by
  obtain ⟨r, w, n, o, h⟩ := s.raiseErr_eq p f; rw [h]
@[simp] theorem State.raiseErr_dock (p : Nat) (f : Fld) : (s.raiseErr p f).dock = s.dock := by
  obtain ⟨r, w, n, o, h⟩ := s.raiseErr_eq p f; rw [h]
@[simp] theorem State.raiseErr_boot (p : Nat) (f : Fld) : (s.raiseErr p f).boot = s.boot := by
  obtain ⟨r, w, n, o, h⟩ := s.raiseErr_eq p f; rw [h]
@[simp] theorem State.raiseErr_fw (p : Nat) (f : Fld) : (s.raiseErr p f).fw = s.fw := by
  obtain ⟨r, w, n, o, h⟩ := s.raiseErr_eq p f; rw [h]
@[simp] theorem State.raiseErr_mgtKey (p : Nat) (f : Fld) : (s.raiseErr p f).mgtKey = s.mgtKey := by
  obtain ⟨r, w, n, o, h⟩ := s.raiseErr_eq p f; rw [h]
@[simp] theorem State.raiseErr_grps (p : Nat) (f : Fld) : (s.raiseErr p f).grps = s.grps := by
  obtain ⟨r, w, n, o, h⟩ := s.raiseErr_eq p f; rw [h]
@[simp] theorem State.raiseErr_upds (p : Nat) (f : Fld) : (s.raiseErr p f).upds = s.upds := by
  obtain ⟨r, w, n, o, h⟩ := s.raiseErr_eq p f; rw [h]
@[simp] theorem State.raiseErr_ces (p : Nat) (f : Fld) : (s.raiseErr p f).ces = s.ces := by
  obtain ⟨r, w, n, o, h⟩ := s.raiseErr_eq p f; rw [h]
@[simp] theorem State.raiseErr_srvs (p : Nat) (f : Fld) : (s.raiseErr p f).srvs = s.srvs := by
  obtain ⟨r, w, n, o, h⟩ := s.raiseErr_eq p f; rw [h]
@[simp] theorem State.raiseErr_caches (p : Nat) (f : Fld) : (s.raiseErr p f).caches = s.caches := by
  obtain ⟨r, w, n, o, h⟩ := s.raiseErr_eq p f; rw [h]
@[simp] theorem State.raiseErr_cellar (p : Nat) (f : Fld) : (s.raiseErr p f).cellar = s.cellar := by
  obtain ⟨r, w, n, o, h⟩ := s.raiseErr_eq p f; rw [h]
@[simp] theorem State.raiseErr_fab (p : Nat) (f : Fld) : (s.raiseErr p f).fab = s.fab := by
  obtain ⟨r, w, n, o, h⟩ := s.raiseErr_eq p f; rw [h]
@[simp] theorem State.raiseErr_net (p : Nat) (f : Fld) : (s.raiseErr p f).net = s.net := by
  obtain ⟨r, w, n, o, h⟩ := s.raiseErr_eq p f; rw [h]
@[simp] theorem State.raiseErr_fused (p : Nat) (f : Fld) : (s.raiseErr p f).fused = s.fused := by
  obtain ⟨r, w, n, o, h⟩ := s.raiseErr_eq p f; rw [h]
@[simp] theorem State.raiseErr_flt (p : Nat) (f : Fld) : (s.raiseErr p f).flt = s.flt := by
  obtain ⟨r, w, n, o, h⟩ := s.raiseErr_eq p f; rw [h]
@[simp] theorem State.raiseErr_power (p : Nat) (f : Fld) : (s.raiseErr p f).power = s.power := by
  obtain ⟨r, w, n, o, h⟩ := s.raiseErr_eq p f; rw [h]
@[simp] theorem State.raiseErr_pending (p : Nat) (f : Fld) : (s.raiseErr p f).pending = s.pending := by
  obtain ⟨r, w, n, o, h⟩ := s.raiseErr_eq p f; rw [h]

@[simp] theorem State.raiseEvt_mem (p : Nat) (f : Fld) : (s.raiseEvt p f).mem = s.mem := by
  obtain ⟨r, w, n, o, h⟩ := s.raiseEvt_eq p f; rw [h]
@[simp] theorem State.raiseEvt_dead (p : Nat) (f : Fld) : (s.raiseEvt p f).dead = s.dead := by
  obtain ⟨r, w, n, o, h⟩ := s.raiseEvt_eq p f; rw [h]
@[simp] theorem State.raiseEvt_resets (p : Nat) (f : Fld) : (s.raiseEvt p f).resets = s.resets := by
  obtain ⟨r, w, n, o, h⟩ := s.raiseEvt_eq p f; rw [h]
@[simp] theorem State.raiseEvt_tb (p : Nat) (f : Fld) : (s.raiseEvt p f).tb = s.tb := by
  obtain ⟨r, w, n, o, h⟩ := s.raiseEvt_eq p f; rw [h]
@[simp] theorem State.raiseEvt_free (p : Nat) (f : Fld) : (s.raiseEvt p f).free = s.free := by
  obtain ⟨r, w, n, o, h⟩ := s.raiseEvt_eq p f; rw [h]
@[simp] theorem State.raiseEvt_expertSecret (p : Nat) (f : Fld) : (s.raiseEvt p f).expertSecret = s.expertSecret := by
  obtain ⟨r, w, n, o, h⟩ := s.raiseEvt_eq p f; rw [h]
@[simp] theorem State.raiseEvt_reports (p : Nat) (f : Fld) : (s.raiseEvt p f).reports = s.reports := by
  obtain ⟨r, w, n, o, h⟩ := s.raiseEvt_eq p f; rw [h]
@[simp] theorem State.raiseEvt_seqs (p : Nat) (f : Fld) : (s.raiseEvt p f).seqs = s.seqs := by
  obtain ⟨r, w, n, o, h⟩ := s.raiseEvt_eq p f; rw [h]
@[simp] theorem State.raiseEvt_tiles (p : Nat) (f : Fld) : (s.raiseEvt p f).tiles = s.tiles := by
  obtain ⟨r, w, n, o, h⟩ := s.raiseEvt_eq p f; rw [h]
@[simp] theorem State.raiseEvt_caves (p : Nat) (f : Fld) : (s.raiseEvt p f).caves = s.caves := by
  obtain ⟨r, w, n, o, h⟩ := s.raiseEvt_eq p f; rw [h]
@[simp] theorem State.raiseEvt_ctxs (p : Nat) (f : Fld) : (s.raiseEvt p f).ctxs = s.ctxs := by
  obtain ⟨r, w, n, o, h⟩ := s.raiseEvt_eq p f; rw [h]
@[simp] theorem State.raiseEvt_wsp (p : Nat) (f : Fld) : (s.raiseEvt p f).wsp = s.wsp := by
  obtain ⟨r, w, n, o, h⟩ := s.raiseEvt_eq p f; rw [h]
@[simp] theorem State.raiseEvt_links (p : Nat) (f : Fld) : (s.raiseEvt p f).links = s.links := by
  obtain ⟨r, w, n, o, h⟩ := s.raiseEvt_eq p f; rw [h]
@[simp] theorem State.raiseEvt_bonds (p : Nat) (f : Fld) : (s.raiseEvt p f).bonds = s.bonds := by
  obtain ⟨r, w, n, o, h⟩ := s.raiseEvt_eq p f; rw [h]
@[simp] theorem State.raiseEvt_engines (p : Nat) (f : Fld) : (s.raiseEvt p f).engines = s.engines := by
  obtain ⟨r, w, n, o, h⟩ := s.raiseEvt_eq p f; rw [h]
@[simp] theorem State.raiseEvt_unrouted (p : Nat) (f : Fld) : (s.raiseEvt p f).unrouted = s.unrouted := by
  obtain ⟨r, w, n, o, h⟩ := s.raiseEvt_eq p f; rw [h]
@[simp] theorem State.raiseEvt_jobs (p : Nat) (f : Fld) : (s.raiseEvt p f).jobs = s.jobs := by
  obtain ⟨r, w, n, o, h⟩ := s.raiseEvt_eq p f; rw [h]
@[simp] theorem State.raiseEvt_dock (p : Nat) (f : Fld) : (s.raiseEvt p f).dock = s.dock := by
  obtain ⟨r, w, n, o, h⟩ := s.raiseEvt_eq p f; rw [h]
@[simp] theorem State.raiseEvt_boot (p : Nat) (f : Fld) : (s.raiseEvt p f).boot = s.boot := by
  obtain ⟨r, w, n, o, h⟩ := s.raiseEvt_eq p f; rw [h]
@[simp] theorem State.raiseEvt_fw (p : Nat) (f : Fld) : (s.raiseEvt p f).fw = s.fw := by
  obtain ⟨r, w, n, o, h⟩ := s.raiseEvt_eq p f; rw [h]
@[simp] theorem State.raiseEvt_mgtKey (p : Nat) (f : Fld) : (s.raiseEvt p f).mgtKey = s.mgtKey := by
  obtain ⟨r, w, n, o, h⟩ := s.raiseEvt_eq p f; rw [h]
@[simp] theorem State.raiseEvt_grps (p : Nat) (f : Fld) : (s.raiseEvt p f).grps = s.grps := by
  obtain ⟨r, w, n, o, h⟩ := s.raiseEvt_eq p f; rw [h]
@[simp] theorem State.raiseEvt_upds (p : Nat) (f : Fld) : (s.raiseEvt p f).upds = s.upds := by
  obtain ⟨r, w, n, o, h⟩ := s.raiseEvt_eq p f; rw [h]
@[simp] theorem State.raiseEvt_ces (p : Nat) (f : Fld) : (s.raiseEvt p f).ces = s.ces := by
  obtain ⟨r, w, n, o, h⟩ := s.raiseEvt_eq p f; rw [h]
@[simp] theorem State.raiseEvt_srvs (p : Nat) (f : Fld) : (s.raiseEvt p f).srvs = s.srvs := by
  obtain ⟨r, w, n, o, h⟩ := s.raiseEvt_eq p f; rw [h]
@[simp] theorem State.raiseEvt_caches (p : Nat) (f : Fld) : (s.raiseEvt p f).caches = s.caches := by
  obtain ⟨r, w, n, o, h⟩ := s.raiseEvt_eq p f; rw [h]
@[simp] theorem State.raiseEvt_cellar (p : Nat) (f : Fld) : (s.raiseEvt p f).cellar = s.cellar := by
  obtain ⟨r, w, n, o, h⟩ := s.raiseEvt_eq p f; rw [h]
@[simp] theorem State.raiseEvt_fab (p : Nat) (f : Fld) : (s.raiseEvt p f).fab = s.fab := by
  obtain ⟨r, w, n, o, h⟩ := s.raiseEvt_eq p f; rw [h]
@[simp] theorem State.raiseEvt_net (p : Nat) (f : Fld) : (s.raiseEvt p f).net = s.net := by
  obtain ⟨r, w, n, o, h⟩ := s.raiseEvt_eq p f; rw [h]
@[simp] theorem State.raiseEvt_fused (p : Nat) (f : Fld) : (s.raiseEvt p f).fused = s.fused := by
  obtain ⟨r, w, n, o, h⟩ := s.raiseEvt_eq p f; rw [h]
@[simp] theorem State.raiseEvt_flt (p : Nat) (f : Fld) : (s.raiseEvt p f).flt = s.flt := by
  obtain ⟨r, w, n, o, h⟩ := s.raiseEvt_eq p f; rw [h]
@[simp] theorem State.raiseEvt_power (p : Nat) (f : Fld) : (s.raiseEvt p f).power = s.power := by
  obtain ⟨r, w, n, o, h⟩ := s.raiseEvt_eq p f; rw [h]
@[simp] theorem State.raiseEvt_pending (p : Nat) (f : Fld) : (s.raiseEvt p f).pending = s.pending := by
  obtain ⟨r, w, n, o, h⟩ := s.raiseEvt_eq p f; rw [h]

end Sys2Proof.Machine
end

