-- ==== Sys2Proof/WellFormed.lean ====
section
/-! DEFINITION. The commands that the interfaces can carry: every operand inside the width or the range that the spec gives
it. The meanings answer on any operand; the well-formed commands are those that can arrive. -/

namespace Sys2Proof

/-- A number that fits in n bits. -/
def fitsIn (n v : Nat) : Bool := decide (v < 2 ^ n)

/-- A register address is 32 bits wide (R23). -/
def addrOk (a : Nat) : Bool := fitsIn 32 a

/-- A page index is 16 bits wide (R23). -/
def pageOk (p : Nat) : Bool := fitsIn 16 p

/-- A transport message (R370): its header fields fit, its payload holds 1 to 16,448 bytes, and it came in on one of the 256
ports (R152) or, as 256, from the module's own blocks. -/
def Msg.wf (m : Msg) : Bool :=
  decide (m.port ≤ 256) && fitsIn 8 m.version && fitsIn 8 m.cls && fitsIn 16 m.flags && fitsIn 32 m.dst && fitsIn 32 m.src
    && fitsIn 32 m.bondSeq && decide (1 ≤ m.body.length) && decide (m.body.length ≤ 16448)

/-- A mailbox message (R436): its header fields fit, its TAG is 12 bytes, its payload holds at most 4,096 bytes. -/
def MgtReq.wf (f : MgtReq) : Bool :=
  fitsIn 8 f.major && fitsIn 8 f.minor && fitsIn 8 f.flags && fitsIn 16 f.length && fitsIn 8 f.pair && fitsIn 32 f.seq
    && f.tag.length == 12 && decide (f.payload.length ≤ 4096)

/-- A CONTROL message on either path (R370, R438). -/
def CtlMsg.wf (c : CtlMsg) : Bool := match c with | .mgmt f => f.wf | .port m => m.wf

/-- A management frame (R435). -/
def MgtFrame.wf (fr : MgtFrame) : Bool := fitsIn 16 fr.ethertype && fitsIn 8 fr.opcode && fr.req.wf

/-- A report (R327): a page index, a bit number of ERR_STATUS or 0xFF, a job slot or none. -/
def Report.wf (r : Report) : Bool :=
  pageOk r.page && (decide (r.code < 64) || r.code == 0xFF) && decide (r.job ≤ 16) && fitsIn 64 r.count

/-- Whether a command can arrive. -/
def Instr.wf (i : Instr) : Bool :=
  match i with
  | .registerWrite _ addr _ _ => addrOk addr
  | .counterReadClear _ addr _ => addrOk addr
  | .warmResetReq _ _ => true
  | .jobResetReq _ _ => true
  | .blockReset _ page _ => pageOk page
  | .resetDone _ page => pageOk page
  | .blockDisable _ page _ => pageOk page
  | .blockEnable _ page _ => pageOk page
  | .drainDone page => pageOk page
  | .drainTimeout page => pageOk page
  | .expertOpen _ page _ => pageOk page
  | .errForce _ page _ => pageOk page
  | .expertKey _ _ => true
  | .expertLock _ _ => true
  | .tbaseAdjust _ _ => true
  | .slewDone => true
  | .rateTrim _ _ => true
  | .ppsEdge => true
  | .ppsMissing => true
  | .scrubTick _ _ _ _ => true
  | .commandFetch _ _ _ => true
  | .commandComplete _ _ => true
  | .gemm _ _ _ => true
  | .gemmT _ _ _ => true
  | .drain _ _ _ => true
  | .row _ _ _ => true
  | .vcfg _ _ _ => true
  | .vdrainHold _ _ _ => true
  | .vdrainCe _ _ _ => true
  | .vdrainConvert _ _ _ => true
  | .vclear _ _ _ => true
  | .cavePush _ _ _ => true
  | .cavePop _ _ _ => true
  | .wload _ _ _ => true
  | .wloadSpec _ _ _ => true
  | .send _ _ _ => true
  | .recv _ _ _ => true
  | .collRs _ _ _ => true
  | .collAg _ _ _ => true
  | .collBcast _ _ _ => true
  | .collA2a _ _ _ => true
  | .upd _ _ _ => true
  | .param _ _ _ => true
  | .epochBind _ _ _ => true
  | .epochPublish _ _ _ => true
  | .fence _ _ _ => true
  | .fenceArrival _ _ fid _ setHi => fitsIn 16 fid && fitsIn 20 setHi
  | .fenceTimeout _ => true
  | .anchorCheck _ _ _ => true
  | .anchorCheckEval _ => true
  | .reversalDone _ => true
  | .idleWindow _ _ _ => true
  | .windowEnd _ => true
  | .windowBudgetExpiry _ => true
  | .markOpen _ _ _ => true
  | .markClose _ _ _ => true
  | .stepEnd _ _ _ => true
  | .stepEnded _ => true
  | .stepSyncPulse _ _ => true
  | .syncMessage m => m.wf
  | .seqResume _ _ _ => true
  | .docketFetch => true
  | .docket c => c.wf
  | .empty c => c.wf
  | .fetchTimeout => true
  | .fitRecheck _ _ => true
  | .programLoadDone _ _ => true
  | .loadTimeout _ => true
  | .keyWaitTimeout _ => true
  | .install c => c.wf
  | .revoke c => c.wf
  | .cancel c => c.wf
  | .installPendingExpiry _ => true
  | .portQuiesceDone _ => true
  | .reportLost _ => true
  | .weightSegment m => m.wf
  | .wsAnswer m => m.wf
  | .notReadyRetry _ => true
  | .epochWaitTimeout _ => true
  | .segTimeout _ => true
  | .leaderWaitTimeout _ => true
  | .keyMissingTimeout _ => true
  | .cavePushArrival _ => true
  | .recomputeDone _ => true
  | .updRun _ => true
  | .egressDone _ _ _ => true
  | .egressTimeout _ _ _ => true
  | .mirrorSeg m => m.wf
  | .mirrorDone m => m.wf
  | .mirrorAck m => m.wf
  | .mirrorCommit m => m.wf
  | .mirrorRollback m => m.wf
  | .restoreReq m => m.wf
  | .restoreEnd m => m.wf
  | .mirrorTimeout _ _ => true
  | .initTimeout _ _ => true
  | .level0Complete _ _ => true
  | .collVote m => m.wf
  | .collData m => m.wf
  | .collResult m => m.wf
  | .resultReadbackDone _ _ => true
  | .collDigest m => m.wf
  | .collAbort m => m.wf
  | .collResend m => m.wf
  | .collRedo m => m.wf
  | .collMove m => m.wf
  | .barrierEnter _ => true
  | .collBarrier m => m.wf
  | .outcome m => m.wf
  | .collRollback m => m.wf
  | .chunkTimeout _ _ _ => true
  | .resultMissingTimeout _ _ => true
  | .collTimeout _ _ => true
  | .barrierTimeout _ => true
  | .heartbeatSend _ => true
  | .heartbeat m => m.wf
  | .heartbeatMiss _ _ => true
  | .suspect m => m.wf
  | .probe m => m.wf
  | .probeAck m => m.wf
  | .probeWaitExpiry _ _ => true
  | .leaderSilence _ => true
  | .propose m => m.wf
  | .accept m => m.wf
  | .memberCommit m => m.wf
  | .acceptWaitExpiry _ => true
  | .leave m => m.wf
  | .abandon m => m.wf
  | .join m => m.wf
  | .joinAck m => m.wf
  | .serveRequest m => m.wf
  | .serveClose m => m.wf
  | .streamIdle _ _ => true
  | .queueWaitExpiry _ _ => true
  | .batchWaitExpiry _ _ => true
  | .batchAdmit _ => true
  | .batchDone _ => true
  | .cacheLoad _ _ => true
  | .cacheUnload _ _ => true
  | .cachePin _ _ => true
  | .cacheUnpin _ _ => true
  | .manifestChunk m => m.wf
  | .cacheRetry _ => true
  | .useDecay => true
  | .openWrite f => f.wf
  | .erase f => f.wf
  | .seal f => f.wf
  | .abort f => f.wf
  | .cellarData f => f.wf
  | .cellarSessionIdle => true
  | .routeCommit _ _ => true
  | .routeCheckDone => true
  | .detourDrainTimeout _ => true
  | .vcStall _ => true
  | .xferPost _ => true
  | .xferAck _ => true
  | .faultReport rep => rep.wf
  | .sentinelTick _ wrong => wrong.all (fun t => decide (t < 272))
  | .blockHeartbeatMiss page => pageOk page
  | .recoveryResume _ => true
  | .strikeWindowExpiry => true
  | .fltInject _ _ => true
  | .forceDisable _ _ => true
  | .engineFail _ cause => decide (cause < 3)
  | .engineCfg _ _ _ => true
  | .trainRetry _ _ => true
  | .linkTrained _ credits => (credits.length == 8)
  | .ident m => m.wf
  | .linkDown _ _ => true
  | .downFlit _ => true
  | .dataFlit _ flit => (flit.length == 256)
  | .nak _ ack => fitsIn 16 ack
  | .replayTimeout _ => true
  | .sinkTimeout _ => true
  | .faultyExpiry _ => true
  | .portEnable _ _ _ _ => true
  | .serCheck _ _ _ _ => true
  | .lmap _ _ _ => true
  | .lmapAck _ _ _ => true
  | .lmapTimeout _ => true
  | .laneOutWrite _ _ _ => true
  | .soak _ _ _ => true
  | .bertRunNow _ _ _ => true
  | .bertAbort _ _ _ => true
  | .bertInterval _ => true
  | .bertStart _ _ => true
  | .bertEnd _ _ => true
  | .xferPostMsg m => m.wf
  | .xferData m => m.wf
  | .xferAckMsg m => m.wf
  | .sizeErr m => m.wf
  | .xferTimeout _ _ => true
  | .tsyncTick => true
  | .tsyncResp _ _ _ _ _ => true
  | .tsyncMiss => true
  | .stackScrubTick _ line _ => decide (line < 1000000000)
  | .stackFail _ cause => decide (cause < 4)
  | .stackRemapDone _ => true
  | .zoneFrame => true
  | .governorTick volts => (volts.length == 84)
  | .droop _ _ => true
  | .droopEnd _ => true
  | .powerSample zones rails => (zones.length == 84) && (rails.length == 7)
  | .capWrite _ _ => true
  | .alertAssert _ => true
  | .alertDeassert => true
  | .alertHoldExpiry => true
  | .alertRampTick => true
  | .thermalSample _ => true
  | .readmit _ => true
  | .zoneTimeout _ => true
  | .overvolt _ => true
  | .railFault _ => true
  | .refclkLoss => true
  | .regionPllUnlock _ => true
  | .trimWrite _ _ _ => true
  | .tsetWrite _ _ _ _ => true
  | .telemetryRecord _ => true
  | .mmcPowerLoop => true
  | .rccPowerLoop _ => true
  | .mpuTrap _ => true
  | .rccWatchdog _ _ => true
  | .rccRestartDone _ => true
  | .mmcWatchdog => true
  | .mmcTwinReady => true
  | .mgtLaneFault _ => true
  | .getInfo f => f.wf
  | .attest f => f.wf
  | .ownerBind f => f.wf
  | .provisionMgtKey f => f.wf
  | .imagePush f => f.wf
  | .regRead f => f.wf
  | .regWrite f => f.wf
  | .keyInstallWeight f => f.wf
  | .keyInstallCache f => f.wf
  | .keyInstallMirror f => f.wf
  | .keyInstallExpert f => f.wf
  | .keyInstallMgt f => f.wf
  | .keyErase f => f.wf
  | .lifecycleDebug f => f.wf
  | .lifecycleRetired f => f.wf
  | .notifyGapExpiry => true
  | .powerUp => true
  | .modResetAssert => true
  | .modResetRelease => true
  | .regionBistDone _ failed => failed.all (fun r => decide (r < 84))
  | .stackTrainDone passed => passed.all (fun i => decide (i < 26))
  | .linkTrainExpiry => true
  | .helloTick => true
  | .assign c => c.wf
  | .updateResend => true
  | .updateAck c => c.wf
  | .sportStageEnd => true
  | .tbLockEnd _ => true
  | .presentLoss => true
  | .extestEnter => true
  | .extestLeave => true
  | .laneLockLoss _ _ => true
  | .mgtLaneUp _ => true
  | .clkPllUnlock _ => true
  | .coreCheckFail _ _ => true
  | .lockstepMismatch => true
  | .selftestDone _ => true
  | .updateGapExpiry => true
  | .cellarLoadDone _ => true
  | .badMgtFrame fr => fr.wf
  | .badOpcode _ _ _ => true

end Sys2Proof
end

