-- ==== Sys2Proof/Tests/Slice0.lean ====
section
/-! SUPPORT. The model's own tests: an ill-formed command for each check of WellFormed, worked examples of the spec, and for
each statement with hypotheses a state and operands that meet them (theorems `witness_…`). -/

open Sys2Proof Sys2Proof.Machine

namespace Sys2Proof.Tests

set_option Elab.async false

/-- State.reset with fields written: (page, field, value, index). -/
def st (l : List (Nat × Fld × Nat × Nat)) (s : State := State.reset) : State :=
  l.foldl (fun s x => s.wr x.1 x.2.1 x.2.2.1 x.2.2.2) s

/-- A module past its boot, with NOTIFY off. -/
def ready : State := st [(pGLB, GLB_STATUS_BOOT_STAGE, 0x0A, 0), (pMGT, MGT_NOTIFY_CFG_EN, 0, 0)]

def p46 : Nat := regPage 46

/-- Job slot 0 RUNNING on region 46 alone, which plays logical region 0 and is in RUN at index 0 of a stream of ten commands. -/
def run0 : State := st [(pPLC, PLC_REGION_STATE, 0, 46), (pPLC, PLC_REGION_HELD, 1, 46), (pPLC, PLC_REGION_SLOT, 0, 46),
  (p46, REG_SEQ_STATUS_STATE, 2, 0), (p46, REG_SEQ_STATUS_LOGICAL, 0, 0), (p46, REG_SEQ_LEN_MAIN_LEN, 10, 0),
  (p46, REG_STEP_STATUS_FINAL, 1, 0), (p46, REG_STEP_STATUS_N_CUR, 1, 0), (pSCT, SCT_JOB_LIMIT, 8, 0), (pDOCK, DOCK_JOB_STATE, 3, 0),
  (pMEM, MEM_EXTENT_VALID, 1, 0), (pMEM, MEM_EXTENT_LEN_GB, 8, 0),
  (p46, REG_VAT_REGION_VALID, 1, 0), (p46, REG_VAT_REGION_LENGTH, 64, 0)] ready

/-- The image of slot 0: one logical region, an update area, four bucket descriptors of the four OPs, and a region map. -/
def img0 : List Host.Cell := ([(6, 1), (0x280050, 1), (0x280054, 1), (0x2C0000, 4), (0x2C0040, 1), (0x2C0056, 0x30), (0x2C0060, 2), (0x2C0064, 1),
  (0x2C0076, 0x30), (0x2C0080, 3), (0x2C0084, 2), (0x2C0096, 0x30), (0x2C00A0, 4), (0x2C00A4, 3), (0x2C00B6, 0x30), (0x300004, 1)] : List (Nat × Byte)).map
    fun c => ⟨c.1, c.2⟩

def job0 : State := { run0 with mem := img0, jobs := [(0, { docket := List.replicate 94 0#8 ++ [4#8, 0#8] ++ List.replicate 416 0#8 })] }

/-- A record of layer 1 with SID 1, and its push. -/
def rec1 : CaveRec := { layer := 1, mb := 255, sid := 1, kind := 0, fmt := 0, bs16 := false, rect := 0, bytes := 33 }
def push1 : CavePush := ⟨rec1, [List.replicate 33 0#8], false, false, 0, 0⟩
/-- Slot 0's job holds port 4, an S-port that is UP and KEYED with partition key 77H; the module is module 5. -/
def net0 : State := st [(pOPT + 1, OPT_PORT_LSTATE, 3, 0), (pDOCK, DOCK_PORT_HELD, 1, 4), (pDOCK, DOCK_PORT_SLOT, 0, 4),
  (pDOCK, DOCK_PORT_STATE, 2, 4), (pDOCK, DOCK_JOB_PART_KEY, 0x77, 0), (pGLB, GLB_MODULE_ID_VALID, 1, 0), (pGLB, GLB_MODULE_ID_ID, 5, 0)] job0
/-- A message of that job on port 4. -/
def m4 (cls : Nat) (body : List Byte) : Msg := { port := 4, cls := cls, key := 0x77#64, dst := 5, body := body }
/-- A CONTROL message under key 0 on port 4. -/
def c4 (ctype cseq : Nat) (body : List Byte) : Msg := { port := 4, cls := 0, dst := 5, body := leBytes 4 ctype ++ leBytes 4 cseq ++ body }
/-- A mailbox request that carries the TAG of a 32-byte management key. -/
def mgt0 : State := { st [(pMGT, MGT_STATUS_KEY_VALID, 1, 0)] net0 with mgtKey := List.replicate 32 7#8 }
def req (opcode pair seq : Nat) (payload : List Byte) (flags : Nat := 0) : MgtReq :=
  let f : MgtReq := { length := payload.length, pair := pair, seq := seq, tag := [], flags := flags, payload := payload }
  { f with tag := mgt0.mgtTag (mgtHeader 2 3 opcode flags payload.length 0 pair seq 0#64) payload }
/-- A message that some job slot takes is admitted without a change. -/
theorem admitted_of {s : State} {m : Msg} {j : Nat} (h : (s.admitMsg m).2 = some j) : Admitted s m j := by
  have : (s.admitMsg m).2 = some j → s.admitMsg m = (s, some j) := by
    unfold State.admitMsg
    dsimp only
    (repeat' split) <;> intro h <;> first | exact Prod.ext rfl h | exact absurd h (by simp)
  exact this h
/-- Slot 0's job is grouped with members 0 to 2, and this module is member `me`; group entry 0 lists all three at level 1. -/
def grp0 (me : Nat) (join : Nat := 0) : State := st [(pPLC, PLC_JOB_LOST_A, 0xFFFF, 0), (pPLC, PLC_JOB_LOST_B, 0xFFFF, 0)]
  { net0 with mem := img0 ++ (([(0x380000, 3), (0x380002, 1), (0x380004, BitVec.ofNat 8 me), (0x38000E, BitVec.ofNat 8 join), (0x380040, 3),
    (0x380045, 0x10), (0x381002, 1), (0x381004, 2)] : List (Nat × Byte)).filter (·.2 != 0#8)).map fun c => ⟨c.1, c.2⟩ }
theorem leBytes_length (n v : Nat) : (leBytes n v).length = n := by induction n generalizing v <;> simp [leBytes, *]
theorem head_length (p : CPkt) : p.head.length = 60 := by
  unfold CPkt.head
  simp only [List.length_append, leBytes_length]
theorem byteAt_append (a b : List Byte) (k : Nat) : byteAt (a ++ b) (a.length + k) = byteAt b k := by
  simp only [byteAt, List.getD_eq_getElem?_getD]
  rw [List.getElem?_append_right (Nat.le_add_right ..), Nat.add_sub_cancel_left]
theorem leAt_append (a b : List Byte) (k n : Nat) : leAt (a ++ b) (a.length + k) n = leAt b k n := by
  induction n generalizing k with
  | zero => rfl
  | succ n ih => rw [leAt, leAt, byteAt_append, Nat.add_assoc, ih]
theorem leAt_le4 (c : Nat) (b : List Byte) (h : c < 2 ^ 32) : leAt (leBytes 4 c ++ b) 0 4 = c := by
  simp only [leAt, leBytes, byteAt, List.cons_append, List.getD_cons_zero, List.getD_cons_succ, BitVec.toNat_ofNat, Nat.zero_add]
  omega
/-- A packet's own CRC passes. -/
theorem cpkt_crc (p : CPkt) : cpktCrcOk p.bytes = true := by
  have hl := head_length p
  have h1 : p.bytes.take 60 = p.head := by rw [CPkt.bytes, List.append_assoc, ← hl, List.take_left]
  have h2 : p.bytes.drop 64 = p.payload := by
    have : (p.head ++ leBytes 4 (crc32c (p.head ++ p.payload)).toNat).length = 64 := by
      rw [List.length_append, hl, leBytes_length]
    rw [CPkt.bytes, ← this, List.drop_left]
  have h3 : leAt p.bytes 60 4 = (crc32c (p.head ++ p.payload)).toNat :=
    calc leAt p.bytes 60 4 = leAt p.bytes (p.head.length + 0) 4 := by rw [hl]
      _ = leAt (leBytes 4 (crc32c (p.head ++ p.payload)).toNat ++ p.payload) 0 4 := by
        rw [CPkt.bytes, List.append_assoc, leAt_append]
      _ = _ := leAt_le4 _ _ (crc32c (p.head ++ p.payload)).isLt
  have h4 : 64 ≤ p.bytes.length := by
    rw [CPkt.bytes, List.length_append, List.length_append, hl, leBytes_length]; omega
  rw [cpktCrcOk, h1, h2, h3, decide_eq_true h4, Bool.true_and, beq_self_eq_true]
/-- A request that carries its TAG passes the checks of the mailbox when it passes the others. -/
theorem tag_ok {s : State} (opcode pair seq : Nat) (payload : List Byte) (flags : Nat) (h : s.mgtKey = mgt0.mgtKey) :
    s.tagOk opcode (req opcode pair seq payload flags) = true := by
  have hk : mgt0.mgtKey ≠ [] := by decide
  simp [State.tagOk, req, State.mgtTag, h, hk]
def mailRest (s : State) (open_ : Bool) (least : Nat) (f : MgtReq) : Bool :=
  !s.wholeReset && s.stage != 1 && s.stage != 0xFE && f.major == 2 && f.flags % 4 == 0 && decide (f.pair < 28) && f.length == f.payload.length
    && decide (f.length ≤ 4096) && (open_ || (s.rd pMGT MGT_STATUS_KEY_VALID != 0 && decide (s.rd pMBX MBX_PAIR_LAST_SEQ_IN f.pair < f.seq)))
    && s.rd pMBX MBX_PAIR_BUSY f.pair != 1 && decide (least ≤ f.length)
theorem mail_ok {s : State} {opcode pair seq least flags : Nat} {payload : List Byte} {open_ : Bool}
    (h : s.mgtKey = mgt0.mgtKey ∧ mailRest s open_ least (req opcode pair seq payload flags) = true) :
    s.mailOk opcode open_ least (req opcode pair seq payload flags) = true := by
  obtain ⟨hk, hr⟩ := h
  simp only [mailRest, Bool.and_eq_true] at hr
  simp only [State.mailOk, tag_ok opcode pair seq payload flags hk, Bool.and_eq_true, Bool.and_true]
  exact hr
theorem shaRound_length (p : ShaParam) (h : List Nat) (kw : Nat × Nat) (hl : h.length = 8) : (shaRound p h kw).length = 8 := by
  match h, hl with
  | [_, _, _, _, _, _, _, _], _ => rfl
theorem foldl_length {α : Type} (f : List Nat → α → List Nat) (hf : ∀ h a, h.length = 8 → (f h a).length = 8) (l : List α)
    (h : List Nat) (hl : h.length = 8) : (l.foldl f h).length = 8 := by
  induction l generalizing h with
  | nil => exact hl
  | cons a l ih => exact ih _ (hf _ _ hl)
theorem shaBlock_length (p : ShaParam) (h : List Nat) (b : List Byte) (hl : h.length = 8) : (shaBlock p h b).length = 8 := by
  simp only [shaBlock, List.length_map, List.length_zip, foldl_length _ (shaRound_length p) _ h hl, hl, Nat.min_self]
theorem beBytes_length (n v : Nat) : (beBytes n v).length = n := by simp [beBytes, leBytes_length]
theorem sha384_length (b : List Byte) : (sha384 b).length = 48 := by
  have : ∀ l : List Nat, (l.flatMap (beBytes 8)).length = 8 * l.length := by
    intro l
    induction l with
    | nil => rfl
    | cons a l ih => rw [List.flatMap_cons, List.length_append, ih, beBytes_length, List.length_cons]; omega
  rw [sha384, List.length_take, shaHash, show sha512Param.w / 8 = 8 from rfl, this,
    foldl_length _ (fun h a => shaBlock_length _ h a) _ _ (by decide +kernel)]
  rfl

/-! ### WellFormed refuses an ill-formed term for each of its checks -/

def msg0 : Msg := { port := 4, cls := 0, body := [7#8] }
def req0 : MgtReq := { length := 0, pair := 0, seq := 1, tag := List.replicate 12 0#8, payload := [] }

theorem test_wf_accepts : (Instr.syncMessage msg0).wf = true ∧ (Instr.getInfo req0).wf = true ∧ Instr.slewDone.wf = true := by decide
theorem test_wf_address : (Instr.registerWrite .mgmt (2 ^ 32) 8 0#64).wf = false ∧ (Instr.counterReadClear .mgmt (2 ^ 32) 8).wf = false := by decide
theorem test_wf_page : (Instr.blockReset .mgmt 65536 4#64).wf = false ∧ (Instr.blockHeartbeatMiss 65536).wf = false := by decide
theorem test_wf_message : (Instr.syncMessage { msg0 with port := 257 }).wf = false ∧ (Instr.syncMessage { msg0 with body := [] }).wf = false ∧
    (Instr.heartbeat { msg0 with version := 256 }).wf = false ∧ (Instr.collData { msg0 with cls := 256 }).wf = false ∧
    (Instr.mirrorSeg { msg0 with flags := 2 ^ 16 }).wf = false ∧ (Instr.xferData { msg0 with dst := 2 ^ 32 }).wf = false ∧
    (Instr.serveRequest { msg0 with src := 2 ^ 32 }).wf = false ∧ (Instr.weightSegment { msg0 with bondSeq := 2 ^ 32 }).wf = false ∧
    (Instr.docket (.port { msg0 with body := [] })).wf = false := by decide
theorem test_wf_request : (Instr.getInfo { req0 with major := 256 }).wf = false ∧ (Instr.attest { req0 with minor := 256 }).wf = false ∧
    (Instr.regRead { req0 with flags := 256 }).wf = false ∧ (Instr.erase { req0 with length := 2 ^ 16 }).wf = false ∧
    (Instr.keyErase { req0 with pair := 256 }).wf = false ∧ (Instr.imagePush { req0 with seq := 2 ^ 32 }).wf = false ∧
    (Instr.ownerBind { req0 with tag := [] }).wf = false ∧ (Instr.install (.mgmt { req0 with tag := [] })).wf = false ∧
    (Instr.badMgtFrame ⟨true, 2 ^ 16, true, 0, req0⟩).wf = false ∧ (Instr.badMgtFrame ⟨true, 0, true, 256, req0⟩).wf = false := by decide
theorem test_wf_payload_length : (Instr.cellarData { req0 with payload := List.replicate 4097 0#8 }).wf = false := by decide +kernel
theorem test_wf_report : (Instr.faultReport { cls := .tile, unit := 0, page := 65536 }).wf = false ∧
    (Instr.faultReport { cls := .tile, unit := 0, code := 64 }).wf = false ∧ (Instr.faultReport { cls := .tile, unit := 0, job := 17 }).wf = false ∧
    (Instr.faultReport { cls := .tile, unit := 0, count := 2 ^ 64 }).wf = false := by decide
theorem test_wf_numbers : (Instr.fenceArrival 0 0 65536 0#64 0).wf = false ∧ (Instr.fenceArrival 0 0 0 0#64 (2 ^ 20)).wf = false ∧
    (Instr.sentinelTick 0 [272]).wf = false ∧ (Instr.engineFail 0 3).wf = false ∧ (Instr.linkTrained 0 []).wf = false ∧
    (Instr.dataFlit 0 []).wf = false ∧ (Instr.nak 0 65536).wf = false ∧ (Instr.stackScrubTick 0 1000000000 .ok).wf = false ∧
    (Instr.stackFail 0 4).wf = false ∧ (Instr.governorTick []).wf = false ∧ (Instr.powerSample [] []).wf = false ∧
    (Instr.regionBistDone [] [84]).wf = false ∧ (Instr.stackTrainDone [26]).wf = false := by decide

/-! ### The table gives no bits (log 2) -/

theorem test_no_table_bits : decodeTableWord 8 0 = none ∧ State.reset.withFetchWord 8 0 = State.reset := by decide +kernel

/-! ### Worked examples of the spec -/

/-- R8: REG17.ERR_STATUS is at 0x0111_0020. -/
theorem test_r8_address : regAddr (regPage 17) 0x20 = 0x01110020 := by decide
/-- R43: OPT05.ID reads 0x0040_0005_0001_4231; its error marks bit 5 of ERR_PAGE_MAP1. -/
theorem test_r43_id : State.reset.readValue (pOPT + 5) 0 = 0x0040000500014231 := by decide +kernel
theorem test_r43_map : (State.reset.raiseErr (pOPT + 5) OPT_ERR_STATUS_TX_FAULT).readValue pGLB 0x1008 = 32 := by decide +kernel
/-- R12: region (4, 5) has index 46. -/
theorem test_r12_position : regionPos 46 = (4, 5) ∧ regionAt 4 5 = some 46 := by decide
/-- R61: three BSI8 products at A = 32. -/
theorem test_r61_addends : ([((⟨96, 129, .bsi8⟩ : Opnd), (⟨3, 129, .bsi8⟩ : Opnd)), (⟨-24, 129, .bsi8⟩, ⟨5, 120, .bsi8⟩),
    (⟨96, 129, .bsi8⟩, ⟨5, 120, .bsi8⟩)].map fun p => addend p.1 p.2 32) = [72, -1, 0] := by decide
theorem test_r61_sum : (accRead ([72, -1, 0].foldl accAdd { anchor := 32 })).1 = 71 := by decide
/-- R68: 3.0, −0.75, 0.1 in binary32, 0.328125, −0.015625. -/
def r68vals : List FVal := [.fin ⟨3, 0⟩, .fin ⟨-3, -2⟩, .fin ⟨13421773, -27⟩, .fin ⟨21, -6⟩, .fin ⟨-1, -6⟩]
theorem test_r68_bsi8 : toBlock .bsi8 32 r68vals =
    ([0x81#8, 0x60#8, 0xE8#8, 0x03#8, 0x0A#8, 0x00#8] ++ List.replicate 27 0#8, false) := by decide +kernel
theorem test_r68_bsi4 : toBlock .bsi4 32 r68vals =
    ([0x81#8, 0xE6#8, 0x10#8, 0x00#8] ++ List.replicate 13 0#8, false) := by decide +kernel
/-- R121: the words of the example GEMM. -/
def r121 : Cmd := ⟨0x0030006000FA0310#64, 0x0004000000001000#64, 0x1080108000100000#64, 0x000000000000FF00#64⟩
theorem test_r121_gemm : r121.op = 0x10 ∧ r121.mb = 3 ∧ (gemmOp r121).anchor = -6 ∧ (gemmOp r121).m = 96 ∧ (gemmOp r121).n = 48 ∧
    (gemmOp r121).k = 4096 ∧ (gemmOp r121).addrA = 0x40000 ∧ (gemmOp r121).addrB = 0x100000 ∧ (gemmOp r121).ldA = 4224 ∧
    (gemmOp r121).ldB = 4224 ∧ (rectTiles (gemmOp r121).rect).length = 256 := by decide +kernel
/-- R219: w = 2, η = 0.125, β1 = 0.5, β2 = 0.75, ε = 0.5, λ = 0.25, g = 0.5: w′ = 1.875, m′ = 0.25, v′ = 0.0625. -/
theorem test_r219_adaptive : (updRow 1 false [0x3E000000, 0x3F000000, 0x3F400000, 0x3F000000, 0x3E800000] 0x3F000000 0x3E800000
    ⟨[0x3F000000], [0x40000000], [0], [0], 0⟩ {}).1 = ([0x3FF00000], [0x3E800000], [0x3D800000]) := by decide +kernel
/-- R250, R253, R365: the check values of the three CRCs for the bytes "123456789". -/
def digits : List Byte := [0x31#8, 0x32#8, 0x33#8, 0x34#8, 0x35#8, 0x36#8, 0x37#8, 0x38#8, 0x39#8]
theorem test_crcs : crc64 digits = 0x6C40DF5F0B497347#64 ∧ crc32c digits = 0xE3069283#32 ∧ crc32 digits = 0xCBF43926#32 := by decide +kernel
/-- R170: EPOCH 4,100, LAYER 12, EXPERT 0xFFFF, GEN 0, LREGION 5, LTILE 200, SEG 22. -/
theorem test_r170_nonce : segNonce ⟨0, 12, 0xFFFF, 4100⟩ 0 5 200 22 =
    [0x04#8, 0x10#8, 0#8, 0#8, 0x0C#8, 0#8, 0xFF#8, 0xFF#8, 0#8, 0x05#8, 0x0B#8, 0xC8#8] := by decide +kernel
/-- R315: 3 to 22 is 0x0A, 80 to 61 is 0x1E. -/
theorem test_r315_routes : defaultRoute 3 22 = 0x0A ∧ defaultRoute 80 61 = 0x1E ∧ defaultRoute 46 45 = 0 := by decide
/-- R406: V_MIN at 1,075 and 1,100 MHz; R471: RUN at VID 150 is the slot 0xA580. -/
theorem test_r406_vmin : vMin (fun p => [80, 88, 98, 110, 124, 140, 158, 174].getD p 0) 1075 = 148 ∧
    vMin (fun p => [80, 88, 98, 110, 124, 140, 158, 174].getD p 0) 1100 = 151 := by decide
theorem test_r471_slot : zoneSlot 2 150 = 0xA580 := by decide
/-- R46: −1,500,000 ns left to slew and +600,000 written: −900,000 left and no step. -/
theorem test_r46_slew : ((State.reset.setSlew 1500000).applyAdjust 600000).tb.slew = 900000 ∧
    ((State.reset.setSlew 1500000).applyAdjust 600000).tb.count = 0 := by decide +kernel
/-- R382: slot 2 with the extents (0, 100, 300) and (100, 40, 700). -/
def ext2 : State := st [(pMEM, MEM_EXTENT_VALID, 1, 64), (pMEM, MEM_EXTENT_START_GB, 0, 64), (pMEM, MEM_EXTENT_LEN_GB, 100, 64),
  (pMEM, MEM_EXTENT_BASE_GB, 300, 64), (pMEM, MEM_EXTENT_VALID, 1, 65), (pMEM, MEM_EXTENT_START_GB, 100, 65),
  (pMEM, MEM_EXTENT_LEN_GB, 40, 65), (pMEM, MEM_EXTENT_BASE_GB, 700, 65)]
theorem test_r382_address : ext2.jobAddr 2 123456789000 = some 723456789000 ∧ ext2.jobAddr 2 140000000000 = none := by decide +kernel

/-! ### Witnesses: the queue, the registers, resets, the time base -/

theorem witness_StepRunsTheFrontCommand : ({ State.reset with pending := [.slewDone] } : State).pending = .slewDone :: [] ∧
    State.reset.pending = [] := ⟨rfl, rfl⟩
theorem witness_EveryCommandAnswersANextState : Memory.wf State.reset.mem = true ∧ (Instr.slewDone).mayWriteStack = false := by decide
theorem witness_MemoryStaysCanonical : Memory.wf State.reset.mem = true ∧ step State.reset = .next State.reset.idle :=
  ⟨by decide, rfl⟩
theorem witness_ResetIdNamesBlockTypeAndInstance : ((0x039 : Nat) ≤ 0x039 ∧ 0x020 ≤ 0x039 ∧ 0x039 - 0x020 = 25) ∧
    pageAssigned (pageOf 0x00130000) = false ∧ pageAssigned (pageOf 0x01540000) = false := by decide

/-- A module whose region 46 is fenced; one in a job reset. -/
def dead46 : State := st [(pPLC, PLC_REGION_STATE, 3, 46)]
def busy : State := { ready with resets := [(.job, 1)] }
theorem witness_RefusedAccessIsRecordedOnce :
    State.reset.wholeReset = false ∧ State.reset.refuses .jtag 0x00130000 8 true 0#64 = some GLB_ERR_STATUS_UNMAPPED ∧
    State.reset.refuses .jtag 4 4 false 0#64 = some GLB_ERR_STATUS_BAD_ACCESS ∧
    (st [(pGLB, GLB_ACCESS_ERR_ADDR_VALID, 1, 0)]).rd pGLB GLB_ACCESS_ERR_ADDR_VALID = 1 ∧
    State.reset.rd pGLB GLB_ACCESS_ERR_ADDR_VALID = 0 ∧ ready.rd pMGT MGT_NOTIFY_CFG_EN = 0 ∧
    pageAssigned (pageOf 0x00130000) = false ∧ (pageAssigned (pageOf 4) = true ∧ 4 % 8 ≠ 0) ∧
    State.reset.mayAccess (.rcc 5) pDOCK 0x10 true = false ∧
    (dead46.mayAccess .mgmt (regPage 46) 0x28 true = true ∧ dead46.deadPage (regPage 46) = true) ∧
    (busy.mayAccess .mgmt pCE 0x28 true = true ∧ busy.deadPage pCE = false ∧ busy.resetBusy pCE = true) ∧
    (ready.mayAccess .mgmt pGLB 0x10 true = true ∧ ready.deadPage pGLB = false ∧ ready.resetBusy pGLB = false ∧
      bit 2 1 = true ∧ ready.rd pGLB GLB_EXPERT_STATUS_MATCHED ≠ 1) ∧
    (State.reset.mayAccess .mgmt pMGT 0x100 false = true ∧ State.reset.deadPage pMGT = false) ∧
    regDefAt (pageOf 0x00000FF8) (offOf 0x00000FF8) = none := by decide +kernel
theorem witness_PlainWriteFollowsEachFieldsAccessType :
    (∃ d f, regDefAt (pageOf (regAddr pGLB 0x20)) (offOf (regAddr pGLB 0x20)) = some d ∧ f ∈ d.fields ∧ f.acc = .w1c) ∧
    (∃ d f, regDefAt (pageOf (regAddr pGLB 0x28)) (offOf (regAddr pGLB 0x28)) = some d ∧ f ∈ d.fields ∧ f.acc = .rw) ∧
    (∃ d f, regDefAt (pageOf (regAddr pGLB 0)) (offOf (regAddr pGLB 0)) = some d ∧ f ∈ d.fields ∧ f.acc = .ro) ∧
    (8 : Nat) ≠ 0 ∧ regDefAt (pageOf 0x00000FF8) (offOf 0x00000FF8) = none :=
  ⟨⟨(regDefAt pGLB 0x20).get (by decide +kernel), ((regDefAt pGLB 0x20).get (by decide +kernel)).fields.head (by decide +kernel),
      by decide +kernel, by decide +kernel, by decide +kernel⟩,
   ⟨(regDefAt pGLB 0x28).get (by decide +kernel), ((regDefAt pGLB 0x28).get (by decide +kernel)).fields.head (by decide +kernel),
      by decide +kernel, by decide +kernel, by decide +kernel⟩,
   ⟨(regDefAt pGLB 0).get (by decide +kernel), ((regDefAt pGLB 0).get (by decide +kernel)).fields.head (by decide +kernel),
      by decide +kernel, by decide +kernel, by decide +kernel⟩, by decide, by decide +kernel⟩
theorem witness_RegisterRowsComplete :
    (ready.served .mgmt (regAddr pGLB 0x28) 1#64 = true ∧ ownRow (pageOf (regAddr pGLB 0x28)) (offOf (regAddr pGLB 0x28)) = false) ∧
    (State.reset.wholeReset = false ∧ State.reset.refuses .mgmt (regAddr pGLB 0) 8 false 0#64 = none) ∧
    ({ State.reset with resets := [(.warm, 1)] } : State).wholeReset = true := by decide +kernel
theorem witness_CountersSaturate : GLB_C_ACCESS_ERR_COUNT.hi = 63 ∧ GLB_C_ACCESS_ERR_COUNT.lo = 0 := by decide
theorem witness_ErrorsAndEventsSetTheirBits : ready.rd pMGT MGT_NOTIFY_CFG_EN = 0 ∧
    (GLB_ERR_STATUS_UNMAPPED.hi = GLB_ERR_STATUS_UNMAPPED.lo ∧ GLB_ERR_STATUS_UNMAPPED.off = 0x20 ∧
      GLB_ERR_STATUS_UNMAPPED.stride = 0 ∧ GLB_ERR_STATUS_UNMAPPED.lo < 64) ∧
    (DOCK_EVT_STATUS_ENDED.hi = DOCK_EVT_STATUS_ENDED.lo ∧ DOCK_EVT_STATUS_ENDED.off = 0x38 ∧
      DOCK_EVT_STATUS_ENDED.stride = 0 ∧ DOCK_EVT_STATUS_ENDED.lo < 64) ∧
    (State.reset.raiseErr pGLB GLB_ERR_STATUS_UNMAPPED).errPending pGLB = true := by decide +kernel

theorem witness_ResetRowsComplete :
    (ready.served .mgmt (regAddr pGLB 0x108) 0xA5C3000000000001#64 = true ∧ GLB_RESET_REQ_CONFIRM.of 0xA5C3000000000001#64 = 0xA5C3 ∧
      GLB_RESET_REQ_KIND.of 0xA5C3000000000001#64 = 1 ∧ GLB_RESET_REQ_KIND.of 0xA5C3000000000002#64 = 2) ∧
    ready.served .mgmt (regAddr pGLB 0x108) 0xA5C3000000000002#64 = true ∧
    (ready.served .mgmt (regAddr pGLB 0x108) 0xA5C2000000000001#64 = true ∧ GLB_RESET_REQ_CONFIRM.of 0xA5C2000000000001#64 ≠ 0xA5C3) ∧
    (ready.served .mgmt (regAddr pCE 0x10) 5#64 = true ∧ bit 5 2 = true ∧ ctrlHas pCE 2 = true ∧
      (ready.plainWrite (regAddr pCE 0x10) 5#64).rd pCE cEnable = ready.rd pCE cEnable) ∧
    ({ ready with resets := [(.warm, 1)] } : State).resets = [(.warm, 1)] ∧ ({ ready with resets := [(.job, 2)] } : State).resets = [(.job, 2)] ∧
    ({ ready with resets := [(.block, pCE)] } : State).resets = [(.block, pCE)] ∧ ready.resets = [] ∧
    ({ ready with resets := [(.warm, 1)] } : State).wholeReset = true ∧
    (ready.wholeReset = false ∧ ready.stage ≠ 1 ∧ ready.stage ≠ 0xFE ∧ ready.resets.any (fun x => x.1 == .job) = false) ∧
    (({ ready with resets := [(.job, 2)] } : State).resets.any (fun x => x.1 == .job) = true ∧ jobPages.contains pCE = true) ∧
    (ready.wholeReset = false ∧ ready.stage ≠ 1 ∧ ready.resets.contains (.block, pCE) = false ∧
      (ready.resets.any (fun x => x.1 == .job) && jobPages.contains pCE) = false) := by decide +kernel
theorem witness_DisableAndEnableComplete :
    (ready.served .mgmt (regAddr pCE 0x10) 0#64 = true ∧ bit 0 2 = false ∧ ready.rd pCE cEnable = 1 ∧
      (ready.plainWrite (regAddr pCE 0x10) 0#64).rd pCE cEnable = 0) ∧
    ((st [(pCE, cEnable, 0, 0)] ready).served .mgmt (regAddr pCE 0x10) 1#64 = true ∧ (st [(pCE, cEnable, 0, 0)] ready).rd pCE cEnable = 0 ∧
      ((st [(pCE, cEnable, 0, 0)] ready).plainWrite (regAddr pCE 0x10) 1#64).rd pCE cEnable = 1) ∧
    (ready.served .mgmt (regAddr pCE 0x10) 1#64 = true ∧ (ready.plainWrite (regAddr pCE 0x10) 1#64).rd pCE cEnable = ready.rd pCE cEnable) ∧
    (pageAssigned pCE = true ∧ (st [(pCE, cDraining, 1, 0)]).rd pCE cDraining = 1 ∧ (st [(pCE, cDraining, 1, 0)]).blockItems pCE = [] ∧
      pCE < pREG) ∧
    ready.served .mgmt (regAddr pCE 0x30) 1#64 = true := by decide +kernel

/-- A secret of 32 bytes is installed. -/
def expert1 : State := { st [(pGLB, GLB_EXPERT_STATUS_SECRET_VALID, 1, 0)] ready with expertSecret := List.replicate 32 1#8 }
theorem witness_ExpertGate :
    (ready.served .mgmt (regAddr pGLB 0x118) 0#64 = true ∧ ready.rd pGLB GLB_EXPERT_STATUS_LOCKED_OUT = 0 ∧
      ready.rd pGLB GLB_EXPERT_STATUS_SECRET_VALID = 0) ∧
    ((st [(pGLB, GLB_EXPERT_STATUS_LOCKED_OUT, 1, 0)] ready).served .mgmt (regAddr pGLB 0x118) 0#64 = true ∧
      (st [(pGLB, GLB_EXPERT_STATUS_LOCKED_OUT, 1, 0)] ready).rd pGLB GLB_EXPERT_STATUS_LOCKED_OUT = 1) ∧
    (expert1.served .mgmt (regAddr pGLB 0x118) (BitVec.ofNat 64 expert1.expectedKey) = true ∧ expert1.rd pGLB GLB_EXPERT_STATUS_LOCKED_OUT = 0 ∧
      expert1.rd pGLB GLB_EXPERT_STATUS_SECRET_VALID = 1 ∧ (BitVec.ofNat 64 expert1.expectedKey).toNat = expert1.expectedKey ∧
      (0#64).toNat ≠ expert1.expectedKey) ∧
    7 ≤ (st [(pGLB, GLB_EXPERT_STATUS_FAILS, 7, 0)]).rd pGLB GLB_EXPERT_STATUS_FAILS ∧ State.reset.rd pGLB GLB_EXPERT_STATUS_FAILS < 7 ∧
    (ready.served .mgmt (regAddr pGLB 0x130) 1#64 = true ∧ GLB_EXPERT_LOCK_LOCK.of 1#64 = 1) := by decide +kernel

theorem witness_TimeBaseAdjustment :
    (ready.served .mgmt (regAddr pTBASE 0x110) (BitVec.ofInt 64 (-100000001)) = true ∧
      signed 48 (TBASE_ADJUST_OFFSET.of (BitVec.ofInt 64 (-100000001))) - ready.tb.slew < -100000000) ∧
    (ready.served .mgmt (regAddr pTBASE 0x110) 0#64 = true ∧ 0 ≤ signed 48 (TBASE_ADJUST_OFFSET.of 0#64) - ready.tb.slew) ∧
    (ready.served .mgmt (regAddr pTBASE 0x110) (BitVec.ofInt 64 (-100000000)) = true ∧
      -100000000 ≤ signed 48 (TBASE_ADJUST_OFFSET.of (BitVec.ofInt 64 (-100000000))) - ready.tb.slew ∧
      signed 48 (TBASE_ADJUST_OFFSET.of (BitVec.ofInt 64 (-100000000))) - ready.tb.slew < 0) := by decide +kernel
theorem witness_SlewNeverLastsLongerThanAllowed : (State.reset.setSlew 100000000).tb.slew ≤ 100000000 ∧
    (∃ t, exec .slewDone State.reset = .next t) ∧
    (∃ t, exec (.tbaseAdjust .mgmt 0#64) State.reset = .next t) ∧ (∃ t, exec .ppsEdge State.reset = .next t) ∧
    (∃ t, exec (.tsyncResp 4 0 0 0 0) State.reset = .next t) := ⟨by decide +kernel, ⟨_, rfl⟩, ⟨_, rfl⟩, ⟨_, rfl⟩, ⟨_, rfl⟩⟩

/-- Port 4 (engine 1, an S engine by R360) is UP and the sync source. -/
def tbst : State := st [(pTBASE, TBASE_CTRL_PPS_EN, 1, 0), (pTBASE, TBASE_STATUS_SOURCE, 1, 0), (pOPT + 1, OPT_PORT_LSTATE, 3, 0),
  (pCAL, CAL_TB_CFG_SPORT, 4, 0)] ready
theorem witness_TimeBaseRowsComplete :
    ((ready.setSlew 5).ratePpb = 0 ∧ (ready.setSlew 5).tb.rateFrac = 0 ∧ (ready.setSlew 5).tb.slew = 5) ∧
    (ready.served .mgmt (regAddr pTBASE 0x118) 100000#64 = true ∧ -100000 ≤ signed 24 (TBASE_RATE_TRIM_PPB.of 100000#64) ∧
      signed 24 (TBASE_RATE_TRIM_PPB.of 100000#64) ≤ 100000) ∧
    (ready.served .mgmt (regAddr pTBASE 0x118) 100001#64 = true ∧ 100000 < signed 24 (TBASE_RATE_TRIM_PPB.of 100001#64)) ∧
    (tbst.rd pTBASE TBASE_CTRL_PPS_EN = 1 ∧ tbst.rd pCAL CAL_TB_CFG_SRC_SEL ≠ 1 ∧ tbst.rd pTBASE TBASE_STATUS_SOURCE = 1) ∧
    ((st [(pCAL, CAL_TB_CFG_SRC_SEL, 1, 0)] tbst).rd pTBASE TBASE_CTRL_PPS_EN = 1 ∧
      (st [(pCAL, CAL_TB_CFG_SRC_SEL, 1, 0)] tbst).rd pCAL CAL_TB_CFG_SRC_SEL = 1 ∧
      ({ tbst.tb with count := 499999999 } : TimeBase).count % 1000000000 < 500000000) ∧
    ((st [(pCAL, CAL_TB_CFG_SRC_SEL, 2, 0)] tbst).rd pCAL CAL_TB_CFG_SRC_SEL = 2 ∧
      (st [(pCAL, CAL_TB_CFG_SRC_SEL, 2, 0)] tbst).rd pCAL CAL_TB_CFG_SPORT = 4 ∧ tbst.portExists 4 = true ∧ tbst.isS 4 = true ∧
      tbst.portUp 4 = true) ∧
    ({ tbst.power with sync := some (0, 0) } : PowerSt).sync = some (0, 0) := by decide +kernel

/-! ### Witnesses: tiles and command streams -/

theorem witness_TileAndFetchRowsComplete :
    ((st [(p46, REG_TILE_CTRL_SCRUB_EN, 1, 0)] run0).rd p46 REG_TILE_CTRL_SCRUB_EN = 1 ∧ run0.regionState 46 < 3 ∧
      tabGet (fun _ => 0) (run0.tileMem 46).scrub 255 < 32767) ∧
    (tabGet (fun _ => 0) (({ scrub := [(255, 32767)] } : TileMem)).scrub 255 = 32767) ∧
    (st [(p46, REG_TILE_CTRL_SCRUB_EN, 0, 0)] run0).rd p46 REG_TILE_CTRL_SCRUB_EN = 0 ∧
    (run0.seqState 46 ≠ 0 ∧ run0.seqState 46 ≠ 11 ∧ (run0.seq 46).buffer.length < 2048 ∧
      ((((run0.seq 46).buffer.map fun e => (e.1, e.2.1)) ++ (run0.seq 46).failed).filter (·.1 == false)).foldl
        (fun a e => max a (e.2 + 1)) (run0.rd p46 REG_SEQ_STATUS_PC) < run0.rd p46 REG_SEQ_LEN_MAIN_LEN ∧
      run0.jobPoison (run0.jobOf 46) (run0.rd p46 REG_SEQ_BASE_ADDR + 32 * 0) 32 = none ∧
      run0.jobAddr (run0.jobOf 46) (run0.rd p46 REG_SEQ_BASE_ADDR + 32 * 0) = some 0) ∧
    ((run0.cave 46).pushes.any (fun p => p.outId == 0) = false ∧
      run0.fab.sends.any (fun p => p.src == 46 && p.outId == 0 && p.dst.isNone) = false) ∧
    (((run0.setCave 46 { pushes := [push1] }).cave 46).pushes.any (fun p => p.outId == 0) = true) := by decide +kernel
def gemm1 : Cmd := ⟨0x000100010000FF10#64, 1#64, 0#64, 0#64⟩
def gemmT1 : Cmd := ⟨0x000100010100FF11#64, 1#64, 0#64, 0#64⟩
def drain1 : Cmd := ⟨0x000000000000FF20#64, 0#64, 0#64, 0#64⟩
def row1 : Cmd := ⟨0x000000010000FF21#64, 0#64, 0#64, 0#64⟩
/-- A GEMM waits for its DRAIN. -/
def runPend : State := run0.setSeq 46 { run0.seq 46 with pend := some { rect := 0, deferred := false, held := false, mRows := 1, nCols := 1, accs := [] } }
theorem witness_ArrayCommandsComplete :
    run0.canIssue 46 false 0 gemm1 0x10 (run0.gemmIssue 46 gemm1 false) = true ∧
    run0.canIssue 46 false 0 gemmT1 0x11 (run0.gemmIssue 46 gemmT1 true) = true ∧
    runPend.canIssue 46 false 0 drain1 0x20 (runPend.drainIssue 46 drain1 false) = true ∧
    run0.canIssue 46 false 0 row1 0x21 (run0.rowIssue 46 row1) = true := by decide +kernel
def vcfg1 : Cmd := ⟨0x000000408511FF22#64, 64#64, 0#64, 0#64⟩
def vhold1 : Cmd := ⟨0x000000000000FF23#64, 0x40000#64, 0#64, 0#64⟩
def vce1 : Cmd := ⟨0x000000000010FF23#64, 0x40000#64, 1#64, 1#64⟩
def vconv1 : Cmd := ⟨0x000000000020FF23#64, 0x40000#64, 0#64, 0#64⟩
def vclear1 : Cmd := ⟨0x000000000000FF24#64, 0x40000#64, 0#64, 0#64⟩
theorem witness_VatCommandsComplete :
    run0.canIssue 46 false 0 vcfg1 0x22 (run0.vcfgIssue 46 vcfg1) = true ∧
    ((vdrainOp vhold1).form = 0 ∧ run0.canIssue 46 false 0 vhold1 0x23 { run0.vdrainIssue 46 vhold1 with block := some pCAVE } = true) ∧
    ((vdrainOp vce1).form = 1 ∧ job0.canIssue 46 false 0 vce1 0x23 (job0.vdrainCeIssue 46 vce1) = true) ∧
    ((vdrainOp vconv1).form = 2 ∧ run0.canIssue 46 false 0 vconv1 0x23 (run0.vdrainIssue 46 vconv1) = true) ∧
    run0.canIssue 46 false 0 vclear1 0x24 (run0.vclearIssue 46 vclear1) = true ∧
    ((15 : Nat) < 16 ∧ 83 < 84 ∧ 255 < 256 ∧ 2 ^ 18 - 1 < 2 ^ 18 ∧ 2 ^ 18 < 2 ^ 19 ∧ 65535 < 2 ^ 16 ∧ 1 < 2) := by decide +kernel
def push30 : Cmd := ⟨0x000000000000FF30#64, 0x100000021#64, 0x10000#64, 0#64⟩
def pop31 : Cmd := ⟨0x000000000001FF31#64, 0x100000021#64, 0x10000#64, 0#64⟩
def wload40 : Cmd := ⟨0xFFFF00010000FF40#64, 0x10001#64, 33#64, 0#64⟩
def spec40 : Cmd := ⟨0x000100010001FF40#64, 0x10001#64, 33#64, 0#64⟩
def send50 : Cmd := ⟨0x000000000000FF50#64, 33#64, 0#64, 0#64⟩
def recv51 : Cmd := ⟨0x000000000000FF51#64, 33#64, 0#64, 0#64⟩
def runRec : State := run0.setCave 46 { recs := [rec1] }
/-- Slot 0 serves MODEL 1: its serve table (R286) lists it. -/
def runServe : State := { job0 with
  mem := img0 ++ [(0x3C0000, 1#8), (0x3C0040, 1#8)]
  jobs := [(0, { docket := List.replicate 6 0#8 ++ [1#8] ++ List.replicate 505 0#8 })] }
theorem witness_MoverCommandsComplete :
    run0.canIssue 46 false 0 push30 0x30 (run0.pushIssue 46 push30) = true ∧
    runRec.canIssue 46 false 0 pop31 0x31 (runRec.popIssue 46 pop31) = true ∧
    (wload40.w 0 16 16 = 0 ∧ run0.canIssue 46 false 0 wload40 0x40 (run0.wloadIssue 46 wload40) = true) ∧
    (spec40.w 0 16 16 = 1 ∧ run0.wloadServed 46 (wcmd spec40) = false ∧
      run0.canIssue 46 false 0 spec40 0x40 (run0.specIssue 46 spec40) = true) ∧
    (runServe.wloadServed 46 (wcmd spec40) = true ∧ runServe.canIssue 46 false 0 spec40 0x40 (runServe.wloadIssue 46 spec40) = true) ∧
    job0.canIssue 46 false 0 send50 0x50 (job0.xferIssue 46 send50 false) = true ∧
    job0.canIssue 46 false 0 recv51 0x51 (job0.xferIssue 46 recv51 true) = true := by decide +kernel
def coll60 (op : Nat) : Cmd := ⟨BitVec.ofNat 64 (0xFF60 + op * 65536), BitVec.ofNat 64 (op + 1), 0#64, 0#64⟩
def upd70 : Cmd := ⟨0x000000000000FF70#64, 0#64, 0#64, 1#64⟩
def param71 : Cmd := ⟨0x3F800000FF00FF71#64, 0#64, 0x100000000#64, 0#64⟩
def bind72 : Cmd := ⟨0x000000010000FF72#64, 0#64, 0#64, 0#64⟩
def publish72 : Cmd := ⟨0x000000010001FF72#64, 0#64, 0#64, 0#64⟩
def jobArea : State := job0.setUpd 0 { job0.upd 0 with entries := [(0, 0)] }
theorem witness_EngineCommandsComplete :
    ((coll60 0).w 0 17 16 = 0 ∧ job0.canIssue 46 false 0 (coll60 0) 0x60 (job0.collIssue 46 (coll60 0)) = true) ∧
    ((coll60 1).w 0 17 16 = 1 ∧ job0.canIssue 46 false 0 (coll60 1) 0x60 (job0.collIssue 46 (coll60 1)) = true) ∧
    ((coll60 2).w 0 17 16 = 2 ∧ job0.canIssue 46 false 0 (coll60 2) 0x60 (job0.collIssue 46 (coll60 2)) = true) ∧
    ((coll60 3).w 0 17 16 = 3 ∧ job0.canIssue 46 false 0 (coll60 3) 0x60 (job0.collIssue 46 (coll60 3)) = true) ∧
    run0.canIssue 46 false 0 upd70 0x70 (updIssue upd70) = true ∧
    (jobArea.areaBy (jobArea.jobOf 46) (upd70.w 1 40 0) = some (0, 0) ∧ jobArea.areaMatches (jobArea.jobOf 46) 0 upd70 = true ∧
      paramsOk (upd70.w 0 18 16) (jobArea.updParams 46 upd70) = true ∧ jobArea.rd pUPD UPD_AREA_WROTE 0 = 0) ∧
    run0.canIssue 46 false 0 param71 0x71 (paramIssue param71) = true ∧ param71.w 0 16 16 = 0 ∧
    (bind72.w 0 17 16 = 0 ∧ run0.canIssue 46 false 0 bind72 0x72 (epochIssue bind72 pWSP) = true) ∧
    (publish72.w 0 17 16 = 1 ∧ run0.canIssue 46 false 0 publish72 0x72 (epochIssue publish72 pUPD) = true) := by decide +kernel

/-! ### Witnesses: refusals, fences, spans, windows, marks, step ends -/

theorem witness_RefusedCommandHaltsTheRegion :
    (run0.issueIx 46 false = some 0 ∧ opcodes.contains (⟨0xFF00#64, 0, 0, 0⟩ : Cmd).op = false ∧
      run0.fetchedOk 46 false 0 ⟨0xFF00#64, 0, 0, 0⟩ = true ∧ (run0.seq 46).opens.contains (⟨0xFF00#64, 0, 0, 0⟩ : Cmd).mb = false) ∧
    run0.fetchedOk 46 false 0 ⟨0x000000010007FF21#64, 0, 0, 0⟩ = true ∧
    (run0.issueIx 46 false = some 0 ∧ (⟨0x000000010007FF21#64, 0, 0, 0⟩ : Cmd).op = 0x21 ∧ 0 < run0.rd p46 REG_SEQ_LEN_MAIN_LEN ∧
      run0.rd p46 REG_SEQ_EXPERT_BREAK_EN = 0 ∧ (run0.seq 46).opens.contains (⟨0x000000010007FF21#64, 0, 0, 0⟩ : Cmd).mb = false ∧
      run0.refusal 46 false ⟨0x000000010007FF21#64, 0, 0, 0⟩ (run0.rowIssue 46 ⟨0x000000010007FF21#64, 0, 0, 0⟩) = some REG_ERR_STATUS_BAD_FIELD ∧
      REG_ERR_STATUS_BAD_FIELD ≠ REG_ERR_STATUS_VAT_RANGE) ∧
    ((2 ^ 24 - 1 : Nat) < 2 ^ 24 ∧ 63 < 64) := by decide +kernel
def fence80 : Cmd := ⟨0x000000000000FF80#64, 1#64, 0#64, 0#64⟩
def runFence : State := (run0.setSeq 46 { run0.seq 46 with fenceAt := some ⟨0, 1, 0, false, 2⟩ }).setSeqState 46 4
theorem witness_FencesComplete :
    run0.canIssue 46 false 0 fence80 0x80 (run0.fenceIssue 46 fence80) = true ∧ (run0.seq 46).fenceAt = none ∧
    ((runFence.seq 46).fenceAt = some ⟨0, 1, 0, false, 2⟩ ∧
      (⟨0, 1, 0, false, 2⟩ : FenceAt).clash (runFence.logical 46) ⟨1, 0, (1#64).toNat + 0 % 65536 * 2 ^ 64⟩ = false) ∧
    runFence.seqState 46 = 4 ∧ fencePeers 1 (runFence.logical 46) = [] ∧ (runFence.seq 46).waitMet 0 = true ∧ (2 : Nat) < 16 := by
  decide +kernel
def check81 : Cmd := ⟨0x000000000000FF81#64, 0#64, 0#64, 0#64⟩
def runCheck (att : Nat) (mx : Int) : State :=
  (run0.setSeq 46 { run0.seq 46 with main := { opened := true, attempt := att, maxAnchor := mx } }).setSeqState 46 5
theorem witness_AnchorChecksComplete :
    run0.canIssue 46 false 0 check81 0x81 { badField := malformed check81 [] [] [] [], inRec := true } = true ∧
    ((runCheck 0 0).seqState 46 = 5 ∧ ((runCheck 0 0).seq 46).checkDef = false ∧
      ((runCheck 0 0).seq 46).outst.any (fun o => o.deferred == false && Nat.land o.cls 1 != 0) = false ∧
      (runCheck 0 0).anyFlag 46 (fNonfinite false) = false ∧ (runCheck 0 0).anyFlag 46 (fAnchorSat false) = false) ∧
    ((runCheck 0 0).wr p46 (fNonfinite false) 1 7).anyFlag 46 (fNonfinite false) = true ∧
    (((runCheck 2 0).wr p46 (fAnchorSat false) 1 7).anyFlag 46 (fNonfinite false) = false ∧
      ((runCheck 2 0).wr p46 (fAnchorSat false) 1 7).anyFlag 46 (fAnchorSat false) = true ∧
      (((runCheck 2 0).seq 46).span false).attempt = 2) ∧
    ((((runCheck 1 111).seq 46).span false).attempt ≠ 2 ∧ (111 : Int) + 8 * (((1 : Nat) : Int) + 1) ≤ 127 ∧
      (((runCheck 1 111).seq 46).span false).maxAnchor = 111) ∧
    (run0.setSeqState 46 6).seqState 46 = 6 := by decide +kernel
def win82 : Cmd := ⟨0x000000000000FF82#64, 0#64, 0#64, 0#64⟩
def runWin (u : Nat) : State := run0.startWindow 46 u false
theorem witness_IdleWindowsComplete :
    run0.canIssue 46 false 0 win82 0x82 (run0.windowIssue 46 win82) = true ∧
    (((runWin 0).seq 46).window = some ⟨0, false⟩ ∧ (runWin 0).seqState 46 = 3 ∧ (runWin 0).windowEnds 46 ⟨0, false⟩ = true) ∧
    (((runWin 1).seq 46).window = some ⟨1, false⟩ ∧ (runWin 1).windowEnds 46 ⟨1, false⟩ = false) := by decide +kernel
def open83 : Cmd := ⟨0x0000000000000083#64, 0#64, 0#64, 0#64⟩
def close83 : Cmd := ⟨0x000000000001FF83#64, 0#64, 0#64, 0#64⟩
def end84 : Cmd := ⟨0x000000000000FF84#64, 0#64, 0#64, 0#64⟩
/-- Two regions of slot 0 in STEP_WAIT; `l` is the LAST flag of the second. -/
def waiting (l : Bool) : State :=
  (st [(p46, REG_SEQ_STATUS_STATE, 8, 0), (pPLC, PLC_REGION_STATE, 0, 47), (pPLC, PLC_REGION_HELD, 1, 47),
    (pPLC, PLC_REGION_SLOT, 0, 47), (regPage 47, REG_SEQ_STATUS_STATE, 8, 0), (regPage 47, REG_SEQ_STATUS_LOGICAL, 1, 0)] run0).setSeq 47
      { lastFlag := l }
theorem witness_MarksAndStepEndComplete :
    (open83.w 0 17 16 = 0 ∧ run0.canIssue 46 false 0 open83 0x83 (markIssue open83 0) = true) ∧
    (close83.w 0 17 16 = 1 ∧ run0.canIssue 46 false 0 close83 0x83 (markIssue close83 1) = true) ∧
    run0.canIssue 46 false 0 end84 0x84 (run0.stepEndIssue 46 end84) = true ∧
    ((waiting true).allStepWait 0 = true ∧ (waiting true).serves 0 = false ∧
      ((waiting true).regionsOf 0).map (fun r => ((waiting true).seq r).lastFlag) = [false, true]) ∧
    ((waiting false).allStepWait 0 = true ∧ (waiting false).serves 0 = false ∧ (waiting false).stale 0 = false ∧
      ((waiting false).regionsOf 0).map (fun r => ((waiting false).seq r).lastFlag) = [false, false]) := by decide +kernel
def runSync : State := st [(p46, REG_STEP_CFG_SYNC_SRC, 1, 0)] net0
theorem witness_StepSyncRowsComplete :
    ready.runningJobs = [] ∧
    (runSync.runningJobs = [0] ∧ runSync.regionsOf 0 = [46] ∧ runSync.rd p46 REG_STEP_CFG_SYNC_SRC % 2 = 1 ∧ 1999 < 2000 ∧
      (2000 ≤ 2000 ∧ runSync.allStepWait 0 = false ∧ 80 ≤ 80 ∧ 200 ≤ 200 ∧ 400 ≤ 400 ∧ 800 ≤ 800) ∧ (200 < 201 ∧ 399 < 400 ∧ 800 < 801)) ∧
    (runSync.setSeqState 46 8).allStepWait 0 = true ∧
    (Admitted runSync (m4 0 (leBytes 8 7 ++ List.replicate 16 0#8)) 0 ∧ (m4 0 (leBytes 8 7 ++ List.replicate 16 0#8)).cls = 0 ∧
      byteAt (leBytes 8 7 ++ List.replicate 16 0#8) 0 = 7 ∧ leAt (leBytes 8 7 ++ List.replicate 16 0#8) 1 3 = 0 ∧ runSync.isS 4 = true) ∧
    (runSync.served .mgmt (regAddr p46 0x148) 1#64 = true ∧ bit 1 0 = true ∧ bit 0 0 = false) :=
  ⟨by decide +kernel, by decide +kernel, by decide +kernel, ⟨by unfold Admitted; decide +kernel, by decide +kernel⟩, by decide +kernel⟩

/-! ### Witnesses: dockets, jobs, job control -/

/-- The management port can carry a fetch. -/
def fetch0 : State := st [(pDOCK, DOCK_CTRL_FETCH_EN, 1, 0), (pMGT, MGT_CLUSTER_MAC_MAC, 1, 0), (pMGT, MGT_STATUS_LANE0_UP, 1, 0)] mgt0
/-- A fetch on port 4 with CSEQ 9 is outstanding. -/
def fetch1 : State := { fetch0 with dock := { fetch0.dock with fetch := some (.port 4, 9) } }
theorem witness_DocketFetchingCompletes :
    (fetch0.rd pDOCK DOCK_CTRL_FETCH_EN = 1 ∧ fetch0.freeSlots ≠ [] ∧ fetch0.dock.fetch = none ∧ fetch0.stage = 0x0A ∧
      fetch0.on pDOCK = true ∧ fetch0.rd pFLT FLT_STATUS_MODULE_FAILED = 0 ∧ fetch0.rd pDOCK DOCK_FETCH_CFG_SOURCE = 0 ∧
      fetch0.canAsk .mgmt = true ∧ fetch0.lifecycle ≠ 3) ∧
    ready.rd pDOCK DOCK_CTRL_FETCH_EN = 0 ∧
    (FetchTaken fetch1 (.port (c4 2 9 [0#8])) 2 fetch1 ∧ FetchTaken fetch1 (.port (c4 3 9 [])) 3 fetch1) ∧ fetch1.dock.fetch ≠ none :=
  ⟨by decide +kernel, by decide +kernel, ⟨⟨(.port 4, 9), by decide +kernel, by decide +kernel, by decide +kernel, by decide +kernel⟩,
    ⟨(.port 4, 9), by decide +kernel, by decide +kernel, by decide +kernel, by decide +kernel⟩⟩, by decide +kernel⟩

def dk1 : List Byte := List.replicate 104 0#8 ++ [1#8] ++ List.replicate 7 0#8
def loading : State := { st [(pDOCK, DOCK_JOB_STATE, 2, 1)] net0 with jobs := [(1, { docket := dk1 })] }
def fitting : State := { st [(pDOCK, DOCK_JOB_STATE, 1, 1)] net0 with jobs := [(1, { docket := dk1, fitWait := true })] }
def reloading : State := { net0 with flt := { reload := [0] } }
theorem witness_JobLoadingRowsComplete :
    (fitting.jobState 1 = 1 ∧ (fitting.job 1).fitWait = true ∧ fitting.rd pFAB FAB_STATUS_CHECK ≠ 1 ∧
      fitting.fits 1 (fitting.job 1).docket true = false) ∧
    loading.jobState 1 = 2 ∧ (reloading.jobState 0 = 3 ∧ reloading.flt.reload.contains 0 = true ∧ reloading.flt.remaps = []) ∧
    ((st [(pDOCK, DOCK_PORT_STATE, 1, 4)] net0).portSlot 4 = some 0 ∧ (st [(pDOCK, DOCK_PORT_STATE, 1, 4)] net0).portState 4 = 1 ∧
      (st [(pDOCK, DOCK_PORT_STATE, 1, 4)] net0).jobState 0 = 3) ∧
    (([0#8] : List Byte).length = leAt (loading.job 1).docket 104 8 ∧ sha384 [0#8] ≠ ((loading.job 1).docket.drop 120).take 48) := by
  refine ⟨?_, ?_, ?_, ?_, ?_, fun h => absurd (congrArg List.length h) ?_⟩
  rotate_right
  · rw [sha384_length]; decide +kernel
  all_goals decide +kernel
/-- A job control message: OP, then JOB_ID, KEY and PORT_MASK. -/
def jcm (op id : Nat) (mask : Nat) : List Byte := leBytes 4 0x4D4B5242 ++ [1#8, 0#8] ++ leBytes 1 op ++ [0#8] ++ leBytes 8 1 ++ leBytes 4 id
  ++ leBytes 4 0 ++ leBytes 8 0x77 ++ leBytes 32 mask ++ leBytes 96 0
/-- Signer entry 0 is valid, and the signature of `jcm 3 1 0` verifies under it. -/
def signer0 (s : State) : State := st [(pDOCK, DOCK_SIGNER_VALID, 1, 0)] (([0xe4545cd6d677d873, 0x9ba7fcc4ca197491,
  0xa9b608afb8b20e15, 0x43aa101e94d51d34, 0x1f8bb21bde5c912c, 0x66112d3ca00d6c44, 0xf024dd861696053a, 0xc799c6ce428bbc9f,
  0xbe2d3bf3b5a71970, 0xc2ada064124dec, 0xeedb89b7d21f7008, 0x6fe30ca9646c4c24] : List Nat).zipIdx.foldl
    (fun s x => s.wr pDOCK ⟨0x1008 + 8 * x.2, 63, 0, 0⟩ x.1 0) s)
def sig0 : List Byte :=
  beBytes 48 0x99c0e1ace05cb9748fd6e843271020a920c11d48a8e305caed0d8b2d0c834b62278378f6e807ce5b6ee0c5b81be64d4b
def jobCtl0 : State := signer0 (st [(pDOCK, DOCK_JOB_JOB_ID, 1, 0)] mgt0)
/-! ### Witnesses: the ends of jobs, weight streaming, caves, updates -/

/-- Port 4 is in QUIESCE; slot 1 is in TEARDOWN and slot 2 in ADMITTING. -/
def quiet0 : State := st [(pDOCK, DOCK_PORT_STATE, 3, 4), (pDOCK, DOCK_JOB_STATE, 4, 1), (pDOCK, DOCK_JOB_STATE, 1, 2)]
  { net0 with jobs := [(0, { report := [1#8] })], dock := { net0.dock with reports := [(5, .mgmt, [1#8])] } }
theorem witness_JobEndRowsComplete :
    (quiet0.portSlot 4 = some 0 ∧ quiet0.portState 4 = 3) ∧ quiet0.dock.reports.any (fun x => x.1 == 0) = false ∧ quiet0.dock.reports.any (fun x => x.1 == 1) = false ∧
    quiet0.dock.reports.any (fun x => x.1 == 5) = true ∧ (quiet0.job 0).report ≠ [] ∧ (quiet0.job 1).report = [] ∧
    quiet0.jobState 1 = 4 ∧ (quiet0.jobState 0 ≠ 0 ∧ quiet0.jobState 3 = 0 ∧ quiet0.jobState 2 = 1) := by decide +kernel

/-- Loads 0 to 3 of slot 0 and a cache load of entry 5: not ready, waiting for an epoch, waiting for a key, following. -/
def ld (id : Nat) : Load :=
  { id := id, slot := 0, region := 46, lregion := 0, obj := ⟨1, 0, 0, 0⟩, dst := 0, bytes := 33, rect := 0, sid := 1,
    outId := none, lead := true, spec := false, reads := true }
def weights0 : State := { net0 with
  wsp := { loads := [{ ld 0 with notReady := true }, { ld 1 with epochWait := true }, { ld 2 with keyWait := true },
    { ld 3 with reads := false, lead := false }, ld 4, { ld 5 with tries := 4000 }], binds := [⟨0, 46, 1, 0, 0, false, 0⟩] },
  caches := [(5, { load := some { epoch := 0, slot := 0, source := 0, notReady := true } })] }
theorem witness_WeightRowsComplete :
    WeightTaken net0 (m4 1 [0x57#8]) 0 ∧ (WeightTaken net0 (m4 1 [0x52#8]) 0 ∧ byteAt (m4 1 [0x52#8]).body 0 = 0x52) ∧
    (WeightTaken net0 (m4 1 [0x4E#8]) 0 ∧ byteAt (m4 1 [0x4E#8]).body 0 = 0x4E) ∧ parseWSeg [] = none ∧
    (timerEntry 0 = none ∧ weights0.loadAt 0 = some { ld 0 with notReady := true }) ∧
    (timerEntry (2 ^ 32 + 5) = some 5 ∧
      (weights0.cacheEnt 5).load = some { epoch := 0, slot := 0, source := 0, notReady := true }) ∧
    weights0.loadAt 1 = some { ld 1 with epochWait := true } ∧
    (weights0.loadAt 4 = some (ld 4) ∧ (ld 4).reads = true ∧ (ld 4).tries < weights0.rd pWSP WSP_LIMITS_RETRIES) ∧
    (weights0.loadAt 5 = some { ld 5 with tries := 4000 } ∧ weights0.rd pWSP WSP_LIMITS_RETRIES ≤ 4000) ∧
    weights0.loadAt 3 = some { ld 3 with reads := false, lead := false } ∧
    ((2 : Nat) < 2 ^ 33 ∧ weights0.loadAt 2 = some { ld 2 with keyWait := true }) ∧
    weights0.wsp.binds.find? (fun b => b.region == 46) = some ⟨0, 46, 1, 0, 0, false, 0⟩ := by
  unfold WeightTaken Admitted; decide +kernel

/-- A push on its way to region 46, and a recompute there that has ended. -/
def rcEnd (pushed : Bool) : State :=
  run0.setCave 46 { pushes := [push1], recs := [rec1], recomp := some ⟨false, 0, 4, 4, 1, 0, pushed, ⟨0, 0, 0, 0⟩⟩ }
theorem witness_CaveRowsComplete :
    ((rcEnd true).cave 46).pushes = [push1] ∧ (run0.cave 46).pushes = [] ∧
    (((rcEnd false).cave 46).recomp = some ⟨false, 0, 4, 4, 1, 0, false, ⟨0, 0, 0, 0⟩⟩ ∧ (4 : Nat) ≤ 4 ∧
      ((rcEnd false).seq 46).outst.any (fun o => Nat.land o.cls 5 != 0) = false) ∧
    (((rcEnd true).cave 46).recomp = some ⟨false, 0, 4, 4, 1, 0, true, ⟨0, 0, 0, 0⟩⟩ ∧
      (((rcEnd true).seq 46).span false).opened = false ∧
      ((rcEnd true).seq 46).outst.any (fun o => Nat.land o.cls 5 != 0) = false) := by decide +kernel

/-! ### Witnesses: updates and mirroring -/

/-- Slot 0 has area entry 3 for area 2, and a UPD of it from bucket 1, whose result counts `n`. -/
def updCmd : UpdCmd := { id := 0, region := 46, outId := 0, area := 3, params := [], tag := 1, step := 0, count := 1 }
def updB (n done : Nat) : Bucket :=
  { entry := 0, tag := 1, step := 0, gepoch := 0, tune := 0, desc := [], count := n, handed := true, done := done }
def upd0 (n done : Nat) : State := st [(pUPD, UPD_AREA_INIT_DONE, 1, 3)]
  { net0 with upds := [(0, { queue := [updCmd], entries := [(3, 2)], egress := [(1, 2)], restores := [⟨3, 7, 2, 0, [], 0⟩] })],
              ces := [(0, { buckets := [updB n done] })] }
def updStale : State := st [(pUPD, UPD_JOB_STALE, 1, 0)] (upd0 4 0)
/-- The UPD of `s` is queued, with bucket `b` and area entry 3. -/
def updFinds (s : State) (b : Bucket) : Prop := (s.upd 0).queue.find? (fun c => c.id == 0 / 16) = some updCmd ∧
  s.bucket 0 updCmd.tag updCmd.step = some b ∧ (s.areas 0).find? (fun x => x.1 == updCmd.area) = some (3, 2)
theorem witness_UpdateRowsComplete :
    (updFinds updStale (updB 4 0) ∧ updStale.stale 0 = true ∧ updStale.nextCommit 0 ≠ updCmd.count) ∧
    (updFinds (upd0 4 2) (updB 4 2) ∧ (upd0 4 2).stale 0 = false ∧ (upd0 4 2).rd pUPD UPD_AREA_INIT_DONE 3 ≠ 0 ∧ (updB 4 2).done = 2) ∧
    (updFinds (upd0 0 0) (updB 0 0) ∧ (upd0 0 0).stale 0 = false ∧ (upd0 0 0).rd pUPD UPD_AREA_INIT_DONE 3 ≠ 0 ∧
      (updB 0 0).done ≠ 2 ∧ (updB 0 0).handed = true ∧ (upd0 0 0).localResult 0 (updB 0 0) = some ([], 0)) ∧
    (updFinds (upd0 4 0) (updB 4 0) ∧ (upd0 4 0).stale 0 = false ∧ (upd0 4 0).rd pUPD UPD_AREA_INIT_DONE 3 ≠ 0 ∧
      (updB 4 0).done ≠ 2 ∧ (updB 4 0).handed = true ∧ (upd0 4 0).localResult 0 (updB 4 0) = some ([], 4)) ∧
    ((upd0 4 0).upd 0).egress.contains (1, 2) = true ∧ ((upd0 4 0).upd 0).egress.contains (1, 3) = false ∧
    (((upd0 4 0).areas 0).find? (fun x => x.2 == 2) = some (3, 2) ∧ ((upd0 4 0).upd 0).restores.any (fun t => t.entry == 3) = true) := by
  unfold updFinds; decide +kernel

def key0 : List Byte := List.replicate 32 0#8
def heldW : HeldImg := ⟨0, 2, 0, 4, 1, [(0, [])], true⟩
def outM : MirrorOut := ⟨2, 4, 1, [], 0, false⟩
def mir0 : State :=
  net0.setUpd 0 { mirrorKey := key0, held := [heldW], out := [outM], restores := [⟨3, 0, 2, 4, [], 0⟩], entries := [(3, 2)] }
/-- Mirror message OP of an owner and a direction for area 2, STEP 4, MSEQ 1, without payload, sealed with the key of slot 0. -/
def mx (op owner seg dir status : Nat) : MirMsg := ⟨op, owner, 2, 4, 1, seg, dir, status⟩
def mm (x : MirMsg) (pt : List Byte := []) : Msg := m4 3 (x.seal key0 pt)
theorem byteAt_left (a b : List Byte) (k : Nat) (h : k < a.length) : byteAt (a ++ b) k = byteAt a k := by
  simp only [byteAt, List.getD_eq_getElem?_getD, List.getElem?_append_left h]
theorem leAt_left (a b : List Byte) (k n : Nat) (h : k + n ≤ a.length) : leAt (a ++ b) k n = leAt a k n := by
  induction n generalizing k with
  | zero => rfl
  | succ n ih => rw [leAt, leAt, byteAt_left _ _ _ (by omega), ih _ (by omega)]
/-- A header that reads as `x` is parsed with the payload and the tag after it. -/
theorem mir_parsed (x : MirMsg) (h ct tag : List Byte) (hl : h.length = 32) (ht : tag.length = 16)
    (hx : (⟨byteAt h 1, leAt h 2 2, leAt h 4 2, leAt h 8 4, leAt h 12 4, leAt h 16 3, byteAt h 19, byteAt h 22⟩ : MirMsg) = x)
    (hc : byteAt h 0 = 0x4D ∧ 1 ≤ x.op ∧ x.op ≤ 7 ∧ x.dir < 2 ∧ leAt h 6 2 = 0 ∧ leAt h 23 9 = 0 ∧ leAt h 20 2 = ct.length ∧
      (if x.op = 1 then 1 ≤ ct.length ∧ ct.length ≤ 4096 else ct.length = 0)) : parseMir (h ++ (ct ++ tag)) = some (x, ct, tag) := by
  subst hx
  have hle : ∀ k n, k + n ≤ 32 → leAt (h ++ (ct ++ tag)) k n = leAt h k n := fun k n hk => leAt_left _ _ _ _ (by omega)
  have hby : ∀ k, k < 32 → byteAt (h ++ (ct ++ tag)) k = byteAt h k := fun k hk => byteAt_left _ _ _ (by omega)
  obtain ⟨c0, c1, c2, c3, c4, c5, c6, c7⟩ := hc
  have hd : (h ++ (ct ++ tag)).drop 32 = ct ++ tag := by rw [← hl, List.drop_left]
  simp only [parseMir, hle 20 2 (by omega), hle 2 2 (by omega), hle 4 2 (by omega), hle 8 4 (by omega), hle 12 4 (by omega), hle 16 3 (by omega),
    hle 6 2 (by omega), hle 23 9 (by omega), hby 0 (by omega), hby 1 (by omega), hby 19 (by omega), hby 22 (by omega), c6]
  rw [if_pos ⟨c0, c1, c2, c3, c4, c5, by simp only [List.length_append, hl, ht]; omega, c7⟩, hd, List.take_left, ← List.drop_drop, hd,
    List.drop_left]
theorem xor_opens (f : Nat → List Byte) (g : List Byte → List Byte) (pt ct : List Byte) (hp : pt.length ≤ 1)
    (hc : ct = (chunksOf 16 pt.length pt).zipIdx.flatMap fun q => xorBytes q.1 (f (q.2 + 2))) (hl : ct.length = pt.length) :
    (if g ct = g ct then some ((chunksOf 16 ct.length ct).zipIdx.flatMap fun q => xorBytes q.1 (f (q.2 + 2))) else none) = some pt := by
  rw [if_pos rfl]
  match pt, hp with
  | [], _ => rw [hc]; rfl
  | [p], _ =>
    have hd : ct = xorBytes [p] (f 2) := hc.trans (List.append_nil _)
    cases hb : f 2 with
    | nil => rw [hd, hb] at hl; cases hl
    | cons b0 b =>
      have : ct = [p ^^^ b0] := by rw [hd, hb]; rfl
      rw [this]
      show some (xorBytes [p ^^^ b0] (f 2) ++ []) = _
      rw [hb]
      simp [xorBytes]
/-- What is sealed opens again, for no byte and for one. -/
theorem gcm_opens (k n a pt : List Byte) (h : (gcmSeal k n a pt).1.length = pt.length) (hp : pt.length ≤ 1) :
    gcmOpen k n a (gcmSeal k n a pt).1 (gcmSeal k n a pt).2 = some pt := by
  have e := xor_opens (fun i => aesBlock aesSbox (aesKeys aesSbox k) (n ++ beBytes 4 i)) (fun ct => xorBytes (beBytes 16 (ghash
    (BitVec.ofNat 128 (beAt (aesBlock aesSbox (aesKeys aesSbox k) (List.replicate 16 0#8)) 0 16))
    (pad16 a ++ pad16 ct ++ beBytes 8 (8 * a.length) ++ beBytes 8 (8 * ct.length))).toNat)
    (aesBlock aesSbox (aesKeys aesSbox k) (n ++ beBytes 4 1))) pt (gcmSeal k n a pt).1 hp (by delta gcmSeal; with_reducible rfl) h
  have hs : (gcmSeal k n a pt).2 = xorBytes (beBytes 16 (ghash (BitVec.ofNat 128 (beAt (aesBlock aesSbox (aesKeys aesSbox k) (List.replicate 16 0#8)) 0 16))
      (pad16 a ++ pad16 (gcmSeal k n a pt).1 ++ beBytes 8 (8 * a.length) ++ beBytes 8 (8 * (gcmSeal k n a pt).1.length))).toNat)
      (aesBlock aesSbox (aesKeys aesSbox k) (n ++ beBytes 4 1)) := by delta gcmSeal; with_reducible rfl
  rw [hs]
  delta gcmOpen
  with_reducible exact e
theorem mirror_taken (x : MirMsg) (pt : List Byte)
    (h : ((mir0.admitMsg (mm x pt)).2 = some 0 ∧ (mir0.upd 0).mirrorKey = key0) ∧ (x.head pt.length).length = 32 ∧
      (gcmSeal key0 x.nonce (x.head pt.length) pt).2.length = 16 ∧
      (gcmSeal key0 x.nonce (x.head pt.length) pt).1.length = pt.length ∧ pt.length ≤ 1)
    (hx : let h := x.head pt.length
      (⟨byteAt h 1, leAt h 2 2, leAt h 4 2, leAt h 8 4, leAt h 12 4, leAt h 16 3, byteAt h 19, byteAt h 22⟩ : MirMsg) = x ∧
      byteAt h 0 = 0x4D ∧ 1 ≤ x.op ∧ x.op ≤ 7 ∧ x.dir < 2 ∧ leAt h 6 2 = 0 ∧ leAt h 23 9 = 0 ∧ leAt h 20 2 = pt.length ∧
      (if x.op = 1 then 1 ≤ pt.length ∧ pt.length ≤ 4096 else pt.length = 0)) : MirrorTaken mir0 (mm x pt) x.op 0 x pt := by
  obtain ⟨⟨h1, h2⟩, hl, ht, hc, hp⟩ := h
  have hb : (mm x pt).body = x.head pt.length ++ ((gcmSeal key0 x.nonce (x.head pt.length) pt).1 ++
      (gcmSeal key0 x.nonce (x.head pt.length) pt).2) := List.append_assoc ..
  refine ⟨admitted_of h1, rfl, rfl, by rw [h2]; decide, (gcmSeal key0 x.nonce (x.head pt.length) pt).1,
    (gcmSeal key0 x.nonce (x.head pt.length) pt).2, ?_, ?_⟩
  · rw [hb]
    exact mir_parsed x _ _ _ hl ht hx.1 (by rw [hc]; exact hx.2)
  · rw [h2, hb, ← hl, List.take_left]
    exact gcm_opens _ _ _ _ hc hp
/-! ### Witnesses: collectives and the barrier -/

/-- A bucket of tag 1 with level 1 selected. -/
def bk (levels : Nat := 2) (size : Nat := 0) : Bucket :=
  { entry := 0, tag := 1, step := 0, gepoch := 0, tune := 0,
    desc := [0#8, 0#8, 0#8, 0#8, 0#8, 0#8, 0#8, BitVec.ofNat 8 levels, BitVec.ofNat 8 size] }
def coll0 (b : Bucket) : State := (grp0 0).setCe 0 { buckets := [b] }
def cp (kind attempt gepoch : Nat) : CPkt := { (coll0 bk).bPkt 0 bk kind 1 1 0 with attempt := attempt, gepoch := gepoch }
def cm (p : CPkt) : Msg := m4 2 p.bytes
theorem cp_dhash (kind attempt gepoch : Nat) : (cp kind attempt gepoch).dhash = bk.dhash := by unfold cp State.bPkt; dsimp only
theorem cp_fields (kind attempt gepoch : Nat) : (cp kind attempt gepoch).kind = kind ∧ (cp kind attempt gepoch).gepoch = gepoch ∧
    (cp kind attempt gepoch).level = 1 ∧ (cp kind attempt gepoch).tag = 1 ∧ (cp kind attempt gepoch).step = 0 ∧
    (cp kind attempt gepoch).members = (coll0 bk).bMembers 0 bk 1 := by
  unfold cp State.bPkt; exact ⟨rfl, rfl, rfl, rfl, rfl, rfl⟩
theorem bk_has : bk.has 1 = true := by decide +kernel
theorem coll_taken (kind attempt : Nat) (h : ((coll0 bk).admitMsg (cm (cp kind attempt 0))).2 = some 0 ∧
      byteAt (cp kind attempt 0).bytes 0 = 0x43 ∧ parseCPkt (cp kind attempt 0).bytes = cp kind attempt 0 ∧
      (coll0 bk).bucket 0 1 0 = some bk) :
    CollTaken (coll0 bk) (cm (cp kind attempt 0)) kind 0 bk (cp kind attempt 0) := by
  obtain ⟨fk, fg, fl, ft, fs, fm⟩ := cp_fields kind attempt 0
  refine ⟨admitted_of h.1, rfl, h.2.1, h.2.2.1, fk, cpkt_crc _, ?_, fg, by decide +kernel,
    fun _ => ⟨cp_dhash .., fun _ => ?_⟩, ?_, ?_⟩
  · rw [ft, fs]; exact h.2.2.2
  · rw [fl]; exact fm
  · rw [fl]; exact bk_has
  · rw [fl]; decide
theorem witness_CollPacketsComplete :
    (∀ kind ∈ [1, 2, 3, 4, 5, 6, 10], CollTaken (coll0 bk) (cm (cp kind 0 0)) kind 0 bk (cp kind 0 0)) ∧
    (CollTaken (coll0 bk) (cm (cp 7 1 0)) 7 0 bk (cp 7 1 0) ∧ bk.attempt < 1 ∧ (cp 7 1 0).level = bk.top) ∧
    (∀ kind ∈ [1#8, 2#8, 3#8, 4#8, 5#8, 6#8, 7#8, 10#8], Admitted (coll0 bk) (m4 2 [0x43#8, kind]) 0 ∧
      (parseCPkt [0x43#8, kind]).kind = kind.toNat ∧ cpktCrcOk [0x43#8, kind] = false) ∧
    (∀ kind ∈ [1, 2, 3, 4, 5, 6, 7, 10], Admitted (coll0 bk) (cm (cp kind 0 7)) 0 ∧ byteAt (cp kind 0 7).bytes 0 = 0x43 ∧
      (parseCPkt (cp kind 0 7).bytes).kind = kind ∧ cpktCrcOk (cp kind 0 7).bytes = true ∧
      (parseCPkt (cp kind 0 7).bytes).gepoch ≠ (coll0 bk).gepoch 0) := by
  refine ⟨fun kind hk => coll_taken _ _ ?_, ⟨coll_taken _ _ (by decide +kernel), by decide +kernel⟩,
    fun kind hk => ⟨admitted_of ?_, ?_⟩, fun kind hk => ⟨admitted_of ?_, ?_, ?_, cpkt_crc _, ?_⟩⟩ <;> revert kind <;> decide +kernel

/-! ### Witnesses: the collective engine's moments and the barrier -/

/-- The bucket with one lane at level 0, or done; and the state with a COLL of region 46 for it. -/
def bm (level0 : Bool) (exps : List (Nat × Int × Nat) := []) : Bucket :=
  { bk 2 40 with level0 := level0, exps := exps, colls := [⟨46, 0, 0⟩] }
def moment (b : Bucket) (resends : List (Nat × Nat × Nat) := []) : State := (grp0 0).setCe 0 { buckets := [b], resends := resends }
theorem witness_CollMomentsComplete :
    ((moment (bm false)).ce 0).buckets.find? (fun b => b.tag == 1 && !b.level0 && b.done == 0 && (moment (bm false)).level0Ready 0 b) =
      some (bm false) ∧
    ((moment (bm true)).ce 0).buckets.find? (fun b => b.tag == 1 && b.op == 0 && b.level0 && !b.handed && b.done == 0) =
      some (bm true) ∧
    (((moment (bm true)).ce 0).buckets.find? (fun b => b.tag == 1 && b.has 1 && b.op == 0 && b.done == 0) = some (bm true) ∧
      (moment (bm true)).missingFrom 0 (bm true) 1 ≠ [] ∧ ((moment (bm true)).bPlayed 0 (bm true) 1).contains 1 = false ∧
      1 < ((moment (bm true)).bRanks 0 (bm true) 1).length ∧
      ((((moment (bm true)).ce 0).resends.find? fun x => x.1 == 1 && x.2.1 == 1).map (·.2.2)).getD 0 = 0 ∧
      0 < (moment (bm true)).rd pCE CE_LIMITS_CHUNK_RETRIES) ∧
    (((((moment (bm true) [(1, 1, 99)]).ce 0).resends.find? fun x => x.1 == 1 && x.2.1 == 1).map (·.2.2)).getD 0 = 99 ∧
      (moment (bm true) [(1, 1, 99)]).rd pCE CE_LIMITS_CHUNK_RETRIES ≤ 99 ∧
      (moment (bm true) [(1, 1, 99)]).missingFrom 0 (bm true) 1 ≠ [] ∧
      ((moment (bm true) [(1, 1, 99)]).ce 0).buckets.find? (fun b => b.tag == 1 && b.has 1 && b.op == 0 && b.done == 0) =
        some (bm true)) ∧
    ((moment (bm true [(1, 0, 1)])).ce 0).buckets.find? (fun b => b.tag == 1 && b.op == 0 && b.done == 0 && b.exps.any (·.1 == b.top)
      && decide (0 < b.top) && ((moment (bm true [(1, 0, 1)])).localResult 0 b).isNone) = some (bm true [(1, 0, 1)]) ∧
    ((moment (bm true)).ce ((moment (bm true)).jobOf 46)).buckets.find? (fun b => b.tag == 1 && b.done == 0 &&
      b.colls.any fun c => c.region == 46) = some (bm true) := by decide +kernel

/-- Region 46 has ended its step; `p` steps lie before it. -/
def ended (s : State) (p : List (Nat × Nat × List Nat) := []) : State :=
  (s.setSeq 46 { s.seq 46 with prevs := p }).setSeqState 46 8
/-- A packet of the commit group, STEP 0 unless given, without lanes. -/
def bp (kind level : Nat) (step : Nat := 0) : CPkt :=
  { kind := kind, level := level, tag := 0, step := step, gepoch := 0, members := 3, src := 1, dst := 0, payload := List.replicate 512 0#8 }
def barTakes (s : State) (kind : Nat) (p : CPkt) : Bool :=
  decide ((s.admitMsg (cm p)).2 = some 0) && decide (byteAt p.bytes 0 = 0x43) && decide (parseCPkt p.bytes = p) && decide (p.kind = kind) &&
    decide (p.gepoch = s.gepoch 0) && decide (p.tag = 0) && decide (p.payload.length = 512) &&
    decide (p.level ≤ 2) && decide (p.level ≠ 0)
theorem bar_taken {s : State} {kind : Nat} {p : CPkt} (h : barTakes s kind p = true) : BarTaken s (cm p) kind 0 p := by
  simp only [barTakes, Bool.and_eq_true, decide_eq_true_eq] at h
  obtain ⟨⟨⟨⟨⟨⟨⟨⟨a, b⟩, c⟩, d⟩, f⟩, g⟩, i⟩, j⟩, k⟩ := h
  exact ⟨admitted_of a, rfl, b, c, d, cpkt_crc p, f, g, i, j, k⟩
def entered0 : State := (ended (grp0 0)).setCe 0 { entered := true }
/-! ### Witnesses: membership -/

/-- A membership message of member 1. -/
def mp (op : Nat) (gepoch : Nat := 0) (cause : Nat := 0) : MemMsg := { op := op, gepoch := gepoch, src := 1, dst := 0, cause := cause }
def memTakes (s : State) (op : Nat) (anyEpoch : Bool) (x : MemMsg) : Bool :=
  decide ((s.admitMsg (m4 4 x.bytes)).2 = some 0) && decide (parseMember x.bytes = some x) && decide (x.op = op)
    && decide (anyEpoch = true ∨ x.gepoch = s.gepoch 0)
theorem mem_taken {s : State} {op : Nat} {anyEpoch : Bool} {x : MemMsg} (h : memTakes s op anyEpoch x = true) :
    MemberTaken s (m4 4 x.bytes) op anyEpoch 0 x := by
  simp only [memTakes, Bool.and_eq_true, decide_eq_true_eq] at h
  exact ⟨admitted_of h.1.1.1, rfl, h.1.1.2, h.1.2, h.2⟩
def proposal (accepts : List (Nat × Nat × Option (Nat × List Byte))) : Proposal := ⟨1, [], 1, none, accepts⟩
def proposing (accepts : List (Nat × Nat × Option (Nat × List Byte))) : State := (grp0 0).setGrp 0 { prop := some (proposal accepts) }
/-! ### Witnesses: serving, the model cache, the cellar -/

/-- Slot 0 is a serve job of model 1, with a stream, a request and a READY cache entry 5. -/
def sreq : SrvReq := { id := 0, model := 1, sid := 9, port := 4, src := 0, seq := 0, payload := [], waited := true }
def srvNet : State :=
  { net0 with mem := img0 ++ [⟨0x3C0000, 1⟩, ⟨0x3C0040, 1⟩, ⟨0x3C0042, 1⟩],
              jobs := [(0, { docket := List.replicate 6 0#8 ++ [1#8] ++ List.replicate 505 0#8 })] }
def srv0 (seqSt : Nat) (v : SrvJob) : State := st [(pCELL, CELL_MODEL_VALID, 1, 5), (pCELL, CELL_MODEL_MODEL, 1, 5),
  (pCELL, CELL_MODEL_SSTATE, 2, 5)] ((srvNet.setSrv 0 v).setSeqState 46 seqSt)
def srvQ : State := srv0 1 { streams := [⟨9, 4, 0, 0, false⟩], queue := [sreq] }
def srvB : State := srv0 8 { batch := some ⟨1, 5, 0, [sreq]⟩, begun := true }
def sm (op : Nat) : Msg := m4 5 (leBytes 1 0x53 ++ leBytes 1 op ++ leBytes 2 1 ++ leBytes 2 9 ++ leBytes 18 0)
theorem witness_ServingRowsComplete :
    SrvTaken srvQ (sm 1) 1 0 ∧ (SrvTaken srvQ (sm 2) 2 0 ∧
      (srvQ.srv 0).streams.any (fun x => x.sid == leAt (sm 2).body 4 2 && x.port == (sm 2).port) = true) ∧
    (srvQ.srv 0).streams.any (fun x => x.sid == 9 && !x.closing) = true ∧
    (srvQ.srv 0).queue.find? (fun r => r.id == 0) = some sreq ∧ srvQ.queued 0 1 = [sreq] ∧
    (srvQ.jobState 0 = 3 ∧ srvQ.serves 0 = true ∧ srvQ.batchFree 0 = true ∧ srvQ.rd pPLC PLC_JOB_RECOVERING 0 = 0 ∧
      let t := ((srvQ.srv 0).queue.map (·.model)).eraseDups.foldl (fun (s : State) m => s.wantLoad 0 m) srvQ
      (t.srv 0).queue.find? (fun r => t.qualifies 0 r.model && (match t.entryOf r.model with
        | some e => (t.curReady e).isSome
        | none => false)) = some sreq ∧
      t.serveEntry 0 1 = some 0x3C0040 ∧ t.entryOf 1 = some 5 ∧ t.curReady 5 = some 0) ∧
    ((srvB.srv 0).batch = some ⟨1, 5, 0, [sreq]⟩ ∧ srvB.allStepWait 0 = true ∧
      (srvB.regionsOf 0).any (fun r => !(srvB.seq r).outst.isEmpty) = false ∧
      ((srvB.regionsOf 0).map fun r => (srvB.seq r).lastFlag).any
        (· != ((srvB.regionsOf 0).map fun r => (srvB.seq r).lastFlag).headD false) = false) ∧
    (srvQ.srv 0).batch = none := by
  refine ⟨⟨admitted_of ?_, ?_⟩, ⟨⟨admitted_of ?_, ?_⟩, ?_⟩, ?_⟩ <;> decide +kernel

theorem witness_CacheCommandsComplete :
    (srvQ.served .mgmt (regAddr pCELL 0x108) 0x501#64 = true ∧ srvQ.entryValid (bits (0x501#64 : Word).toNat 12 8) = true ∧
      bits (0x501#64 : Word).toNat 2 0 = 1) ∧
    (srvQ.served .mgmt (regAddr pCELL 0x108) 0x502#64 = true ∧ srvQ.entryValid (bits (0x502#64 : Word).toNat 12 8) = true ∧
      bits (0x502#64 : Word).toNat 2 0 = 2) ∧
    (srvQ.served .mgmt (regAddr pCELL 0x108) 0x503#64 = true ∧ bits (0x503#64 : Word).toNat 2 0 = 3) ∧
    (srvQ.served .mgmt (regAddr pCELL 0x108) 0x504#64 = true ∧ bits (0x504#64 : Word).toNat 2 0 = 4) ∧
    (srvQ.served .mgmt (regAddr pCELL 0x108) 0x601#64 = true ∧ srvQ.entryValid (bits (0x601#64 : Word).toNat 12 8) = false) ∧
    (bits (0x500#64 : Word).toNat 2 0 = 0 ∧ 4 < bits (0x505#64 : Word).toNat 2 0) ∧
    ((st [(pCELL, CELL_MODEL_STATE, 4, 5)] srvQ).entryValid 5 = true ∧ (st [(pCELL, CELL_MODEL_STATE, 4, 5)] srvQ).cacheState 5 = 4) ∧
    (31 : Nat) < 32 := by decide +kernel

/-! ### Witnesses: the cellar -/

/-- A model image without pieces: KIND 0, model 1, epoch 3, its body empty; a header of 4,048 bytes and its hash. -/
def imgFields : List Byte := leBytes 4 0x49435242 ++ leBytes 2 0x0100 ++ leBytes 2 0 ++ leBytes 2 2 ++ leBytes 2 1 ++ leBytes 4 3
  ++ leBytes 8 4096 ++ leBytes 8 4096 ++ leBytes 16 0
def imgHead : List Byte := imgFields ++ (sha384 [] ++ List.replicate 3952 0#8)
def imgGood : List Byte := imgHead ++ sha384 imgHead
theorem imgHead_length : imgHead.length = 4048 := by
  rw [imgHead, List.length_append, List.length_append, sha384_length, List.length_replicate]; decide +kernel
theorem imgGood_body : imageBody imgGood = some [] := by
  have h1 : (imgGood.take 4048) = imgHead := by rw [imgGood, ← imgHead_length, List.take_left]
  have h2 : (imgGood.drop 4048) = sha384 imgHead := by rw [imgGood, ← imgHead_length, List.drop_left]
  have h3 : 4096 ≤ imgGood.length := by
    have h := imgHead_length
    have g := sha384_length imgHead
    simp only [imgGood, List.length_append]
    omega
  have h4 : (imgGood.drop 48).take 48 = sha384 [] := by
    have h5 : imgFields.length = 48 := by decide +kernel
    have h6 : imgGood = imgFields ++ (sha384 [] ++ (List.replicate 3952 0#8 ++ sha384 imgHead)) := by
      simp only [imgGood, imgHead, List.append_assoc]
    rw [h6, ← h5, List.drop_left, h5, ← sha384_length [], List.take_left]
  have h7 : leAt imgGood 32 4 = 0 := by decide +kernel
  have h8 : leAt imgGood 0 4 = 0x49435242 ∧ leAt imgGood 4 2 = 0x0100 ∧ byteAt imgGood 6 = 0 ∧ byteAt imgGood 7 = 0 := by decide +kernel
  simp only [imageBody, imageHeaderOk, h8, h7, h4, h1, h2, decide_eq_true h3, if_true, Nat.mul_zero, List.take_zero]
  rw [← sha384_length imgHead, List.take_length]
  simp
def cell0 : State :=
  { st [(pCELL, CELL_MODEL_VALID, 1, 5), (pCELL, CELL_MODEL_MODEL, 1, 5), (pCELL, CELL_MODEL_CELLAR_INDEX, 2, 5),
      (pCELL, CELL_IMAGE_VALID, 1, 2)] mgt0 with
    cellar := { images := [(2, imgGood)] },
    caches := [(5, { load := some { epoch := 3, slot := 0, source := 1, placed := true } }), (6, { load := some { epoch := 3, slot := 0, source := 1 } })] }
theorem cell0_image : cell0.cellarImage (cell0.rd pCELL CELL_MODEL_CELLAR_INDEX 5) = some imgGood := by
  have h1 : cell0.rd pCELL CELL_MODEL_CELLAR_INDEX 5 = 2 ∧ cell0.rd pCELL CELL_IMAGE_VALID 2 = 1 := by decide +kernel
  rw [h1.1, State.cellarImage, h1.2]; rfl

/-- A cellar command OPEN_WRITE of one byte to index 1, and what its signature verifies under. -/
def cmdOpen : List Byte := leBytes 4 0x57435242 ++ [1#8, 1#8, 0#8, 0#8] ++ leBytes 8 1 ++ leBytes 2 1 ++ leBytes 6 0 ++ leBytes 8 1
  ++ leBytes 8 0 ++ leBytes 120 0 ++ (sig1 ++ sig1)
where sig1 : List Byte :=
  beBytes 48 0x666832ec34cc867f2276144b13cf5e29bfd0da6bd1b55d6b5e169a95cf6e03b9dcad618cd783d69b9573ab4ce486e1d7
def signer1 (s : State) : State := st [(pDOCK, DOCK_SIGNER_VALID, 1, 0), (pMEM, MEM_CELLAR_FREE_BLOCKS, 9, 0)] (([0xb9a08d6168f58608,
  0x6879550ab95cf3a7, 0xcf99fabf26be5d46, 0xb6124ffbbd7140fd, 0x6449d18328eb0b1a, 0x56e3b676a7f274cf, 0x196f154e8b7ada8b,
  0xefeb862212426297, 0x1922d15fde8c2ff6, 0xa02ca85c9be37147, 0x6742605b68520bd3, 0x3ac42c45b3cb3ab0] : List Nat).zipIdx.foldl
    (fun s x => s.wr pDOCK ⟨0x1008 + 8 * x.2, 63, 0, 0⟩ x.1 0) s)
def reqOpen : MgtReq := req 0x40 0 1 cmdOpen
def reqData (payload : List Byte) : MgtReq := req 0x41 0 1 payload
def session0 : State := { mgt0 with cellar := { session := some ⟨1, 1, []⟩ } }
def session1 : State := { mgt0 with cellar := { session := some ⟨1, 2, [0#8]⟩ } }
/-! ### Witnesses: the fabric and transfers -/

/-- A transfer end at region 46 with tag `tag`; message XTYPE for it. -/
def xf (tag rect : Nat) (sent : Bool := false) : Xfer := ⟨46, tag, 0, 4, 0, 0, tag, 0, 2, rect, 1, sent, []⟩
def xm (xtype tag rect tile : Nat) (data : List Byte := []) : Msg := m4 6 (leBytes 1 xtype ++ leBytes 1 0 ++ leBytes 2 tag ++ leBytes 4 2
  ++ leBytes 2 rect ++ leBytes 1 tile ++ leBytes 1 0 ++ leBytes 4 0 ++ leBytes 2 1 ++ leBytes 6 0 ++ data)
def post0 : Post := ⟨46, 0, 0, 46, 1, 0, 2, 0, 1, false⟩
def send0 : Sending := ⟨46, 0, 0, some 46, 1, 0, 2, 0, 1, [], true⟩
def fab0 : State := st [(pFAB, FAB_STATUS_DETOUR_BUSY, 1, 0), (pFAB, FAB_STATUS_CHECK, 1, 0)] (net0.setFab
  { posts := [post0], sends := [send0], xsends := [xf 1 0 true], xrecvs := [xf 1 0, xf 2 0x100] })
theorem witness_FabricAndTransferRowsComplete :
    (ready.served .mgmt (regAddr pFAB 0x100) 0#64 = true ∧ FAB_ROUTE_CTRL_COMMIT.of 0#64 = 0) ∧
    (ready.served .mgmt (regAddr pFAB 0x100) 1#64 = true ∧ FAB_ROUTE_CTRL_COMMIT.of 1#64 ≠ 0 ∧ (∀ j, j < 16 → ready.jobState j = 0) ∧
      ready.net.busy = false ∧ ready.rd pFAB FAB_STATUS_CHECK ≠ 1) ∧
    (fab0.served .mgmt (regAddr pFAB 0x100) 1#64 = true ∧ fab0.jobState 0 ≠ 0 ∧ fab0.rd pFAB FAB_STATUS_CHECK = 1) ∧
    (∀ j, j < 16 → fab0.jobState j ≠ 1) ∧ fab0.rd pFAB FAB_STATUS_DETOUR_BUSY ≠ 0 ∧ ready.rd pFAB FAB_STATUS_DETOUR_BUSY = 0 ∧
    fab0.fab.posts.find? (fun p => p.src == 46 && !p.here) = some post0 ∧
    fab0.fab.sends.find? (fun x => x.src == 46 && x.landed) = some send0 ∧
    XferTaken fab0 (xm 1 1 0 0) 1 0 ∧
    (XferTaken fab0 (xm 2 1 0 0 [5#8, 6#8]) 2 0 ∧
      fab0.fab.xrecvs.find? (fun x => fab0.xferOf (xm 2 1 0 0 [5#8, 6#8]) 0 x && x.bytes == 2 && x.rect == 0
        && (rectTiles x.rect).contains 0 && (xferPieces x.bytes).contains (0, 2) && !x.landed.contains (0, 0, 2)) = some (xf 1 0) ∧
      ({ xf 1 0 with landed := [(0, 0, 2)] } : Xfer).whole = true) ∧
    (XferTaken fab0 (xm 2 2 0x100 1 [5#8, 6#8]) 2 0 ∧
      fab0.fab.xrecvs.find? (fun x => fab0.xferOf (xm 2 2 0x100 1 [5#8, 6#8]) 0 x && x.bytes == 2 && x.rect == 0x100
        && (rectTiles x.rect).contains 1 && (xferPieces x.bytes).contains (0, 2) && !x.landed.contains (1, 0, 2)) = some (xf 2 0x100) ∧
      ({ xf 2 0x100 with landed := [(1, 0, 2)] } : Xfer).whole = false) ∧
    (XferTaken fab0 (xm 3 1 0 0) 3 0 ∧ fab0.fab.xsends.find? (fun x => fab0.xferOf (xm 3 1 0 0) 0 x && x.sent) = some (xf 1 0 true)) ∧
    (XferTaken fab0 (xm 3 7 0 0) 3 0 ∧ fab0.fab.xsends.find? (fun x => fab0.xferOf (xm 3 7 0 0) 0 x && x.sent) = none) ∧
    (XferTaken fab0 (xm 4 1 0 0) 4 0 ∧ fab0.fab.xrecvs.find? (fun x => fab0.xferOf (xm 4 1 0 0) 0 x && x.landed.isEmpty) = some (xf 1 0)) ∧
    (XferTaken fab0 (xm 4 7 0 0) 4 0 ∧ fab0.fab.xrecvs.find? (fun x => fab0.xferOf (xm 4 7 0 0) 0 x && x.landed.isEmpty) = none) ∧
    (fab0.fab.xsends ++ fab0.fab.xrecvs).find? (fun x => x.region == 46 && x.outId == 2) = some (xf 2 0x100) := by
  refine ⟨?_, ?_, ?_, ?_, ?_, ?_, ?_, ?_, ⟨admitted_of ?_, ?_⟩, ⟨⟨admitted_of ?_, ?_⟩, ?_⟩, ⟨⟨admitted_of ?_, ?_⟩, ?_⟩,
    ⟨⟨admitted_of ?_, ?_⟩, ?_⟩, ⟨⟨admitted_of ?_, ?_⟩, ?_⟩, ⟨⟨admitted_of ?_, ?_⟩, ?_⟩, ⟨⟨admitted_of ?_, ?_⟩, ?_⟩, ?_⟩ <;> decide +kernel

/-- A packet from the tile (34, 32) of region 14 eastward to region 15, which is bypassed or not, as is a region beyond it. -/
def pk (detour : Bool) (dst : Nat) : Packet :=
  { id := 1, dstX := dst, dstY := 32, srcX := 50, srcY := 32, vc := 0, detour := detour, cls := 0, mid := 0, flits := 1, job := 0, ep := 0 }
def bypass0 (mask : Nat) (busy : Nat := 0) : State :=
  st [(pFAB, FAB_BYPASS_REGIONS, mask, 0), (pFAB, FAB_STATUS_DETOUR_BUSY, busy, 0)] run0
def headed : State := { bypass0 (2 ^ 15) with
  net := { packets := [pk false 80], bufs := [(bufKey 50 32 4 0, [⟨1, 0, 0⟩])], now := 3 } }
theorem witness_PacketsFollowTheirRoutes :
    ((pk false 80).dstX < 256 ∧ (pk false 80).dstY < 256 ∧ (pk false 80).srcX < 256 ∧ (pk false 80).vc < 8 ∧ (pk false 80).flits < 128) ∧
    (regionOfTile 50 32 = some 14 ∧ regionOfTile 80 32 = some 16 ∧ regionOfTile 60 32 = some 15) ∧
    ((legFrom 50 32 ((pk false 80).goals.drop 0) 0).2 = 1 ∧ run0.forwards 50 32 1 = true ∧ (bypass0 (2 ^ 15)).forwards 50 32 1 = false) ∧
    ((bypass0 (2 ^ 15)).bypassed 15 = true ∧ (bypass0 (2 ^ 15)).bypassed 16 = false ∧
      (bypass0 (2 ^ 15) 1).rd pFAB FAB_STATUS_DETOUR_BUSY = 1 ∧ (bypass0 (2 ^ 15)).rd pFAB FAB_STATUS_DETOUR_BUSY ≠ 1) ∧
    ((st [(pFAB, ⟨0x5000, 63, 0, 8⟩, 7, (84 * 14 + 16) / 8)] run0).detourTo 14 16 = 7 ∧ run0.detourTo 14 16 = 0) ∧
    (run0.forwards 50 32 (run0.detourTo 14 16) = true ∧
      (st [(pFAB, ⟨0x5000, 63, 0, 8⟩, 4 * 2 ^ (8 * ((84 * 16 + 16) % 8)), (84 * 16 + 16) / 8)] run0).detourTo 16 16 = 4) ∧
    (headed.net.head (bufKey 50 32 4 0) = some (pk false 80) ∧
      headed.hop (keyX (bufKey 50 32 4 0)) (keyY (bufKey 50 32 4 0)) (pk false 80) = .switch) ∧
    (run0.slotOf 46 = some 0 ∧ run0.endDrops 46 0 = false ∧ run0.endDrops 14 0 = true) ∧
    0 < (({} : Net).credit 0) := by decide +kernel

theorem witness_DefaultRoutesAvoidAbsentPositions :
    (State.reset.stage = 1 ∧ State.reset.heldReset = false) ∧
    (regionPos 0).2 ≤ 1 ∧ 8 ≤ (regionPos 83).2 ∧ (2 ≤ (regionPos 46).2 ∧ (regionPos 46).2 ≤ 7) := by decide +kernel

/-! ### Witnesses: faults and stacks -/

def rep0 (page : Nat) (code : Nat := 0) (cls : FaultClass := .region) : Report := { cls := cls, unit := 46, page := page, code := code }
/-- A report is queued; slot 0 recovers; the expert gate of FLT is open; sites 0 and 1 are live, site 2 is a spare or not, and site 1
waits for its remap. -/
def faults0 (spare : Nat := 1) : State := { st [(pGLB, GLB_EXPERT_STATUS_MATCHED, 1, 0), (pFLT, cExpert, 1, 0), (memPage 0, MEM_STATUS_STATE, 0, 0),
  (memPage 1, MEM_STATUS_STATE, 2, 0), (memPage 2, MEM_STATUS_STATE, spare, 0), (p46, REG_TILE_EXPERT_RESIDUE_DIS, 1, 0),
  (pPLC, PLC_JOB_RECOVERING, 1, 0)] net0 with reports := [rep0 p46] }
def remap0 (spare : Nat) : State := { faults0 spare with flt := { remaps := [(1, 0)] } }
theorem witness_FaultAndStackRowsComplete :
    faults0.reports.contains (rep0 p46) = true ∧
    (faults0.reports.contains (rep0 19) = false ∧ pageAssigned (rep0 19).page = false) ∧
    (faults0.reports.contains (rep0 p46 1) = false ∧ pageAssigned (rep0 p46 1).page = true ∧ faults0.onlyCounted (rep0 p46 1) = false) ∧
    (faults0.reports.contains (rep0 p46 REG_ERR_STATUS_RESIDUE.lo .tile) = false ∧
      faults0.onlyCounted (rep0 p46 REG_ERR_STATUS_RESIDUE.lo .tile) = true) ∧
    (faults0.regionState 46 = 0 ∧ faults0.regionState 45 ≠ 0) ∧ (pREG ≤ p46 ∧ p46 < pREG + 84) ∧ (pDOCK < pREG ∧ heartPages.contains pDOCK = true) ∧
    (faults0.jobState 0 = 3 ∧ faults0.rd pPLC PLC_JOB_RECOVERING 0 = 1 ∧ faults0.flt.remaps = [] ∧ faults0.flt.reload.contains 0 = false ∧
      (faults0.grp 0).accepted = none) ∧
    (faults0.served .mgmt (regAddr pFLT 0x800) 0#64 = true ∧ FLT_INJECT_CONFIRM.of 0#64 ≠ 0x5A3C) ∧
    (faults0.served .mgmt (regAddr pFLT 0x800) 0x5A3C0000000A0000#64 = true ∧ FLT_INJECT_CONFIRM.of 0x5A3C0000000A0000#64 = 0x5A3C ∧
      (faults0.injected (FLT_INJECT_KIND.of 0x5A3C0000000A0000#64) (FLT_INJECT_TARGET.of 0x5A3C0000000A0000#64)).isSome = true) ∧
    (faults0.served .mgmt (regAddr pFLT 0x808) 0x5A3C000000000040#64 = true ∧ FLT_FORCE_DISABLE_CONFIRM.of 0x5A3C000000000040#64 = 0x5A3C) ∧
    (faults0.served .mgmt (regAddr pFLT 0x808) 0#64 = true ∧ FLT_FORCE_DISABLE_CONFIRM.of 0#64 ≠ 0x5A3C) ∧ faults0.heldReset = false ∧
    (faults0.rd (memPage 0) MEM_CTRL_SCRUB_EN ≠ 0 ∧ faults0.rd (memPage 0) MEM_STATUS_STATE < 2 ∧ (999999998 : Nat) < 999999999) ∧
    2 ≤ faults0.rd (memPage 1) MEM_STATUS_STATE ∧
    ((remap0 1).flt.remaps.find? (fun x => x.1 == 1) = some (1, 0) ∧
      (List.range 26).find? (fun i => (remap0 1).rd (memPage i) MEM_STATUS_STATE == 1) = some 2) ∧
    ((remap0 3).flt.remaps.find? (fun x => x.1 == 1) = some (1, 0) ∧
      (List.range 26).find? (fun i => (remap0 3).rd (memPage i) MEM_STATUS_STATE == 1) = none) := by decide +kernel

/-! ### Witnesses: engines, ports, flits, lanes -/

/-- Port 4 in LSTATE `l`, its link initialised, its engine the only port of engine 1, not held by a job. -/
def port0 (l : Nat) (en : Nat := 1) : State :=
  (st [(pDOCK, DOCK_PORT_HELD, 0, 4), (pOPT + 1, OPT_PORT_LSTATE, l, 0), (pOPT + 1, OPT_PORT_CFG_EN, en, 0)] net0).setLink 4
    { ready := true, credits := [0, 0, 0, 0, 0, 0, 0, 0], queue := [⟨4, 0#64, 0, 0, none, []⟩] }
def held0 : State := st [(pOPT + 1, OPT_PORT_LSTATE, 3, 0)] net0
def soak0 : State := port0 5
def identBody : List Byte := [1#8, 2#8, 16#8] ++ List.replicate 21 0#8
theorem witness_EngineAndPortRowsComplete :
    (held0.served .mgmt (regAddr (pOPT + 1) 0x100) 1#64 = true ∧ held0.engineHeld 1 = true) ∧
    (soak0.served .mgmt (regAddr (pOPT + 1) 0x100) 1#64 = true ∧ soak0.engineSoak 1 = true) ∧
    ((port0 3).served .mgmt (regAddr (pOPT + 1) 0x100) 3#64 = true ∧ (port0 3).engineHeld 1 = false ∧ (port0 3).engineSoak 1 = false ∧
      OPT_CFG_ROLE.of 3#64 = 3 ∧ OPT_CFG_SPLIT.of 3#64 = (port0 3).rd (pOPT + 1) OPT_CFG_SPLIT) ∧
    ((port0 3).served .mgmt (regAddr (pOPT + 1) 0x100) 0#64 = true ∧ OPT_CFG_ROLE.of 0#64 ≠ 3 ∧
      OPT_CFG_ROLE.of 0#64 ≠ (port0 3).rd (pOPT + 1) OPT_CFG_ROLE) ∧
    (port0 1).lstate 4 = 1 ∧ (port0 2).lstate 4 = 2 ∧ (port0 2).portExists 4 = true ∧
    ((port0 2).portExists 4 = true ∧ ((port0 2).link 4).ready = true ∧ Msg.wellFormed (m4 7 identBody) = true ∧
      (port0 2).identOk 4 identBody = true ∧ ((port0 2).recordIdent 4 identBody).lstate 4 = 2) ∧
    ((port0 3).lstate 4 = 3 ∧ (port0 3).identOk 4 identBody = true ∧ ((port0 3).recordIdent 4 identBody).lstate 4 ≠ 2 ∧
      (port0 3).portExists 4 = true ∧ ((port0 3).link 4).ready = true) ∧
    (Msg.wellFormed (m4 7 [0#8]) = true ∧ (port0 3).identOk 4 [0#8] = false) ∧
    (port0 3).portUp 4 = true ∧ (port0 4).lstate 4 = 4 ∧
    (held0.served .mgmt (regAddr (pOPT + 1) 0x130) 0x10000#64 = true ∧ (held0.portSlot 4).isSome = true) ∧
    ((port0 3).served .mgmt (regAddr (pOPT + 1) 0x130) 0#64 = true ∧ (port0 3).portSlot 4 = none ∧
      ((port0 3).plainWrite (regAddr (pOPT + 1) 0x130) 0#64).rd (pOPT + 1) OPT_PORT_CFG_EN 0 = 0 ∧
      ((port0 3).plainWrite (regAddr (pOPT + 1) 0x130) 0#64).lstate 4 ≠ 0) ∧
    ((port0 0 0).served .mgmt (regAddr (pOPT + 1) 0x130) 0x10000#64 = true ∧ (port0 0 0).portSlot 4 = none ∧
      ((port0 0 0).plainWrite (regAddr (pOPT + 1) 0x130) 0x10000#64).rd (pOPT + 1) OPT_PORT_CFG_EN 0 ≠ 0 ∧
      (port0 0 0).rd (pOPT + 1) OPT_PORT_CFG_EN 0 = 0 ∧ (port0 0 0).portExists 4 = true) ∧
    ((port0 0).portExists 5 = false ∧ (st [(pOPT + 1, OPT_PORT_CFG_EN, 0, 1)] (port0 0)).rd (pOPT + 1) OPT_PORT_CFG_EN 1 = 0 ∧
      (st [(pOPT + 1, OPT_PORT_CFG_EN, 0, 1)] (port0 0)).served .mgmt (regAddr (pOPT + 1) 0x138) 0x10000#64 = true ∧
      ((st [(pOPT + 1, OPT_PORT_CFG_EN, 0, 1)] (port0 0)).plainWrite (regAddr (pOPT + 1) 0x138) 0x10000#64).rd (pOPT + 1)
        OPT_PORT_CFG_EN 1 ≠ 0) := by decide +kernel

/-- A flit of TYPE `k`, its CRC `d` above the right one. -/
def flitBody (k : Nat) : List Byte := [0#8, 0#8, 0#8, 0#8, BitVec.ofNat 8 k] ++ List.replicate 247 0#8
def flit (k d : Nat) : List Byte := flitBody k ++ leBytes 4 (((crc32 (flitBody k)).toNat + d) % 2 ^ 32)
theorem flit_facts (k d : Nat) : (flit k d).length = 256 ∧ (flit k d).take 252 = flitBody k ∧
    leAt (flit k d) 252 4 = ((crc32 (flitBody k)).toNat + d) % 2 ^ 32 := by
  have hl : (flitBody k).length = 252 := by rw [flitBody, List.length_append, List.length_replicate]; rfl
  refine ⟨by rw [flit, List.length_append, hl, leBytes_length], by rw [flit, ← hl, List.take_left], ?_⟩
  have h := leAt_append (flitBody k) (leBytes 4 (((crc32 (flitBody k)).toNat + d) % 2 ^ 32) ++ []) 0 4
  rw [leAt_le4 _ _ (Nat.mod_lt _ (by decide)), hl, List.append_nil] at h
  exact h
theorem flit_good (k : Nat) : (flit k 0).length = 256 ∧ leAt (flit k 0) 252 4 = (crc32 ((flit k 0).take 252)).toNat := by
  obtain ⟨h1, h2, h3⟩ := flit_facts k 0
  rw [h2, h3, Nat.add_zero, Nat.mod_eq_of_lt (crc32 (flitBody k)).isLt]
  exact ⟨h1, rfl⟩
theorem flit_bad : leAt (flit 0 1) 252 4 ≠ (crc32 ((flit 0 1).take 252)).toNat := by
  obtain ⟨_, h2, h3⟩ := flit_facts 0 1
  rw [h2, h3]
  have := (crc32 (flitBody 0)).isLt
  omega
theorem witness_FlitRowsComplete :
    (((port0 3).link 4).ready = true ∧ (port0 3).portExists 4 = true ∧ ([] : List Byte).length ≠ 256) ∧
    leAt (flit 0 1) 252 4 ≠ (crc32 ((flit 0 1).take 252)).toNat ∧
    (∀ k ∈ [0, 1, 2], (flit k 0).length = 256 ∧ leAt (flit k 0) 252 4 = (crc32 ((flit k 0).take 252)).toNat ∧
      byteAt (flit k 0) 4 % 16 = k) ∧
    (net0.link 4).ready = false ∧
    ((port0 3).portUp 4 = true ∧ (⟨4, 0#64, 0, 0, none, []⟩ : QMsg) ∈ ((port0 3).link 4).queue ∧
      ((port0 3).link 4).credits.getD 4 0 < msgFlits 0) := by
  refine ⟨?_, flit_bad, fun k hk => ⟨(flit_good k).1, (flit_good k).2, ?_⟩, ?_⟩
  · decide +kernel
  · revert k; decide +kernel
  · decide +kernel

/-- Engine 1 with substitutions asked for, and a test of lane 0. -/
def lanes0 : State := net0.setEng 1 { lmaps := [(0, 16)], test := some (false, 0, none) }
theorem witness_LaneRowsComplete :
    (net0.rd (pOPT + 1) OPT_LIMITS_SER_LIMIT * 9999 < 1 * 1000000000 ∧ 1 * 1000000000 ≤ net0.rd (pOPT + 1) OPT_LIMITS_SER_LIMIT * 10000) ∧
    (net0.rxState 1 0 = 0 ∧ (net0.rxSpare 1).isSome = true ∧ (net0.eng 1).lmaps.any (fun x => x.1 == 0) = false ∧
      ((List.range 18).foldl (fun (s : State) l => s.wr (pOPT + 1) OPT_LANE_RX_STATE (if l = 0 then 0 else 2) l) net0).rxState 1 0 = 0 ∧
      ((List.range 18).foldl (fun (s : State) l => s.wr (pOPT + 1) OPT_LANE_RX_STATE (if l = 0 then 0 else 2) l) net0).rxSpare 1 = none) ∧
    (net0.engineFenced 1 = false ∧ net0.txState 1 0 = 0 ∧ net0.txState 1 16 = 1 ∧
      (net0.moveTx 1 0 16).lanePort 1 ((net0.moveTx 1 0 16).rd (pOPT + 1) OPT_LANE_TX_LOGICAL 16) = some 4) ∧
    (lanes0.eng 1).lmaps.find? (fun x => lanes0.rd (pOPT + 1) OPT_LANE_RX_FROM x.1 == 0 &&
      lanes0.rd (pOPT + 1) OPT_LANE_RX_FROM x.2 == 16) = some (0, 16) ∧
    ((net0.setEng 1 { test := some (true, 0, none) }).eng 1).test = some (true, 0, none) ∧ net0.served .mgmt (regAddr (pOPT + 1) 0x128) 1#64 = true ∧
    (net0.served .mgmt (regAddr (pOPT + 1) 0x120) 1#64 = true ∧ OPT_BERT_CMD_CMD.of 1#64 = 1) ∧
    (net0.served .mgmt (regAddr (pOPT + 1) 0x120) 2#64 = true ∧ OPT_BERT_CMD_CMD.of 2#64 = 2) ∧
    (net0.served .mgmt (regAddr (pOPT + 1) 0x120) 3#64 = true ∧ OPT_BERT_CMD_CMD.of 3#64 = 3) ∧
    (net0.served .mgmt (regAddr (pOPT + 1) 0x120) 0#64 = true ∧ OPT_BERT_CMD_CMD.of 0#64 = 0) ∧
    net0.rd (pOPT + 1) OPT_BERT_INTERVAL_MIN ≠ 0 ∧
    (st [(pOPT + 1, OPT_BERT_INTERVAL_MIN, 0, 0)] net0).rd (pOPT + 1) OPT_BERT_INTERVAL_MIN = 0 ∧
    (net0.eng 1).test = none ∧ (lanes0.eng 1).test = some (false, 0, none) ∧
    bit (lanes0.rd (pOPT + 1) OPT_LANE_OUT_RX) 0 = false := by decide +kernel

/-! ### Witnesses: power, temperature, telemetry, firmware -/

def alert0 (low hold : Bool) (a : Nat := 33) : State := net0.setPower { alertLow := low, alertHold := hold, alert := a }
/-- Region 46 in RUN measures 0.50 V (in units of 0.25 mV), with VID_SENT `v`. -/
def zone0 (v : Nat) : State := st [(p46, REG_PT_STATUS_V_MEAS, 2000, 0), (p46, REG_PT_STATUS_VID_SENT, v, 0)] net0
theorem witness_PowerRowsComplete :
    net0.heldReset = false ∧
    (net0.zoneMode 46 = 2 ∧ (2 * 599 : Int) < 800 + 5 * net0.vMinAt 46 (net0.rd p46 REG_PT_STATUS_K_RUN) ∧
      net0.power.droop.contains 46 = false) ∧
    (net0.served .mgmt (regAddr pPWR 0x100) 0#64 = true ∧ PWR_CAP_CAP_DW.of 0#64 = 0) ∧
    (net0.served .mgmt (regAddr pPWR 0x100) 6000#64 = true ∧ 500 ≤ PWR_CAP_CAP_DW.of 500#64 ∧ PWR_CAP_CAP_DW.of 6000#64 ≤ 6000) ∧
    (net0.served .mgmt (regAddr pPWR 0x100) 499#64 = true ∧
      ¬(PWR_CAP_CAP_DW.of 499#64 = 0 ∨ (500 ≤ PWR_CAP_CAP_DW.of 499#64 ∧ PWR_CAP_CAP_DW.of 499#64 ≤ 6000))) ∧
    (net0.power.alertLow = false ∧ (200 : Nat) ≤ 200 ∧ ((100 : Nat) ≤ 100 ∧ (199 : Nat) < 200) ∧ (99 : Nat) < 100) ∧ (alert0 true false).power.alertLow = true ∧
    (alert0 false true).power.alertHold = true ∧
    ((alert0 false false).power.alertLow = false ∧ (alert0 false false).power.alertHold = false ∧ (alert0 false false).power.alert < 34) ∧
    ((zone0 50).zoneMode 46 = 2 ∧ vidOf ((zone0 50).rd p46 REG_PT_STATUS_V_MEAS) < ((zone0 50).rd p46 REG_PT_STATUS_VID_SENT : Int)) ∧
    ((zone0 40).zoneMode 46 = 2 ∧ ((zone0 40).rd p46 REG_PT_STATUS_VID_SENT : Int) ≤ vidOf ((zone0 40).rd p46 REG_PT_STATUS_V_MEAS)) ∧
    net0.regionState 46 < 3 := by decide +kernel

/-- Region 46 is THERMAL at 84 °C; set 3 of the telemetry is enabled. -/
def warm0 : State := st [(pPLC, PLC_REGION_STATE, 2, 46), (p46, REG_PT_TEMP_T_MAX, 64 * 84, 0), (pTHM, THM_TSET_EN, 1, 3),
  (pTHM, THM_TSET_PERIOD_US, 1000, 3), (pTHM, THM_TSET_COUNT, 1, 3)] net0
/-- A TSET word 0: EN, a period, a count. -/
def tset (period count : Nat) : Word := BitVec.ofNat 64 (2 ^ 63 + period * 2 ^ 32 + count)
theorem witness_ThermalAndTelemetryRowsComplete :
    (warm0.regionState 46 = 2 ∧ signed 16 (warm0.rd p46 REG_PT_TEMP_T_MAX) < degC (warm0.rd pTHM THM_LIMITS_READMIT_C)) ∧
    net0.regionState 46 ≠ 2 ∧
    (net0.served .mgmt (regAddr pCAL 0x2000) 0x1410F8#64 = true ∧ signed 8 (CAL_TRIM_IGAIN.of 0x1410F8#64) = 20 ∧
      signed 8 (CAL_TRIM_TOFF.of 0x1410F8#64) = 16 ∧ signed 8 (CAL_TRIM_VOFF.of 0x1410F8#64) = -8) ∧
    (net0.served .mgmt (regAddr pCAL 0x2000) 0x150000#64 = true ∧ ¬signed 8 (CAL_TRIM_IGAIN.of 0x150000#64) ≤ 20) ∧
    net0.served .mgmt (regAddr pTHM (0x1000 + 0x80 * 15 + 8 * 15)) 0#64 = true ∧
    (net0.served .mgmt (regAddr pTHM (0x1000 + 0x80 * 3)) (tset 100 60) = true ∧ 100 ≤ THM_TSET_PERIOD_US.of (tset 100 60) ∧
      THM_TSET_PERIOD_US.of (tset 100 60) ≤ 16000000 ∧ 1 ≤ THM_TSET_COUNT.of (tset 100 60) ∧ THM_TSET_COUNT.of (tset 100 60) ≤ 60 ∧
      overload ((THM_TSET_EN.of (tset 100 60), THM_TSET_PERIOD_US.of (tset 100 60), THM_TSET_COUNT.of (tset 100 60)) ::
        ((List.range 16).filter (· != 3)).map net0.setEntry) = false) ∧
    (overload ((1, 100, 60) :: ((List.range 16).filter (· != 3)).map
      (st [(pTHM, THM_TSET_EN, 1, 4), (pTHM, THM_TSET_PERIOD_US, 100, 4), (pTHM, THM_TSET_COUNT, 60, 4)] net0).setEntry) = true) ∧
    (warm0.setEntry 3 = (1, 1000, 1) ∧ warm0.mmcRuns = true ∧ warm0.mgtUp = false) ∧
    (st [(pMGT, MGT_STATUS_LANE0_UP, 1, 0)] warm0).mgtUp = true ∧ State.reset.mmcRuns = false ∧
    ((List.range 16).any fun j => net0.jobState j == 3) = true ∧
    ((st [(pFWC, FWC_RCC_STATE, 1, 46)] net0).rd pFWC FWC_RCC_STATE 46 = 1 ∧ net0.regionState 46 < 3) := by decide +kernel

def rcc0 (state ok : Nat) : State := st [(pFWC, FWC_RCC_STATE, state, 46), (pFWC, FWC_RCC_CORES_OK, ok, 46)] net0
def rccThird : State := { rcc0 1 7 with fw := { crashes := [(0, 46, 0), (0, 46, 0)] } }
theorem witness_FirmwareRowsComplete :
    (rcc0 1 7).rd pFWC FWC_RCC_STATE 46 = 1 ∧ net0.mmcRuns = true ∧ net0.rd pFWC FWC_RCC_STATE 46 ≠ 1 ∧
    ((rcc0 1 7).coreActive 46 0 = true ∧ ((rcc0 1 7).rccCrash 46 0).coreCrashes 46 0 < 3) ∧
    (rccThird.rd pFWC FWC_RCC_STATE 46 = 1 ∧ rccThird.coreActive 46 0 = true ∧ 3 ≤ (rccThird.rccCrash 46 0).coreCrashes 46 0) ∧
    ((rcc0 2 7).rd pFWC FWC_RCC_STATE 46 = 2 ∧ (rcc0 2 7).fw.swap.any (fun x => x.1 == 46) = false) ∧
    ((st [(pFWC, FWC_STATUS_TWIN_READY, 1, 0)] net0).mmcRuns = true ∧
      ((st [(pFWC, FWC_STATUS_TWIN_READY, 1, 0)] net0).raiseErr pFWC FWC_ERR_STATUS_MMC_CRASH).rd pFWC FWC_STATUS_TWIN_READY = 1) ∧
    (st [(pFWC, FWC_STATUS_TWIN_READY, 0, 0)] net0).rd pFWC FWC_STATUS_TWIN_READY ≠ 1 ∧ net0.fw.mmcOut.contains net0.twin = false ∧
    ((0 :: net0.fw.mmcOut.filter (· != 0)).length ≠ 2 ∧ (0 :: [1].filter (· != 0)).length = 2) := by
  decide +kernel

/-! ### Witnesses: the management port, boot and registration, the laws over all data -/

/-- Whatever the key, some tag of at most 16 bytes opens a ciphertext. -/
theorem gcm_some (key nonce aad ct : List Byte) : ∃ t p : List Byte, t.length ≤ 16 ∧ gcmOpen key nonce aad ct t = some p := by
  refine ⟨_, _, ?_, if_pos rfl⟩
  simp only [xorBytes, List.length_map, List.length_zip, beBytes_length]
  exact Nat.min_le_left ..
def pointG : List Byte := pointBytes p384G
/-- A block of TARGET `k` can be unwrapped by net0. -/
theorem unwraps (k : Nat) (hk : k ≤ 4) : ∃ b key, byteAt b 0 = k ∧ net0.unwrap (b.take 209) = some key := by
  let head : List Byte := BitVec.ofNat 8 k :: List.replicate 63 0#8
  let w := hkdf384 (leBytes 8 (net0.rd pSEC SEC_SERIAL_SERIAL)) (ecdhX Config.identityKey p384G) wrapInfo 44
  obtain ⟨t, p, ht, h⟩ := gcm_some (w.take 32) (w.drop 32) head (List.replicate 32 0#8)
  have hG : pointG.length = 97 := by rw [pointG, pointBytes]; decide +kernel
  have hh : head.length = 64 := by simp [head]
  have hb : (head ++ (pointG ++ (List.replicate 32 0#8 ++ t))).take 209 = head ++ (pointG ++ (List.replicate 32 0#8 ++ t)) :=
    List.take_of_length_le (by simp only [List.length_append, hh, hG, List.length_replicate]; omega)
  have e0 : (head ++ (pointG ++ (List.replicate 32 0#8 ++ t))).take 64 = head := by rw [← hh, List.take_left]
  have d64 : (head ++ (pointG ++ (List.replicate 32 0#8 ++ t))).drop 64 = pointG ++ (List.replicate 32 0#8 ++ t) := by rw [← hh, List.drop_left]
  have d161 : (head ++ (pointG ++ (List.replicate 32 0#8 ++ t))).drop 161 = List.replicate 32 0#8 ++ t := by
    rw [show 161 = 64 + 97 from rfl, ← List.drop_drop, d64, ← hG, List.drop_left]
  have d193 : (head ++ (pointG ++ (List.replicate 32 0#8 ++ t))).drop 193 = t := by
    rw [show 193 = 161 + 32 from rfl, ← List.drop_drop, d161]; simp
  refine ⟨head ++ (pointG ++ (List.replicate 32 0#8 ++ t)), p, ?_, ?_⟩
  · show (BitVec.ofNat 8 k).toNat = k
    simp; omega
  · have i : net0.identityHeld = true := by decide +kernel
    have p1 : parsePoint pointG = some p384G := by decide +kernel
    rw [hb, State.unwrap, i, e0, d64, d161, d193, ← hG, List.take_left, p1]
    have t1 : t.take 16 = t := List.take_of_length_le ht
    have t2 : (List.replicate 32 0#8 ++ t).take 32 = List.replicate 32 0#8 := by simp
    rw [t1, t2]
    simp only [Bool.not_true, Bool.false_eq_true, if_false]
    exact h
def rq (opcode n : Nat) : MgtReq := req opcode 27 1 (List.replicate n 0#8)
def mgtLanes (a b active : Nat) : State :=
  st [(pMGT, MGT_STATUS_LANE0_UP, a, 0), (pMGT, MGT_STATUS_LANE1_UP, b, 0), (pMGT, MGT_STATUS_ACTIVE_LANE, active, 0)] ready
def frame0 (fcs dest : Bool) (ether major : Nat) : MgtFrame := ⟨fcs, ether, dest, 0x10, { rq 0x10 8 with major := major }⟩
theorem witness_ManagementPortRowsComplete :
    ((mgtLanes 1 0 0).rd pMGT (laneUp 0) ≠ 0 ∧ ((mgtLanes 1 0 0).wr pMGT (laneUp 0) 0).mgtUp = false) ∧
    ((mgtLanes 1 1 1).rd pMGT (laneUp 0) ≠ 0 ∧ ((mgtLanes 1 1 1).wr pMGT (laneUp 0) 0).mgtUp = true ∧
      ((mgtLanes 1 1 1).wr pMGT (laneUp 0) 0).rd pMGT MGT_STATUS_ACTIVE_LANE ≠ 0) ∧
    ((mgtLanes 1 1 1).rd pMGT (laneUp 1) ≠ 0 ∧ ((mgtLanes 1 1 1).wr pMGT (laneUp 1) 0).mgtUp = true ∧
      ((mgtLanes 1 1 1).wr pMGT (laneUp 1) 0).rd pMGT MGT_STATUS_ACTIVE_LANE = 1) ∧
    (ready.heldReset = false ∧ (mgtLanes 1 0 0).mgtUp = true ∧ (mgtLanes 0 0 0).mgtUp = false) ∧
    (({ ready with notify := ⟨true, true, 0⟩ } : State).notify.gap = true ∧ ready.notify.deferred = false) ∧
    (ready.wholeReset = false ∧ ready.stage ≠ 1 ∧ ready.stage ≠ 0xFE) ∧ (frame0 false true 0 2).fcsOk = false ∧
    ((frame0 true false 0 2).fcsOk = true ∧ (frame0 true false 0 2).destOk = false ∧
      (frame0 true true 0 2).ethertype ≠ ready.rd pMGT MGT_NET_ETHERTYPE) ∧
    ((frame0 true true (ready.rd pMGT MGT_NET_ETHERTYPE) 3).fcsOk = true ∧ (frame0 true true (ready.rd pMGT MGT_NET_ETHERTYPE) 3).destOk = true ∧
      (frame0 true true (ready.rd pMGT MGT_NET_ETHERTYPE) 3).req.major ≠ 2) ∧ State.reset.stage = 1 := by decide +kernel

/-- net0 at a boot stage. -/
def atStage (k : Nat) (s : State := net0) : State := st [(pGLB, GLB_STATUS_BOOT_STAGE, k, 0)] s
def waits0 : State := st [(pCAL, CAL_TB_CFG_SRC_SEL, 2, 0)] net0
def asg : Msg := c4 6 9 (leBytes 2 2 ++ leBytes 2 0x8005 ++ leBytes 12 0)
def hello0 : State := let s := atStage 7; { s with boot := { s.boot with hello := some (.port 4, 9) } }
def upack : Msg := c4 6 9 (leBytes 1 4 ++ leBytes 15 0)
def updating (due : Bool) : State := { net0 with boot := { net0.boot with update := some (.port 4, 9, [], true), updateDue := due } }
theorem witness_BootAndRegistrationRowsComplete :
    ({ net0 with boot := { net0.boot with pinLow := true } } : State).boot.pinLow = true ∧
    ((atStage 1).stage = 1 ∧ (atStage 1).heldReset = false) ∧ (atStage 4).stage ≠ 3 ∧
    ((atStage 3).stage = 3 ∧ (atStage 3).wholeReset = false) ∧ ((atStage 4).stage = 4 ∧ (atStage 4).wholeReset = false) ∧
    ((atStage 5).stage = 5 ∧ (atStage 5).wholeReset = false) ∧
    ((atStage 8 waits0).stage = 8 ∧ (atStage 8 waits0).wholeReset = false ∧ (atStage 8 waits0).noLockWait = false) ∧
    ((atStage 8 (st [(pTBASE, TBASE_STATUS_LOCKED, 1, 0)] waits0)).stage = 8 ∧
      (atStage 8 (st [(pTBASE, TBASE_STATUS_LOCKED, 1, 0)] waits0)).noLockWait = true) ∧
    ((atStage 9 waits0).stage = 9 ∧ (atStage 9 waits0).wholeReset = false ∧ (atStage 9 waits0).noLockWait = false) ∧
    (atStage 9 (st [(pTBASE, TBASE_STATUS_LOCKED, 1, 0)] waits0)).noLockWait = true ∧
    net0.boot.extest = false ∧ ({ net0 with boot := { net0.boot with extest := true } } : State).boot.extest = true ∧
    ((atStage 7).stage = 0x07 ∧ net0.stage ≠ 0x07) ∧
    (hello0.ctlArrive (.port asg) = (hello0, true) ∧ hello0.boot.hello = some (.port 4, 9) ∧ hello0.stage = 7 ∧
      hello0.ctlAnswers (.port asg) (.port 4, 9) = true ∧ assignGood (.port asg) = true) ∧
    (net0.ctlArrive (.port (c4 7 9 []))).2 = false ∧
    (leAt (leBytes 4 0 ++ leBytes 2 60 ++ leBytes 10 0) 4 2 ≠ 0 ∧ leAt (leBytes 16 0) 4 2 = 0) ∧
    (updating true).boot.update = some (.port 4, 9, [], true) ∧
    ((updating true).ctlArrive (.port upack) = (updating true, true) ∧ (CtlMsg.port upack).cseq = 9 ∧ (CtlMsg.port upack).ctype = 6 ∧
      byteAt (CtlMsg.port upack).body 0 = 4 ∧ (updating true).ctlAuth (.port upack) = true) ∧
    (updating true).boot.updateDue = true ∧ (updating false).boot.updateDue = false := by decide +kernel

def a0 : Opnd := ⟨3, 114, .bsi8⟩
theorem witness_AccumulationIsExactInAnyOrder :
    (16777214 + ([1, -2] : List Int).length ≤ 2 ^ 24 ∧ ([1, -2] : List Int).Perm [-2, 1] ∧
      (2 : Nat) ^ 24 ≤ ({ count := 16777216 } : Acc).count) := by
  exact ⟨by decide, List.Perm.swap .., by decide⟩
theorem witness_AccumulationErrorBound :
    ([(a0, a0)] ≠ ([] : List (Opnd × Opnd)) ∧
      (accRead (([(a0, a0)].map fun p => addend p.1 p.2 1).foldl accAdd { anchor := 1 })).2 = false) ∧
    (a0.f = .bsi8 ∧ ({ a0 with f := .bsi4 } : Opnd).f = .bsi4 ∧ ({ a0 with f := .bf16 } : Opnd).f = .bf16) := by decide +kernel
theorem witness_VatReversalRestoresEveryEntry :
    ((([⟨0, 0, ⟨1, 0⟩, false⟩, ⟨255, 1, ⟨-1, 0⟩, false⟩] : List VatIn).map fun x => x.tile * vatSize + x.entry).Nodup ∧
      (∀ x ∈ ([⟨0, 0, ⟨1, 0⟩, false⟩, ⟨255, 1, ⟨-1, 0⟩, false⟩] : List VatIn),
        (tabGet (fun _ => 0) (run0.tileMem 46).vatMb (x.tile * vatSize + x.entry)).testBit 1 = false)) ∧
    (run0.setSeqState 46 6).seqState 46 = 6 := by decide +kernel
/-- Slot 1's extent follows slot 0's. -/
def two0 : State := st [(pMEM, MEM_EXTENT_VALID, 1, 32), (pMEM, MEM_EXTENT_LEN_GB, 4, 32), (pMEM, MEM_EXTENT_BASE_GB, 8, 32)] run0
theorem witness_JobSpacesAreApart :
    (two0.extents 0 ≠ [] ∧ two0.extents 1 ≠ [] ∧ ∀ e ∈ two0.extents 0, ∀ f ∈ two0.extents 1, e.2.2 + e.2.1 ≤ f.2.2 ∨ f.2.2 + f.2.1 ≤ e.2.2) ∧
    two0.jobAddr 0 0 = some 0 ∧ two0.jobAddr 1 0 = some (8 * gb) ∧
    ((0, 8, 0) ∈ two0.extents 0 ∧ 0 * gb ≤ 8 * gb - 1 ∧ 8 * gb - 1 < (0 + 8) * gb ∧
      ∀ f ∈ two0.extents 0, f = (0, 8, 0) ∨ 0 + 8 ≤ f.1 ∨ f.1 + f.2.1 ≤ 0) := by decide +kernel

/-! ### Witnesses that evaluate a hash, a cipher or a signature -/

theorem witness_ManagementRequestsComplete :
    mgt0.mailOk 0x01 true 0 (rq 0x01 0) = true ∧ (mgt0.lifecycle ≠ 3 ∧ mgt0.mailOk 0x02 true 48 (rq 0x02 48) = true) ∧
    (mgt0.rd pMGT MGT_OWNER_BOUND = 0 ∧ mgt0.mailOk 0x03 true 97 (rq 0x03 97) = true) ∧ mgt0.mailOk 0x04 true 402 (rq 0x04 402) = true ∧
    mgt0.mailOk 0x05 true 0 (rq 0x05 0) = true ∧ mgt0.mailOk 0x10 false 8 (rq 0x10 8) = true ∧ mgt0.mailOk 0x11 false 8 (rq 0x11 8) = true ∧
    mgt0.mailOk 0x20 false 209 (rq 0x20 209) = true ∧ mgt0.mailOk 0x21 false 10 (rq 0x21 10) = true ∧
    mgt0.mailOk 0x60 false 4 (rq 0x60 4) = true ∧
    (net0.lifecycle ≠ 3 ∧ ∀ k ≤ 4, ∃ b key, byteAt b 0 = k ∧ net0.unwrap (b.take 209) = some key) ∧
    (net0.unwrap [] = none ∧ net0.lifecycle ≠ 3) ∧
    ((st [(pGLB, GLB_STATUS_BOOT_STAGE, 2, 0)] net0).stage = 2 ∧ (rq 5 19).arg = 0#64 ∧ (rq 5 19).payload.length < 20) := by
  refine ⟨mail_ok ?_, ⟨?_, mail_ok ?_⟩, ⟨?_, mail_ok ?_⟩, mail_ok ?_, mail_ok ?_, mail_ok ?_, mail_ok ?_, mail_ok ?_, mail_ok ?_, mail_ok ?_,
    ⟨?_, fun k hk => unwraps k hk⟩, ?_, ?_⟩ <;> decide +kernel
theorem witness_HeartbeatAndSuspectRowsComplete :
    ((grp0 0).jobState 0 = 3 ∧ (grp0 0).grouped 0 = true ∧ (grp0 0).joining 0 = false) ∧
    (MemberTaken (grp0 0) (m4 4 (mp 1).bytes) 1 false 0 (mp 1) ∧ ((grp0 0).heartSenders 0).contains 1 = true) ∧
    (MemberTaken (grp0 0) (m4 4 (mp 2).bytes) 2 false 0 (mp 2) ∧ (grp0 0).leads 0 = true) ∧
    (MemberTaken (grp0 1) (m4 4 (mp 2).bytes) 2 false 0 (mp 2) ∧ (grp0 1).leads 0 = false) ∧
    MemberTaken (grp0 0) (m4 4 (mp 3).bytes) 3 false 0 (mp 3) ∧ MemberTaken (grp0 0) (m4 4 (mp 4).bytes) 4 false 0 (mp 4) ∧
    (((grp0 0).setGrp 0 { probes := [(1, 0)] }).grp 0).probes.any (fun p => p.1 == 1) = true ∧
    ((grp0 0).grp 0).probes.any (fun p => p.1 == 1) = false ∧
    (((grp0 2).setGrp 0 { silent := [(0, 2)] }).jobState 0 = 3 ∧ (((grp0 2).setGrp 0 { silent := [(0, 2)] }).grp 0).silent ≠ [] ∧
      ((grp0 2).setGrp 0 { silent := [(0, 2)] }).leads 0 = false) := by
  refine ⟨?_, ⟨mem_taken ?_, ?_⟩, ⟨mem_taken ?_, ?_⟩, ⟨mem_taken ?_, ?_⟩, mem_taken ?_, mem_taken ?_, ?_⟩ <;> decide +kernel
theorem witness_ReformRowsComplete :
    MemberTaken (grp0 0) (m4 4 (mp 5 1).bytes) 5 true 0 (mp 5 1) ∧ MemberTaken (grp0 0) (m4 4 (mp 6 1).bytes) 6 true 0 (mp 6 1) ∧
    MemberTaken (grp0 0) (m4 4 (mp 7 1).bytes) 7 true 0 (mp 7 1) ∧
    (((proposing []).grp 0).prop = some (proposal []) ∧ 2 * (((proposing []).liveMembers 0).filter fun i =>
      (proposal []).accepts.any fun a => a.1 == i).length < ((proposing []).liveMembers 0).length) ∧
    (((proposing [(0, 0, none), (1, 0, none)]).grp 0).prop = some (proposal [(0, 0, none), (1, 0, none)]) ∧
      ((proposing [(0, 0, none), (1, 0, none)]).liveMembers 0).length < 2 * (((proposing [(0, 0, none), (1, 0, none)]).liveMembers
        0).filter fun i => (proposal [(0, 0, none), (1, 0, none)]).accepts.any fun a => a.1 == i).length) ∧
    ((grp0 0).grp 0).prop = none ∧
    (MemberTaken (grp0 0) (m4 4 (mp 8).bytes) 8 false 0 (mp 8) ∧ (grp0 0).leads 0 = true) ∧
    (MemberTaken (grp0 1) (m4 4 (mp 8).bytes) 8 false 0 (mp 8) ∧ (grp0 1).leads 0 = false) ∧
    MemberTaken (grp0 0) (m4 4 (mp 11).bytes) 11 false 0 (mp 11) ∧ MemberTaken (grp0 0) (m4 4 (mp 9 5).bytes) 9 true 0 (mp 9 5) ∧
    (MemberTaken (grp0 0 1) (m4 4 (mp 10 5).bytes) 10 true 0 (mp 10 5) ∧ (grp0 0 1).joining 0 = true ∧ (mp 10 5).cause = 0) ∧
    (MemberTaken (grp0 0 1) (m4 4 (mp 10 5 1).bytes) 10 true 0 (mp 10 5 1) ∧ (mp 10 5 1).cause ≠ 0) ∧
    ((grp0 0).joining 0 = false ∧ ({ mp 5 1 with lostA := 0 } : MemMsg).gepoch = (grp0 0).target 0 ∧
      ({ mp 5 1 with lostA := 0 } : MemMsg).lostA = (grp0 0).gSelf 0) ∧
    (((grp0 2).setGrp 0 { accepted := some (1, 0, none) }).joining 0 = false ∧
      (mp 5 1).gepoch = ((grp0 2).setGrp 0 { accepted := some (1, 0, none) }).target 0 ∧
      (mp 5 1).lostA ≠ ((grp0 2).setGrp 0 { accepted := some (1, 0, none) }).gSelf 0 ∧
      (mp 5 1).lostB ≠ ((grp0 2).setGrp 0 { accepted := some (1, 0, none) }).gSelf 0 ∧
      (((grp0 2).setGrp 0 { accepted := some (1, 0, none) }).grp 0).accepted = some (1, 0, none) ∧ 0 < (mp 5 1).src) ∧
    (mp 5 7).gepoch ≠ (grp0 0).target 0 ∧ (grp0 1).leads 0 = false ∧
    ((grp0 0).leads 0 = true ∧ ((grp0 0).lostSet 0).contains (mp 9 5).src = false) := by
  refine ⟨mem_taken ?_, mem_taken ?_, mem_taken ?_, ?_, ?_, ?_, ⟨mem_taken ?_, ?_⟩, ⟨mem_taken ?_, ?_⟩, mem_taken ?_, mem_taken ?_,
    ⟨mem_taken ?_, ?_⟩, ⟨mem_taken ?_, ?_⟩, ?_⟩ <;> decide +kernel
theorem witness_BarrierRowsComplete :
    ((ended net0).barReady 0 = true ∧ ((ended net0).ce 0).satSaved = none ∧ ((ended net0).satFault 0).isNone = true ∧
      (net0.rankList 0 (net0.commitGroup 0) 1).length ≤ 1) ∧
    ((ended (grp0 0)).barReady 0 = true ∧ ((ended (grp0 0)).ce 0).satSaved = none ∧ ((ended (grp0 0)).satFault 0).isNone = true ∧
      1 < ((grp0 0).rankList 0 ((grp0 0).commitGroup 0) 1).length) ∧
    (net0.barReady 0 = false ∧ (net0.ce 0).due = none) ∧
    (BarTaken (grp0 0) (cm (bp 8 1)) 8 0 (bp 8 1) ∧
      ((grp0 0).ranksPlayed 0 ((grp0 0).rankList 0 ((grp0 0).commitGroup 0) 1)).contains 0 = true) ∧
    (BarTaken (grp0 1) (cm (bp 8 1)) 8 0 (bp 8 1) ∧
      ((grp0 1).ranksPlayed 0 ((grp0 1).rankList 0 ((grp0 1).commitGroup 0) 1)).contains 0 = false) ∧
    BarTaken (grp0 0) (cm (bp 9 2)) 9 0 (bp 9 2) ∧
    (BarTaken entered0 (cm (bp 9 1)) 9 0 (bp 9 1) ∧ (entered0.ce 0).entered = true ∧ entered0.barrierStep 0 = 0) ∧
    (BarTaken (ended (grp0 0) [(0, 0, [])]) (cm (bp 11 1 65535)) 11 0 (bp 11 1 65535) ∧
      (ended (grp0 0) [(0, 0, [])]).canRollback 0 65535 = true) ∧
    (BarTaken (grp0 0) (cm (bp 11 1)) 11 0 (bp 11 1) ∧ (grp0 0).canRollback 0 0 = false) ∧
    (entered0.ce 0).entered = true ∧ ((grp0 0).ce 0).entered = false := by
  refine ⟨?_, ?_, ?_, ⟨bar_taken ?_, ?_⟩, ⟨bar_taken ?_, ?_⟩, bar_taken ?_, ⟨bar_taken ?_, ?_⟩, ⟨bar_taken ?_, ?_⟩,
    ⟨bar_taken ?_, ?_⟩, ?_⟩ <;> decide +kernel
theorem witness_MirrorRowsComplete :
    (MirrorTaken mir0 (mm (mx 1 0 0 0 0) [7#8]) 1 0 (mx 1 0 0 0 0) [7#8] ∧ (mir0.ownerPlace 0 0).isSome = true) ∧
    MirrorTaken mir0 (mm (mx 1 0 0 1 0) [7#8]) 1 0 (mx 1 0 0 1 0) [7#8] ∧
    (MirrorTaken mir0 (mm (mx 2 0 1 0 0)) 2 0 (mx 2 0 1 0 0) [] ∧ (mir0.upd 0).rebuild.any (fun r => r.1 == 0) = false ∧
      heldOf (mir0.upd 0).held 0 2 0 = some heldW ∧ heldW.step = 4 ∧ heldW.mseq = 1 ∧ heldW.segs.length = 1) ∧
    (MirrorTaken mir0 (mm (mx 2 9 1 0 0)) 2 0 (mx 2 9 1 0 0) [] ∧ mir0.ownerPlace 0 9 = none) ∧
    MirrorTaken mir0 (mm (mx 4 0 0 0 0)) 4 0 (mx 4 0 0 0 0) [] ∧ MirrorTaken mir0 (mm (mx 5 0 0 0 0)) 5 0 (mx 5 0 0 0 0) [] ∧
    ((MirrorTaken mir0 (mm (mx 3 5 0 1 0)) 3 0 (mx 3 5 0 1 0) [] ∧ MirrorTaken mir0 (mm (mx 3 5 0 1 1)) 3 0 (mx 3 5 0 1 1) [] ∧
      MirrorTaken mir0 (mm (mx 3 5 0 1 2)) 3 0 (mx 3 5 0 1 2) []) ∧
      (mir0.upd 0).out.find? (fun o => mir0.mirrorName 0 o.area == (5, 2) && o.step == 4 && o.mseq == 1 && !o.acked) = some outM) ∧
    (mir0.upd 0).out.find? (fun o => o.area == 2 && !o.acked) = some outM ∧
    MirrorTaken mir0 (mm (mx 6 0 0 0 0)) 6 0 (mx 6 0 0 0 0) [] ∧
    restoreImage (mir0.upd 0).held 0 2 4 = some heldW ∧
    (MirrorTaken mir0 (mm (mx 7 0 0 1 0)) 7 0 (mx 7 0 0 1 0) [] ∧
      (mir0.upd 0).restores.find? (fun t => t.owner == 0 && t.area == 2 && t.step == 4) = some ⟨3, 0, 2, 4, [], 0⟩ ∧
      segStream [] 0 = some [] ∧ (mir0.areas 0).find? (fun y => y.1 == 3) = some (3, 2)) := by
  refine ⟨⟨mirror_taken _ _ ?_ ?_, ?_⟩, mirror_taken _ _ ?_ ?_, ⟨mirror_taken _ _ ?_ ?_, ?_⟩, ⟨mirror_taken _ _ ?_ ?_, ?_⟩, mirror_taken _ _ ?_ ?_,
    mirror_taken _ _ ?_ ?_, ⟨⟨mirror_taken _ _ ?_ ?_, mirror_taken _ _ ?_ ?_, mirror_taken _ _ ?_ ?_⟩, ?_⟩, ?_, mirror_taken _ _ ?_ ?_, ?_,
    ⟨mirror_taken _ _ ?_ ?_, ?_⟩⟩ <;> decide +kernel
theorem witness_JobControlCompletes :
    ((CtlMsg.mgmt (req 0x30 0 1 (leBytes 8 4))).ctype = 4 ∧ mgt0.mailOk 0x30 false 8 (req 0x30 0 1 (leBytes 8 4)) = true) ∧
    (net0.admitCtl (c4 4 1 []) = (net0, true) ∧ (CtlMsg.port (c4 4 1 [])).ctype = 4) ∧
    ((jobCtl0.jobCtlOk (jcm 3 1 0 ++ (sig0 ++ sig0))).2 = true ∧
      (((jobCtl0.jobCtlOk (jcm 3 1 0 ++ (sig0 ++ sig0))).1.wr pDOCK DOCK_KEY_SEQ_SEQ 1).jobCtlRun (jcm 3 1 0 ++ (sig0 ++ sig0))).2 = false ∧
      leAt (jcm 3 1 0 ++ (sig0 ++ sig0)) 8 8 = 1) ∧
    (byteAt (jcm 1 0 16) 6 = 1 ∧ net0.slotOfJob (leAt (jcm 1 0 16) 16 4) = some 0) ∧
    (byteAt (jcm 1 9 16) 6 = 1 ∧ net0.slotOfJob (leAt (jcm 1 9 16) 16 4) = none) ∧
    (byteAt (jcm 2 0 16) 6 = 2 ∧ net0.slotOfJob (leAt (jcm 2 0 16) 16 4) = some 0 ∧ maskList 256 (leAt (jcm 2 0 16) 32 32) = [4] ∧
      net0.portSlot 4 = some 0 ∧ net0.portState 4 = 2) ∧
    (byteAt (jcm 3 0 0) 6 = 3 ∧ net0.slotOfJob (leAt (jcm 3 0 0) 16 4) = some 0) ∧
    (byteAt (jcm 3 1 0) 6 = 3 ∧ net0.slotOfJob (leAt (jcm 3 1 0) 16 4) = none) := by
  decide +kernel
theorem witness_CellarRowsComplete :
    ((cell0.cacheEnt 6).load = some { epoch := 3, slot := 0, source := 1 } ∧
      cell0.cellarImage (cell0.rd pCELL CELL_MODEL_CELLAR_INDEX 6) = none ∧ cell0.rd pCELL CELL_MODEL_SOURCE 6 ≠ 2) ∧
    ((cell0.cacheEnt 6).load = some { epoch := 3, slot := 0, source := 1 } ∧
      (st [(pCELL, CELL_MODEL_SOURCE, 2, 6)] cell0).rd pCELL CELL_MODEL_SOURCE 6 = 2) ∧
    ((cell0.cacheEnt 5).load = some { epoch := 3, slot := 0, source := 1, placed := true } ∧
      cell0.cellarImage (cell0.rd pCELL CELL_MODEL_CELLAR_INDEX 5) = some imgGood ∧ imageBody imgGood = some [] ∧ byteAt imgGood 6 = 0 ∧
      leAt imgGood 10 2 = cell0.rd pCELL CELL_MODEL_MODEL 5 ∧ leAt imgGood 12 4 = 3 ∧
      readPieces imgGood (cell0.keyBytes (cell0.rd pCELL CELL_MODEL_KEYSLOT 5)) (cell0.rd pCELL CELL_MODEL_MODEL 5) 3
        (parseManifest []) = some []) ∧
    (cell0.cacheEnt 7).load = none ∧
    (mgt0.mailOk 0x40 false 256 reqOpen = true ∧ (mgt0.mailTaken 0x40 reqOpen).lifecycle ≠ 3 ∧
      ((mgt0.mailTaken 0x40 reqOpen).cellCmdOk (reqOpen.payload.take 256)).2 = false) ∧
    ((st [(pSEC, SEC_LIFECYCLE_STATE, 3, 0)] mgt0).mailOk 0x40 false 256 reqOpen = true ∧
      ((st [(pSEC, SEC_LIFECYCLE_STATE, 3, 0)] mgt0).mailTaken 0x40 reqOpen).lifecycle = 3) ∧
    ((signer1 mgt0).mailOk 0x40 false 256 reqOpen = true ∧
      let u := ((signer1 mgt0).mailTaken 0x40 reqOpen).cellCmdOk (reqOpen.payload.take 256)
      ((signer1 mgt0).mailTaken 0x40 reqOpen).lifecycle ≠ 3 ∧ u.2 = true ∧ (u.1.openWrite 1 1).2 = cellOk) ∧
    ((signer1 session0).mailOk 0x40 false 256 reqOpen = true ∧
      let u := ((signer1 session0).mailTaken 0x40 reqOpen).cellCmdOk (reqOpen.payload.take 256)
      ((signer1 session0).mailTaken 0x40 reqOpen).lifecycle ≠ 3 ∧ u.2 = true ∧ (u.1.openWrite 1 1).2 ≠ cellOk) ∧
    (session0.mailOk 0x41 false 0 (reqData [7#8]) = true ∧ (session0.mailTaken 0x41 (reqData [7#8])).lifecycle ≠ 3 ∧
      (session0.mailTaken 0x41 (reqData [7#8])).cellar.session = some ⟨1, 1, []⟩ ∧ (reqData [7#8]).arg.toNat = ([] : List Byte).length) ∧
    (session1.mailOk 0x41 false 0 (reqData [7#8]) = true ∧ (session1.mailTaken 0x41 (reqData [7#8])).lifecycle ≠ 3 ∧
      (session1.mailTaken 0x41 (reqData [7#8])).cellar.session = some ⟨1, 2, [0#8]⟩ ∧
      (reqData [7#8]).arg.toNat ≠ ([0#8] : List Byte).length) := by
  refine ⟨?_, ?_, ⟨?_, cell0_image, imgGood_body, ?_⟩, ?_, ⟨mail_ok ?_, ?_⟩, ⟨mail_ok ?_, ?_⟩, ⟨mail_ok ?_, ?_⟩, ⟨mail_ok ?_, ?_⟩,
    ⟨mail_ok ?_, ?_⟩, ⟨mail_ok ?_, ?_⟩⟩ <;> decide +kernel

end Sys2Proof.Tests
end

/-! Every command answers a next state (00_scope.md, R1). The meaning of a command ends in one of two answers: `keep`, which puts
stack memory back as it was, and `keepQ`, which lists what was written in canonical form. Which of the two a command has is what
`Instr.mayWriteStack` says. That a command always has a next state is the model's choice (log 54), and so are the sparse listing of
memory and its canonical form (log 4, log 63). -/

namespace Sys2Proof.Machine

/-! ### The answer that each command has -/

/-- A command that may not write stack memory answers with `keep`. Splitting on `h` drops the rows of the other kind, and the
meaning of each row left ends in `keep`. -/
theorem exec_eq_keep {c : Instr} (h : c.mayWriteStack = false) (s : State) : ∃ u, exec c s = keep s u := by
  cases c <;> cases h <;> exact ⟨_, rfl⟩

/-- A command that may write stack memory answers with `keepQ`, row by row in the same way. -/
theorem exec_eq_keepQ {c : Instr} (h : c.mayWriteStack = true) (s : State) : ∃ u, exec c s = keepQ s u := by
  cases c <;> cases h <;> exact ⟨_, rfl⟩

/-! ### What the two answers leave -/

/-- `keep` answers a next state with the queue and stack memory as they were. -/
theorem keep_frame (s u : State) : ∃ t, keep s u = .next t ∧ t.pending = s.pending ∧ t.mem = s.mem :=
  ⟨_, rfl, rfl, rfl⟩

/-- `keepQ` answers a next state with the queue as it was and stack memory in canonical form, whatever `u` holds. -/
theorem keepQ_frame (s u : State) : ∃ t, keepQ s u = .next t ∧ t.pending = s.pending ∧ Memory.wf t.mem = true :=
  ⟨_, rfl, rfl, Memory.canon_wf u.mem⟩

/-- The same listing of stack memory reads the same bytes. -/
theorem stackKept_of_mem_eq {s t : State} (h : t.mem = s.mem) : StackKept s t := fun a => by
  simp only [State.memByte, h]

/-- Settles O2: by which of the two answers the command has. -/
theorem everyCommandAnswersANextState : Obligations.EveryCommandAnswersANextState := by
  intro c s
  cases hc : c.mayWriteStack with
  | false =>
    obtain ⟨u, hu⟩ := exec_eq_keep hc s
    obtain ⟨t, ht, hq, hm⟩ := keep_frame s u
    exact ⟨t, hu.trans ht, hq, fun w => hm ▸ w, fun _ => ⟨hm, stackKept_of_mem_eq hm⟩⟩
  | true =>
    obtain ⟨u, hu⟩ := exec_eq_keepQ hc s
    obtain ⟨t, ht, hq, hw⟩ := keepQ_frame s u
    exact ⟨t, hu.trans ht, hq, fun _ => hw, fun h => nomatch h⟩

end Sys2Proof.Machine

/-! Register pages (02_register_pages.md, R23–R46). What a page's register tables define, what a plain write leaves of a register,
the gate that every register write passes before its row acts, resets and the common registers, the expert gate, and the time
base. -/

namespace Sys2Proof.Machine

/-! ### The queue -/

/-- Settles O1: by the two cases of the queue. That time passes on an empty one is the model's choice (log 3). -/
theorem stepRunsTheFrontCommand : Obligations.StepRunsTheFrontCommand :=
  ⟨fun c rest s h => by simp only [step, h], fun s h => by simp only [step, h]; rfl⟩

/-! ### The register tables (R23, R30) -/

/-- Every block type of R30. -/
def pageKinds : List Nat := List.range 19 ++ [pMEM, pOPT, pREG]

theorem pageAssigned_iff (p : Nat) : pageAssigned p = true ↔
    p ≤ 0x012 ∨ (0x020 ≤ p ∧ p ≤ 0x039) ∨ (0x040 ≤ p ∧ p ≤ 0x07F) ∨ (0x100 ≤ p ∧ p ≤ 0x153) := by
  simp only [pageAssigned, pMEM, pOPT, pREG, Bool.or_eq_true, Bool.and_eq_true, decide_eq_true_eq]
  omega

/-- R30: page `p` lies in the range that starts at `f`. -/
abbrev PageOfKind (p f : Nat) : Prop := (p ≤ 0x012 ∧ f = p) ∨ (0x020 ≤ p ∧ p ≤ 0x039 ∧ f = 0x020) ∨
  (0x040 ≤ p ∧ p ≤ 0x07F ∧ f = 0x040) ∨ (0x100 ≤ p ∧ p ≤ 0x153 ∧ f = 0x100)

theorem PageOfKind.pageKind_eq {p f : Nat} (h : PageOfKind p f) : pageKind p = f := by
  simp only [pageKind, pMEM, pOPT, pREG]
  split_ifs <;> omega

theorem PageOfKind.mem_pageKinds {p f : Nat} (h : PageOfKind p f) : f ∈ pageKinds := by
  simp only [pageKinds, pMEM, pOPT, pREG, List.mem_append, List.mem_range, List.mem_cons, List.not_mem_nil, or_false]
  omega

/-- What a page defines depends on its block type alone. -/
theorem regDefAt_of_kind {p k : Nat} (h : pageKind p = k) (h' : pageKind k = k) (off : Nat) : regDefAt p off = regDefAt k off := by
  unfold regDefAt pageRegs
  rw [h, h']

/-- The ID register of a block type (R30, R33): the block type, the number in its range, and the rest that all pages share. -/
def idDef (k : Nat) : RegDef :=
  ⟨0, 0, 1, [⟨63, 48, .ro, .num k⟩, ⟨47, 32, .ro, .num 0⟩, ⟨31, 16, .ro, .num 1⟩, ⟨15, 0, .ro, .num 0x4231⟩]⟩

theorem kind_defines_id : ∀ k ∈ pageKinds, pageKind k = k ∧ regDefAt k 0 = some (idDef k) := by decide +kernel

theorem regDefAt_id {p k : Nat} (hk : pageKind p = k) (hm : k ∈ pageKinds) : regDefAt p 0 = some (idDef k) := by
  obtain ⟨hkk, hid⟩ := kind_defines_id k hm
  rw [regDefAt_of_kind hk hkk, hid]

@[simp] theorem pageOf_regAddr {p o : Nat} (h : o < 65536) : pageOf (regAddr p o) = p := by
  unfold pageOf regAddr; omega

@[simp] theorem offOf_regAddr {p o : Nat} (h : o < 65536) : offOf (regAddr p o) = o := by
  unfold offOf regAddr; omega

theorem regAddr_page_off (a : Nat) : regAddr (pageOf a) (offOf a) = a := by
  unfold regAddr pageOf offOf; omega

/-- What the ID register of a page holds after a cold reset. -/
theorem regInit_id {p k : Nat} (hk : pageKind p = k) (hm : k ∈ pageKinds) :
    regInit (regAddr p 0) = BitVec.ofNat 64 (k * 2 ^ 48 + 2 ^ 16 + 0x4231 + (p - k) * 2 ^ 32) := by
  have hp : regAddr p 0 / 65536 = p := pageOf_regAddr (by decide)
  have ho : regAddr p 0 % 65536 = 0 := offOf_regAddr (by decide)
  simp only [regInit, hp, ho, regDefAt_id hk hm, hk]
  simp [idDef, ResetForm.value]

/-- The ID register reads as it stands, in every state. -/
theorem State.readValue_id (s : State) {p k : Nat} (hk : pageKind p = k) (hm : k ∈ pageKinds) :
    s.readValue p 0 = (s.getReg (regAddr p 0)).toNat := by
  unfold State.readValue
  rw [regDefAt_id hk hm]
  simp [idDef, State.rawRead]

theorem State.refuses_unmapped (s : State) (q : Requester) {addr : Nat} (bytes : Nat) (w : Bool) (v : Word)
    (h : pageAssigned (pageOf addr) = false) : s.refuses q addr bytes w v = some GLB_ERR_STATUS_UNMAPPED := by
  simp [State.refuses, h]

/-- Settles O5: the ID register of each block type stands in its table, and a page's number in its range is added at reset. -/
theorem resetIdNamesBlockTypeAndInstance : Obligations.ResetIdNamesBlockTypeAndInstance := by
  refine ⟨pageAssigned_iff, fun p f n h hn => ?_, fun q addr bytes w v s h => s.refuses_unmapped q bytes w v h⟩
  have hk := PageOfKind.pageKind_eq h
  have hm := PageOfKind.mem_pageKinds h
  have hreg : State.reset.getReg (regAddr p 0) = BitVec.ofNat 64 (f * 2 ^ 48 + 2 ^ 16 + 0x4231 + (p - f) * 2 ^ 32) :=
    regInit_id hk hm
  refine ⟨?_, ?_, State.reset.readValue_id hk hm⟩ <;>
  · rw [hreg, BitVec.toNat_ofNat]
    unfold bits
    omega

/-! ### A plain write (R25, R26) -/

/-- The fields of a register lie within its 64 bits and share none. -/
abbrev FieldsApart (l : List FieldDef) : Prop :=
  (∀ f ∈ l, f.lo ≤ f.hi ∧ f.hi < 64) ∧ l.Pairwise fun f g => g.hi < f.lo ∨ f.hi < g.lo

theorem pageRegs_fieldsApart (p : Nat) : ∀ d ∈ pageRegs p, FieldsApart d.fields := by
  unfold pageRegs
  split <;> decide +kernel

theorem regDefAt_fieldsApart {p o : Nat} {d : RegDef} (h : regDefAt p o = some d) : FieldsApart d.fields :=
  pageRegs_fieldsApart p d (List.mem_of_find?_eq_some h)

theorem bits_lt (v hi lo : Nat) : bits v hi lo < 2 ^ (hi + 1 - lo) := Nat.mod_lt _ (Nat.two_pow_pos _)

/-- What a write leaves in a field that is not `f`. -/
theorem bits_fieldWrite_other (old v : Nat) (f : FieldDef) {hi lo : Nat} (hf : f.lo ≤ f.hi) (d : hi < f.lo ∨ f.hi < lo) :
    bits (fieldWrite old v f) hi lo = bits old hi lo := by
  unfold fieldWrite
  split
  · exact bits_putBits_other _ _ _ _ _ _ d hf
  · exact bits_putBits_other _ _ _ _ _ _ d hf
  · rfl

theorem fieldWrite_lt {old v : Nat} {f : FieldDef} (hf : f.lo ≤ f.hi) (h64 : f.hi < 64) (h : old < 2 ^ 64) :
    fieldWrite old v f < 2 ^ 64 := by
  unfold fieldWrite
  split
  · exact putBits_lt _ _ _ _ 64 h h64 hf
  · exact putBits_lt _ _ _ _ 64 h h64 hf
  · exact h

/-- What a write leaves in field `f` depends on what stood in `f` alone. -/
theorem bits_fieldWrite_congr {old old' : Nat} (v : Nat) (f : FieldDef) (h : bits old f.hi f.lo = bits old' f.hi f.lo) :
    bits (fieldWrite old v f) f.hi f.lo = bits (fieldWrite old' v f) f.hi f.lo := by
  unfold fieldWrite
  split
  · rw [bits_putBits_same, bits_putBits_same]
  · rw [bits_putBits_same, bits_putBits_same, h]
  · exact h

theorem bits_fieldWrite_rw (old v : Nat) {f : FieldDef} (h : f.acc = .rw) :
    bits (fieldWrite old v f) f.hi f.lo = bits v f.hi f.lo := by
  simp only [fieldWrite, h, bits_putBits_same]
  exact Nat.mod_eq_of_lt (bits_lt _ _ _)

theorem bits_fieldWrite_w1c (old v : Nat) {f : FieldDef} (h : f.acc = .w1c) : bits (fieldWrite old v f) f.hi f.lo =
    Nat.land (bits old f.hi f.lo) (2 ^ (f.hi + 1 - f.lo) - 1 - bits v f.hi f.lo) := by
  simp only [fieldWrite, h, bits_putBits_same]
  exact Nat.mod_eq_of_lt (Nat.lt_of_le_of_lt Nat.and_le_left (bits_lt _ _ _))

theorem fieldWrite_of_kept (old v : Nat) {f : FieldDef} (h : f.acc ≠ .rw) (h' : f.acc ≠ .w1c) : fieldWrite old v f = old := by
  unfold fieldWrite
  split
  · exact absurd ‹_› h
  · exact absurd ‹_› h'
  · rfl

/-- A field that no field of the list meets keeps its value. -/
theorem bits_foldl_fieldWrite_other (l : List FieldDef) (old v : Nat) {hi lo : Nat} (hl : ∀ g ∈ l, g.lo ≤ g.hi)
    (d : ∀ g ∈ l, hi < g.lo ∨ g.hi < lo) : bits (l.foldl (fun a f => fieldWrite a v f) old) hi lo = bits old hi lo := by
  induction l generalizing old with
  | nil => rfl
  | cons g r ih =>
    simp only [List.forall_mem_cons] at hl d
    rw [List.foldl_cons, ih _ hl.2 d.2, bits_fieldWrite_other old v g hl.1 d.1]

/-- Each field of a register is written as if it stood alone. -/
theorem bits_foldl_fieldWrite (l : List FieldDef) (old v : Nat) (hl : FieldsApart l) {f : FieldDef} (hf : f ∈ l) :
    bits (l.foldl (fun a f => fieldWrite a v f) old) f.hi f.lo = bits (fieldWrite old v f) f.hi f.lo := by
  induction l generalizing old with
  | nil => cases hf
  | cons g r ih =>
    obtain ⟨hin, hapart⟩ := hl
    simp only [List.forall_mem_cons] at hin
    obtain ⟨hg, hr⟩ := List.pairwise_cons.mp hapart
    rw [List.foldl_cons]
    rcases List.mem_cons.mp hf with rfl | hfr
    · exact bits_foldl_fieldWrite_other r _ v (fun g hg => (hin.2 g hg).1) fun g hgr => (hg g hgr).symm
    · rw [ih _ ⟨hin.2, hr⟩ hfr]
      exact bits_fieldWrite_congr v f (bits_fieldWrite_other old v g hin.1.1 (hg f hfr))

theorem foldl_fieldWrite_lt (l : List FieldDef) (v : Nat) (hl : ∀ f ∈ l, f.lo ≤ f.hi ∧ f.hi < 64) {old : Nat}
    (h : old < 2 ^ 64) : l.foldl (fun a f => fieldWrite a v f) old < 2 ^ 64 := by
  induction l generalizing old with
  | nil => exact h
  | cons g r ih =>
    simp only [List.forall_mem_cons] at hl
    exact ih hl.2 (fieldWrite_lt hl.1.1 hl.1.2 h)

section
variable (s : State)

theorem State.plainWrite_undefined {a : Nat} (v : Word) (h : regDefAt (pageOf a) (offOf a) = none) : s.plainWrite a v = s := by
  simp only [State.plainWrite, h]

/-- A plain write touches no other register. -/
theorem State.getReg_plainWrite_ne {a b : Nat} (v : Word) (h : b ≠ a) : (s.plainWrite a v).getReg b = s.getReg b := by
  unfold State.plainWrite
  split
  · rfl
  · exact s.getReg_setReg_ne _ h

/-- A plain write of a defined register writes each of its fields. -/
theorem State.bits_plainWrite {a : Nat} (v : Word) {d : RegDef} {f : FieldDef} (h : regDefAt (pageOf a) (offOf a) = some d)
    (hf : f ∈ d.fields) :
    bits ((s.plainWrite a v).getReg a).toNat f.hi f.lo = bits (fieldWrite (s.getReg a).toNat v.toNat f) f.hi f.lo := by
  have hd := regDefAt_fieldsApart h
  have hlt := foldl_fieldWrite_lt d.fields v.toNat hd.1 (s.getReg a).isLt
  simp only [State.plainWrite, h, State.getReg_setReg, BitVec.toNat_ofNat, Nat.mod_eq_of_lt hlt]
  exact bits_foldl_fieldWrite _ _ _ hd hf

end

/-- Settles O7: the fields of a register share no bit, so each is written after its own access type. -/
theorem plainWriteFollowsEachFieldsAccessType : Obligations.PlainWriteFollowsEachFieldsAccessType := by
  refine ⟨fun a v s d f h hf => ?_, fun a b v s h => s.getReg_plainWrite_ne v h, fun a v s h => s.plainWrite_undefined v h⟩
  rw [s.bits_plainWrite v h hf]
  split
  · exact bits_fieldWrite_rw _ _ ‹_›
  · exact bits_fieldWrite_w1c _ _ ‹_›
  · rw [fieldWrite_of_kept _ _ ‹_› ‹_›]

/-! ### The gate of a register write (R24, R39) -/

/-- A write of an aligned register that passes the gate of R24 and R39: what follows the gate is an effect on the state, or the
answer of a row of its own. -/
inductive GatedWrite (s : State) (q : Requester) (addr : Nat) (v : Word) : State → Prop
  | effect (eff : State → State) : GatedWrite s q addr v (s.serveWrite q addr v eff)
  | row (eff : State → State) : GatedWrite s q addr v (nextOf s (keep s (s.serveWrite q addr v eff)))
  | rowMem (eff : State → State) : GatedWrite s q addr v (nextOf s (keepQ s (s.serveWrite q addr v eff)))

section
variable {s : State} {q : Requester} {v : Word}

/-- One line of a list of rows: what holds of its answer and of the lines after it holds of whatever the list gives. -/
theorem forall_mem_ite_some {α : Type} {P : α → Prop} {c : Prop} [Decidable c] {a : α} {r : Option α} (ha : c → P a)
    (hr : ∀ t ∈ r, P t) : ∀ t ∈ (if c then some a else r), P t := by
  split
  · rintro t ⟨⟩; exact ha ‹_›
  · exact hr

/-- The gate is that of the address. -/
theorem GatedWrite.of_addr {a addr : Nat} {t : State} (h : a = addr) (g : GatedWrite s q a v t) : GatedWrite s q addr v t := h ▸ g

/-- A row of one register, at the page and offset where it stands. -/
theorem GatedWrite.at_reg {p off p' off' : Nat} {t : State} (h : p = p' ∧ off = off') (g : GatedWrite s q (regAddr p' off') v t) :
    GatedWrite s q (regAddr p off) v t := by
  obtain ⟨rfl, rfl⟩ := h; exact g

/-- The rows of a page's own registers pass the gate. -/
theorem State.writeOwn_gated (p off : Nat) : ∀ t ∈ s.writeOwn q p off v, GatedWrite s q (regAddr p off) v t := by
  unfold State.writeOwn
  refine forall_mem_ite_some (fun h => .at_reg ⟨rfl, h⟩ (.row _)) ?_
  refine forall_mem_ite_some (fun h => .at_reg h (.effect _)) ?_
  refine forall_mem_ite_some (fun h => .at_reg h (.row _)) ?_
  refine forall_mem_ite_some (fun h => .at_reg h (.row _)) ?_
  refine forall_mem_ite_some (fun h => .at_reg h (.row _)) ?_
  refine forall_mem_ite_some (fun h => .at_reg h (.row _)) ?_
  refine forall_mem_ite_some (fun h => .at_reg h (.row _)) ?_
  refine forall_mem_ite_some (fun h => .at_reg h (.row _)) ?_
  refine forall_mem_ite_some (fun h => .at_reg h (.rowMem _)) ?_
  refine forall_mem_ite_some (fun h => .at_reg h (.row _)) ?_
  refine forall_mem_ite_some (fun h => .at_reg h ?_) fun t h => nomatch h
  split
  · exact .row _
  · exact .row _
  · exact .row _
  · exact .row _

/-- Every write of an engine's page passes the gate. -/
theorem State.writeOpt_gated (e : EngineIx) (off : Nat) : GatedWrite s q (regAddr (pOPT + e) off) v (s.writeOpt q e off v) := by
  unfold State.writeOpt
  split_ifs with hCfg hBert hLane h0 h1 h2 h3
  · subst hCfg; exact .rowMem _
  · subst hBert; exact .effect _
  · subst hLane; exact .rowMem _
  · subst h0; exact .rowMem _
  · subst h1; exact .rowMem _
  · subst h2; exact .rowMem _
  · subst h3; exact .rowMem _
  · exact .effect _

/-- Every write of an aligned register passes the gate. -/
theorem State.writeAny_gated {addr : Nat} (ha : addr % 8 = 0) (hp : pageAssigned (pageOf addr) = true) :
    GatedWrite s q addr v (s.writeAny q addr 8 v) := by
  have hoff : offOf addr % 8 = 0 := by unfold offOf; omega
  have hb : ¬((8 : Nat) ≠ 8 ∨ addr % 8 ≠ 0 ∨ pageAssigned (pageOf addr) = false) := by simp [ha, hp]
  refine .of_addr (regAddr_page_off addr) ?_
  unfold State.writeAny
  simp only [if_neg hb]
  split
  case isTrue h => exact .at_reg ⟨rfl, h⟩ (.effect _)
  split
  case h_1 t h => exact State.writeOwn_gated _ _ t h
  split
  case isTrue h =>
    exact .at_reg ⟨by simp only; omega, rfl⟩ (State.writeOpt_gated ⟨pageOf addr - pOPT, by omega⟩ (offOf addr))
  split
  case isTrue h => exact .at_reg ⟨by simp only [regPage]; omega, h.2.2⟩ (.row _)
  split
  case isTrue h => exact .at_reg ⟨h.1, by simp only; omega⟩ (.row _)
  split
  case isTrue h => exact .at_reg ⟨h.1, by simp only; omega⟩ (.row _)
  exact .of_addr (regAddr_page_off addr).symm (.effect _)
end

section
variable {s u : State} {q : Requester} {addr : Nat} {v : Word}

/-- What holds of the answer of the gate, whatever would follow it, holds of the write. -/
theorem GatedWrite.keepQ_eq {t : State} (g : GatedWrite s q addr v t) (hu : ∀ eff, s.serveWrite q addr v eff = u)
    (hm : u.mem = s.mem) : keepQ s t = keepQ s u := by
  cases g with
  | effect eff => rw [hu]
  | row eff => rw [hu]; simp [keepQ, keep, nextOf, hm]
  | rowMem eff => rw [hu]; simp [keepQ, nextOf, Memory.canon_wf]

/-- A write of which the gate makes `u`, whatever would follow it, answers `u`. -/
theorem answersMem_of_gate {bytes : Nat} (hu : ∀ eff, s.serveWrite q addr v eff bytes = u) (hm : u.mem = s.mem) :
    AnswersMem (.registerWrite q addr bytes v) s u := by
  refine answersMem_of_keepQ (?_ : keepQ s (s.writeAny q addr bytes v) = keepQ s u)
  by_cases hb : bytes ≠ 8 ∨ addr % 8 ≠ 0 ∨ pageAssigned (pageOf addr) = false
  · simp only [State.writeAny, if_pos hb, hu]
  · simp only [not_or, not_not, Bool.not_eq_false] at hb
    obtain ⟨rfl, ha, hp⟩ := hb
    exact (State.writeAny_gated ha hp).keepQ_eq hu hm

/-- A served write is aligned and names an assigned page. -/
theorem State.served_aligned (h : s.served q addr v = true) : addr % 8 = 0 ∧ pageAssigned (pageOf addr) = true := by
  unfold State.served State.refuses at h
  simp only [Bool.and_eq_true, Option.isNone_iff_eq_none] at h
  obtain ⟨-, h⟩ := h
  split at h
  · cases h
  · split at h
    · cases h
    · simp_all

/-- A register without a row of its own is none that has one. -/
theorem ne_of_ownRow {p off p' off' : Nat} (h : ownRow p off = false) (hr : ownRow p' off' = true) : ¬(p = p' ∧ off = off') := by
  rintro ⟨rfl, rfl⟩
  exact Bool.false_ne_true (h.symm.trans hr)

theorem State.writeOwn_of_not_ownRow {p off : Nat} (h : ownRow p off = false) : s.writeOwn q p off v = none := by
  have h30 : off ≠ 0x30 := fun ho => ne_of_ownRow (p' := p) h (by simp [ownRow]) ⟨rfl, ho⟩
  unfold State.writeOwn
  rw [if_neg h30]
  iterate 10 rw [if_neg (ne_of_ownRow h (by decide))]

theorem State.writeOpt_of_not_ownRow {e : EngineIx} {off : Nat} (h : ownRow (pOPT + e) off = false) :
    s.writeOpt q e off v = s.serveWrite q (regAddr (pOPT + e) off) v fun s => s.otherWrite q (pOPT + e) off v := by
  have hrow {o : Nat} (hr : ownRow (pOPT + e) o = true) : off ≠ o := fun ho => ne_of_ownRow h hr ⟨rfl, ho⟩
  unfold State.writeOpt
  iterate 7 rw [if_neg (hrow (by simp [ownRow]))]

/-- A served write of a register without a row of its own does what that register's write does. -/
theorem State.writeAny_of_not_ownRow (h : s.served q addr v = true) (ho : ownRow (pageOf addr) (offOf addr) = false) :
    s.writeAny q addr 8 v = s.otherWrite q (pageOf addr) (offOf addr) v := by
  obtain ⟨ha, hp⟩ := State.served_aligned h
  have hb : ¬((8 : Nat) ≠ 8 ∨ addr % 8 ≠ 0 ∨ pageAssigned (pageOf addr) = false) := by simp [ha, hp]
  have hctrl : offOf addr ≠ 0x10 := fun hc => ne_of_ownRow (p' := pageOf addr) ho (by simp [ownRow]) ⟨rfl, hc⟩
  unfold State.writeAny
  simp only [if_neg hb, if_neg hctrl, State.writeOwn_of_not_ownRow ho]
  split
  case isTrue hopt =>
    have hpage : pOPT + (pageOf addr - pOPT) = pageOf addr := by omega
    rw [State.writeOpt_of_not_ownRow (by rwa [hpage])]
    simp only [hpage, regAddr_page_off]
    exact serveWrite_served _ h
  split
  case isTrue hc => simp [ownRow, hc] at ho
  split
  case isTrue hc => simp [ownRow, hc] at ho
  split
  case isTrue hc => simp [ownRow, hc] at ho
  exact serveWrite_served _ h

/-- A read that no check refuses gives the register's value and clears its RC fields. -/
theorem State.serveRead_served {bytes : Nat} (hw : s.wholeReset = false) (h : s.refuses q addr bytes false 0#64 = none) :
    s.serveRead q addr bytes =
      (s.readClear (pageOf addr) (offOf addr), BitVec.ofNat 64 (s.readValue (pageOf addr) (offOf addr))) := by
  simp [State.serveRead, hw, h]

/-- A refused read is recorded and gives 0. -/
theorem State.serveRead_refused {bytes : Nat} {f : Fld} (hw : s.wholeReset = false)
    (h : s.refuses q addr bytes false 0#64 = some f) : s.serveRead q addr bytes = (s.refuseAccess q addr false f, 0#64) := by
  simp [State.serveRead, hw, h]

/-- A read answers what serves it, with the value sent to its requester. -/
theorem answers_read {bytes : Nat} {x : Word} (h : s.serveRead q addr bytes = (u, x)) :
    Answers (.counterReadClear q addr bytes) s (u.emit (.readData q addr x)) := by
  refine answers_of_keep (?_ : execCounterReadClear q addr bytes s = _)
  rw [execCounterReadClear, h]

end

/-- Settles O8: a served write passes the gate and reaches its register; during a warm reset the gate leaves the state as it is. -/
theorem registerRowsComplete : Obligations.RegisterRowsComplete := by
  refine ⟨fun q addr v s h ho => ?_, fun q addr s hw h => answers_read (State.serveRead_served hw h),
    fun q addr bytes v s hw => answersMem_of_gate (fun eff => serveWrite_reset eff hw) rfl⟩
  refine answersMem_of_keepQ (?_ : keepQ s (s.writeAny q addr 8 v) = _)
  rw [State.writeAny_of_not_ownRow h ho]

/-! ### Errors and events (R34) -/

/-- Registers at different offsets differ, whatever their pages. -/
theorem regAddr_ne_of_off {p q a b : Nat} (ha : a < 65536) (hb : b < 65536) (h : a ≠ b) : regAddr p a ≠ regAddr q b := by
  unfold regAddr; omega

/-- A number's one bit as a field. -/
theorem bits_one (v i : Nat) : bits v i i = (v.testBit i).toNat := by
  rw [Nat.toNat_testBit, bits]
  congr 1
  simp

section
variable (s : State) (p : Nat) (f : Fld)

theorem State.rd_setReg_ne {a q : Nat} (v : Word) (g : Fld) (j : Nat) (h : regAddr q (g.atIx j) ≠ a) :
    (s.setReg a v).rd q g j = s.rd q g j := by
  rw [State.rd, s.getReg_setReg_ne v h, State.rd]

/-- With NOTIFY off, raising a bit of ERR_STATUS sets it and does nothing else. -/
theorem State.raiseErr_notify_off (h : s.rd pMGT MGT_NOTIFY_CFG_EN = 0) : s.raiseErr p f =
    s.setReg (regAddr p 0x20) (s.getReg (regAddr p 0x20) ||| (1#64 <<< f.lo)) := by
  have hen (v : Word) : (s.setReg (regAddr p 0x20) v).rd pMGT MGT_NOTIFY_CFG_EN = 0 :=
    (s.rd_setReg_ne v _ _ (regAddr_ne_of_off (by decide) (by decide) (by decide))).trans h
  simp [State.raiseErr, State.raiseErrBits, State.sendNotify, hen]

/-- With NOTIFY off, raising a bit of EVT_STATUS sets it and does nothing else. -/
theorem State.raiseEvt_notify_off (h : s.rd pMGT MGT_NOTIFY_CFG_EN = 0) : s.raiseEvt p f =
    s.setReg (regAddr p 0x38) (s.getReg (regAddr p 0x38) ||| (1#64 <<< f.lo)) := by
  have hen (v : Word) : (s.setReg (regAddr p 0x38) v).rd pMGT MGT_NOTIFY_CFG_EN = 0 :=
    (s.rd_setReg_ne v _ _ (regAddr_ne_of_off (by decide) (by decide) (by decide))).trans h
  simp [State.raiseEvt, State.sendNotify, hen]

/-- On a page that ERR_PAGE_MAP marks already, raising an error sets its bit and does nothing else. -/
theorem State.raiseErr_of_pending (h : s.errPending p = true) : s.raiseErr p f =
    s.setReg (regAddr p 0x20) (s.getReg (regAddr p 0x20) ||| (1#64 <<< f.lo)) := by
  simp [State.raiseErr, State.raiseErrBits, h]

/-- A bit that is ored into a register reads 1. -/
theorem State.rd_setReg_or (x : Word) (hw : f.hi = f.lo) (h : f.lo < 64) :
    (s.setReg (regAddr p (f.atIx 0)) (x ||| (1#64 <<< f.lo))).rd p f = 1 := by
  rw [State.rd, State.getReg_setReg, hw, bits_one, BitVec.testBit_toNat]
  simp [h]

end

/-! ### What a write leaves of the registers -/

theorem RegsKeptBut.trans {l : List Nat} {s t u : State} (h : RegsKeptBut l s t) (h' : RegsKeptBut l t u) : RegsKeptBut l s u :=
  fun a ha => (h' a ha).trans (h a ha)

/-- A register write leaves every register but its own. -/
theorem State.setReg_keptBut {l : List Nat} (s : State) {a : Nat} (v : Word) (h : a ∈ l) : RegsKeptBut l s (s.setReg a v) :=
  fun _ hb => s.getReg_setReg_ne v fun e => hb (e ▸ h)

/-- A field write leaves every register but its own. -/
theorem State.wr_keptBut {l : List Nat} (s : State) (p : Nat) (f : Fld) (v i : Nat) (h : regAddr p (f.atIx i) ∈ l) :
    RegsKeptBut l s (s.wr p f v i) := s.setReg_keptBut _ h

/-- Field writes within listed registers leave every other register. -/
theorem State.wrs_keptBut {l : List Nat} (s : State) (p : Nat) (fs : List (Fld × Nat)) (i : Nat)
    (h : ∀ x ∈ fs, regAddr p (x.1.atIx i) ∈ l) : RegsKeptBut l s (s.wrs p fs i) := by
  induction fs generalizing s with
  | nil => exact fun _ _ => rfl
  | cons x r ih =>
    simp only [List.forall_mem_cons] at h
    exact (s.wr_keptBut p x.1 x.2 i h.1).trans (ih _ h.2)

/-- Settles O10: with NOTIFY off, and on a page marked already, the raising is one write of the status register. -/
theorem errorsAndEventsSetTheirBits : Obligations.ErrorsAndEventsSetTheirBits := by
  refine ⟨fun p f s hw ho hs hl hn => ?_, fun p f s hw ho hs hl hn => ?_, fun p f s h => s.raiseErr_of_pending p f h⟩
  · have hat : f.atIx 0 = 0x20 := by simp [Fld.atIx, ho]
    rw [s.raiseErr_notify_off p f hn]
    exact ⟨hat ▸ s.rd_setReg_or p f _ hw hl, s.setReg_keptBut _ (List.mem_singleton_self _), rfl⟩
  · have hat : f.atIx 0 = 0x38 := by simp [Fld.atIx, ho]
    rw [s.raiseEvt_notify_off p f hn]
    exact ⟨hat ▸ s.rd_setReg_or p f _ hw hl, s.setReg_keptBut _ (List.mem_singleton_self _), rfl⟩

/-! ### Counters (R35) -/

/-- Settles O9: a counter of 64 bits holds its greatest value. -/
theorem countersSaturate : Obligations.CountersSaturate := by
  intro p f n s hh hl
  have hlt : s.rd p f < 2 ^ 64 := by simpa [hh, hl] using s.rd_lt p f 0
  have hrd := s.rd_bump p f n hh hl
  exact ⟨hrd, by omega, fun a ha => s.getReg_bump_ne p f n a (by simpa using ha)⟩

/-! ### Refused accesses (R24) -/

section
variable (s : State) (q : Requester) (addr : Nat) (w : Bool) (f : Fld)

/-- A refused access sets the bit of its row and counts, before its address is recorded. -/
def State.countRefusal : State := (s.raiseErr pGLB f).bump pGLB GLB_C_ACCESS_ERR_COUNT

/-- Counting a refused access leaves ACCESS_ERR_ADDR as it was. -/
theorem State.rd_countRefusal_valid :
    (s.countRefusal f).rd pGLB GLB_ACCESS_ERR_ADDR_VALID = s.rd pGLB GLB_ACCESS_ERR_ADDR_VALID := by
  rw [State.countRefusal, State.rd_bump_ne _ _ _ _ _ _ _ (by decide)]
  exact s.rd_raiseErr _ _ _ _ _ (by decide) (notMem_notifyRegs (by decide) (by decide) (by decide))

theorem State.refuseAccess_of_valid (h : s.rd pGLB GLB_ACCESS_ERR_ADDR_VALID = 1) :
    s.refuseAccess q addr w f = s.countRefusal f :=
  if_pos ((s.rd_countRefusal_valid f).trans h)

theorem State.refuseAccess_of_not_valid (h : s.rd pGLB GLB_ACCESS_ERR_ADDR_VALID ≠ 1) : s.refuseAccess q addr w f =
    (s.countRefusal f).wrs pGLB [(GLB_ACCESS_ERR_ADDR_ADDR, addr), (GLB_ACCESS_ERR_ADDR_PATH, pathCode q),
      (GLB_ACCESS_ERR_ADDR_WRITE, b2n w), (GLB_ACCESS_ERR_ADDR_VALID, 1)] :=
  if_neg fun hv => h ((s.rd_countRefusal_valid f).symm.trans hv)

/-- Recording a refused access writes no memory. -/
theorem State.refuseAccess_mem : (s.refuseAccess q addr w f).mem = s.mem := by
  by_cases h : s.rd pGLB GLB_ACCESS_ERR_ADDR_VALID = 1
  · simp [s.refuseAccess_of_valid q addr w f h, State.countRefusal]
  · simp [s.refuseAccess_of_not_valid q addr w f h, State.countRefusal]

/-- The registers that a refused access may change while NOTIFY is off: ERR_STATUS, the counter and ACCESS_ERR_ADDR. -/
def refusalRegs : List Nat :=
  [regAddr pGLB 0x20, regAddr pGLB GLB_C_ACCESS_ERR_COUNT.off, regAddr pGLB GLB_ACCESS_ERR_ADDR_VALID.off]

/-- With NOTIFY off, counting a refused access changes the registers alone, and of them only its own. -/
theorem State.countRefusal_frame (h : s.rd pMGT MGT_NOTIFY_CFG_EN = 0) : RegsKeptBut refusalRegs s (s.countRefusal f) ∧
    s.countRefusal f = { s with regs := (s.countRefusal f).regs } := by
  rw [State.countRefusal, s.raiseErr_notify_off pGLB f h]
  exact ⟨(s.setReg_keptBut _ (by decide)).trans (State.wr_keptBut _ _ _ _ _ (by decide)), rfl⟩

/-- With NOTIFY off, a refused access changes the registers alone, and of them only its own. -/
theorem State.refuseAccess_frame (h : s.rd pMGT MGT_NOTIFY_CFG_EN = 0) : RegsKeptBut refusalRegs s (s.refuseAccess q addr w f) ∧
    s.refuseAccess q addr w f = { s with regs := (s.refuseAccess q addr w f).regs } := by
  obtain ⟨hkept, heq⟩ := s.countRefusal_frame f h
  by_cases hv : s.rd pGLB GLB_ACCESS_ERR_ADDR_VALID = 1
  · rw [s.refuseAccess_of_valid q addr w f hv]
    exact ⟨hkept, heq⟩
  · rw [s.refuseAccess_of_not_valid q addr w f hv]
    refine ⟨hkept.trans (State.wrs_keptBut _ _ _ _ (by simp; decide)), ?_⟩
    rw [State.wrs_eq, heq]

end

section
variable (s : State) (q : Requester) (addr bytes : Nat) (w : Bool) (v : Word)

/-- R31: what of a dead page an access still reaches. -/
abbrev State.reaches (p o : Nat) : Prop := s.deadPage p = false ∨ (w = false ∧ (o = 0 ∨ o = 8 ∨ o = 0x18 ∨ o = 0x20))

/-- R40: what a write must not touch while the expert gate is shut. -/
abbrev State.expertShut (p o : Nat) : Prop :=
  (0x800 ≤ o ∧ o < 0xC00 ∧ ¬(s.rd pGLB GLB_EXPERT_STATUS_MATCHED = 1 ∧ s.rd p cExpert = 1)) ∨
    (o = 0x10 ∧ bit v.toNat 1 = true ∧ s.rd pGLB GLB_EXPERT_STATUS_MATCHED ≠ 1)

theorem State.refuses_badAccess (hp : pageAssigned (pageOf addr) = true) (hb : bytes ≠ 8 ∨ addr % 8 ≠ 0) :
    s.refuses q addr bytes w v = some GLB_ERR_STATUS_BAD_ACCESS := by
  simp [State.refuses, hp, hb]

/-- The rows of R24 after BAD_ACCESS, in their order. -/
theorem State.refuses_aligned (hp : pageAssigned (pageOf addr) = true) (hb : bytes = 8) (ha : addr % 8 = 0) :
    s.refuses q addr bytes w v =
      if s.mayAccess q (pageOf addr) (offOf addr) w = false then some GLB_ERR_STATUS_PERM_DENIED
      else if ¬s.reaches w (pageOf addr) (offOf addr) then some GLB_ERR_STATUS_DEAD_PAGE
      else if w = true ∧ s.resetBusy (pageOf addr) = true then some GLB_ERR_STATUS_BUSY_WRITE
      else if w = true ∧ s.expertShut v (pageOf addr) (offOf addr) then some GLB_ERR_STATUS_EXPERT_DENIED
      else none := by
  unfold State.refuses
  dsimp only
  rw [if_neg (by simp [hp]), if_neg (by simp [hb, ha])]
  refine if_congr (by simp) rfl (if_congr ?dead rfl (if_congr (by simp) rfl (if_congr ?expert rfl rfl)))
  case dead => cases w <;> simp
  case expert => cases w <;> simp [State.expertShut, ← imp_iff_not_or, and_assoc]

theorem State.readValue_undefined (p o : Nat) (h : regDefAt p o = none) (hd : s.deadPage p = false) : s.readValue p o = 0 := by
  simp [State.readValue, h, hd]

end

/-- Settles O6: a refused access reaches the record and nothing else; the rows of R24 stand in their order. -/
theorem refusedAccessIsRecordedOnce : Obligations.RefusedAccessIsRecordedOnce := by
  refine ⟨fun q addr bytes v f s hw h => ?_, fun q addr bytes f s hw h => answers_read (State.serveRead_refused hw h),
    fun q addr w f s h => s.refuseAccess_of_valid q addr w f h,
    fun q addr w f s h => s.refuseAccess_of_not_valid q addr w f (by simp [h]),
    fun q addr w f s h => s.refuseAccess_frame q addr w f h, fun q addr bytes w v s => ?_,
    fun a v s h => ⟨s.plainWrite_undefined v h, s.readValue_undefined _ _ h⟩⟩
  · exact answersMem_of_gate (fun eff => serveWrite_refused eff hw h) (s.refuseAccess_mem q addr true f)
  · refine ⟨s.refuses_unmapped q bytes w v, s.refuses_badAccess q addr bytes w v, fun hp hb ha => ?_⟩
    rw [s.refuses_aligned q addr bytes w v hp hb ha]
    refine ⟨fun hm => if_pos hm, fun hm hd => ?_, fun hm hd => ⟨fun hw hbusy => ?_, fun hw hbusy he => ?_, fun hok => ?_⟩⟩
    · rw [if_neg (by simp [hm]), if_pos hd]
    · rw [if_neg (by simp [hm]), if_neg (not_not_intro hd), if_pos ⟨hw, hbusy⟩]
    · rw [if_neg (by simp [hm]), if_neg (not_not_intro hd), if_neg (by simp [hbusy]), if_pos ⟨hw, he⟩]
    · rw [if_neg (by simp [hm]), if_neg (not_not_intro hd), if_neg, if_neg]
      · rintro ⟨hw, he⟩
        exact hok.elim (by simp [hw]) fun h => h.2 he
      · rintro ⟨hw, hbusy⟩
        exact hok.elim (by simp [hw]) (by simp [hbusy])

/-! ### Resets (R36, R38) -/

section
variable {s : State} {q : Requester} {v : Word}

theorem State.resetReq_wrong_confirm (h : s.served q (regAddr pGLB 0x108) v = true) (hc : GLB_RESET_REQ_CONFIRM.of v ≠ 0xA5C3) :
    s.resetReq q v = s := by
  rw [State.resetReq, serveWrite_served _ h, if_pos hc]

theorem State.resetReq_warm (h : s.served q (regAddr pGLB 0x108) v = true) (hc : GLB_RESET_REQ_CONFIRM.of v = 0xA5C3)
    (hk : GLB_RESET_REQ_KIND.of v = 1) : s.resetReq q v = s.startWarm (resetSource q) := by
  simp [State.resetReq, serveWrite_served _ h, hc, hk]

theorem State.resetReq_job (h : s.served q (regAddr pGLB 0x108) v = true) (hc : GLB_RESET_REQ_CONFIRM.of v = 0xA5C3)
    (hk : GLB_RESET_REQ_KIND.of v = 2) : s.resetReq q v = s.startJobReset (resetSource q) := by
  simp [State.resetReq, serveWrite_served _ h, hc, hk]

/-- What CTRL's ENABLE does once it has been written: it starts or ends the block's draining, or changes nothing. -/
def State.afterEnable (s t : State) (p : Nat) : State :=
  if s.rd p cEnable = 1 ∧ t.rd p cEnable = 0 then t.startDrain p
  else if s.rd p cEnable = 0 ∧ t.rd p cEnable = 1 then t.enableBlock p
  else t

theorem State.writeCtrl_served {p : Nat} (h : s.served q (regAddr p 0x10) v = true) : s.writeCtrl q p v =
    if bit v.toNat 2 && ctrlHas p 2 then (s.afterEnable (s.plainWrite (regAddr p 0x10) v) p).startBlockReset p
    else s.afterEnable (s.plainWrite (regAddr p 0x10) v) p := serveWrite_served _ h

theorem State.afterEnable_same {t : State} {p : Nat} (h : t.rd p cEnable = s.rd p cEnable) : s.afterEnable t p = t := by
  rw [State.afterEnable, if_neg (by omega), if_neg (by omega)]

theorem State.afterEnable_cleared {t : State} {p : Nat} (h : s.rd p cEnable = 1) (h' : t.rd p cEnable = 0) :
    s.afterEnable t p = t.startDrain p := if_pos ⟨h, h'⟩

theorem State.afterEnable_set {t : State} {p : Nat} (h : s.rd p cEnable = 0) (h' : t.rd p cEnable = 1) :
    s.afterEnable t p = t.enableBlock p := by
  rw [State.afterEnable, if_neg (by omega), if_pos ⟨h, h'⟩]

/-- A write of CTRL that asks for no reset does what its ENABLE says. -/
theorem State.writeCtrl_no_reset {p : Nat} (h : s.served q (regAddr p 0x10) v = true) (hb : bit v.toNat 2 = false) :
    s.writeCtrl q p v = s.afterEnable (s.plainWrite (regAddr p 0x10) v) p := by
  rw [State.writeCtrl_served h, if_neg (by simp [hb])]

/-! A request that covers no more than the resets that run changes nothing, and a block reset else runs beside them (R38). -/

theorem State.startWarm_covered (n : Nat) (h : s.wholeReset = true) : s.startWarm n = s := if_pos (.inl h)

theorem State.startJobReset_covered (n : Nat) (h : s.wholeReset = true ∨ s.resets.any (fun x => x.1 == .job) = true) :
    s.startJobReset n = s := if_pos (h.imp_right .inr)

theorem State.startBlockReset_covered {p : Nat}
    (h : s.wholeReset = true ∨ (s.resets.any (fun x => x.1 == .job) = true ∧ jobPages.contains p = true)) :
    s.startBlockReset p = s := if_pos (h.imp_right fun h => .inr (.inr h))

theorem State.startBlockReset_new {p : Nat} (hw : s.wholeReset = false) (hs : s.stage ≠ 1)
    (hp : s.resets.contains (.block, p) = false) (hj : (s.resets.any (fun x => x.1 == .job) && jobPages.contains p) = false) :
    s.startBlockReset p = { s with resets := s.resets ++ [(.block, p)] } := by
  refine if_neg ?_
  rw [hw, hp, ← Bool.and_eq_true, hj]
  simp [hs]

/-- The page of a block reset is busy until the reset ends. -/
theorem State.resetBusy_of_block {p : Nat} (h : (ResetKind.block, p) ∈ s.resets) : s.resetBusy p = true := by
  simp only [State.resetBusy, Bool.or_eq_true, List.any_eq_true]
  exact .inr ⟨_, h, by simp [resetCovers]⟩

end

/-- Settles O11: each row passes the gate, and the start of a reset is refused by a wider one that runs. That a job reset takes over
the block resets of its pages, and which pages those are, is deduced (log 136, log 20). -/
theorem resetRowsComplete : Obligations.ResetRowsComplete := by
  refine ⟨fun q v s h hc hk => congrArg (keep s) (State.resetReq_warm h hc hk),
    fun q v s h hc hk => congrArg (keep s) (State.resetReq_job h hc hk),
    fun q v s h hc => have hs := congrArg (keep s) (State.resetReq_wrong_confirm h hc); ⟨hs, hs⟩,
    fun q p v s h hb hc he => ?_, fun n p s h => ?_, fun n p s h => ?_, fun p s h => ?_, fun kind p s h => ?_,
    fun n s h =>
      ⟨State.startWarm_covered n h, State.startJobReset_covered n (.inl h), fun p => State.startBlockReset_covered (.inl h)⟩,
    fun n s hw h1 hFE => ?_, fun n s hw h1 hj => ?_,
    fun n s h => ⟨State.startJobReset_covered n (.inr h), fun p hp => State.startBlockReset_covered (.inr ⟨h, hp⟩)⟩,
    fun p s hw hs hp hj => ?_⟩
  · refine answersMem_of_keepQ (congrArg (keepQ s) ?_)
    rw [State.writeCtrl_served h, if_pos (by simp [hb, hc]), State.afterEnable_same he]
  · refine answers_of_keep (?_ : execResetDone .warm p s = _)
    simp [execResetDone, h]
  · refine answers_of_keep (?_ : execResetDone .job p s = _)
    simp [execResetDone, h]
  · refine answers_of_keep (?_ : execResetDone .block p s = _)
    simp [execResetDone, h]
  · refine answers_of_keep (?_ : execResetDone kind p s = _)
    simp [execResetDone, h]
  · exact if_neg (by simp [hw, h1, hFE])
  · exact if_neg (by simp only [hw, h1, hj]; simp)
  · rw [State.startBlockReset_new hw hs hp hj]
    exact ⟨rfl, State.resetBusy_of_block (by simp)⟩

/-! ### Disabling and enabling (R33, R355), and forced errors (R34) -/

/-- The end of a block's draining ends a job only on a REG page. -/
theorem State.endRegionJob_below (s : State) {p : Nat} (h : p < pREG) : s.endRegionJob p = s := if_pos h

/-- Settles O12: a write of CTRL is judged by its ENABLE; the other rows by what drains. -/
theorem disableAndEnableComplete : Obligations.DisableAndEnableComplete := by
  refine ⟨fun q p v s h hb h1 h0 => ?_, fun q p v s h hb h0 h1 => ?_, fun q p v s h hb he => ?_, fun p s hp hd hi hr => ?_,
    fun p s hp hd => ?_, fun q p v s h => ?_⟩
  · refine answersMem_of_keepQ (congrArg (keepQ s) ?_)
    rw [State.writeCtrl_no_reset h hb, State.afterEnable_cleared h1 h0, State.startDrain]
  · refine answersMem_of_keepQ (congrArg (keepQ s) ?_)
    rw [State.writeCtrl_no_reset h hb, State.afterEnable_set h0 h1]
  · refine answersMem_of_keepQ (congrArg (keepQ s) ?_)
    rw [State.writeCtrl_no_reset h hb, State.afterEnable_same he]
  · refine answers_of_keep (congrArg (keep s) ?_)
    rw [if_pos (by simp [hp, hd, hi]), State.endRegionJob_below _ hr]
  · exact answers_of_keep (congrArg (keep s) (if_pos (by simp [hp, hd])))
  · exact answers_of_keep (congrArg (keep s) (serveWrite_served _ h))

/-! ### The expert gate (R41, R42) -/

/-- What a served write of EXPERT_KEY does, row by row. -/
theorem expertKey_answers {s u : State} {q : Requester} {v : Word} (h : s.served q (regAddr pGLB 0x118) v = true)
    (hu : (if s.rd pGLB GLB_EXPERT_STATUS_LOCKED_OUT = 1 then s
      else if s.rd pGLB GLB_EXPERT_STATUS_SECRET_VALID = 0 then s.expertFail
      else if v.toNat = s.expectedKey then s.wr pGLB GLB_EXPERT_STATUS_MATCHED 1
      else s.expertFail.newExpertNonce) = u) : Answers (.expertKey q v) s u :=
  answers_of_keep (congrArg (keep s) ((serveWrite_served _ h).trans hu))

section
variable (s : State)

/-- A failed match is counted up to eight. -/
def State.fails (s : State) : Nat := min 8 (s.rd pGLB GLB_EXPERT_STATUS_FAILS + 1)

/-- A failed match before the lockout: MATCHED, FAILS and the counter. -/
def State.countFail (s : State) : State :=
  ((s.wr pGLB GLB_EXPERT_STATUS_MATCHED 0).wr pGLB GLB_EXPERT_STATUS_FAILS s.fails).bump pGLB GLB_C_EXPERT_FAILS

theorem State.expertFail_eq : s.expertFail =
    if s.fails = 8 then s.countFail.wr pGLB GLB_EXPERT_STATUS_LOCKED_OUT 1 else s.countFail := rfl

/-- The counter of failures is a register of its own. -/
theorem State.rd_countFail (g : Fld) (h : regAddr pGLB (g.atIx 0) ≠ regAddr pGLB (GLB_C_EXPERT_FAILS.atIx 0)) :
    s.countFail.rd pGLB g = ((s.wr pGLB GLB_EXPERT_STATUS_MATCHED 0).wr pGLB GLB_EXPERT_STATUS_FAILS s.fails).rd pGLB g :=
  State.rd_bump_ne _ _ _ _ _ _ _ h

theorem State.countFail_matched : s.countFail.rd pGLB GLB_EXPERT_STATUS_MATCHED = 0 := by
  rw [s.rd_countFail _ (by decide), State.rd_wr_field _ _ _ _ _ _ _ _ (by decide) (by decide) (by rfl) (by decide),
    State.rd_wr_same _ _ _ _ _ (by decide) (by decide)]
  rfl

theorem State.countFail_fails : s.countFail.rd pGLB GLB_EXPERT_STATUS_FAILS = s.fails := by
  rw [s.rd_countFail _ (by decide), State.rd_wr_same _ _ _ _ _ (by decide) (by decide)]
  exact Nat.mod_eq_of_lt (Nat.lt_of_le_of_lt (Nat.min_le_left _ _) (by decide))

theorem State.countFail_lockedOut :
    s.countFail.rd pGLB GLB_EXPERT_STATUS_LOCKED_OUT = s.rd pGLB GLB_EXPERT_STATUS_LOCKED_OUT := by
  rw [s.rd_countFail _ (by decide), State.rd_wr_field _ _ _ _ _ _ _ _ (by decide) (by decide) (by rfl) (by decide),
    State.rd_wr_field _ _ _ _ _ _ _ _ (by decide) (by decide) (by rfl) (by decide)]

/-- Locking the gate leaves the other fields of EXPERT_STATUS. -/
theorem State.expertFail_rd (g : Fld) (hg : g.off = 0x128) (hs : g.stride = 0) (d : g.hi < 1 ∨ 1 < g.lo) :
    s.expertFail.rd pGLB g = s.countFail.rd pGLB g := by
  rw [s.expertFail_eq]
  split
  · exact State.rd_wr_field _ _ _ _ _ _ _ _ (by decide) (by decide) (by simp [Fld.atIx, hg, hs]) d
  · rfl

/-- The eighth failure locks the gate. -/
theorem State.expertFail_lockedOut : s.expertFail.rd pGLB GLB_EXPERT_STATUS_LOCKED_OUT =
    if s.fails = 8 then 1 else s.rd pGLB GLB_EXPERT_STATUS_LOCKED_OUT := by
  rw [s.expertFail_eq]
  split
  · exact State.rd_wr_same _ _ _ _ _ (by decide) (by decide)
  · exact s.countFail_lockedOut

end

/-- Settles O13: the rows of R41's table in their order, and the eighth failure by the count before it. That no nonce is drawn
while there is no secret is deduced (log 67). -/
theorem expertGate : Obligations.ExpertGate := by
  refine ⟨fun q v s h => ⟨fun hl => ?_, fun hl hsec => ?_, fun hl hsec hk => ?_, fun hl hsec hk => ?_⟩,
    fun s => ⟨?_, ?_, fun h7 => ?_, fun h7 => ?_⟩, fun q v s h hl => ?_⟩
  · exact expertKey_answers h (if_pos hl)
  · exact expertKey_answers h (by rw [if_neg (by simp [hl]), if_pos hsec])
  · exact expertKey_answers h (by rw [if_neg (by simp [hl]), if_neg (by simp [hsec]), if_pos hk])
  · exact expertKey_answers h (by rw [if_neg (by simp [hl]), if_neg (by simp [hsec]), if_neg hk])
  · rw [s.expertFail_rd _ rfl rfl (by decide), s.countFail_matched]
  · rw [s.expertFail_rd _ rfl rfl (by decide), s.countFail_fails, State.fails]
  · rw [s.expertFail_lockedOut, if_pos (by unfold State.fails; omega)]
  · rw [s.expertFail_lockedOut, if_neg (by unfold State.fails; omega)]
  · exact answers_of_keep (congrArg (keep s) ((serveWrite_served _ h).trans (if_pos hl)))

/-! ### The time base (R45, R46, R417–R419) -/

section
variable (s : State)

/-- Setting the slew sets the time base and STATUS.SLEWING, and no other register. -/
theorem State.setSlew_keptBut (n : Nat) : RegsKeptBut [regAddr pTBASE 0x18] s (s.setSlew n) :=
  State.wr_keptBut (s.setTb { s.tb with slew := n, slewFrac := 0 }) _ _ _ _ (List.mem_singleton_self _)

theorem State.setSlew_slewing (n : Nat) : (s.setSlew n).rd pTBASE TBASE_STATUS_SLEWING = b2n (n != 0) := by
  rw [State.setSlew, State.rd_wr_same _ _ _ _ _ (by decide) (by decide)]
  cases n <;> rfl

theorem State.setSlew_source (n : Nat) : (s.setSlew n).rd pTBASE TBASE_STATUS_SOURCE = s.rd pTBASE TBASE_STATUS_SOURCE :=
  State.rd_wr_field (s.setTb { s.tb with slew := n, slewFrac := 0 }) _ _ _ _ _ _ _ (by decide) (by decide) (by rfl) (by decide)

theorem State.setSlew_tb (n : Nat) : (s.setSlew n).tb = { s.tb with slew := n, slewFrac := 0 } := rfl

theorem State.applyAdjust_step {off : Int} (h : 0 ≤ off - s.tb.slew) :
    s.applyAdjust off = (s.stepCount (off - s.tb.slew).toNat).setSlew 0 := if_pos h

theorem State.applyAdjust_slew {off : Int} (h : off - s.tb.slew < 0) : s.applyAdjust off = s.setSlew (-(off - s.tb.slew)).toNat :=
  if_neg (by omega)

theorem State.applyAdjust_source (off : Int) :
    (s.applyAdjust off).rd pTBASE TBASE_STATUS_SOURCE = s.rd pTBASE TBASE_STATUS_SOURCE := by
  by_cases h : 0 ≤ off - s.tb.slew
  · rw [s.applyAdjust_step h, State.setSlew_source]; rfl
  · rw [s.applyAdjust_slew (by omega), State.setSlew_source]

end

section
variable {s : State} {q : Requester} {v : Word}

/-- An adjustment below −100,000,000 ns is refused. -/
theorem tbaseAdjust_refused (h : s.served q (regAddr pTBASE 0x110) v = true)
    (hr : signed 48 (TBASE_ADJUST_OFFSET.of v) - s.tb.slew < -100000000) :
    Answers (.tbaseAdjust q v) s (s.raiseErr pTBASE TBASE_ERR_STATUS_ADJ_RANGE) :=
  answers_of_keep (congrArg (keep s) ((serveWrite_served _ h).trans (if_pos (decide_eq_true hr))))

/-- Another is applied, and loses the lock unless it is a whole number of seconds under PPS (R418). -/
theorem tbaseAdjust_applied (h : s.served q (regAddr pTBASE 0x110) v = true)
    (hr : ¬signed 48 (TBASE_ADJUST_OFFSET.of v) - s.tb.slew < -100000000) :
    Answers (.tbaseAdjust q v) s
      (if decide (signed 48 (TBASE_ADJUST_OFFSET.of v) % 1000000000 = 0 ∧ s.rd pTBASE TBASE_STATUS_SOURCE = 1) then
        s.applyAdjust (signed 48 (TBASE_ADJUST_OFFSET.of v))
      else (s.applyAdjust (signed 48 (TBASE_ADJUST_OFFSET.of v))).loseLock) := by
  refine answers_of_keep (congrArg (keep s) ((serveWrite_served _ h).trans ((if_neg ?_).trans ?_)))
  · simpa [State.adjustBad] using hr
  · simp only [s.applyAdjust_source, decide_eq_true_eq]

end

/-- Settles O14: the sign of the remainder decides between the step and the slew. -/
theorem timeBaseAdjustment : Obligations.TimeBaseAdjustment := by
  intro q v s h
  refine ⟨tbaseAdjust_refused h, fun hr => ⟨_, tbaseAdjust_applied h (by omega), ?_⟩,
    fun hlo hr => ⟨_, tbaseAdjust_applied h (by omega), ?_⟩⟩
  · rw [s.applyAdjust_step hr]
    exact ⟨rfl, rfl, State.setSlew_slewing _ 0, State.setSlew_keptBut (s.stepCount _) 0⟩
  · rw [s.applyAdjust_slew hr, State.setSlew_slewing, State.setSlew_tb]
    refine ⟨rfl, Int.toNat_of_nonneg (by omega), ?_, s.setSlew_keptBut _⟩
    have hn : (-(signed 48 (TBASE_ADJUST_OFFSET.of v) - s.tb.slew)).toNat ≠ 0 := by omega
    rw [bne_iff_ne.mpr hn, b2n, if_pos rfl]

section
variable (s : State)

/-- With no rate trim the rest of a slew takes its time and gives COUNT that time less the slew. -/
theorem State.absorbSlew_count (hr : s.ratePpb = 0) (hf : s.tb.rateFrac = 0) :
    s.absorbSlew.tb.count = (s.tb.count + (1000 * s.tb.slew - s.tb.slewFrac - s.tb.slew)) % 2 ^ 64 := by
  simp only [State.absorbSlew, State.setTb, hr, hf]
  congr 2
  simp

/-- An edge of TB_PPS is captured and counted; what steers the time base stands elsewhere. -/
def State.captureEdge : State := (s.wr pTBASE TBASE_PPS_CAPTURE_COUNT_AT_EDGE s.tb.count).bump pTBASE TBASE_C_PPS_EDGES

theorem State.captureEdge_source : s.captureEdge.rd pCAL CAL_TB_CFG_SRC_SEL = s.rd pCAL CAL_TB_CFG_SRC_SEL := by
  rw [State.captureEdge, State.rd_bump_ne _ _ _ _ _ _ _ (by decide), State.rd_wr_ne _ _ _ _ _ _ _ _ (by decide)]

end

/-- How far an edge lies from the whole second of COUNT nearest to it. -/
def edgeOffset (count : Nat) : Int :=
  if count % 1000000000 < 500000000 then -((count % 1000000000 : Nat) : Int) else 1000000000 - ((count % 1000000000 : Nat) : Int)

/-- What an edge does while PPS_EN is 1: it is captured, and steers the time base where PPS is its source. -/
theorem ppsEdge_answers {s u : State} (h : s.rd pTBASE TBASE_CTRL_PPS_EN = 1)
    (hu : (if s.captureEdge.rd pCAL CAL_TB_CFG_SRC_SEL = 1 then s.captureEdge.servo (edgeOffset s.captureEdge.tb.count) 1
      else s.captureEdge) = u) : Answers .ppsEdge s u :=
  answers_of_keep (congrArg (keep s) ((if_neg (by omega)).trans hu))

/-- Settles O16: each row by the conditions under which it acts. That SLEW_DONE absorbs what the clock has not counted yet is the
model's choice (log 150), and so is the floor of the halved differences of a sync answer (log 11). -/
theorem timeBaseRowsComplete : Obligations.TimeBaseRowsComplete := by
  refine ⟨fun s => ⟨answers_of_keep rfl, rfl, State.setSlew_slewing _ 0, fun hr hf => s.absorbSlew_count hr hf⟩,
    fun q v s h => ⟨fun hlo hhi => ?_, fun hout => ?_⟩, fun s hen hsrc => ppsEdge_answers hen (if_neg ?_),
    fun s hen hsrc hm => ppsEdge_answers hen ?_, fun s hen hsrc => ?_, fun s hsrc hp hs hup => ?_,
    fun p n t1 t2 t3 t4 s hsrc hp hsync => ?_, fun s h => ?_⟩
  · exact answers_of_keep (congrArg (keep s) ((serveWrite_served _ h).trans (if_pos ⟨hlo, hhi⟩)))
  · exact answers_of_keep (congrArg (keep s) ((serveWrite_served _ h).trans (if_neg (by omega))))
  · rwa [s.captureEdge_source]
  · rw [if_pos (s.captureEdge_source.trans hsrc)]
    exact congrArg (s.captureEdge.servo · 1) (if_pos hm)
  · exact answers_of_keep (congrArg (keep s) (if_pos ⟨hen, hsrc⟩))
  · exact answers_of_keep (congrArg (keep s) (if_pos ⟨hsrc, hp, hs, hup⟩))
  · refine answers_of_keep (congrArg (keep s) ((if_neg (by simp [hsrc, hp])).trans ?_))
    simp [hsync]
  · exact answers_of_keep (congrArg (keep s) (if_pos (Option.isSome_iff_ne_none.mpr h)))

end Sys2Proof.Machine

/-! Number formats (03_number_formats.md, R47–R76). The sum of an anchored accumulation: what each addend does to it, that it is
exact in any order within the limit of R59, and how far what the drain reads lies below the sum of the real products (R61). -/

namespace Sys2Proof.Machine

/-! ### One addend (R59) -/

/-- The clamp of R59 and R60 to 64 bits. -/
abbrev clamp64 (v : Int) : Int := clampInt (-(2 ^ 63)) (2 ^ 63 - 1) v

theorem clamp64_range (v : Int) : -(2 ^ 63) ≤ clamp64 v ∧ clamp64 v ≤ 2 ^ 63 - 1 := by
  unfold clamp64 clampInt
  split_ifs <;> omega

theorem accAdd_of_room {a : Acc} (q : Int) (h : a.count < 2 ^ 24) :
    accAdd a q = { a with sum := a.sum + clamp64 q, count := a.count + 1, ovf := a.ovf || clamp64 q != q } :=
  if_neg (by omega)

theorem accAdd_of_full {a : Acc} (q : Int) (h : 2 ^ 24 ≤ a.count) : accAdd a q = { a with ovf := true } :=
  if_pos (by omega)

/-! ### A list of addends within the limit (R59) -/

/-- Within the limit every addend goes in clamped, and nothing else of the accumulation depends on the order. -/
theorem foldl_accAdd_of_room (l : List Int) {a : Acc} (h : a.count + l.length ≤ 2 ^ 24) :
    l.foldl accAdd a = { a with
      sum := a.sum + (l.map clamp64).sum, count := a.count + l.length, ovf := a.ovf || l.any fun q => clamp64 q != q } := by
  induction l generalizing a with
  | nil => simp
  | cons q r ih =>
    rw [List.length_cons] at h
    rw [List.foldl_cons, accAdd_of_room q (by omega), ih (by simp only; omega)]
    simp [add_assoc, add_comm 1, Bool.or_assoc]

theorem foldl_accAdd_perm {l m : List Int} (p : l.Perm m) {a : Acc} (h : a.count + l.length ≤ 2 ^ 24) :
    l.foldl accAdd a = m.foldl accAdd a := by
  rw [foldl_accAdd_of_room l h, foldl_accAdd_of_room m (p.length_eq ▸ h), (p.map clamp64).sum_eq, p.length_eq, p.any_eq]

/-! ### The extended sum in 88 bits (R59) -/

/-- What an accumulation keeps from its start on: it counts at most 2^24 addends, each of which moved its sum by a 64-bit number. -/
structure Acc.Within (a : Acc) : Prop where
  count_le : a.count ≤ 2 ^ 24
  le_sum : -(2 ^ 63) * (a.count : Int) ≤ a.sum
  sum_le : a.sum ≤ (2 ^ 63 - 1) * (a.count : Int)

theorem Acc.Within.start (v : Int) : Acc.Within { anchor := v } := by constructor <;> simp

theorem Acc.Within.add {a : Acc} (w : a.Within) (q : Int) : (accAdd a q).Within := by
  obtain ⟨hc, hlo, hhi⟩ := w
  by_cases h : a.count < 2 ^ 24
  · obtain ⟨qlo, qhi⟩ := clamp64_range q
    rw [accAdd_of_room q h]
    constructor <;> push_cast <;> omega
  · rw [accAdd_of_full q (by omega)]
    exact ⟨hc, hlo, hhi⟩

theorem Acc.Within.addAll {a : Acc} (w : a.Within) (l : List Int) : (l.foldl accAdd a).Within :=
  l.foldlRecOn accAdd w fun _ w q _ => w.add q

theorem Acc.Within.sum_88 {a : Acc} (w : a.Within) : -(2 ^ 87) ≤ a.sum ∧ a.sum < 2 ^ 87 := by
  obtain ⟨hc, hlo, hhi⟩ := w
  omega

/-- Settles O57: within the limit the accumulation is a sum of clamped addends, and the limit keeps that sum in 88 bits. -/
theorem accumulationIsExactInAnyOrder : Obligations.AccumulationIsExactInAnyOrder := by
  refine ⟨fun a l h => ?_, fun a l m p h => foldl_accAdd_perm p h, fun v l => ((Acc.Within.start v).addAll l).sum_88,
    fun a q h => accAdd_of_full q h⟩
  rw [foldl_accAdd_of_room l h]
  exact ⟨rfl, rfl, rfl, rfl⟩

/-! ### An accumulation that did not saturate (R60) -/

/-- An addend that leaves the overflow state clear found it clear and went in as it is. -/
theorem accAdd_of_not_ovf {a : Acc} {q : Int} (h : (accAdd a q).ovf = false) :
    a.ovf = false ∧ (accAdd a q).sum = a.sum + q := by
  by_cases hc : a.count < 2 ^ 24
  · rw [accAdd_of_room q hc] at h ⊢
    simp_all
  · rw [accAdd_of_full q (by omega)] at h
    cases h

theorem foldl_accAdd_of_not_ovf {l : List Int} {a : Acc} (h : (l.foldl accAdd a).ovf = false) :
    a.ovf = false ∧ (l.foldl accAdd a).sum = a.sum + l.sum := by
  induction l generalizing a with
  | nil => exact ⟨h, (add_zero _).symm⟩
  | cons q r ih =>
    obtain ⟨hq, hr⟩ := ih h
    obtain ⟨ha, hs⟩ := accAdd_of_not_ovf hq
    exact ⟨ha, by rw [List.foldl_cons, hr, hs, List.sum_cons, add_assoc]⟩

theorem accRead_of_not_ovf {a : Acc} (h : (accRead a).2 = false) : a.ovf = false ∧ (accRead a).1 = a.sum := by
  simpa [accRead] using h

/-- What the drain reads of an accumulation that did not saturate is the sum of its addends. -/
theorem accRead_foldl_of_not_ovf {v : Int} {l : List Int} (h : (accRead (l.foldl accAdd { anchor := v })).2 = false) :
    (accRead (l.foldl accAdd { anchor := v })).1 = l.sum := by
  obtain ⟨hovf, hread⟩ := accRead_of_not_ovf h
  rw [hread, (foldl_accAdd_of_not_ovf hovf).2, zero_add]

/-! ### The floor of a product (R55, R56) -/

theorem floorShift_eq_floor (m d : Int) : floorShift m d = ⌊(m : ℚ) * (2 : ℚ) ^ d⌋ := by
  unfold floorShift
  split_ifs with h
  · obtain ⟨n, rfl⟩ := Int.eq_ofNat_of_zero_le h
    rw [Int.toNat_natCast, zpow_natCast, eq_comm, Int.floor_eq_iff]
    simp
  · obtain ⟨n, hn⟩ := Int.eq_ofNat_of_zero_le (a := -d) (by omega)
    rw [hn, Int.toNat_natCast, Int.fdiv_eq_ediv_of_nonneg _ (by positivity), ← Rat.floor_intCast_div_natCast,
      ← neg_neg d, hn, zpow_neg, zpow_natCast, ← div_eq_mul_inv, Nat.cast_pow, Nat.cast_ofNat]

/-- The real product of a pair of operands, in units of the least significant bit at anchor v: P × 2^d of R56. -/
def productUnits (v : Int) (p : Opnd × Opnd) : ℚ := ((p.1.m * p.2.m : Int) : ℚ) * (2 : ℚ) ^ pairShift p.1 p.2 v

theorem addend_eq_floor (v : Int) (p : Opnd × Opnd) : addend p.1 p.2 v = ⌊productUnits v p⌋ := floorShift_eq_floor _ _

theorem pairShift_comm (a b : Opnd) (v : Int) : pairShift a b v = pairShift b a v := by
  rw [pairShift, pairShift, add_comm (a.x : Int)]
  cases a.f <;> cases b.f <;> rfl

/-! ### The error of a sum of floors (R61) -/

/-- The sum of a list that is not empty exceeds that of the floors by less than the list's length. -/
theorem sum_sub_sum_floor {l : List ℚ} (hl : l ≠ []) :
    0 ≤ l.sum - (l.map fun x => (⌊x⌋ : ℚ)).sum ∧ l.sum - (l.map fun x => (⌊x⌋ : ℚ)).sum < l.length := by
  have hle : (l.map fun x => (⌊x⌋ : ℚ)).sum ≤ (l.map id).sum := List.sum_le_sum fun x _ => Int.floor_le x
  have hlt : (l.map id).sum < (l.map fun x => (⌊x⌋ : ℚ) + 1).sum :=
    List.sum_lt_sum_of_ne_nil hl _ _ fun x _ => Int.lt_floor_add_one x
  rw [List.sum_map_add, List.map_const', List.sum_replicate, nsmul_one] at hlt
  rw [List.map_id] at hle hlt
  constructor <;> linarith

/-- The exact sum of the real products is that of their units, at the weight of the least significant bit. -/
theorem sum_products_eq (v : Int) (l : List (Opnd × Opnd)) :
    (l.map fun p => ((p.1.m * p.2.m : Int) : ℚ) * (2 : ℚ) ^ (pairShift p.1 p.2 v + v - 40)).sum =
      (l.map (productUnits v)).sum * (2 : ℚ) ^ (v - 40) := by
  rw [← List.sum_map_mul_right]
  refine congrArg List.sum (List.map_congr_left fun p _ => ?_)
  rw [productUnits, mul_assoc, ← zpow_add₀ two_ne_zero, add_sub_assoc]

theorem sum_addends_eq (v : Int) (l : List (Opnd × Opnd)) :
    (((l.map fun p => addend p.1 p.2 v).sum : Int) : ℚ) = ((l.map (productUnits v)).map fun x => (⌊x⌋ : ℚ)).sum := by
  rw [Int.cast_list_sum, List.map_map, List.map_map]
  refine congrArg List.sum (List.map_congr_left fun p _ => ?_)
  exact congrArg Int.cast (addend_eq_floor v p)

/-- Settles O58: unsaturated, the drain reads the sum of the floors, and each floor loses less than one unit. -/
theorem accumulationErrorBound : Obligations.AccumulationErrorBound := by
  refine ⟨fun a b v => addend_eq_floor v (a, b), fun a b v => ⟨fun ha hb => ?_, fun ha hb => ?_, fun ha hb => ?_, fun ha hb => ?_⟩, ?_⟩
  · simp only [pairShift, ha, hb]
  · rw [pairShift_comm b a, and_self]
    simp only [pairShift, ha, hb]
  · simp only [pairShift, ha, hb]
  · simp only [pairShift, ha, hb]
  intro v l hl acc total hread
  have hunit : (0 : ℚ) < (2 : ℚ) ^ (v - 40) := zpow_pos two_pos _
  obtain ⟨hlo, hhi⟩ := sum_sub_sum_floor (l := l.map (productUnits v)) (by simpa using hl)
  have herr : total - (accRead acc).1 * (2 : ℚ) ^ (v - 40) =
      ((l.map (productUnits v)).sum - ((l.map (productUnits v)).map fun x => (⌊x⌋ : ℚ)).sum) * (2 : ℚ) ^ (v - 40) := by
    rw [accRead_foldl_of_not_ovf hread, sum_addends_eq, sub_mul]
    exact congrArg (· - _) (sum_products_eq v l)
  rw [List.length_map] at hhi
  rw [herr]
  exact ⟨mul_nonneg hlo hunit.le, mul_lt_mul_of_pos_right hhi hunit⟩

end Sys2Proof.Machine

/-! The tile engine (04_tile_engine.md, R77–R116) and the issue of its commands (05_command_streams.md, R118–R129, R488). The reversal
of a span's vat addends, the scrub of the tiles, fetch and completion, the array and vat commands, and what a refused command leaves. -/

namespace Sys2Proof.Machine

/-! ### What keeps the tiles -/

section
variable (s : State)

theorem State.tileMem_of_tiles {s t : State} (h : t.tiles = s.tiles) (r : Nat) : t.tileMem r = s.tileMem r := by
  simp only [State.tileMem, h]

theorem State.vatEntry_of_tiles {s t : State} (h : t.tiles = s.tiles) (r tile e : Nat) :
    t.vatEntry r tile e = s.vatEntry r tile e := by
  simp only [State.vatEntry, State.tileMem_of_tiles h]

theorem State.seq_of_seqs {s t : State} (h : t.seqs = s.seqs) (r : Nat) : t.seq r = s.seq r := by
  simp only [State.seq, h]

@[simp] theorem State.setSeq_tiles_kept (k : Nat) (v : Seq) : (s.setSeq k v).tiles = s.tiles := rfl
@[simp] theorem State.setCave_tiles_kept (k : Nat) (v : Cave) : (s.setCave k v).tiles = s.tiles := rfl
@[simp] theorem State.setSeqState_tiles_kept (r v : Nat) : (s.setSeqState r v).tiles = s.tiles := rfl

@[simp] theorem State.wrs_tiles_kept (p : Nat) (l : List (Fld × Nat)) (i : Nat) : (s.wrs p l i).tiles = s.tiles := by
  rw [State.wrs_eq]

/-- A run of actions each of which keeps the tiles keeps them. -/
theorem State.foldl_tiles_kept {α : Type} {f : State → α → State} (h : ∀ s x, (f s x).tiles = s.tiles) (l : List α) :
    (l.foldl f s).tiles = s.tiles :=
  List.foldlRecOn (motive := fun t => t.tiles = s.tiles) l f rfl fun t ht x _ => (h t x).trans ht

theorem State.iff_tiles_kept (b : Bool) {f : State → State} (h : (f s).tiles = s.tiles) : (s.iff b f).tiles = s.tiles := by
  cases b
  · rfl
  · exact h

theorem State.iff_seqs_kept (b : Bool) {f : State → State} (h : (f s).seqs = s.seqs) : (s.iff b f).seqs = s.seqs := by
  cases b
  · rfl
  · exact h

theorem State.setVatSat_kept (r t vreg : Nat) : (s.setVatSat r t vreg).tiles = s.tiles ∧ (s.setVatSat r t vreg).seqs = s.seqs := by
  unfold State.setVatSat State.setFlag
  split <;> exact ⟨rfl, rfl⟩

theorem State.clearFlag_tiles_kept (r : Nat) (f : Fld) : (s.clearFlag r f).tiles = s.tiles := by
  unfold State.clearFlag
  exact s.foldl_tiles_kept (fun _ _ => by rfl) _

@[simp] theorem State.sendPackets_tiles_kept (src dst : Place) (vc bytes job : Nat) :
    (s.sendPackets src dst vc bytes job).tiles = s.tiles := by
  unfold State.sendPackets
  exact s.foldl_tiles_kept (fun _ _ => by rfl) _

theorem State.tryFence_tiles_kept (r : Nat) : (s.tryFence r).tiles = s.tiles := by
  unfold State.tryFence
  dsimp only
  split
  · rfl
  split
  · rfl
  split_ifs <;> simp [State.foldl_tiles_kept]

theorem State.finish_tiles_kept (r id mask : Nat) : (s.finish r id mask).tiles = s.tiles := by
  unfold State.finish
  rw [State.tryFence_tiles_kept, State.foldl_tiles_kept _ (fun _ _ => by rfl)]
  rfl

/-- Undoing what a span did to the cave keeps the tiles. -/
theorem State.caveSpanReverse_tiles_kept (r : Nat) : (s.caveSpanReverse r).tiles = s.tiles :=
  (State.wrs_tiles_kept _ _ _ _).trans (State.foldl_tiles_kept _ (fun s _ => s.finish_tiles_kept _ _ _) _)

end

/-! ### Vat entries and their marks (R109, R111) -/

section
variable (s : State)

/-- The marks of the micro-batches that have added to an entry (R111), by the entry's key. -/
abbrev State.vatMarks (s : State) (r k : Nat) : Nat := tabGet (fun _ => 0) (s.tileMem r).vatMb k

theorem State.vatEntry_setVat (r tile e : Nat) (v : Int) (r' tile' e' : Nat) : (s.setVat r tile e v).vatEntry r' tile' e' =
    if r' = r ∧ tile' * vatSize + e' = tile * vatSize + e then (BitVec.ofInt 32 v).toInt else s.vatEntry r' tile' e' := by
  by_cases hr : r' = r
  · subst hr
    simp only [State.vatEntry, State.setVat, State.tileMem_setTileMem, tabGet_set, true_and]
    exact apply_ite BitVec.toInt _ _ _
  · rw [if_neg fun h => hr h.1, State.vatEntry, State.setVat, State.tileMem_setTileMem_ne _ _ hr, State.vatEntry]

@[simp] theorem State.vatEntry_setVatMb (r tile e v r' tile' e' : Nat) :
    (s.setVatMb r tile e v).vatEntry r' tile' e' = s.vatEntry r' tile' e' := by
  by_cases hr : r' = r
  · subst hr
    simp only [State.vatEntry, State.setVatMb, State.tileMem_setTileMem]
  · rw [State.vatEntry, State.setVatMb, State.tileMem_setTileMem_ne _ _ hr, State.vatEntry]

@[simp] theorem State.vatMarks_setVat (r tile e : Nat) (v : Int) (k : Nat) : (s.setVat r tile e v).vatMarks r k = s.vatMarks r k := by
  simp only [State.vatMarks, State.setVat, State.tileMem_setTileMem]

theorem State.vatMarks_setVatMb_ne (r tile e v : Nat) {k : Nat} (h : k ≠ tile * vatSize + e) :
    (s.setVatMb r tile e v).vatMarks r k = s.vatMarks r k := by
  simp only [State.vatMarks, State.setVatMb, State.tileMem_setTileMem, tabGet_set_ne _ _ _ h]

end

theorem Seq.span_setSpan (q : Seq) (d : Bool) (p : Span) : (q.setSpan d p).span d = p := by
  cases d <;> rfl

/-! ### One addend, and its reversal (R111, R114) -/

section
variable (s : State) (a : At) (vreg : Nat) (neg : Bool) (x : VatIn)

/-- The key of the entry that an addend goes to. -/
abbrev VatIn.key (x : VatIn) : Nat := x.tile * vatSize + x.entry

/-- The state that an addend's flag leaves: VAT_SAT where it was clamped (R92, R110). -/
def State.vatFlagged : State :=
  s.iff ((vatAddend x.val (s.vatAnchor a.r vreg)).2 && !x.ovf) (·.setVatSat a.r x.tile vreg)

theorem State.vatFlagged_tiles : (s.vatFlagged a vreg x).tiles = s.tiles :=
  s.iff_tiles_kept _ (s.setVatSat_kept _ _ _).1

theorem State.vatFlagged_seqs : (s.vatFlagged a vreg x).seqs = s.seqs :=
  s.iff_seqs_kept _ (s.setVatSat_kept _ _ _).2

/-- A micro-batch's first addend of an entry is added to it, marked and logged. -/
theorem State.vatAdd1_fresh (h : (s.vatMarks a.r x.key).testBit a.mb = false) :
    (s.vatAdd1 a vreg neg x).1 =
      let u := (s.vatAdd1 a vreg neg x).2
      let t := ((s.vatFlagged a vreg x).setVat a.r x.tile x.entry (s.vatEntry a.r x.tile x.entry + u)).setVatMb a.r x.tile
        x.entry (Nat.lor (s.vatMarks a.r x.key) (2 ^ a.mb))
      let p := (s.seq a.r).span a.d
      t.setSeq a.r ((s.seq a.r).setSpan a.d { p with vatLog := ⟨x.tile, x.entry, u, s.vatMarks a.r x.key⟩ :: p.vatLog }) := by
  have htile := State.tileMem_of_tiles (s.vatFlagged_tiles a vreg x)
  have hseq := State.seq_of_seqs (s.vatFlagged_seqs a vreg x)
  have hent := State.vatEntry_of_tiles (s.vatFlagged_tiles a vreg x) a.r x.tile x.entry
  unfold State.vatFlagged at *
  unfold State.vatAdd1
  generalize vatAddend x.val (s.vatAnchor a.r vreg) = p at *
  simp only [htile, hent, h, Bool.false_eq_true, if_false]
  rw [← hseq a.r]
  rfl

theorem State.vatLog_vatAdd1 (h : (s.vatMarks a.r x.key).testBit a.mb = false) :
    (((s.vatAdd1 a vreg neg x).1.seq a.r).span a.d).vatLog =
      ⟨x.tile, x.entry, (s.vatAdd1 a vreg neg x).2, s.vatMarks a.r x.key⟩ :: ((s.seq a.r).span a.d).vatLog := by
  rw [s.vatAdd1_fresh a vreg neg x h]
  simp only [State.seq_setSeq, Seq.span_setSpan]

theorem State.vatEntry_vatAdd1 (h : (s.vatMarks a.r x.key).testBit a.mb = false) (r tile e : Nat) :
    (s.vatAdd1 a vreg neg x).1.vatEntry r tile e = if r = a.r ∧ tile * vatSize + e = x.key then
      (BitVec.ofInt 32 (s.vatEntry a.r x.tile x.entry + (s.vatAdd1 a vreg neg x).2)).toInt else s.vatEntry r tile e := by
  rw [s.vatAdd1_fresh a vreg neg x h, State.vatEntry_of_tiles (State.setSeq_tiles_kept _ _ _), State.vatEntry_setVatMb,
    State.vatEntry_setVat, State.vatEntry_of_tiles (s.vatFlagged_tiles a vreg x)]

/-- An addend leaves the marks of every other entry. -/
theorem State.vatMarks_vatAdd1_ne (h : (s.vatMarks a.r x.key).testBit a.mb = false) {k : Nat} (hk : k ≠ x.key) :
    (s.vatAdd1 a vreg neg x).1.vatMarks a.r k = s.vatMarks a.r k := by
  rw [s.vatAdd1_fresh a vreg neg x h, State.vatMarks, State.tileMem_of_tiles (State.setSeq_tiles_kept _ _ _), ← State.vatMarks,
    State.vatMarks_setVatMb_ne _ _ _ _ _ hk, State.vatMarks_setVat, State.vatMarks,
    State.tileMem_of_tiles (s.vatFlagged_tiles a vreg x)]

/-- A reversal takes the logged changes newest first, so the oldest is the last that it undoes. -/
theorem State.vatEntry_vatReverse_append (r : Nat) (l : List VatAdd) (y : VatAdd) (r' tile e : Nat) :
    (s.vatReverse r (l ++ [y])).vatEntry r' tile e =
      if r' = r ∧ tile * vatSize + e = y.tile * vatSize + y.entry then
        (BitVec.ofInt 32 ((s.vatReverse r l).vatEntry r y.tile y.entry - y.delta)).toInt
      else (s.vatReverse r l).vatEntry r' tile e := by
  have hlast : s.vatReverse r (l ++ [y]) = ((s.vatReverse r l).setVat r y.tile y.entry
      ((s.vatReverse r l).vatEntry r y.tile y.entry - y.delta)).setVatMb r y.tile y.entry y.mbBefore := List.foldl_append ..
  rw [hlast, State.vatEntry_setVatMb, State.vatEntry_setVat]

/-- Adding to an entry and subtracting again gives back its 32 bits, whether or not the sum left their range. -/
theorem ofInt_toInt_add_sub (b : BitVec 32) (u : Int) : BitVec.ofInt 32 ((BitVec.ofInt 32 (b.toInt + u)).toInt - u) = b := by
  rw [sub_eq_add_neg, BitVec.ofInt_add, BitVec.ofInt_toInt, BitVec.ofInt_add, BitVec.ofInt_toInt, BitVec.ofInt_neg,
    ← BitVec.sub_eq_add_neg, BitVec.add_sub_cancel]

/-- An entry that an addend changed holds its value from before once the addend is subtracted. -/
theorem State.vatEntry_sub_vatAdd1 (h : (s.vatMarks a.r x.key).testBit a.mb = false) (tile e : Nat) (hk : tile * vatSize + e = x.key) :
    (BitVec.ofInt 32 ((s.vatAdd1 a vreg neg x).1.vatEntry a.r x.tile x.entry - (s.vatAdd1 a vreg neg x).2)).toInt =
      s.vatEntry a.r tile e := by
  rw [s.vatEntry_vatAdd1 a vreg neg x h, if_pos ⟨rfl, rfl⟩, State.vatEntry, ofInt_toInt_add_sub, State.vatEntry, hk]

/-- What a run of addends logs, oldest last, undoes the run: each entry takes at most one addend of the micro-batch. -/
theorem exists_vatLog_undoing (l : List VatIn) (s : State) (hl : (l.map VatIn.key).Nodup)
    (hm : ∀ x ∈ l, (s.vatMarks a.r x.key).testBit a.mb = false) :
    ∃ log, log.length = l.length ∧
      (((l.foldl (fun s x => (s.vatAdd1 a vreg neg x).1) s).seq a.r).span a.d).vatLog = log ++ ((s.seq a.r).span a.d).vatLog ∧
      ∀ r tile e, ((l.foldl (fun s x => (s.vatAdd1 a vreg neg x).1) s).vatReverse a.r log).vatEntry r tile e = s.vatEntry r tile e := by
  induction l generalizing s with
  | nil => exact ⟨[], rfl, rfl, fun _ _ _ => rfl⟩
  | cons x l ih =>
    obtain ⟨hx, hl⟩ := List.nodup_cons.mp hl
    obtain ⟨hmx, hm⟩ := List.forall_mem_cons.mp hm
    have hm' : ∀ y ∈ l, ((s.vatAdd1 a vreg neg x).1.vatMarks a.r y.key).testBit a.mb = false := fun y hy => by
      have hne : y.key ≠ x.key := fun h => hx (h ▸ List.mem_map_of_mem hy)
      rw [s.vatMarks_vatAdd1_ne a vreg neg x hmx hne, hm y hy]
    obtain ⟨log, hlen, hlog, hrev⟩ := ih (s.vatAdd1 a vreg neg x).1 hl hm'
    refine ⟨log ++ [⟨x.tile, x.entry, (s.vatAdd1 a vreg neg x).2, s.vatMarks a.r x.key⟩], by simp [hlen], ?_, fun r tile e => ?_⟩
    · rw [List.foldl_cons, hlog, s.vatLog_vatAdd1 a vreg neg x hmx, List.append_assoc, List.singleton_append]
    · rw [List.foldl_cons, State.vatEntry_vatReverse_append, hrev, hrev]
      split_ifs with hk
      · obtain ⟨rfl, hk⟩ := hk
        exact s.vatEntry_sub_vatAdd1 a vreg neg x hmx tile e hk
      · rw [s.vatEntry_vatAdd1 a vreg neg x hmx, if_neg hk]

end

/-! ### REVERSAL_DONE (R114, R134) -/

@[simp] theorem State.seqState_setSeqState (s : State) (r v : Nat) : (s.setSeqState r v).seqState r = v % 16 :=
  s.rd_wr_same _ _ _ _ (by decide) (by decide)

/-- REVERSAL_DONE reverses the whole log of the span, and what else it does leaves the tiles. -/
theorem execReversalDone_answers (r : RegionIx) (s : State) (h : s.seqState r = 6) : ∃ t, Answers (.reversalDone r) s t ∧
    t.seqState r = 7 ∧ t.tiles = (s.vatReverse r ((s.seq r).span (s.seq r).checkDef).vatLog).tiles := by
  refine ⟨_, congrArg (keep s) (if_neg (not_not_intro h)), State.seqState_setSeqState _ _ _, ?_⟩
  dsimp only
  rw [State.setSeqState_tiles_kept]
  split <;> simp [State.clearFlag_tiles_kept, State.caveSpanReverse_tiles_kept]

/-- Settles O59: the log of a run of addends undoes them from the newest on, and REVERSAL_DONE reverses the whole log. That an entry's
marks say which micro-batches have added to it, and when they start afresh, is deduced (log 156). -/
theorem vatReversalRestoresEveryEntry : Obligations.VatReversalRestoresEveryEntry := by
  refine ⟨fun a vreg neg l s hl hm => ?_, fun r s h => ?_⟩
  · obtain ⟨log, hlen, hlog, hrev⟩ := exists_vatLog_undoing a vreg neg l s hl hm
    dsimp only
    rw [hlog, ← hlen, List.take_left]
    exact ⟨rfl, hrev⟩
  · obtain ⟨t, ht, hstate, htiles⟩ := execReversalDone_answers r s h
    exact ⟨t, ht, hstate, State.vatEntry_of_tiles htiles⟩

/-! ### Scrub, fetch and completion (R80, R118, R131) -/

section
variable (r : RegionIx) (tile : Fin 256) (a b : MemErr) (s : State)

/-- The place of a tile that its next scrub scans. -/
abbrev State.scrubPos : Nat := tabGet (fun _ => 0) (s.tileMem r).scrub tile

/-- A tile's next scrub scans the place `pos`. -/
def State.setScrubPos (pos : Nat) : State :=
  s.setTileMem r { s.tileMem r with scrub := tabSet (fun _ => 0) (s.tileMem r).scrub tile pos }

/-- What a scan finds is counted, and an uncorrectable error fails the tile: first of the SRAM line, then of the accumulators. -/
def State.scrubFound : State :=
  let t := match a with
    | .ok => s
    | .ce => s.bump (regPage r) REG_C_SRAM_CE
    | .ue => (s.bump (regPage r) REG_C_SRAM_UE_COUNT).tileFault r tile REG_ERR_STATUS_SRAM_UE
  match b with
  | .ok => t
  | .ce => t.bump (regPage r) REG_C_VAT_CE
  | .ue => (t.bump (regPage r) REG_C_VAT_UE_COUNT).tileFault r tile REG_ERR_STATUS_VAT_UE

variable {r tile s}

/-- R80: of a region that is tested a place is scanned, and a pass counts where the position wraps. -/
theorem exec_scrubTick_of_tested (hen : s.rd (regPage r) REG_TILE_CTRL_SCRUB_EN = 1) (hst : s.regionState r < 3) :
    exec (.scrubTick r tile a b) s =
      keep s (if s.scrubPos r tile + 1 = 32768 then
          ((s.setScrubPos r tile 0).bump (regPage r) REG_C_SCRUB_PASSES).scrubFound r tile a b
        else (s.setScrubPos r tile (s.scrubPos r tile + 1)).scrubFound r tile a b) := by
  have hg : ¬(s.rd (regPage r) REG_TILE_CTRL_SCRUB_EN = 0 ∨ s.regionState r = 3 ∨ s.regionState r = 4) := by omega
  refine congrArg (keep s) ((if_neg hg).trans ?_)
  by_cases hp : s.scrubPos r tile + 1 = 32768
  · rw [if_pos hp]
    simp only [hp, if_true]
    rfl
  · rw [if_neg hp]
    simp only [if_neg hp, beq_eq_false_iff_ne.mpr hp]
    rfl

end

/-- R131: a command without router rows on their way ends its classes, but for the third while its push is. -/
theorem exec_commandComplete_of_acked {r : RegionIx} {id : Nat} {s : State}
    (hr : s.fab.sends.any (fun p => p.src == r && p.outId == id && p.dst.isNone) = false) :
    exec (.commandComplete r id) s =
      keep s (s.finish r id (if (s.cave r).pushes.any (fun p => p.outId == id) then 3 else 7)) := by
  simp only [exec, execCommandComplete, hr]
  split <;> rfl

/-- Settles O17: by the guards of each row. -/
theorem tileAndFetchRowsComplete : Obligations.TileAndFetchRowsComplete := by
  refine ⟨fun r tile s hen hst hpos => ?_, fun r tile s hen hst hpos => ?_, fun r tile a b s hen => ?_,
    fun r d a s h0 h11 hlen => ?_, fun r id s hp hr => ?_, fun r id s hp hr => ?_⟩
  · have hpos : s.scrubPos r tile < 32767 := hpos
    have hscan (a b : MemErr) := (exec_scrubTick_of_tested a b (tile := tile) hen hst).trans
      (congrArg (keep s) (if_neg (by omega)))
    exact ⟨hscan .ok .ok, hscan .ce .ok, hscan .ok .ce, hscan .ue .ok, hscan .ok .ue⟩
  · have hpos : s.scrubPos r tile = 32767 := hpos
    exact (exec_scrubTick_of_tested .ok .ok hen hst).trans (congrArg (keep s) (if_pos (by omega)))
  · exact congrArg (keep s) (if_pos (.inl hen))
  · dsimp only
    intro hix ha
    have hfetch : ¬(s.seqState r = 0 ∨ s.seqState r = 11 ∨ 2048 ≤ (s.seq r).buffer.length ∨ _) :=
      not_or.mpr ⟨h0, not_or.mpr ⟨h11, not_or.mpr ⟨not_le.mpr hlen, not_le.mpr hix⟩⟩⟩
    refine ⟨fun hp => congrArg (keep s) ((if_neg hfetch).trans ?_), congrArg (keep s) ((if_neg hfetch).trans ?_)⟩
    · simp only [ha, hp]
      rfl
    · simp only [ha]
      rfl
  · exact (exec_commandComplete_of_acked hr).trans (by rw [hp]; rfl)
  · exact (exec_commandComplete_of_acked hr).trans (by rw [hp]; rfl)

/-! ### Commands that issue (R106, R112, R121, R122) -/

/-- Settles O18: each of the four rows is the issue of its command. -/
theorem arrayCommandsComplete : Obligations.ArrayCommandsComplete :=
  ⟨fun _ _ _ _ => issueRuns_of rfl, fun _ _ _ _ => issueRuns_of rfl, fun _ _ _ _ => issueRuns_of rfl,
    fun _ _ _ _ => issueRuns_of rfl⟩

/-! ### Fields written one after the other on a page -/

section
variable (s : State) (p i : Nat)

/-- A field of the same page that shares no bit with the one written reads as before. -/
theorem State.rd_wr_apart {f g : Fld} (v j : Nat)
    (h : f.lo ≤ f.hi ∧ f.hi < 64 ∧ (g.off + g.stride * j = f.off + f.stride * i → g.hi < f.lo ∨ f.hi < g.lo)) :
    (s.wr p f v i).rd p g j = s.rd p g j :=
  let ⟨hlo, hhi, hapart⟩ := h
  s.rd_wr_other p p f g v i j hhi hlo fun e => hapart (by simpa [regAddr, Fld.atIx] using e)

/-- A field reads as what was written to it, where its bits hold that. -/
theorem State.rd_wr_fits {f : Fld} {v : Nat} (h : f.lo ≤ f.hi ∧ f.hi < 64 ∧ v < 2 ^ (f.hi + 1 - f.lo)) :
    (s.wr p f v i).rd p f i = v :=
  let ⟨hlo, hhi, hfits⟩ := h
  (s.rd_wr_same p f v i hhi hlo).trans (Nat.mod_eq_of_lt hfits)

end

/-! ### VCFG (R109, R141) -/

section
variable (s : State) (r : Nat) (o : VcfgOp)

theorem State.setVatRegion_eq_wrs : s.setVatRegion r o = s.wrs (regPage r) [(REG_VAT_REGION_V, o.v), (REG_VAT_REGION_LENGTH, o.length),
    (REG_VAT_REGION_BASE, o.base), (REG_VAT_LAYER_LAYER, o.layer), (REG_VAT_REGION_VALID, o.valid),
    (REG_VAT_LAYER_VALID, o.valid)] o.vreg := rfl

/-- VCFG writes the two registers of its entry that it configures, and no other. -/
theorem State.setVatRegion_keptBut :
    RegsKeptBut [regAddr (regPage r) (REG_VAT_REGION_V.atIx o.vreg), regAddr (regPage r) (REG_VAT_LAYER_LAYER.atIx o.vreg)] s
      (s.setVatRegion r o) := by
  rw [State.setVatRegion_eq_wrs]
  exact s.wrs_keptBut _ _ _ (by simp [Fld.atIx])

end

/-- Settles O19: each row of a VDRAIN has its FORM, and is the issue of its command; the fields that VCFG writes share no bit. -/
theorem vatCommandsComplete : Obligations.VatCommandsComplete := by
  refine ⟨fun _ _ _ _ => issueRuns_of rfl, fun r d c s h => issueRunsMem_of (congrArg (keepQ s) (if_neg (not_not_intro h))),
    fun r d c s h => issueRunsMem_of (congrArg (keepQ s) (if_neg (not_not_intro h))),
    fun r d c s h => issueRuns_of (congrArg (keep s) (if_neg (by omega))), fun _ _ _ _ => issueRuns_of rfl,
    fun r o s hvreg hr hv hbase hlength hlayer hvalid => ?_⟩
  refine ⟨?_, ?_, ?_, ?_, ?_, ?_, ?_, s.setVatRegion_keptBut r o⟩
  all_goals
    rw [State.setVatRegion_eq_wrs]
    simp (disch := (simp only []; omega)) only [State.wrs_cons, State.wrs_nil, State.rd_wr_apart,
      State.rd_wr_fits]

/-! ### Commands that are refused (R119, R120, R488) -/

/-- A command of the main stream inside its length, as it was fetched, without a breakpoint, whose micro-batch is not open: a check
of R488 that leaves nothing behind stops the region there. -/
theorem issue_refused {s : State} {r ix op : Nat} {c : Cmd} {i : Issue} {f : Fld} (eff : At → State → State)
    (hix : s.issueIx r false = some ix) (hop : c.op = op) (hfetched : s.fetchedOk r false ix c = true)
    (hlen : ix < s.rd (regPage r) REG_SEQ_LEN_MAIN_LEN) (hbreak : s.rd (regPage r) REG_SEQ_EXPERT_BREAK_EN = 0)
    (hmb : (s.seq r).opens.contains c.mb = false) (href : s.refusal r false c i = some f) (hf : f ≠ REG_ERR_STATUS_VAT_RANGE) :
    s.issue r false c op i eff = s.progFault r false ix f := by
  have hend : ¬s.rd (regPage r) REG_SEQ_LEN_MAIN_LEN ≤ ix := not_le.mpr hlen
  have hskip : c.mb ∉ (s.seq r).opens := by simpa using hmb
  simp [State.issue, hix, hop, hfetched, hend, hbreak, hskip, href, hf]

theorem State.refusal_badOpcode (s : State) (r : Nat) (d : Bool) (c : Cmd) {i : Issue} (h : i.badOpcode = true) :
    s.refusal r d c i = some REG_ERR_STATUS_BAD_OPCODE := by
  simp [State.refusal, h]

theorem b2n_lt (b : Bool) : b2n b < 2 := by
  cases b <;> decide

section
variable (s : State) (r : Nat) (d : Bool) (ix code : Nat)

theorem State.haltAt_eq_wrs : s.haltAt r d ix code = s.wrs (regPage r) [(REG_FAULT_INFO_PC, ix), (REG_FAULT_INFO_DEFERRED, b2n d),
    (REG_FAULT_INFO_CODE, code), (REG_SEQ_STATUS_STATE, 10)] := rfl

/-- A halt writes FAULT_INFO and SEQ_STATUS, and no other register. -/
theorem State.haltAt_keptBut :
    RegsKeptBut [regAddr (regPage r) REG_FAULT_INFO_PC.off, regAddr (regPage r) REG_SEQ_STATUS_STATE.off] s (s.haltAt r d ix code) := by
  rw [State.haltAt_eq_wrs]
  exact s.wrs_keptBut _ _ _ (by simp [Fld.atIx])

end

/-- Settles O22: both rows are the issue of a command that a check refuses. The frame is that of the halt alone: the fault sets its
ERR_STATUS bit and reports besides (R129). -/
theorem refusedCommandHaltsTheRegion : Obligations.RefusedCommandHaltsTheRegion := by
  refine ⟨fun r c ix s hix hop hfetched hlen hbreak hmb => ?_, fun r c ix f s hix hop hfetched hlen hbreak hmb href hf => ?_,
    fun r d ix code s hpc hcode => ?_⟩
  · refine congrArg (keep s) ((if_neg (ne_true_of_eq_false hop)).trans ?_)
    exact issue_refused _ hix rfl hfetched hlen hbreak hmb (s.refusal_badOpcode r false c rfl) (by decide)
  · exact congrArg (keep s) (issue_refused _ hix hop hfetched hlen hbreak hmb href hf)
  · have hd := b2n_lt d
    refine ⟨?_, ?_, ?_, ?_, s.haltAt_keptBut r d ix code⟩
    all_goals
      rw [State.haltAt_eq_wrs]
      simp (disch := (simp only []; omega)) only [State.wrs_cons, State.wrs_nil, State.rd_wr_apart,
        State.rd_wr_fits]

end Sys2Proof.Machine

/-! Command streams (05_command_streams.md, R130–R148): the commands of the engines that a stream issues, fences, anchor checks, idle
windows, marks and the end of a step, and the step-sync signals. -/

namespace Sys2Proof

/-- A field of a command fits its width (R119). -/
theorem Cmd.w_lt (c : Cmd) (k hi lo : Nat) : c.w k hi lo < 2 ^ (hi + 1 - lo) := Nat.mod_lt _ (Nat.two_pow_pos _)

end Sys2Proof

namespace Sys2Proof.Machine

/-! ### Rows that carry one form of a command (R120) -/

/-- A stream's row that leaves the state to another row unless the command has its form, and else is the issue of the command. -/
theorem issueRuns_of_form {row : Instr} {s : State} {r : Nat} {d : Bool} {c : Cmd} {op : Nat} {i : Issue} {eff : At → State → State}
    {other : Prop} [Decidable other] (h : ¬other) (e : exec row s = keep s (if other then s else s.issue r d c op i eff)) :
    IssueRuns row s r d c op i eff :=
  issueRuns_of (e.trans (congrArg (keep s) (if_neg h)))

/-! ### UPD and PARAM (R142, R215) -/

section
variable {s : State} {a : At} {c : Cmd}

/-- A UPD that agrees with its area waits in the engine, unless a step restart kept what it has written there. -/
theorem State.startUpd_queued {e ix : Nat} (harea : s.areaBy (s.jobOf a.r) (c.w 1 40 0) = some (e, ix))
    (hmatch : s.areaMatches (s.jobOf a.r) ix c = true) (hparams : paramsOk (c.w 0 18 16) (s.updParams a.r c) = true)
    (hkept : s.updKept (s.jobOf a.r) e (s.rd (regPage a.r) REG_STEP_COUNT_COUNT) = false) : s.startUpd a c = s.queueUpd a c e := by
  simp [State.startUpd, harea, hmatch, hparams, hkept]

/-- An area that no UPD of this step has written is none that a step restart kept (R341). -/
theorem State.updKept_of_not_written {slot e count : Nat} (h : s.rd pUPD UPD_AREA_WROTE e = 0) : s.updKept slot e count = false := by
  simp [State.updKept, h]

theorem State.queue_queueUpd_length (e : Nat) :
    ((s.queueUpd a c e).upd (s.jobOf a.r)).queue.length = (s.upd (s.jobOf a.r)).queue.length + 1 := by
  rw [State.queueUpd, State.upd_setUpd, List.length_append, List.length_singleton]

/-- A PARAM that carries its value reads no table, so nothing of it can fail. -/
theorem State.setParam_immediate (h : c.w 0 16 16 = 0) : s.setParam a c = s.wrs (regPage a.r) [(REG_PARAM_SLOT_VALUE, c.w 0 63 32),
    (REG_PARAM_SLOT_STEP_LOW, s.rd (regPage a.r) REG_STEP_COUNT_COUNT)] (c.w 0 31 24) := by
  simp [State.setParam, h]

end

/-- Settles O21: each row has its form, and is the issue of its command; a slot's value and its step share no bit. -/
theorem engineCommandsComplete : Obligations.EngineCommandsComplete := by
  refine ⟨fun r d c s h => issueRuns_of_form (not_not_intro h) rfl, fun r d c s h => issueRuns_of_form (not_not_intro h) rfl,
    fun r d c s h => issueRuns_of_form (not_not_intro h) rfl, fun r d c s h => issueRuns_of_form (not_not_intro h) rfl,
    fun _ _ _ _ => issueRuns_of rfl, fun a c e ix s harea hmatch hparams hwrote => ?_, fun _ _ _ _ => issueRuns_of rfl,
    fun a c s h => ⟨State.setParam_immediate h, ?_⟩, fun r d c s h => issueRuns_of_form (by omega) rfl,
    fun r d c s h => issueRuns_of_form (not_not_intro h) rfl⟩
  · rw [State.startUpd_queued harea hmatch hparams (State.updKept_of_not_written hwrote)]
    exact ⟨rfl, s.queue_queueUpd_length e⟩
  · have hvalue : c.w 0 63 32 < 2 ^ 32 := c.w_lt 0 63 32
    rw [State.setParam_immediate h]
    simp (disch := (simp only []; omega)) only [State.wrs_cons, State.wrs_nil, State.rd_wr_apart, State.rd_wr_fits]

/-! ### Fences (R130–R132) -/

@[simp] theorem State.seq_wr (s : State) (p : Nat) (f : Fld) (v i k : Nat) : (s.wr p f v i).seq k = s.seq k := rfl
@[simp] theorem State.seq_setSeqState (s : State) (r v k : Nat) : (s.setSeqState r v).seq k = s.seq k := rfl
@[simp] theorem State.seq_setCave (s : State) (r : Nat) (v : Cave) (k : Nat) : (s.setCave r v).seq k = s.seq k := rfl

section
variable {s : State} {r : Nat} {f : FenceAt}

theorem State.tryFence_of_no_fence (h : (s.seq r).fenceAt = none) : s.tryFence r = s := by
  simp [State.tryFence, h]

/-- A region without peers at its fence tells nobody and waits for nobody: condition 1 alone releases it. -/
theorem State.tryFence_alone (hf : (s.seq r).fenceAt = some f) (hstate : s.seqState r = 4)
    (hpeers : fencePeers f.parts (s.logical r) = []) (hwait : (s.seq r).waitMet f.wait = true) :
    ((s.tryFence r).seq r).fenceAt = none ∧ (s.tryFence r).seqState r = f.back % 16 := by
  simp [State.tryFence, hf, hstate, hpeers, hwait, FenceAt.clash]

end

/-- An arrival that agrees with the fence at which the region stands, if it stands at one, is recorded, and the fence tried again. -/
theorem exec_fenceArrival_of_no_clash {r : RegionIx} {peer : Fin 80} {fid : Nat} {lo : Word} {hi : Nat} {s : State}
    (h : ∀ f, (s.seq r).fenceAt = some f → f.clash (s.logical r) ⟨peer, fid, lo.toNat + hi % 65536 * 2 ^ 64⟩ = false) :
    exec (.fenceArrival r peer fid lo hi) s = keep s ((s.setSeq r { s.seq r with
      arrivals := (s.seq r).arrivals ++ [⟨peer, fid, lo.toNat + hi % 65536 * 2 ^ 64⟩] }).tryFence r) := by
  refine congrArg (keep s) (if_neg ?_)
  cases hf : (s.seq r).fenceAt with
  | none => exact Bool.false_ne_true
  | some f => exact ne_true_of_eq_false ((congrArg (s.seqState r == 4 && ·) (h f hf)).trans (Bool.and_false _))

/-- Settles O23: an arrival that agrees with the region's fence is recorded; a fence without peers turns on its WAIT classes alone. -/
theorem fencesComplete : Obligations.FencesComplete := by
  refine ⟨fun _ _ _ _ => issueRuns_of rfl, fun r peer fid lo hi s hf => answers_of_keep ?_,
    fun r peer fid lo hi f s hf hclash => answers_of_keep ?_, fun r s h => answers_of_keep (congrArg (keep s) (if_pos h)),
    fun r f s hf hstate hpeers hwait hback => ?_⟩
  · rw [exec_fenceArrival_of_no_clash (by simp [hf]), State.tryFence_of_no_fence (by rw [State.seq_setSeq]; exact hf)]
  · refine exec_fenceArrival_of_no_clash fun g hg => ?_
    rwa [Option.some.inj (hg.symm.trans hf)]
  · obtain ⟨hfence, hback'⟩ := State.tryFence_alone hf hstate hpeers hwait
    exact ⟨hfence, hback'.trans (Nat.mod_eq_of_lt hback)⟩

/-! ### Anchor checks (R133, R134) -/

/-- R133: with the span's drains done, NONFINITE is looked at before ANCHOR_SAT, and a saturated span is tried again while it has an
attempt left and its raised anchors fit. -/
theorem exec_anchorCheckEval_of_done {r : RegionIx} {s : State} (h : s.seqState r = 5)
    (hdone : (s.seq r).outst.any (fun o => o.deferred == (s.seq r).checkDef && Nat.land o.cls 1 != 0) = false) :
    let d := (s.seq r).checkDef
    let p := (s.seq r).span d
    let ix := if d then s.rd (regPage r) REG_SEQ_STATUS_DEF_PC else s.rd (regPage r) REG_SEQ_STATUS_PC
    exec (.anchorCheckEval r) s = keep s (
      if s.anyFlag r (fNonfinite d) then s.anchorFault r d (ix - 1)
      else if s.anyFlag r (fAnchorSat d) = false then s.checkPass r d
      else if p.attempt = 2 ∨ 127 < p.maxAnchor + 8 * ((p.attempt : Int) + 1) then s.anchorFault r d (ix - 1)
      else ((s.setSeq r ((s.seq r).setSpan d { p with attempt := p.attempt + 1 })).wr (regPage r) REG_SEQ_STATUS_ATTEMPT
        (p.attempt + 1)).setSeqState r 6) := by
  refine congrArg (keep s) ((if_neg (not_not_intro h)).trans ((if_neg (ne_true_of_eq_false hdone)).trans ?_))
  refine if_congr Iff.rfl rfl (if_congr ?_ rfl (if_congr ?_ rfl rfl))
  · simp
  · simp

theorem Seq.pend_setSpan (q : Seq) (d : Bool) (p : Span) : (q.setSpan d p).pend = q.pend := by
  cases d <;> rfl

/-- REVERSAL_DONE opens the span again, with nothing of it in the vat and no accumulation waiting. -/
theorem execReversalDone_opens {r : RegionIx} {s : State} (h : s.seqState r = 6) : ∃ t, Answers (.reversalDone r) s t ∧
    t.seqState r = 7 ∧ ((t.seq r).span (s.seq r).checkDef).opened = true ∧ ((t.seq r).span (s.seq r).checkDef).vatLog = [] ∧
    (t.seq r).pend = none := by
  refine ⟨_, congrArg (keep s) (if_neg (not_not_intro h)), State.seqState_setSeqState _ _ _, ?_⟩
  rw [State.seq_setSeqState]
  dsimp only
  split
  · rw [State.seq_setCave, State.seq_setSeq, Seq.span_setSpan, Seq.pend_setSpan]
    exact ⟨rfl, rfl, rfl⟩
  · rw [State.seq_wr, State.seq_setSeq, Seq.span_setSpan, Seq.pend_setSpan]
    exact ⟨rfl, rfl, rfl⟩

/-- Settles O24: the evaluation by its rows in their order, and REVERSAL_DONE by the span that it leaves. -/
theorem anchorChecksComplete : Obligations.AnchorChecksComplete := by
  refine ⟨fun _ _ _ _ => issueRuns_of rfl, fun r s h => ?_, fun r s h => execReversalDone_opens h⟩
  · intro d p ix hdone
    have heval := exec_anchorCheckEval_of_done h hdone
    refine ⟨fun hnf => ?_, fun hnf hsat => ?_, fun hnf hsat hatt => ?_, fun hnf hsat hatt hfits => ?_⟩
    · exact heval.trans (congrArg (keep s) (if_pos hnf))
    · exact heval.trans (congrArg (keep s) ((if_neg (ne_true_of_eq_false hnf)).trans (if_pos hsat)))
    · exact heval.trans (congrArg (keep s) ((if_neg (ne_true_of_eq_false hnf)).trans
        ((if_neg (ne_false_of_eq_true hsat)).trans (if_pos (.inl hatt)))))
    · exact heval.trans (congrArg (keep s) ((if_neg (ne_true_of_eq_false hnf)).trans
        ((if_neg (ne_false_of_eq_true hsat)).trans (if_neg (not_or.mpr ⟨hatt, not_lt.mpr hfits⟩)))))

/-! ### Idle windows (R138, R139) -/

/-- Opening a window changes the region's state and no other register. -/
theorem State.startWindow_keptBut (s : State) (r u : Nat) (b : Bool) :
    RegsKeptBut [regAddr (regPage r) REG_SEQ_STATUS_STATE.off] s (s.startWindow r u b) :=
  State.wr_keptBut (s.setSeq r { s.seq r with window := some ⟨u, b⟩ }) _ _ _ _ (by simp [Fld.atIx])

section
variable {s : State} {r : RegionIx} {w : Window}

/-- R139: an open window of a region in WINDOW closes where its conditions hold. -/
theorem exec_windowEnd_of_window (h : (s.seq r).window = some w) : exec (.windowEnd r) s = keep s
    (if s.seqState r = 3 ∧ s.windowEnds r w = true then (s.setSeq r { s.seq r with window := none }).setSeqState r 2 else s) := by
  simp [exec, execWindowEnd, h]

theorem exec_windowBudgetExpiry_of_window (h : (s.seq r).window = some w) : exec (.windowBudgetExpiry r) s =
    keep s (s.setSeq r { s.seq r with window := some { w with budgetOver := true } }) := by
  simp [exec, execWindowBudgetExpiry, h]

end

/-- Settles O25: a window opens with one write of SEQ_STATUS, and closes by its end conditions. -/
theorem idleWindowsComplete : Obligations.IdleWindowsComplete := by
  refine ⟨fun _ _ _ _ => issueRuns_of rfl, fun r u b s => ⟨State.seqState_setSeqState _ _ _, ?_, s.startWindow_keptBut r u b⟩,
    fun r w s h hstate hends => ?_, fun r w s h hends => ?_, fun r w s h => answers_of_keep (exec_windowBudgetExpiry_of_window h)⟩
  · rw [State.startWindow, State.seq_setSeqState, State.seq_setSeq]
  · exact (exec_windowEnd_of_window h).trans (congrArg (keep s) (if_pos ⟨hstate, hends⟩))
  · exact (exec_windowEnd_of_window h).trans (congrArg (keep s) (if_neg (by simp [hends])))

/-! ### Marks and the end of a step (R135, R136, R143) -/

section
variable (s : State) (r k : Nat)

/-- A comparison with a twin may count, and touches nothing of a region (R351). -/
theorem State.pairCheck_region_kept :
    (s.pairCheck r).seqState k = s.seqState k ∧ (s.pairCheck r).seq k = s.seq k := by
  unfold State.pairCheck
  split
  · exact ⟨State.rd_bump_ne _ _ _ _ _ _ _ (regAddr_ne_of_off (by decide) (by decide) (by decide)), rfl⟩
  · exact ⟨rfl, rfl⟩

/-- A region that has issued STEP_END waits, with what the command gives it for its next step. -/
theorem State.endStep_waits (c : Cmd) : (s.endStep r c).seqState r = 8 ∧ ((s.endStep r c).seq r).lastFlag = (c.w 0 16 16 == 1) ∧
    ((s.endStep r c).seq r).nextPc = c.w 1 23 0 := by
  unfold State.endStep
  dsimp only
  rw [(State.pairCheck_region_kept _ r r).1, (State.pairCheck_region_kept _ r r).2, State.seqState_setSeqState,
    State.seq_setSeqState, State.seq_setSeq]
  exact ⟨rfl, rfl, rfl⟩

end

/-- The LAST flags of a job's regions, in the order of the regions. -/
abbrev State.lastFlags (s : State) (slot : Nat) : List Bool := (s.regionsOf slot).map fun r => (s.seq r).lastFlag

section
variable {s : State} {slot : SlotIx}

/-- R143: LAST flags that differ are a program fault in every region of the job, at its STEP_END. -/
theorem exec_stepEnded_mismatch (hwait : s.allStepWait slot = true) (hserves : s.serves slot = false)
    (hlast : (s.lastFlags slot).any (· != (s.lastFlags slot).headD false) = true) :
    exec (.stepEnded slot) s = keep s ((s.regionsOf slot).foldl (fun s r =>
      s.progFault r false (s.rd (regPage r) REG_SEQ_STATUS_PC - 1) REG_ERR_STATUS_LAST_MISMATCH) s) :=
  congrArg (keep s) ((if_neg (by simp [hwait, hserves])).trans (if_pos hlast))

/-- R143: where they agree, the commit is what the step waits for. -/
theorem exec_stepEnded_ready (hwait : s.allStepWait slot = true) (hserves : s.serves slot = false)
    (hlast : (s.lastFlags slot).any (· != (s.lastFlags slot).headD false) = false) (hstale : s.stale slot = false) :
    exec (.stepEnded slot) s = keep s (s.checkReady slot) :=
  congrArg (keep s) ((if_neg (by simp [hwait, hserves])).trans ((if_neg (ne_true_of_eq_false hlast)).trans
    (if_neg (by simp [hstale]))))

end

/-- Settles O26: each row of a MARK has its KIND, and is the issue of its command; the end of a step turns on the LAST flags. -/
theorem marksAndStepEndComplete : Obligations.MarksAndStepEndComplete := by
  refine ⟨fun r d c s h => issueRuns_of_form (by omega) rfl, fun r d c s h => issueRuns_of_form (by omega) rfl,
    fun _ _ _ _ => issueRuns_of rfl, fun r c s => s.endStep_waits r c,
    fun slot s hwait hserves => ⟨fun hlast => ?_, fun hlast hstale => ?_⟩⟩
  · exact answers_of_keep (exec_stepEnded_mismatch hwait hserves hlast)
  · exact answers_of_keep (exec_stepEnded_ready hwait hserves hlast hstale)

/-! ### Step sync (R144–R148) -/

/-- The signal that a pulse of a width carries (R147): 1 END, 2 EXTEND, 0 none. -/
def pulseKind (w : Nat) : Nat := if 80 ≤ w ∧ w ≤ 200 then 1 else if 400 ≤ w ∧ w ≤ 800 then 2 else 0

/-- Every region of a list counts an ignored signal. -/
def State.ignoreSync (s : State) (l : List Nat) : State := l.foldl (fun s x => s.bump (regPage x) REG_C_SYNC_IGNORED) s

/-- A pulse while one job runs that listens to the pin (R147). -/
theorem exec_stepSyncPulse_of_listening {w g j r : Nat} {rs : List Nat} {s : State} (hjobs : s.runningJobs = [j])
    (hregions : s.regionsOf j = r :: rs) (hsrc : s.rd (regPage r) REG_STEP_CFG_SYNC_SRC % 2 = 1) :
    exec (.stepSyncPulse w g) s = keep s (if g < 2000 ∨ pulseKind w = 0 ∨ s.allStepWait j = true then s.ignoreSync (r :: rs)
      else s.applySync j (pulseKind w) (s.rd (regPage r) REG_STEP_CFG_STEP_MB_MAX)) := by
  simp only [exec, execStepSyncPulse, hjobs, List.foldl_cons, List.foldl_nil, hregions]
  rw [if_neg (by omega)]
  rfl

/-- A SYNC message that passes the port is taken for its job (R148). -/
theorem exec_syncMessage_of_admitted {m : Msg} {slot : Nat} {s : State} (ha : Admitted s m slot) (hcls : m.cls = 0)
    (htype : byteAt m.body 0 = 7) (hzero : leAt m.body 1 3 = 0) (hport : s.isS m.port = true) :
    exec (.syncMessage m) s = keep s (s.takeSync slot (m.body.drop 8)) := by
  rw [exec, execSyncMessage, show s.admitMsg m = (s, some slot) from ha]
  exact congrArg (keep s) (if_pos ⟨hcls, htype, hzero, hport⟩)

/-- Settles O27: the width of a pulse gives its kind; what comes too soon, while the regions wait, or without a kind is ignored. -/
theorem stepSyncRowsComplete : Obligations.StepSyncRowsComplete := by
  refine ⟨fun w g s h => ?_, fun w g j r rs s hjobs hregions hsrc => ?_,
    fun m slot s ha hcls htype hzero hport => answers_of_keep (exec_syncMessage_of_admitted ha hcls htype hzero hport),
    fun q r v s h => ⟨fun hb => ?_, fun hb => ?_⟩⟩
  · refine answers_of_keep (?_ : execStepSyncPulse w g s = _)
    rw [execStepSyncPulse, h, List.foldl_nil]
  · have hpulse := exec_stepSyncPulse_of_listening (w := w) (g := g) hjobs hregions hsrc
    refine ⟨fun hsoon => ?_, fun hwait => ?_, fun hwidth => ?_, fun hgap hwait hlo hhi => ?_, fun hgap hwait hlo hhi => ?_⟩
    · exact hpulse.trans (congrArg (keep s) (if_pos (.inl hsoon)))
    · exact hpulse.trans (congrArg (keep s) (if_pos (.inr (.inr hwait))))
    · have hkind : pulseKind w = 0 := by rw [pulseKind, if_neg (by omega), if_neg (by omega)]
      exact hpulse.trans (congrArg (keep s) (if_pos (.inr (.inl hkind))))
    · have hkind : pulseKind w = 1 := if_pos ⟨hlo, hhi⟩
      rw [hkind] at hpulse
      exact hpulse.trans (congrArg (keep s) (if_neg (by simp [hwait, not_lt.mpr hgap])))
    · have hkind : pulseKind w = 2 := (if_neg (by omega)).trans (if_pos ⟨hlo, hhi⟩)
      rw [hkind] at hpulse
      exact hpulse.trans (congrArg (keep s) (if_neg (by simp [hwait, not_lt.mpr hgap])))
  · exact answers_of_keep (congrArg (keep s) ((serveWrite_served _ h).trans (if_pos hb)))
  · exact answers_of_keep (congrArg (keep s) ((serveWrite_served _ h).trans (if_neg (ne_true_of_eq_false hb))))

end Sys2Proof.Machine

/-! Dockets and partitions (06_dockets_and_partitions.md, R149–R166): the fetch of dockets, the load of an admitted job's program, job
control messages, and the end of a job. -/

namespace Sys2Proof.Machine

/-! ### Docket fetching (R149) -/

/-- The path on which the next fetch goes out, as SOURCE selects it (R149). -/
def State.fetchPath (s : State) : CtlPath :=
  if s.rd pDOCK DOCK_FETCH_CFG_SOURCE = 0 then .mgmt else .port (s.rd pDOCK DOCK_FETCH_CFG_SPORT)

/-- What a DOCKET_FETCH tells the cluster controller: MODULE_ID and how many slots are free (R149). -/
def State.fetchBody (s : State) : List Byte :=
  leBytes 2 (s.rd pGLB GLB_MODULE_ID_ID + 2 ^ 15 * s.rd pGLB GLB_MODULE_ID_VALID) ++ leBytes 1 s.freeSlots.length ++ leBytes 5 0

/-- Whether the module may ask for a docket now (R149). -/
structure State.FetchReady (s : State) : Prop where
  enabled : s.rd pDOCK DOCK_CTRL_FETCH_EN = 1
  slotFree : s.freeSlots ≠ []
  noFetch : s.dock.fetch = none
  stageReady : s.stage = 0x0A
  dockOn : s.on pDOCK = true
  notFailed : s.rd pFLT FLT_STATUS_MODULE_FAILED = 0
  pathThere : s.canAsk s.fetchPath = true
  notRetired : s.lifecycle ≠ 3

theorem exec_docketFetch_of_ready {s t : State} {q : Nat} (h : s.FetchReady)
    (hsend : s.sendControl s.fetchPath 1 s.fetchBody = (q, t)) : exec .docketFetch s =
      keep s (({ t with dock := { t.dock with fetch := some (s.fetchPath, q) } }.wr pDOCK DOCK_STATUS_FETCH_OUT 1).bump
        pDOCK DOCK_C_FETCHES) := by
  obtain ⟨hen, hslot, hnone, hstage, hon, hfail, hask, hlife⟩ := h
  have hlen : s.freeSlots.length ≠ 0 := mt List.length_eq_zero_iff.mp hslot
  unfold State.fetchPath State.fetchBody at *
  refine congrArg (keep s) ((if_neg ?_).trans ?_)
  · simp [hen, hlen, hnone, hstage, hon, hfail, hask, hlife]
  · simp only [hsend]

/-- Ending a fetch clears STATUS.FETCH_OUT. -/
theorem State.endFetch_rd_fetchOut (s : State) : s.endFetch.rd pDOCK DOCK_STATUS_FETCH_OUT = 0 :=
  State.rd_wr_fits _ _ _ (by decide)

/-- Settles O28: a fetch goes out where the module may ask, and an answer that matches ends it. -/
theorem docketFetchingCompletes : Obligations.DocketFetchingCompletes := by
  refine ⟨fun q t s hen hslot hnone hstage hon hfail => ?_, fun s hoff => congrArg (keep s) (if_pos (.inl hoff)),
    fun c u s h => congrArg (keepQ s) (fetchAnswer_taken _ h), fun c u s h => congrArg (keep s) (fetchAnswer_taken _ h),
    fun s h => ⟨?_, rfl, s.endFetch_rd_fetchOut⟩⟩
  · intro path hask hlife hsend
    exact exec_docketFetch_of_ready ⟨hen, hslot, hnone, hstage, hon, hfail, hask, hlife⟩ hsend
  · exact congrArg (keep s) (if_pos (Option.isSome_iff_ne_none.mpr h))

/-! ### Loading a job (R154–R158, R161, R343) -/

section
variable {s : State} {slot : SlotIx}

/-- R155: check 3 runs again for a docket that waits, once the wait is over or freeing the slots in TEARDOWN changes nothing. -/
theorem exec_fitRecheck_of_waiting {w : Bool} (hstate : s.jobState slot = 1) (hwait : (s.job slot).fitWait = true)
    (hcheck : s.rd pFAB FAB_STATUS_CHECK ≠ 1)
    (hdue : w = true ∨ s.fits slot (s.job slot).docket false = true ∨ s.fits slot (s.job slot).docket true = false) :
    exec (.fitRecheck slot w) s =
      keepQ s ((s.setJob slot { s.job slot with fitWait := false }).check3 slot (s.job slot).docket true).admitNext := by
  refine congrArg (keepQ s) ((if_neg ?_).trans (if_neg ?_))
  · simp [hstate, hwait, hcheck]
  · obtain h | h | h := hdue <;> simp [h]

/-- A job in LOADING has its program checked (R156). -/
theorem exec_programLoadDone_of_loading (image : List Byte) (h : s.jobState slot = 2) : exec (.programLoadDone slot image) s =
    keepQ s ((s.sourceImage slot image).1.programLoaded slot (s.sourceImage slot image).2) := by
  have hreload : (s.flt.reload.contains slot.val && s.jobState slot == 3) = false := by simp [h]
  refine congrArg (keepQ s) ((if_neg ?_).trans (if_neg (ne_true_of_eq_false hreload)))
  simp [h]

/-- A running job that is to be reloaded has its program read again, once every remap is done (R343). -/
theorem exec_programLoadDone_of_reloading (image : List Byte) (h : s.jobState slot = 3)
    (hreload : s.flt.reload.contains slot.val = true) (hremaps : s.flt.remaps = []) : exec (.programLoadDone slot image) s =
    keepQ s ((s.sourceImage slot image).1.reloadJob slot (s.sourceImage slot image).2) := by
  have hmem : slot.val ∈ s.flt.reload := List.contains_iff_mem.mp hreload
  refine congrArg (keepQ s) ((if_neg ?_).trans (if_pos ?_))
  · simp [h, hmem, hremaps]
  · simp [h, hmem]

/-- R156: an image of the right length is judged by its hash before its contents. -/
theorem State.programLoaded_of_hash_ne {slot : Nat} {img : List Byte} (h : s.jobState slot = 2)
    (hlen : img.length = leAt (s.job slot).docket 104 8) (hhash : sha384 img ≠ ((s.job slot).docket.drop 120).take 48) :
    s.programLoaded slot img = s.loadFail slot 0x30 :=
  (if_neg (not_not_intro h)).trans ((if_neg (not_not_intro hlen)).trans (if_pos hhash))

/-- R161: a port of a running job that still waits for its key ends the job. -/
theorem exec_keyWaitTimeout_of_waiting {port : PortIx} {j : Nat} (hslot : s.portSlot port = some j) (hport : s.portState port = 1)
    (hjob : s.jobState j = 3) : exec (.keyWaitTimeout port) s = keep s (s.endJob j 0x41 4) := by
  simp [exec, execKeyWaitTimeout, hslot, hport, hjob]

end

/-- Settles O29: each row by the state that the job's slot is in. -/
theorem jobLoadingRowsComplete : Obligations.JobLoadingRowsComplete := by
  refine ⟨fun slot w s hstate hwait hcheck hdue => answersMem_of_keepQ (exec_fitRecheck_of_waiting hstate hwait hcheck hdue),
    fun slot image s h => answersMem_of_keepQ (exec_programLoadDone_of_loading image h),
    fun slot image s h hr hm => answersMem_of_keepQ (exec_programLoadDone_of_reloading image h hr hm),
    fun slot s h => congrArg (keepQ s) (if_pos h), fun slot s h hr => congrArg (keepQ s) ((if_neg ?_).trans (if_pos ?_)),
    fun port j s hslot hport hjob => answers_of_keep (exec_keyWaitTimeout_of_waiting hslot hport hjob),
    fun slot img s h hlen hhash => State.programLoaded_of_hash_ne h hlen hhash⟩
  · omega
  · rw [hr, h]; rfl

/-! ### Job control (R162, R163) -/

/-- The three rows of job control messages have one meaning: what a message does is told by its OP. -/
theorem exec_jobCtl {row : CtlMsg → Instr} (h : row = Instr.install ∨ row = Instr.revoke ∨ row = Instr.cancel) (c : CtlMsg)
    (s : State) : exec (row c) s = keep s (s.jobCtl c) := by
  obtain rfl | rfl | rfl := h <;> rfl

section
variable {s : State}

/-- On the management port a job control message is a request of the mailbox. -/
theorem State.jobCtl_mgmt {f : MgtReq} (h : (CtlMsg.mgmt f).ctype = 4) : s.jobCtl (.mgmt f) = s.mailbox 0x30 false true 8 f fun t =>
    ((t.jobCtlAct (CtlMsg.mgmt f).body).1, (t.jobCtlAct (CtlMsg.mgmt f).body).2, []) := by
  simp only [State.jobCtl, State.ctlRequest, h, if_true]

/-- On an S-port a message that passes the port's checks runs, and nothing answers it. -/
theorem State.jobCtl_port {m : Msg} (hadmit : s.admitCtl m = (s, true)) (h : (CtlMsg.port m).ctype = 4) :
    s.jobCtl (.port m) = (s.jobCtlAct (CtlMsg.port m).body).1 := by
  rw [State.jobCtl, State.ctlRequest, hadmit]
  exact if_pos (by rw [h]; rfl)

/-- An accepted message that is not too late has its KEY_SEQ recorded, runs, and is answered OK. -/
theorem State.jobCtlAct_of_ok {t u : State} {b : List Byte} (hok : s.jobCtlOk b = (t, true))
    (hrun : (t.wr pDOCK DOCK_KEY_SEQ_SEQ (leAt b 8 8)).jobCtlRun b = (u, false)) : s.jobCtlAct b = (u, stOk) := by
  simp only [State.jobCtlAct, hok, hrun]

variable {b : List Byte} {j : Nat}

theorem State.jobCtlRun_install_held (hop : byteAt b 6 = 1) (hslot : s.slotOfJob (leAt b 16 4) = some j) :
    s.jobCtlRun b = (s.installKeys j (leAt b 24 8) (maskList 256 (leAt b 32 32)), false) := by
  simp only [State.jobCtlRun, hop, hslot]

theorem State.jobCtlRun_install_unheld (hop : byteAt b 6 = 1) (hslot : s.slotOfJob (leAt b 16 4) = none) :
    s.jobCtlRun b = (s.holdInstall ⟨leAt b 16 4, leAt b 24 8, leAt b 32 32⟩, false) := by
  simp only [State.jobCtlRun, hop, hslot]

/-- A REVOKE that names one KEYED port of the job skips no port and puts that one back to AWAIT_KEY. -/
theorem State.jobCtlRun_revoke_keyed {p : Nat} (hop : byteAt b 6 = 2) (hslot : s.slotOfJob (leAt b 16 4) = some j)
    (hports : maskList 256 (leAt b 32 32) = [p]) (hport : s.portSlot p = some j) (hkeyed : s.portState p = 2) :
    s.jobCtlRun b =
      ((s.bump pDOCK DOCK_C_KEY_MSG_SKIPPED 0).wrs pDOCK [(DOCK_PORT_STATE, 1), (DOCK_PORT_KEY_TAG, 0)] p, false) := by
  simp [State.jobCtlRun, hop, hslot, hports, hport, hkeyed]

theorem State.jobCtlRun_cancel_held (hop : byteAt b 6 = 3) (hslot : s.slotOfJob (leAt b 16 4) = some j) :
    s.jobCtlRun b = (s.endJob j 0x41 1, s.jobState j == 4) := by
  simp only [State.jobCtlRun, hop, hslot]

theorem State.jobCtlRun_cancel_unheld (hop : byteAt b 6 = 3) (hslot : s.slotOfJob (leAt b 16 4) = none) :
    s.jobCtlRun b = (s.bump pFLT FLT_C_TOO_LATE_COUNT, true) := by
  simp only [State.jobCtlRun, hop, hslot]

end

/-- A status that the spec leaves open takes one free value, and is a byte. -/
theorem State.freeStatus_draws (s : State) : s.freeStatus.1 = { s with free := s.free + 1 } ∧ s.freeStatus.2 < 256 :=
  ⟨rfl, Nat.mod_lt _ (by decide)⟩

/-- Settles O30: a message by its path, and an accepted one by its OP and by whether a slot holds its job. That CANCEL of a job that
no slot holds is too late is deduced (log 94); that the status of what is refused or too late is free is the model's choice (log 22). -/
theorem jobControlCompletes : Obligations.JobControlCompletes :=
  ⟨fun _ hrow _ s h => mailRuns_of ((exec_jobCtl hrow _ s).trans (congrArg (keep s) (State.jobCtl_mgmt h))),
    fun _ hrow _ s hadmit h => (exec_jobCtl hrow _ s).trans (congrArg (keep s) (State.jobCtl_port hadmit h)),
    fun _ _ _ _ hok hrun => State.jobCtlAct_of_ok hok hrun,
    fun _ _ _ hop hslot => State.jobCtlRun_install_held hop hslot,
    fun _ _ hop hslot => State.jobCtlRun_install_unheld hop hslot,
    fun _ _ _ _ hop hslot hports hport hkeyed => State.jobCtlRun_revoke_keyed hop hslot hports hport hkeyed,
    fun _ _ _ hop hslot => State.jobCtlRun_cancel_held hop hslot,
    fun _ _ hop hslot => State.jobCtlRun_cancel_unheld hop hslot,
    State.freeStatus_draws⟩

/-! ### The end of a job (R163, R164, R166, R357) -/

section
variable {s : State}

/-- R164: a port of a job that has become quiet is FENCED, teardown goes on, and a docket that waits may take the slot. -/
theorem exec_portQuiesceDone_of_quiet {port : PortIx} {j : Nat} (hslot : s.portSlot port = some j) (hport : s.portState port = 3) :
    exec (.portQuiesceDone port) s = keepQ s ((s.fencePort port).tearDone j).admitNext := by
  rw [exec, execPortQuiesceDone, hslot]
  exact congrArg (keepQ s) (if_pos hport)

/-- R166: with no report of an earlier job left, the slot's own report is the one that is lost. -/
theorem exec_reportLost_of_no_old {slot : SlotIx} (h : s.dock.reports.any (fun x => x.1 == slot.val) = false) :
    exec (.reportLost slot) s = keep s (if (s.job slot).report.isEmpty then s
      else (s.raiseErr pDOCK DOCK_ERR_STATUS_REPORT_LOST).setJob slot { s.job slot with lost := true }) :=
  congrArg (keep s) (if_neg (ne_true_of_eq_false h))

/-- R357: an outcome that comes while the job is in TEARDOWN is counted. -/
theorem State.endJob_of_teardown {slot : Nat} (o c : Nat) (h : s.jobState slot = 4) :
    s.endJob slot o c = s.bump pFLT FLT_C_TOO_LATE_COUNT :=
  (if_neg (by omega)).trans (if_pos h)

/-- A slot in FREE or ADMITTING has no job to end. -/
theorem State.endJob_of_no_job {slot : Nat} (o c : Nat) (h : s.jobState slot = 0 ∨ s.jobState slot = 1) : s.endJob slot o c = s :=
  if_pos h

end

/-- Settles O31: each row by the guards of its rule, and an end by the state of the slot. -/
theorem jobEndRowsComplete : Obligations.JobEndRowsComplete := by
  refine ⟨fun e s => answers_of_keep rfl, fun port j s hslot hport => answersMem_of_keepQ (exec_portQuiesceDone_of_quiet hslot hport),
    fun slot s hold => ⟨fun hreport => ?_, fun hreport => ?_⟩, fun slot s hold => congrArg (keep s) (if_pos hold),
    fun slot o c s h => State.endJob_of_teardown o c h, fun slot o c s h => State.endJob_of_no_job o c h⟩
  · exact (exec_reportLost_of_no_old hold).trans (congrArg (keep s) (if_neg (by simpa using hreport)))
  · exact (exec_reportLost_of_no_old hold).trans (congrArg (keep s) (if_pos (by simpa using hreport)))

end Sys2Proof.Machine

/-! Weight streaming (07_forward_and_weight_streaming.md, R171–R187): the commands that move weights and activations, the weight
messages that pass a port, and the timers of the loads. -/

namespace Sys2Proof.Machine

/-! ### Commands that issue (R171, R185, R194, R196, R323) -/

section
variable {r : RegionIx} {d : Bool} {c : Cmd} {s : State}

/-- R294: of a model that the model cache serves to the job, SPEC is ignored. -/
theorem exec_wloadSpec_of_served (hspec : c.w 0 16 16 = 1) (hserved : s.wloadServed r (wcmd c) = true) :
    exec (.wloadSpec r d c) s = keep s (s.issue r d c 0x40 (s.wloadIssue r c) fun a t => t.startWload a (wcmd c)) :=
  congrArg (keep s) ((if_neg (by omega)).trans (if_pos hserved))

/-- R185: of any other model, a WLOAD with SPEC = 1 fetches into the staging area. -/
theorem exec_wloadSpec_of_unserved (hspec : c.w 0 16 16 = 1) (hserved : s.wloadServed r (wcmd c) = false) :
    exec (.wloadSpec r d c) s = keep s (s.issue r d c 0x40 (s.specIssue r c) fun a t => t.runSpec a (wcmd c)) :=
  congrArg (keep s) ((if_neg (by omega)).trans (if_neg (ne_true_of_eq_false hserved)))

end

/-- Settles O20: each row is the issue of its command; a WLOAD's row has its SPEC, and one with SPEC = 1 turns on whether the model
cache serves it. -/
theorem moverCommandsComplete : Obligations.MoverCommandsComplete :=
  ⟨fun _ _ _ _ => issueRuns_of rfl, fun _ _ _ _ => issueRuns_of rfl,
    fun _ _ _ _ h => issueRuns_of_form (by omega) rfl,
    fun _ _ _ _ hspec hserved => issueRuns_of (exec_wloadSpec_of_unserved hspec hserved),
    fun _ _ _ _ hspec hserved => issueRuns_of (exec_wloadSpec_of_served hspec hserved),
    fun _ _ _ _ => issueRuns_of rfl, fun _ _ _ _ => issueRuns_of rfl⟩

/-! ### Weight messages (R177, R178, R297) -/

section
variable {m : Msg} {slot : Nat} {s : State}

theorem exec_weightSegment_of_taken (h : WeightTaken s m slot) :
    exec (.weightSegment m) s = keep s (s.weightSegment slot m.body) := by
  obtain ⟨ha, hcls⟩ := h
  rw [exec, execWeightSegment, show s.admitMsg m = (s, some slot) from ha]
  exact congrArg (keep s) (if_pos hcls)

/-- A message of TYPE 0x52 is an answer of the weight server. -/
theorem exec_wsAnswer_of_taken (h : WeightTaken s m slot) (htype : byteAt m.body 0 = 0x52) :
    exec (.wsAnswer m) s = keep s (s.wsAnswer slot m.body) := by
  obtain ⟨ha, hcls⟩ := h
  rw [exec, execWsAnswer, show s.admitMsg m = (s, some slot) from ha]
  exact congrArg (keep s) (if_pos (by simp [hcls, htype]))

/-- A message of TYPE 0x4E is a chunk of a manifest. -/
theorem exec_manifestChunk_of_taken (h : WeightTaken s m slot) (htype : byteAt m.body 0 = 0x4E) :
    exec (.manifestChunk m) s = keep s (s.manifestChunk slot m.body) := by
  obtain ⟨ha, hcls⟩ := h
  rw [exec, execManifestChunk, show s.admitMsg m = (s, some slot) from ha]
  exact congrArg (keep s) (if_pos (by simp [hcls, htype]))

/-- R178: a segment whose header does not parse is dropped before its key is looked for. -/
theorem State.weightSegment_of_malformed {b : List Byte} (h : parseWSeg b = none) : s.weightSegment slot b = s.hdrBad := by
  rw [State.weightSegment, h]

end

/-! ### The timers of a region's load (R175, R177, R180, R183, R187) -/

section
variable {n : Nat} {l : Load} {s : State}

theorem exec_notReadyRetry_of_load (hentry : timerEntry n = none) (hload : s.loadAt n = some l) :
    exec (.notReadyRetry n) s = keep s (if l.notReady then s.requestMissing l else s) := by
  rw [exec, execNotReadyRetry, hentry, hload]

theorem exec_epochWaitTimeout_of_load (hentry : timerEntry n = none) (hload : s.loadAt n = some l) :
    exec (.epochWaitTimeout n) s = keep s (if l.epochWait || l.notReady then s.failLoad l 5 else s) := by
  rw [exec, execEpochWaitTimeout, hentry, hload]

/-- R180: a load that has sent its reads, and waits neither for a key nor for an epoch, asks again while it has tries left. -/
theorem exec_segTimeout_of_reading (hentry : timerEntry n = none) (hload : s.loadAt n = some l) (hreads : l.reads = true)
    (hkey : l.keyWait = false) (hepoch : l.epochWait = false) :
    exec (.segTimeout n) s = keep s (if s.rd pWSP WSP_LIMITS_RETRIES ≤ l.tries then s.failLoad l 1
      else ((s.setLoad { l with tries := l.tries + 1 }).bump pWSP WSP_C_RE_REQUESTS).askTiles { l with tries := l.tries + 1 }
        ({ l with tries := l.tries + 1 } : Load).missing) := by
  rw [exec, execSegTimeout, hentry, hload]
  exact congrArg (keep s) (if_neg (by simp [hreads, hkey, hepoch]))

/-- R183: a load that follows a leader reads for itself once the leader's segments have not come. -/
theorem exec_leaderWaitTimeout_of_following (hload : s.loadAt n = some l) (hreads : l.reads = false) (hlead : l.lead = false)
    (hkey : l.keyWait = false) (hepoch : l.epochWait = false) :
    exec (.leaderWaitTimeout n) s = keep s
      (((s.setLoad { l with reads := true }).bump pWSP WSP_C_LEADER_FALLBACKS).requestMissing { l with reads := true }) := by
  rw [exec, execLeaderWaitTimeout, hload]
  exact congrArg (keep s) (if_neg (by simp [hreads, hlead, hkey, hepoch]))

theorem exec_keyMissingTimeout_of_load (hn : n < 2 ^ 33) (hload : s.loadAt n = some l) :
    exec (.keyMissingTimeout n) s = keep s (if l.keyWait then s.failLoad l 4 else s) := by
  rw [exec, execKeyMissingTimeout, if_neg (not_le.mpr hn), hload]

end

/-! ### The timers of a model-cache load and of a BIND (R177, R187) -/

section
variable {n e : Nat} {l : CacheLoad} {s : State}

theorem exec_notReadyRetry_of_cacheLoad (hentry : timerEntry n = some e) (hload : (s.cacheEnt e).load = some l) :
    exec (.notReadyRetry n) s = keep s (if l.notReady then (s.moveCarrier e).cacheAgain e else s) := by
  simp only [exec, execNotReadyRetry, hentry, hload]

theorem exec_epochWaitTimeout_of_cacheLoad (hentry : timerEntry n = some e) (hload : (s.cacheEnt e).load = some l) :
    exec (.epochWaitTimeout n) s = keep s (if l.notReady then s.cacheFail e (cacheCause 5) else s) := by
  simp only [exec, execEpochWaitTimeout, hentry, hload]

end

/-- A BIND whose model has got no key no longer waits, and fails as a load does with cause KEY_MISSING (R187). -/
theorem exec_keyMissingTimeout_of_bind {r : Nat} {b : BindWait} {s : State}
    (h : s.wsp.binds.find? (fun b => b.region == r) = some b) :
    exec (.keyMissingTimeout (2 ^ 33 + r)) s = keep s
      (((({ s with wsp := { s.wsp with binds := s.wsp.binds.filter fun x => x.region != r } } : State).raiseErr pWSP
        WSP_ERR_STATUS_LOAD_FAIL).wrs pWSP [(WSP_LAST_FAIL_SID, 0), (WSP_LAST_FAIL_SLOT, b.slot), (WSP_LAST_FAIL_CAUSE, 4),
        (WSP_LAST_FAIL_MODEL, b.model), (WSP_LAST_FAIL_LAYER, b.first)]).reportOn .program r pWSP WSP_ERR_STATUS_LOAD_FAIL
          b.slot) := by
  refine congrArg (keep s) ((if_pos (Nat.le_add_right ..)).trans ?_)
  simp only [Nat.add_sub_cancel_left, h]

/-- Settles O32: a message by its class and TYPE, and a timer by the load that its number names and what that load waits for. That
EPOCH_WAIT of a model-cache load is recorded as TIMEOUT (log 25) and that a failed BIND records SID 0 (log 97) is deduced. -/
theorem weightRowsComplete : Obligations.WeightRowsComplete := by
  refine ⟨fun m slot s h => answers_of_keep (exec_weightSegment_of_taken h),
    fun m slot s h htype => answers_of_keep (exec_wsAnswer_of_taken h htype),
    fun m slot s h htype => answers_of_keep (exec_manifestChunk_of_taken h htype),
    fun slot b s h => State.weightSegment_of_malformed h, fun n l s hentry hload hwait => ?notReady,
    fun n e l s hentry hload hwait => ?cacheNotReady, fun n l s hentry hload hwait => ?epochWait,
    fun n e l s hentry hload hwait => ?cacheEpochWait,
    fun n l s hentry hload hreads hkey hepoch => ⟨fun hleft => ?askAgain, fun hspent => ?spent⟩,
    fun n l s hload hreads hlead hkey hepoch => exec_leaderWaitTimeout_of_following hload hreads hlead hkey hepoch,
    fun n l s hn hload hkey => ?keyWait, fun r b s h => exec_keyMissingTimeout_of_bind h⟩
  case notReady => exact (exec_notReadyRetry_of_load hentry hload).trans (congrArg (keep s) (if_pos hwait))
  case cacheNotReady => exact (exec_notReadyRetry_of_cacheLoad hentry hload).trans (congrArg (keep s) (if_pos hwait))
  case epochWait =>
    exact (exec_epochWaitTimeout_of_load hentry hload).trans (congrArg (keep s) (if_pos (Bool.or_eq_true_iff.mpr hwait)))
  case cacheEpochWait => exact (exec_epochWaitTimeout_of_cacheLoad hentry hload).trans (congrArg (keep s) (if_pos hwait))
  case askAgain =>
    exact (exec_segTimeout_of_reading hentry hload hreads hkey hepoch).trans (congrArg (keep s) (if_neg (not_le.mpr hleft)))
  case spent =>
    exact (exec_segTimeout_of_reading hentry hload hreads hkey hepoch).trans (congrArg (keep s) (if_pos hspent))
  case keyWait => exact (exec_keyMissingTimeout_of_load hn hload).trans (congrArg (keep s) (if_pos hkey))

end Sys2Proof.Machine

/-! The backward pass (08_backward_pass.md, R195 and R200): the arrival of a push at its region's cave, and the end of a recompute. -/

namespace Sys2Proof.Machine

/-! ### The arrival of a push (R195) -/

section
variable {r : RegionIx} {s : State}

/-- R195: pushes are taken in the order in which they were issued. -/
theorem exec_cavePushArrival_of_push {p : CavePush} {rest : List CavePush} (h : (s.cave r).pushes = p :: rest) :
    exec (.cavePushArrival r) s =
      keepQ s (((s.setCave r { s.cave r with pushes := rest }).takePush r p).finish r p.outId 4) := by
  simp only [exec, execCavePushArrival, h]

theorem exec_cavePushArrival_of_no_push (h : (s.cave r).pushes = []) : exec (.cavePushArrival r) s = keepQ s s := by
  simp only [exec, execCavePushArrival, h]

end

/-! ### The end of a recompute (R200) -/

/-- Step 4 of R200: the sequence is over, its record counts as popped from the buffer from now on, and its pop issues again. -/
def State.popAfterRecompute (s : State) (r : Nat) (rc : Recomp) : State :=
  ((((s.setCave r { s.cave r with
      recomp := none, recs := (s.cave r).recs.modify rc.recIdx fun e => { e with fromDrop := true } }).wr
    pCAVE CAVE_REGION_RECOMP_ACTIVE 0 r).bump pCAVE CAVE_C_RECOMPUTES).raiseEvt pCAVE CAVE_EVT_STATUS_RECOMPUTED).issuePop r
      rc.deferred rc.cmd

/-- R200: once the sequence has issued its last command and its commands have completed, the pop issues again, or is the fault of a
sequence that left its span open or its record unpushed. -/
theorem exec_recomputeDone_of_ended {r : RegionIx} {rc : Recomp} {s : State} (hrc : (s.cave r).recomp = some rc)
    (hissued : rc.stop ≤ rc.pc) (hdone : (s.seq r).outst.any (fun o => Nat.land o.cls 5 != 0) = false) :
    exec (.recomputeDone r) s = keep s (if ((s.seq r).span rc.deferred).opened || !rc.pushed then
      s.caveFault r rc.deferred rc.popPc CAVE_ERR_STATUS_RECOMP_FAIL rc.mb (rc.cmd.w 2 31 16) (rc.cmd.w 1 47 32)
      else s.popAfterRecompute r rc) := by
  have hended : ¬((decide (rc.pc < rc.stop) || (s.seq r).outst.any fun o => Nat.land o.cls 5 != 0) = true) := by
    simp only [hdone, decide_eq_false (not_lt.mpr hissued), Bool.or_self, Bool.false_eq_true, not_false_eq_true]
  simp only [exec, execRecomputeDone, hrc]
  exact congrArg (keep s) (if_neg hended)

/-- Settles O33: an arrival by the queue of pushes, and a recompute that has ended by what its sequence left. -/
theorem caveRowsComplete : Obligations.CaveRowsComplete := by
  refine ⟨fun r p rest s h => answersMem_of_keepQ (exec_cavePushArrival_of_push h),
    fun r s h => answersMem_of_keepQ (exec_cavePushArrival_of_no_push h),
    fun r rc s hrc hissued hdone => ⟨fun hbroken => ?fails, fun hclosed hpushed => ?popsAgain⟩⟩
  case fails =>
    exact (exec_recomputeDone_of_ended hrc hissued hdone).trans (congrArg (keep s) (if_pos (by simpa using hbroken)))
  case popsAgain =>
    exact (exec_recomputeDone_of_ended hrc hissued hdone).trans (congrArg (keep s) (if_neg (by simp [hclosed, hpushed])))

end Sys2Proof.Machine

/-! The update engine and mirroring (09_update_engine.md, R216–R233): a UPD that runs, the end of an egress, the two sides of a mirror,
and a restore that comes or does not come. -/

namespace Sys2Proof.Machine

/-! ### A UPD that runs (R216, R217) -/

/-- A UPD whose bucket gives it this local result: without one it waits, from no micro-batch it is skipped, and from any other it
updates its area and stays on record for a redo (R222). -/
def State.applyUpd (s : State) (slot : Nat) (c : UpdCmd) (b : Bucket) (e ix : Nat) : Option (List Int × Nat) → State
  | none => s
  | some (lanes, nb) =>
    if nb = 0 then (s.bump pUPD UPD_C_UPD_SKIPS).updDone slot c
    else ((s.setUpd slot { s.upd slot with ran := (s.upd slot).ran.filter (fun x => x.area != c.area) ++ [c] }).updArea slot c e ix b
      lanes nb).updDone slot c

/-- A queued UPD of a bucket and of area `ix` with entry `e`, in the order in which R216 lets it run. -/
def State.runUpd (s : State) (slot : Nat) (c : UpdCmd) (b : Bucket) (e ix : Nat) : State :=
  if s.stale slot && s.nextCommit slot != c.count then s.updWaits slot c
  else if s.rd pUPD UPD_AREA_INIT_DONE e = 0 then s
  else if b.done = 2 then (s.bump pUPD UPD_C_UPD_SKIPS).updDone slot c
  else if !b.handed then s
  else s.applyUpd slot c b e ix (s.localResult slot b)

/-- A UPD that is queued, and whose bucket and area are known, runs as far as R216 lets it. -/
theorem exec_updRun_of_queued {n e ix : Nat} {c : UpdCmd} {b : Bucket} {s : State}
    (hqueued : (s.upd (n % 16)).queue.find? (fun c => c.id == n / 16) = some c) (hbucket : s.bucket (n % 16) c.tag c.step = some b)
    (harea : (s.areas (n % 16)).find? (fun x => x.1 == c.area) = some (e, ix)) :
    exec (.updRun n) s = keepQ s (s.runUpd (n % 16) c b e ix) := by
  rw [exec, execUpdRun]
  simp only [hqueued, hbucket, harea]
  rw [State.runUpd]
  cases s.localResult (n % 16) b <;> rfl

section
variable {s : State} {slot : Nat} {c : UpdCmd} {b : Bucket} {e ix : Nat}

/-- R216: under the staleness option a UPD waits for the commit before its own. -/
theorem State.runUpd_of_stale (hstale : s.stale slot = true) (hcommit : s.nextCommit slot ≠ c.count) :
    s.runUpd slot c b e ix = s.updWaits slot c :=
  if_pos (by simp [hstale, hcommit])

/-- R216: past that wait and the area's initialisation, a UPD of a HELD bucket is skipped, and any other waits for its bucket. -/
theorem State.runUpd_of_initialised (hcommit : s.stale slot = false ∨ s.nextCommit slot = c.count)
    (hinit : s.rd pUPD UPD_AREA_INIT_DONE e ≠ 0) :
    s.runUpd slot c b e ix = if b.done = 2 then (s.bump pUPD UPD_C_UPD_SKIPS).updDone slot c
      else if !b.handed then s else s.applyUpd slot c b e ix (s.localResult slot b) :=
  (if_neg (by rcases hcommit with h | h <;> simp [h])).trans (if_neg hinit)

/-- R217: a UPD whose bucket has been handed on takes the local result. -/
theorem State.runUpd_of_handed (hcommit : s.stale slot = false ∨ s.nextCommit slot = c.count)
    (hinit : s.rd pUPD UPD_AREA_INIT_DONE e ≠ 0) (hheld : b.done ≠ 2) (hhanded : b.handed = true) :
    s.runUpd slot c b e ix = s.applyUpd slot c b e ix (s.localResult slot b) :=
  (State.runUpd_of_initialised hcommit hinit).trans ((if_neg hheld).trans (if_neg (by simp [hhanded])))

end

/-! ### The end of an egress (R227) -/

/-- Neither the end nor the timeout of an egress that is not open does anything. -/
theorem exec_egress_of_closed {slot : SlotIx} {m e : Nat} {s : State} (h : (s.upd slot).egress.contains (m, e) = false) :
    exec (.egressDone slot m e) s = keep s s ∧ exec (.egressTimeout slot m e) s = keep s s :=
  ⟨congrArg (keep s) (if_neg (ne_true_of_eq_false h)), congrArg (keep s) (if_neg (ne_true_of_eq_false h))⟩

/-! ### A restore that does not come (R233) -/

/-- A restore that has not come is given up, and the area's initialisation fails. -/
theorem exec_initTimeout_of_restoring {slot : SlotIx} {area e : Nat} {s : State}
    (harea : (s.areas slot).find? (fun x => x.2 == area) = some (e, area))
    (hrestoring : (s.upd slot).restores.any (fun t => t.entry == e) = true) :
    exec (.initTimeout slot area) s = keep s ((s.setUpd slot { s.upd slot with
      restores := (s.upd slot).restores.filter fun t => t.entry != e }).initFail slot) := by
  rw [exec, execInitTimeout]
  simp only [harea]
  rw [if_pos hrestoring]

/-- Settles O34: a UPD by the conditions of R216 in their order, an egress by whether it is open. The bucket that is skipped without
a look at its result is the HELD one (`done = 2`), as R216 has it. -/
theorem updateRowsComplete : Obligations.UpdateRowsComplete := by
  refine ⟨fun n c b e ix s hqueued hbucket harea => ?upd, fun slot m e s hopen => answers_of_keep (congrArg (keep s) (if_pos hopen)),
    fun slot m e s hopen => answers_of_keep (congrArg (keep s) (if_pos hopen)),
    fun slot m e s hclosed => exec_egress_of_closed hclosed,
    fun slot area e s harea hrestoring => answers_of_keep (exec_initTimeout_of_restoring harea hrestoring)⟩
  have hrun := exec_updRun_of_queued hqueued hbucket harea
  refine ⟨fun ⟨hstale, hcommit⟩ => ?waits, fun hcommit hinit =>
    ⟨fun hheld => ?held, fun hheld hhanded lanes nb hresult => ?handed⟩⟩
  case waits => exact answersMem_of_keepQ (hrun.trans (congrArg (keepQ s) (State.runUpd_of_stale hstale hcommit)))
  case held =>
    exact answersMem_of_keepQ
      (hrun.trans (congrArg (keepQ s) ((State.runUpd_of_initialised hcommit hinit).trans (if_pos hheld))))
  case handed =>
    rw [State.runUpd_of_handed hcommit hinit hheld hhanded, hresult] at hrun
    exact ⟨fun hnone => answersMem_of_keepQ (hrun.trans (congrArg (keepQ s) (if_pos hnone))),
      fun hsome => answersMem_of_keepQ (hrun.trans (congrArg (keepQ s) (if_neg hsome)))⟩

/-! ### Mirror messages (R231) -/

section
variable {row : Instr} {s u : State} {m : Msg} {op slot : Nat} {x : MirMsg} {pt : List Byte}
  {run : State → Nat → MirMsg → List Byte → State}

/-- A mirror message that is taken answers what its row does with it. -/
theorem answers_of_mirrorTaken (h : MirrorTaken s m op slot x pt) (hrow : exec row s = keep s (s.mirrorIn m op run))
    (hrun : run s slot x pt = u) : Answers row s u :=
  answers_of_keep (hrow.trans (congrArg (keep s) ((mirrorIn_taken run h).trans hrun)))

/-- The same for a row that may write stack memory. -/
theorem answersMem_of_mirrorTaken (h : MirrorTaken s m op slot x pt) (hrow : exec row s = keepQ s (s.mirrorIn m op run))
    (hrun : run s slot x pt = u) : AnswersMem row s u :=
  answersMem_of_keepQ (hrow.trans (congrArg (keepQ s) ((mirrorIn_taken run h).trans hrun)))

end

/-! ### The holder's side (R232, R233) -/

section
variable {m : Msg} {slot : Nat} {x : MirMsg} {pt : List Byte} {s : State}

/-- R232: a segment of an owner that the module holds for is held. -/
theorem answers_mirrorSeg_of_owner (h : MirrorTaken s m 1 slot x pt) (hdir : x.dir = 0)
    (howner : (s.ownerPlace slot x.owner).isSome = true) : Answers (.mirrorSeg m) s (s.holdSeg slot x pt) := by
  obtain ⟨k, hk⟩ := Option.isSome_iff_exists.mp howner
  refine answers_of_mirrorTaken h rfl ((if_pos hdir).trans ?_)
  simp only [hk]

/-- R232: the end of an attempt of which every segment is held makes the image whole. -/
theorem answers_mirrorDone_of_whole {w : HeldImg} (h : MirrorTaken s m 2 slot x pt)
    (howner : (s.ownerPlace slot x.owner).isSome = true) (hrebuild : (s.upd slot).rebuild.any (fun r => r.1 == x.owner) = false)
    (hheld : heldOf (s.upd slot).held x.owner x.area 0 = some w) (hstep : w.step = x.step) (hmseq : w.mseq = x.mseq)
    (hwhole : w.segs.length = x.seg) :
    Answers (.mirrorDone m) s
      ((s.setHeld slot (dropHeld (s.upd slot).held x.owner x.area 0 ++ [{ w with complete := true }])).mirrorAnswer slot m
        { x with op := 3, dir := 1, status := 0 } []) := by
  have hattempt : (heldOf (s.upd slot).held x.owner x.area 0).filter (fun w => w.step == x.step && w.mseq == x.mseq) = some w := by
    rw [hheld, Option.filter_some_pos (by simp [hstep, hmseq])]
  have hknown : ¬(s.ownerPlace slot x.owner).isNone = true :=
    mt Option.isNone_iff_eq_none.mp (Option.isSome_iff_ne_none.mp howner)
  refine answers_of_mirrorTaken h rfl ((if_neg hknown).trans
    ((if_neg (ne_true_of_eq_false hrebuild)).trans ?_))
  simp only [hattempt]
  exact if_pos hwhole

/-- R232, R233: a holder that has the image streams it and its end, under a number of its own (log 102). -/
theorem State.takeRestoreReq_of_held {g : HeldImg} (hdir : x.dir = 0)
    (hrebuild : (s.upd slot).rebuild.any (fun r => r.1 == x.owner) = false)
    (himage : restoreImage (s.upd slot).held x.owner x.area x.step = some g) :
    s.takeRestoreReq slot m x = (g.segs.foldl (fun t y => t.mirrorAnswer slot m
        ⟨1, x.owner, x.area, x.step, (s.upd slot).holdSeq, y.1, 1, 0⟩ y.2)
      (s.setUpd slot { s.upd slot with holdSeq := ((s.upd slot).holdSeq + 1) % 2 ^ 32 })).mirrorAnswer slot m
        ⟨7, x.owner, x.area, x.step, (s.upd slot).holdSeq, g.segs.length, 1, 0⟩ [] := by
  rw [State.takeRestoreReq, if_pos hdir]
  simp only [hrebuild, himage, Bool.false_eq_true, if_false]

end

/-! ### The owner's side (R232, R233) -/

/-- `o` is the stream that the acknowledgement `x` names, and none has come for it so far. -/
abbrev State.Awaits (s : State) (slot : Nat) (x : MirMsg) (o : MirrorOut) : Prop :=
  (s.upd slot).out.find? (fun y => s.mirrorName slot y.area == (x.owner, x.area) && y.step == x.step && y.mseq == x.mseq
    && !y.acked) = some o

section
variable {m : Msg} {slot : Nat} {x : MirMsg} {pt : List Byte} {o : MirrorOut} {s : State}

/-- R232: what the owner does with the acknowledgement of a stream. -/
theorem answersMem_mirrorAck_of_awaited (h : MirrorTaken s m 3 slot x pt) (hout : s.Awaits slot x o) :
    AnswersMem (.mirrorAck m) s (if x.status = 0 then (s.setUpd slot { s.upd slot with
        out := (s.upd slot).out.map fun y => if y.area = o.area then { y with acked := true } else y }).checkReady slot
      else (if x.status = 1 then s.mirrorResend slot o else s.mirrorFail slot).afterCommits s) := by
  refine answersMem_of_mirrorTaken h rfl ?_
  simp only [hout]

/-- R232: a stream that is not acknowledged in time. -/
theorem exec_mirrorTimeout_of_unacked {slot : SlotIx} {area : Nat}
    (h : (s.upd slot).out.find? (fun o => o.area == area && !o.acked) = some o) :
    exec (.mirrorTimeout slot area) s = keepQ s ((s.mirrorResend slot o).afterCommits s) := by
  simp only [exec, execMirrorTimeout, h]

/-- R233: the end of a restore whose segments are all there. -/
theorem answersMem_restoreEnd_of_whole {b : List Byte} {t : Restore} {e ix : Nat} (h : MirrorTaken s m 7 slot x pt) (hdir : x.dir = 1)
    (hstatus : x.status = 0)
    (hrestore : (s.upd slot).restores.find? (fun t => t.owner == x.owner && t.area == x.area && t.step == x.step) = some t)
    (hwhole : segStream t.segs x.seg = some b) (harea : (s.areas slot).find? (fun y => y.1 == t.entry) = some (e, ix)) :
    AnswersMem (.restoreEnd m) s (((s.setUpd slot { s.upd slot with
      restores := (s.upd slot).restores.filter (· != t) }).installArea slot e ix b).checkReady slot) := by
  refine answersMem_of_mirrorTaken h rfl ((if_pos hdir).trans ?_)
  simp only [hrestore, hwhole, harea]
  exact if_neg (not_not.mpr hstatus)

end

/-- Settles O35: each message by its OP and its direction, and an acknowledgement by its status. How a COMMIT and a ROLLBACK move
the held images is the model's choice (log 28); that a restore is answered under a fresh sequence number is deduced (log 102). -/
theorem mirrorRowsComplete : Obligations.MirrorRowsComplete := by
  refine ⟨fun m slot x pt s h hdir howner => answers_mirrorSeg_of_owner h hdir howner,
    fun m slot x pt s h hdir => answers_of_mirrorTaken h rfl (if_neg hdir),
    fun m slot x pt w s h howner hrebuild hheld hstep hmseq hwhole =>
      answers_mirrorDone_of_whole h howner hrebuild hheld hstep hmseq hwhole,
    fun m slot x pt s h hstranger => answers_of_mirrorTaken h rfl (if_pos (Option.isNone_iff_eq_none.mpr hstranger)),
    fun m slot x pt s h => answers_of_mirrorTaken h rfl rfl, fun m slot x pt s h => answers_of_mirrorTaken h rfl rfl,
    fun m slot x pt o s h hout => ?ack, fun slot area o s hout => answersMem_of_keepQ (exec_mirrorTimeout_of_unacked hout),
    fun m slot x pt s h => answers_of_mirrorTaken h rfl rfl,
    fun m slot x g s hdir hrebuild himage => State.takeRestoreReq_of_held hdir hrebuild himage,
    fun m slot x pt b t e ix s h hdir hstatus hrestore hwhole harea =>
      answersMem_restoreEnd_of_whole h hdir hstatus hrestore hwhole harea⟩
  have hack := answersMem_mirrorAck_of_awaited h hout
  refine ⟨fun hok => ?_, fun hmissing => ?_, fun hlost => ?_⟩
  · rwa [if_pos hok] at hack
  · rwa [if_neg (by omega), if_pos hmissing] at hack
  · rwa [if_neg (by omega), if_neg (by omega)] at hack

end Sys2Proof.Machine

/-! Reduction and collectives (10_reduction_and_collectives.md, R240–R265): a bucket's packets, what the engine does of
itself, and the barrier that commits a step. -/

namespace Sys2Proof.Machine

/-! ### A bucket's packets (R240–R259) -/

section
variable {row : Instr} {s u : State} {m : Msg} {kind slot : Nat} {b : Bucket} {p : CPkt} {run : State → Nat → Bucket → CPkt → State}

/-- A packet that is taken answers what its row does with the bucket that it names. -/
theorem answers_of_collTaken (h : CollTaken s m kind slot b p) (hrow : exec row s = keep s (s.collIn m kind run))
    (hrun : run s slot b p = u) : Answers row s u :=
  answers_of_keep (hrow.trans (congrArg (keep s) ((collIn_taken run h).trans hrun)))

/-- The same for a row that may write stack memory. -/
theorem answersMem_of_collTaken (h : CollTaken s m kind slot b p) (hrow : exec row s = keepQ s (s.collIn m kind run))
    (hrun : run s slot b p = u) : AnswersMem row s u :=
  answersMem_of_keepQ (hrow.trans (congrArg (keepQ s) ((collIn_taken run h).trans hrun)))

end

/-! ### A damaged or a stale packet (R253, R269) -/

/-- A packet of a kind is past the port's checks, and is judged by its CRC next (R253). -/
structure CollArrived (s : State) (m : Msg) (kind slot : Nat) : Prop where
  admitted : Admitted s m slot
  collective : m.cls = 2
  magic : byteAt m.body 0 = 0x43
  ofKind : (parseCPkt m.body).kind = kind

/-- R253: a packet whose CRC fails sets CHUNK_CRC and counts. -/
def State.crcFailed (s : State) : State := (s.raiseErr pCE CE_ERR_STATUS_CHUNK_CRC).bump pCE CE_C_CRC_ERRS

section
variable {s : State} {m : Msg} {kind slot : Nat} (run : State → Nat → Bucket → CPkt → State)

/-- R253: of the damaged packets, data and a moved chunk are asked for again. -/
theorem CollArrived.collIn_of_crc_bad (h : CollArrived s m kind slot) (hcrc : cpktCrcOk m.body = false) :
    s.collIn m kind run = if kind = 2 ∨ kind = 10 then
      s.crcFailed.askChunk slot (parseCPkt m.body) (parseCPkt m.body).level else s.crcFailed := by
  obtain ⟨ha, hcls, hmagic, hkind⟩ := h
  rw [State.collIn, show s.admitMsg m = (s, some slot) from ha]
  exact (if_neg (by simp [hcls, hmagic, hkind])).trans (if_pos (by simp [hcrc]))

/-- R269: a packet of another membership epoch is counted as stale. -/
theorem CollArrived.collIn_of_stale (h : CollArrived s m kind slot) (hcrc : cpktCrcOk m.body = true)
    (hepoch : (parseCPkt m.body).gepoch ≠ s.gepoch slot) : s.collIn m kind run = s.bump pPLC PLC_C_STALE_EPOCH_DROPS := by
  obtain ⟨ha, hcls, hmagic, hkind⟩ := h
  rw [State.collIn, show s.admitMsg m = (s, some slot) from ha]
  exact (if_neg (by simp [hcls, hmagic, hkind])).trans ((if_neg (by simp [hcrc])).trans (if_pos hepoch))

end

/-- The rows of the packets that may write stack memory differ in their kind and in what they do with the bucket. -/
theorem exec_collRow_eq_keepQ : ∀ x ∈ [(1, Instr.collVote), (2, Instr.collData), (3, Instr.collResult), (5, Instr.collDigest),
    (7, Instr.collRedo), (10, Instr.collMove)], ∃ run, ∀ m s, exec (x.2 m) s = keepQ s (s.collIn m x.1 run) := by
  simp only [List.forall_mem_cons]
  exact ⟨⟨_, fun _ _ => rfl⟩, ⟨_, fun _ _ => rfl⟩, ⟨_, fun _ _ => rfl⟩, ⟨_, fun _ _ => rfl⟩, ⟨_, fun _ _ => rfl⟩,
    ⟨_, fun _ _ => rfl⟩, nofun⟩

/-- An abort and a resend write none, and neither is asked for again. -/
theorem exec_collRow_eq_keep : ∀ x ∈ [(4, Instr.collAbort), (6, Instr.collResend)],
    (x.1 ≠ 2 ∧ x.1 ≠ 10) ∧ ∃ run, ∀ m s, exec (x.2 m) s = keep s (s.collIn m x.1 run) := by
  simp only [List.forall_mem_cons]
  exact ⟨⟨by decide, _, fun _ _ => rfl⟩, ⟨by decide, _, fun _ _ => rfl⟩, nofun⟩

/-- Settles O36: a packet that is taken by its row, and a damaged or stale one before its kind matters. -/
theorem collPacketsComplete : Obligations.CollPacketsComplete := by
  refine ⟨fun m slot b p s h => answersMem_of_collTaken h rfl rfl, fun m slot b p s h => answersMem_of_collTaken h rfl rfl,
    fun m slot b p s h => answersMem_of_collTaken h rfl rfl, fun m slot b p s h => answersMem_of_collTaken h rfl rfl,
    fun m slot b p s h => answers_of_collTaken h rfl rfl, fun m slot b p s h => answers_of_collTaken h rfl rfl,
    fun m slot b p s h hlater hlast htop => answersMem_of_collTaken h rfl (if_pos ⟨hlater, hlast, htop⟩),
    fun m slot b p s h => answersMem_of_collTaken h rfl rfl,
    fun x hx m slot s ha hcls hmagic hkind => ?mem, fun x hx m slot s ha hcls hmagic hkind => ?reg⟩
  case mem =>
    obtain ⟨run, hrow⟩ := exec_collRow_eq_keepQ x hx
    have h : CollArrived s m x.1 slot := ⟨ha, hcls, hmagic, hkind⟩
    refine ⟨fun hcrc hchunk => ?_, fun hcrc h2 h10 => ?_, fun hcrc hepoch => ?_⟩ <;>
      refine answersMem_of_keepQ ((hrow m s).trans (congrArg (keepQ s) ?_))
    · exact (h.collIn_of_crc_bad run hcrc).trans (if_pos hchunk)
    · exact (h.collIn_of_crc_bad run hcrc).trans (if_neg (not_or.mpr ⟨h2, h10⟩))
    · exact h.collIn_of_stale run hcrc hepoch
  case reg =>
    obtain ⟨hother, run, hrow⟩ := exec_collRow_eq_keep x hx
    have h : CollArrived s m x.1 slot := ⟨ha, hcls, hmagic, hkind⟩
    refine ⟨fun hcrc => ?_, fun hcrc hepoch => ?_⟩ <;>
      refine answers_of_keep ((hrow m s).trans (congrArg (keep s) ?_))
    · exact (h.collIn_of_crc_bad run hcrc).trans (if_neg (not_or.mpr hother))
    · exact h.collIn_of_stale run hcrc hepoch

/-! ### What the engine does of itself (R244, R246, R259, R260) -/

/-- R260: the timeout of a rank of the list that owes chunks and is not played here is not idle. -/
theorem not_chunkTimeout_idle_of_owing {s : State} {slot rank : Nat} {b : Bucket} (howes : s.missingFrom slot b rank ≠ [])
    (hother : (s.bPlayed slot b 1).contains rank = false) (hrank : rank < (s.bRanks slot b 1).length) :
    ¬((s.missingFrom slot b rank).isEmpty || (s.bPlayed slot b 1).contains rank ||
      decide ((s.bRanks slot b 1).length ≤ rank)) = true := by
  rw [hother, decide_eq_false (not_le.mpr hrank), List.isEmpty_eq_false_iff.mpr howes]
  exact Bool.false_ne_true

/-- Settles O37: each moment by the bucket that it finds, and a chunk's timeout by the retries left. That a COLL of TYPE 0 ends with
level 0 (log 105), the order of the buckets (log 170) and the class of the notice (log 168) are deduced. -/
theorem collMomentsComplete : Obligations.CollMomentsComplete := by
  refine ⟨fun slot tag b s h => answersMem_of_keepQ (by rw [exec, execLevel0Complete, h]),
    fun slot tag b s h => answersMem_of_keepQ (by rw [exec, execResultReadbackDone, h]),
    fun slot tag rank n b s h howes hother hrank hn => ?chunk,
    fun slot tag b s h => answersMem_of_keepQ (by rw [exec, execResultMissingTimeout, h]),
    fun r tag b s h => answers_of_keep (by rw [exec, execCollTimeout, h])⟩
  subst hn
  have hasked := not_chunkTimeout_idle_of_owing howes hother hrank
  refine ⟨fun hspent => answersMem_of_keepQ ?spent, fun hleft => answersMem_of_keepQ ?again⟩
  case spent =>
    rw [exec, execChunkTimeout, h]
    exact congrArg (keepQ s) ((if_neg hasked).trans (if_pos hspent))
  case again =>
    rw [exec, execChunkTimeout, h]
    exact congrArg (keepQ s) ((if_neg hasked).trans (if_neg (not_le.mpr hleft)))

/-! ### Entry to the barrier (R262) -/

/-- A member that has entered the barrier is marked, with the time of its entry (R262). -/
def State.markEntered (s : State) (slot : Nat) : State :=
  (s.setCe slot { s.ce slot with entered := true }).wrs pCE [(CE_JOB_BARRIER, 1), (CE_JOB_T_ENTER, s.tb.count)] slot

section
variable {s : State} {slot : Nat}

@[simp] theorem State.tb_setCe (v : CeJob) : (s.setCe slot v).tb = s.tb := rfl

/-- R262: a ready member sends the layers that its regions have saturated, at level 2 where level 1 has no other member. -/
theorem State.enterBarrier_of_ready (hready : s.barReady slot = true) (hsaved : (s.ce slot).satSaved = none)
    (hsat : s.satFault slot = none) : s.enterBarrier slot =
      if ((s.markEntered slot).rankList slot ((s.markEntered slot).commitGroup slot) 1).length ≤ 1 then
        (s.markEntered slot).barLevel2 slot (s.barrierStep slot) (layerBits ((s.satLayers slot).map (·.2)))
      else ((s.markEntered slot).barSend slot (s.barrierStep slot) 1
        (layerBits ((s.satLayers slot).map (·.2)))).barLevel1 slot (s.barrierStep slot) := by
  rw [State.enterBarrier, if_neg (by simp [hready])]
  simp only [State.markEntered, hsaved, hsat, State.tb_setCe]

/-- R262: one that is not ready, and for which no OUTCOME waits, does not enter. -/
theorem State.enterBarrier_of_not_ready (hready : s.barReady slot = false) (hdue : (s.ce slot).due = none) :
    s.enterBarrier slot = s := by
  rw [State.enterBarrier, if_pos (by simp [hready]), hdue]

end

/-! ### The packets of the commit group (R263–R265) -/

section
variable {s : State} {m : Msg} {slot : Nat} {p : CPkt}

/-- R263: a BARRIER reaches the level's sum at rank 0 alone. -/
theorem State.takeBarrier_of_level1 (h : BarTaken s m 8 slot p) (hlevel : p.level = 1)
    (hcombines : (s.ranksPlayed slot (s.rankList slot (s.commitGroup slot) 1)).contains 0 = true) :
    s.takeBarrier m = (s.barPut slot p.step 1 p.src p.payload).barLevel1 slot p.step := by
  refine (barIn_taken _ h).trans ((if_neg ?_).trans ((if_pos hlevel).trans ?_))
  · simp only [hlevel, hcombines, Bool.not_true, Bool.false_eq_true, not_false_eq_true]
  · rw [hlevel]

/-- R263: at another rank it is ignored. -/
theorem State.takeBarrier_of_other_rank (h : BarTaken s m 8 slot p)
    (hother : (s.ranksPlayed slot (s.rankList slot (s.commitGroup slot) p.level)).contains 0 = false) : s.takeBarrier m = s :=
  (barIn_taken _ h).trans (if_pos (by rw [hother, Bool.not_false]))

/-- R263: the OUTCOME of level 2 is the decision. -/
theorem State.takeOutcome_of_level2 (h : BarTaken s m 9 slot p) (hlevel : p.level = 2) :
    s.takeOutcome m = s.barDecide slot p.step p.payload :=
  (barIn_taken _ h).trans (if_neg (by omega))

/-- R263: the OUTCOME of level 1 goes to level 2 of a member that has entered for its step. -/
theorem State.takeOutcome_of_level1 (h : BarTaken s m 9 slot p) (hlevel : p.level = 1) (hentered : (s.ce slot).entered = true)
    (hstep : s.barrierStep slot = p.step) : s.takeOutcome m = s.barLevel2 slot p.step p.payload :=
  (barIn_taken _ h).trans ((if_pos hlevel).trans (if_pos (by rw [hentered, hstep, beq_self_eq_true, Bool.and_self])))

/-- R265: a ROLLBACK is judged by its step. -/
theorem exec_collRollback_of_taken (h : BarTaken s m 11 slot p) : exec (.collRollback m) s =
    keepQ s (if s.canRollback slot p.step then (s.castRollback slot p.step).rollback slot else s) :=
  congrArg (keepQ s) (barIn_taken _ h)

end

/-- A row that ends in the commits that it makes possible answers them. -/
theorem answersMem_of_commits {row : Instr} {s t u : State} (hrow : exec row s = keepQ s (t.afterCommits s)) (htu : t = u) :
    AnswersMem row s (u.afterCommits s) :=
  answersMem_of_keepQ (htu ▸ hrow)

/-- Settles O38: an entry by its readiness, a packet by its kind and level, a timeout by whether the member has entered. The routes
and levels of the OUTCOME packets (log 27) and the class of the notice (log 168) are deduced. -/
theorem barrierRowsComplete : Obligations.BarrierRowsComplete := by
  refine ⟨fun slot s hready hsaved hsat => ?enter,
    fun slot s hready hdue => answersMem_of_commits rfl (State.enterBarrier_of_not_ready hready hdue),
    fun m slot p s h hlevel hcombines => answersMem_of_commits rfl (State.takeBarrier_of_level1 h hlevel hcombines),
    fun m slot p s h hother => answersMem_of_commits rfl (State.takeBarrier_of_other_rank h hother),
    fun m slot p s h hlevel => answersMem_of_commits rfl (State.takeOutcome_of_level2 h hlevel),
    fun m slot p s h hlevel hentered hstep => answersMem_of_commits rfl (State.takeOutcome_of_level1 h hlevel hentered hstep),
    fun m slot p s h hback => answersMem_of_keepQ ((exec_collRollback_of_taken h).trans (congrArg (keepQ s) (if_pos hback))),
    fun m slot p s h hback => answersMem_of_keepQ
      ((exec_collRollback_of_taken h).trans (congrArg (keepQ s) (if_neg (ne_true_of_eq_false hback)))),
    fun slot s hentered => answersMem_of_keepQ (congrArg (keepQ s) (if_pos hentered)),
    fun slot s hentered => answersMem_of_keepQ (congrArg (keepQ s) (if_neg (ne_true_of_eq_false hentered)))⟩
  have henter := State.enterBarrier_of_ready hready hsaved hsat
  exact ⟨fun halone => answersMem_of_commits rfl (henter.trans (if_pos halone)),
    fun hseveral => answersMem_of_commits rfl (henter.trans (if_neg (not_le.mpr hseveral)))⟩

end Sys2Proof.Machine

/-! Groups and re-forming (11_groups_and_reforming.md, R270–R283): heartbeats and suspicion, the leader's confirmation of a loss,
and the proposals, acceptances, commits and joins that change the membership. -/

namespace Sys2Proof.Machine

/-! ### Membership messages (R272, R273) -/

section
variable {row : Instr} {s u : State} {m : Msg} {op slot : Nat} {any : Bool} {x : MemMsg} {run : State → Nat → MemMsg → State}

/-- A membership message that is taken answers what its row does with it. -/
theorem answers_of_memberTaken (h : MemberTaken s m op any slot x) (hrow : exec row s = keep s (s.memberIn m op any run))
    (hrun : run s slot x = u) : Answers row s u :=
  answers_of_keep (hrow.trans (congrArg (keep s) ((memberIn_taken run h).trans hrun)))

/-- The same for a row that may write stack memory. -/
theorem answersMem_of_memberTaken (h : MemberTaken s m op any slot x) (hrow : exec row s = keepQ s (s.memberIn m op any run)) :
    AnswersMem row s (run s slot x) :=
  answersMem_of_keepQ (hrow.trans (congrArg (keepQ s) (memberIn_taken run h)))

/-- R273: what a leader takes is forwarded by a member that does not lead, and each goes on with the commits that it makes
possible. -/
theorem answersMem_of_leader_or_forward (h : MemberTaken s m op any slot x)
    (hrow : exec row s = keepQ s ((s.memberIn m op any fun s slot x =>
      if s.leads slot then run s slot x else s.forward slot x).afterCommits s)) :
    (s.leads slot = true → AnswersMem row s ((run s slot x).afterCommits s)) ∧
    (s.leads slot = false → AnswersMem row s ((s.forward slot x).afterCommits s)) :=
  have htaken := memberIn_taken (fun s slot x => if s.leads slot then run s slot x else s.forward slot x) h
  ⟨fun hleads => answersMem_of_commits hrow (htaken.trans (if_pos hleads)),
    fun hother => answersMem_of_commits hrow (htaken.trans (if_neg (ne_true_of_eq_false hother)))⟩

end

/-! ### Heartbeats and suspicion (R270–R274) -/

section
variable {s : State} {slot : Nat}

/-- R273: the silence of a leader over an open SUSPECT makes it a suspect itself, and the next leader is asked. -/
theorem State.leaderSilent_of_unanswered (hstate : s.jobState slot = 3) (hopen : (s.grp slot).silent ≠ [])
    (hother : s.leads slot = false) : s.leaderSilent slot = (s.grp slot).silent.foldl (fun s x =>
      if (s.grp slot).silent.isEmpty || s.jobState slot != 3 then s else s.toLeader slot 2 x.1 x.2)
        (s.suspect slot (s.leaderOf slot) 2) :=
  if_neg (by simp [hstate, hopen, hother])

end

/-- Settles O39: a message by the member that takes it, and an event of a member's own by what it waits for. That the answer to a
stall's probe counts as a suspicion dismissed is deduced (log 109). -/
theorem heartbeatAndSuspectRowsComplete : Obligations.HeartbeatAndSuspectRowsComplete := by
  refine ⟨fun slot s hstate hgrouped hjoined => answers_of_keep (congrArg (keep s) (if_neg ?idle)),
    fun m slot x s h hsender => answers_of_memberTaken h rfl (if_pos hsender),
    fun slot i s hstate hsender => answersMem_of_keepQ (congrArg (keepQ s) (if_pos ⟨hstate, hsender⟩)),
    fun m slot x s h => answersMem_of_leader_or_forward (run := fun s slot x => s.takeSuspect slot x.src x.subject x.cause) h rfl,
    fun m slot x s h => answers_of_memberTaken h rfl rfl,
    fun m slot x s h => answers_of_memberTaken h rfl rfl,
    fun slot i s hprobed => answersMem_of_commits rfl (if_pos hprobed),
    fun slot i s hprobed => answersMem_of_commits rfl (if_neg (ne_true_of_eq_false hprobed)),
    fun slot s hstate hopen hother => answersMem_of_commits rfl (State.leaderSilent_of_unanswered hstate hopen hother)⟩
  case idle => simp [hstate, hgrouped, hjoined]

/-! ### The end of the wait for acceptances (R278) -/

/-- R278: with A accepters of Lv live members there is no quorum where 2A < Lv, or where 2A = Lv and the lowest live member has not
accepted. -/
theorem no_quorum_iff {a lv : Nat} {low : Bool} :
    (decide (2 * a < lv) || (2 * a == lv && !low)) = true ↔ 2 * a ≤ lv ∧ ¬(2 * a = lv ∧ low = true) := by
  cases low <;> simp <;> omega

/-- R278: there is one where 2A > Lv, or where 2A = Lv and the lowest live member has accepted. -/
theorem not_no_quorum_of_quorum {a lv : Nat} {low : Bool} (h : lv < 2 * a ∨ (2 * a = lv ∧ low = true)) :
    ¬(decide (2 * a < lv) || (2 * a == lv && !low)) = true := fun hno =>
  have ⟨hfew, hhalf⟩ := no_quorum_iff.mp hno
  h.elim (not_lt.mpr hfew) hhalf

/-- The live members that have accepted a proposal (R278). -/
def State.accepters (s : State) (slot : Nat) (p : Proposal) : List Nat :=
  (s.liveMembers slot).filter fun i => p.accepts.any fun a => a.1 == i

/-- The live members that have neither accepted a proposal nor are lost by it (R278). -/
def State.notAccepted (s : State) (slot : Nat) (p : Proposal) : List Nat :=
  (s.liveMembers slot).filter fun i => !(s.accepters slot p).contains i && !p.lost.contains i

/-- Further members are confirmed lost, and the proposal restarts without them (R278, R279). -/
def State.restartWithout (s : State) (slot : Nat) (silent : List Nat) : State :=
  ((s.bump pPLC PLC_C_CONFIRMS silent.length).setGrp slot { s.grp slot with
    confirmed := (s.grp slot).confirmed ++ silent }).openProp slot (s.lostSet slot ++ (s.grp slot).confirmed ++ silent).eraseDups none

section
variable {s : State} {slot : Nat} {p : Proposal}

/-- R278: the end of the wait is judged by the quorum of the open proposal. -/
theorem State.acceptExpired_of_proposal (hprop : (s.grp slot).prop = some p) : s.acceptExpired slot =
    if decide (2 * (s.accepters slot p).length < (s.liveMembers slot).length) ||
        (2 * (s.accepters slot p).length == (s.liveMembers slot).length &&
          !(s.accepters slot p).contains ((s.liveMembers slot).headD 0)) then s.castAbandon slot
    else s.restartWithout slot (s.notAccepted slot p) := by
  simp only [State.acceptExpired, State.restartWithout, hprop]
  rfl

/-- R278: without a proposal the wait is over. -/
theorem State.acceptExpired_of_no_proposal (hprop : (s.grp slot).prop = none) : s.acceptExpired slot = s := by
  rw [State.acceptExpired, hprop]

end

/-! ### Proposals and joins (R275, R279, R283) -/

section
variable {s : State} {slot : Nat} {x : MemMsg}

/-- R279: a PROPOSE to a member of the group is judged by its target epoch. -/
theorem State.propose_stale_iff (hjoined : s.joining slot = false) :
    (!(s.joining slot && bit x.flags 1 && x.subject == s.gSelf slot) && x.gepoch != s.target slot) = true ↔
      x.gepoch ≠ s.target slot := by
  rw [hjoined, Bool.false_and, Bool.false_and, Bool.not_false, Bool.true_and, bne_iff_ne]

/-- R279: a PROPOSE for another epoch than the next one is counted as stale. -/
theorem State.takePropose_of_stale (hjoined : s.joining slot = false) (hepoch : x.gepoch ≠ s.target slot) :
    s.takePropose slot x = s.bump pPLC PLC_C_STALE_EPOCH_DROPS :=
  if_pos ((State.propose_stale_iff hjoined).mpr hepoch)

/-- R275: a member that the lost set names ends its job. -/
theorem State.takePropose_of_named_lost (hjoined : s.joining slot = false) (hepoch : x.gepoch = s.target slot)
    (hnamed : x.lostA = s.gSelf slot ∨ x.lostB = s.gSelf slot) : s.takePropose slot x = s.endJob slot 0x41 2 :=
  (if_neg (mt (State.propose_stale_iff hjoined).mp (not_not.mpr hepoch))).trans (if_pos hnamed)

/-- R275: a live member that has accepted a lower proposer for the target ignores the PROPOSE. -/
theorem State.takePropose_of_lower_accepted {q : Nat} {j : Option Nat} (hjoined : s.joining slot = false)
    (hepoch : x.gepoch = s.target slot) (hlive : ¬(x.lostA = s.gSelf slot ∨ x.lostB = s.gSelf slot))
    (haccepted : (s.grp slot).accepted = some (x.gepoch, q, j)) (hlower : q < x.src) : s.takePropose slot x = s := by
  refine (if_neg (mt (State.propose_stale_iff hjoined).mp (not_not.mpr hepoch))).trans ((if_neg hlive).trans (if_pos ?_))
  rw [haccepted]
  simp only [beq_self_eq_true, hlower, decide_true, Bool.and_self]

/-- R273: a JOIN goes on to the leader. -/
theorem State.takeJoin_of_not_leader (hother : s.leads slot = false) : s.takeJoin slot x = s.forward slot x :=
  if_pos (by rw [hother, Bool.not_false])

/-- R283: a JOIN for a member that is not lost is answered NOT_LOST, and none becomes pending. -/
theorem State.takeJoin_of_not_lost (hleads : s.leads slot = true) (hheld : (s.lostSet slot).contains x.src = false) :
    s.takeJoin slot x = (s.sendJob slot 4 (addrModule x.module) ({ s.memMsg slot 10 with
      dst := x.src, subject := x.src, cause := 1, seq := x.seq } : MemMsg).bytes).showGrp slot := by
  simp only [State.takeJoin, hleads, hheld, Bool.not_true, Bool.not_false, Bool.false_eq_true, if_false, if_true, one_ne_zero]

/-- R283: a spare that waits is told by the cause of the JOIN_ACK whether it joins. -/
theorem exec_joinAck_of_taken {m : Msg} (h : MemberTaken s m 10 true slot x) (hjoining : s.joining slot = true) :
    exec (.joinAck m) s = keep s (if x.cause = 0 then s.wr pPLC PLC_JOB_GEPOCH x.gepoch slot else s.endJob slot 0x41 2) :=
  congrArg (keep s) ((memberIn_taken _ h).trans (if_neg (by simp [hjoining])))

end

/-- Settles O40: a message by what it is taken to do, the wait for acceptances by its quorum, a PROPOSE and a JOIN by their checks
in order. That an accepted spare takes the epoch of the JOIN_ACK is deduced (log 35). -/
theorem reformRowsComplete : Obligations.ReformRowsComplete :=
  ⟨fun _ _ _ _ h => answersMem_of_memberTaken h rfl,
    fun _ _ _ _ h => answersMem_of_commits rfl (memberIn_taken _ h),
    fun _ _ _ _ h => answersMem_of_commits rfl (memberIn_taken _ h),
    fun _ _ _ hprop =>
      have hexpired := State.acceptExpired_of_proposal hprop
      ⟨fun hfew hhalf => answersMem_of_commits rfl (hexpired.trans (if_pos (no_quorum_iff.mpr ⟨hfew, hhalf⟩))),
        fun hquorum => answersMem_of_commits rfl (hexpired.trans (if_neg (not_no_quorum_of_quorum hquorum)))⟩,
    fun _ _ hprop => answersMem_of_commits rfl (State.acceptExpired_of_no_proposal hprop),
    fun _ _ _ _ h => answersMem_of_leader_or_forward (run := fun s slot x => s.takeSuspect slot x.src x.src 6) h rfl,
    fun _ _ _ _ h => answers_of_memberTaken h rfl rfl,
    fun _ _ _ _ h => answers_of_memberTaken h rfl rfl,
    fun _ _ _ s h hjoining =>
      ⟨fun haccepted => answers_of_keep ((exec_joinAck_of_taken h hjoining).trans (congrArg (keep s) (if_pos haccepted))),
        fun hrefused => answers_of_keep ((exec_joinAck_of_taken h hjoining).trans (congrArg (keep s) (if_neg hrefused)))⟩,
    fun _ _ _ hjoined hepoch hnamed => State.takePropose_of_named_lost hjoined hepoch hnamed,
    fun _ _ _ _ _ hjoined hepoch hA hB haccepted hlower =>
      State.takePropose_of_lower_accepted hjoined hepoch (not_or.mpr ⟨hA, hB⟩) haccepted hlower,
    fun _ _ _ hjoined hepoch => State.takePropose_of_stale hjoined hepoch,
    fun _ _ _ hother => State.takeJoin_of_not_leader hother,
    fun _ _ _ hleads hheld => State.takeJoin_of_not_lost hleads hheld⟩

end Sys2Proof.Machine

/-! Stack memory (16_memory_stacks_and_cellar.md, R381 and R382): its canonical form along every step, and the spaces of jobs whose
extents lie apart. That memory is listed in one canonical form is the model's choice (log 4, log 63). -/

namespace Sys2Proof.Machine

/-! ### The canonical form along a step (R381) -/

section
variable (s : State)

/-- The time base shares nothing with stack memory and the queue. -/
theorem State.tickClock_frame : s.tickClock.mem = s.mem ∧ s.tickClock.pending = s.pending :=
  ⟨(apply_ite State.mem _ _ _).trans (ite_self s.mem), (apply_ite State.pending _ _ _).trans (ite_self s.pending)⟩

/-- A docket that is taken up may load what it finds, and what it writes is listed in canonical form. -/
theorem State.tickDocket_frame (h : Memory.wf s.mem = true) :
    Memory.wf s.tickDocket.mem = true ∧ s.tickDocket.pending = s.pending := by
  unfold State.tickDocket
  split
  · exact ⟨h, rfl⟩
  · exact ⟨Memory.canon_wf _, rfl⟩

/-- The levels of a bucket that go on may write a hold, listed in canonical form. -/
theorem State.tickCe_frame (h : Memory.wf s.mem = true) : Memory.wf s.tickCe.mem = true ∧ s.tickCe.pending = s.pending := by
  unfold State.tickCe
  dsimp only
  split
  · exact ⟨h, rfl⟩
  · exact ⟨Memory.canon_wf _, rfl⟩

/-- A fabric cycle moves packets, and what they carry is the effect of other commands (log 173). -/
theorem State.tickNet_frame : s.tickNet.mem = s.mem ∧ s.tickNet.pending = s.pending := by
  unfold State.tickNet
  split <;> exact ⟨rfl, rfl⟩

/-- A nanosecond keeps the canonical form, unit by unit. -/
theorem State.tick_frame (h : Memory.wf s.mem = true) : Memory.wf s.tick.mem = true ∧ s.tick.pending = s.pending := by
  obtain ⟨hclock, qclock⟩ := s.tickClock_frame
  obtain ⟨hdocket, qdocket⟩ := s.tickClock.tickDocket_frame (hclock ▸ h)
  obtain ⟨hce, qce⟩ := s.tickClock.tickDocket.tickCe_frame hdocket
  obtain ⟨hnet, qnet⟩ := s.tickClock.tickDocket.tickCe.tickNet_frame
  exact ⟨(congrArg Memory.wf hnet).trans hce, qnet.trans (qce.trans (qdocket.trans qclock))⟩

theorem State.idle_frame (h : Memory.wf s.mem = true) : Memory.wf s.idle.mem = true ∧ s.idle.pending = s.pending := by
  unfold State.idle
  split
  · exact ⟨h, rfl⟩
  · exact s.tick_frame h

end

/-- Settles O3: by whether a command waits. One that does answers as every command does; without one, each unit that a nanosecond
moves keeps the form. -/
theorem memoryStaysCanonical : Obligations.MemoryStaysCanonical := by
  intro s t hwf hstep
  cases hq : s.pending with
  | nil =>
    simp only [step, hq, Host.Outcome.next.injEq] at hstep
    subst hstep
    obtain ⟨hmem, hpending⟩ := s.idle_frame hwf
    exact ⟨hmem, hpending.trans hq⟩
  | cons c rest =>
    simp only [step, hq] at hstep
    obtain ⟨u, hu, hpending, hmem, -⟩ := everyCommandAnswersANextState c { s with pending := rest }
    cases hu.symm.trans hstep
    exact ⟨hmem hwf, hpending⟩

/-- Settles O4: by evaluation; without a cell listed, every byte reads 0, which is the model's choice (log 4). -/
theorem resetIsTheStartOfSelftest : Obligations.ResetIsTheStartOfSelftest :=
  ⟨by decide, rfl, by decide, rfl, fun _ => rfl, rfl, rfl⟩

/-! ### The spaces of jobs (R382) -/

section
variable {s : State} {i j o p a b : Nat}

/-- R382: an address that a job reaches lies in one of its extents, as far into it as the offset lies. -/
theorem State.jobAddr_eq_some (h : s.jobAddr i o = some a) :
    ∃ e ∈ s.extents i, e.1 * gb ≤ o ∧ o < (e.1 + e.2.1) * gb ∧ a = e.2.2 * gb + (o - e.1 * gb) := by
  obtain ⟨e, he, rfl⟩ := Option.map_eq_some_iff.mp h
  have hin := List.find?_some he
  simp only [Bool.and_eq_true, decide_eq_true_eq] at hin
  exact ⟨e, List.mem_of_find?_eq_some he, hin.1, hin.2, rfl⟩

/-- Jobs whose extents lie apart reach no address in common. -/
theorem State.jobAddr_ne (hapart : ∀ e ∈ s.extents i, ∀ f ∈ s.extents j, e.2.2 + e.2.1 ≤ f.2.2 ∨ f.2.2 + f.2.1 ≤ e.2.2)
    (ha : s.jobAddr i o = some a) (hb : s.jobAddr j p = some b) : a ≠ b := by
  obtain ⟨e, he, hlo, hhi, rfl⟩ := State.jobAddr_eq_some ha
  obtain ⟨f, hf, hlo', hhi', rfl⟩ := State.jobAddr_eq_some hb
  have := hapart e he f hf
  simp only [gb] at hlo hhi hlo' hhi' ⊢
  omega

/-- R382: in an extent that shares no offset with the job's others, an offset translates by that extent. -/
theorem State.jobAddr_of_mem {e : Nat × Nat × Nat} (he : e ∈ s.extents i) (hlo : e.1 * gb ≤ o) (hhi : o < (e.1 + e.2.1) * gb)
    (halone : ∀ f ∈ s.extents i, f = e ∨ e.1 + e.2.1 ≤ f.1 ∨ f.1 + f.2.1 ≤ e.1) :
    s.jobAddr i o = some (e.2.2 * gb + (o - e.1 * gb)) := by
  cases h : s.jobAddr i o with
  | none =>
    have hno := List.find?_eq_none.mp (Option.map_eq_none_iff.mp h) e he
    simp [hlo, hhi] at hno
  | some a =>
    obtain ⟨f, hf, hlo', hhi', rfl⟩ := State.jobAddr_eq_some h
    obtain rfl | hbefore | hbehind := halone f hf
    · rfl
    · simp only [gb] at hlo hhi hlo' hhi'; omega
    · simp only [gb] at hlo hhi hlo' hhi'; omega

/-- The bit POISON shares no register bit with the fields of an extent, whatever entries the two tables have. -/
theorem State.extents_heal (page e slot : Nat) : (s.wr page MEM_LINE_POISON 0 e).extents slot = s.extents slot := by
  have hkept : ∀ f ∈ [MEM_EXTENT_VALID, MEM_EXTENT_START_GB, MEM_EXTENT_LEN_GB, MEM_EXTENT_BASE_GB], ∀ k,
      (s.wr page MEM_LINE_POISON 0 e).rd pMEM f k = s.rd pMEM f k := by
    intro f hf k
    refine s.rd_wr_other page pMEM MEM_LINE_POISON f 0 e k (by decide) (by decide) fun _ => ?_
    fin_cases hf <;> decide
  have hvalid := hkept MEM_EXTENT_VALID (by simp)
  have hstart := hkept MEM_EXTENT_START_GB (by simp)
  have hlen := hkept MEM_EXTENT_LEN_GB (by simp)
  have hbase := hkept MEM_EXTENT_BASE_GB (by simp)
  simp only [State.extents, hvalid, hstart, hlen, hbase]

theorem State.extents_of_regs {t : State} (h : t.regs = s.regs) (slot : Nat) : t.extents slot = s.extents slot := by
  simp only [State.extents, State.rd_of_regs h]

/-- A write into a job's space touches no register but the bit POISON of lines that it heals. -/
theorem State.extents_jobWrite (bytes : List Byte) (slot : Nat) : (s.jobWrite i o bytes).extents slot = s.extents slot := by
  unfold State.jobWrite State.healLines
  generalize List.filter _ (State.poisonLines _) = lines
  have hbytes : ∀ (l : List (Byte × Nat)) (t : State),
      (l.foldl (fun s p => match s.jobAddr i (o + p.2) with | some a => s.setMemByte a p.1 | none => s) t).regs = t.regs := by
    intro l
    induction l with
    | nil => intro t; rfl
    | cons x l ih =>
      intro t
      refine (ih _).trans ?_
      dsimp only
      split <;> rfl
  have hlines : ∀ (l : List (Nat × Nat × Nat)) (t : State),
      (l.foldl (fun s x => s.wr (memPage x.1) MEM_LINE_POISON 0 x.2.1) t).extents slot = t.extents slot := by
    intro l
    induction l with
    | nil => intro t; rfl
    | cons x l ih => intro t; exact (ih _).trans (State.extents_heal _ _ _)
  exact (hlines _ _).trans (State.extents_of_regs (hbytes _ s) slot)

theorem State.jobAddr_jobWrite (bytes : List Byte) (slot : Nat) : (s.jobWrite i o bytes).jobAddr slot p = s.jobAddr slot p := by
  simp only [State.jobAddr, State.extents_jobWrite]

/-- What a job writes, a job whose extents lie apart from its own does not see. -/
theorem State.jobRead_jobWrite_apart (hapart : ∀ e ∈ s.extents i, ∀ f ∈ s.extents j, e.2.2 + e.2.1 ≤ f.2.2 ∨ f.2.2 + f.2.1 ≤ e.2.2)
    (bytes : List Byte) (n : Nat) : (s.jobWrite i o bytes).jobRead j p n = s.jobRead j p n := by
  refine List.map_congr_left fun k _ => ?_
  rw [State.jobAddr_jobWrite]
  cases hb : s.jobAddr j (p + k) with
  | none => rfl
  | some b => exact s.memByte_jobWrite_ne i o bytes b fun k' _ a ha => (State.jobAddr_ne hapart ha hb).symm

end

/-- Settles O60: an address lies in the extent that its offset lies in, and a write leaves the extents as they are. -/
theorem jobSpacesAreApart : Obligations.JobSpacesAreApart := fun _ _ _ hapart =>
  ⟨fun _ _ _ _ ha hb => State.jobAddr_ne hapart ha hb,
    fun _ n _ bytes => State.jobRead_jobWrite_apart hapart bytes n,
    fun _ _ he hlo hhi halone => State.jobAddr_of_mem he hlo hhi halone⟩

end Sys2Proof.Machine

/-! The wafer fabric (13_wafer_fabric.md, R307–R320): the default route table, the route word, what a packet's head does at a tile,
and the credits of the input buffers. -/

namespace Sys2Proof.Machine

/-! ### Words of eight bytes -/

/-- A little-endian number of `n` bytes. -/
def packBytes (f : Nat → Nat) (n : Nat) : Nat := (List.range n).foldl (fun a k => a + f k * 256 ^ k) 0

section
variable {f : Nat → Nat}

theorem packBytes_succ (f : Nat → Nat) (n : Nat) : packBytes f (n + 1) = packBytes f n + f n * 256 ^ n := by
  simp [packBytes, List.range_succ]

theorem packBytes_lt (h : ∀ k, f k < 256) (n : Nat) : packBytes f n < 256 ^ n := by
  induction n with
  | zero => exact Nat.one_pos
  | succ n ih =>
    have hbyte : (f n + 1) * 256 ^ n ≤ 256 * 256 ^ n := Nat.mul_le_mul_right _ (h n)
    rw [packBytes_succ, Nat.pow_succ']
    linarith

/-- A byte reads back as it was packed. -/
theorem packBytes_div_mod (h : ∀ k, f k < 256) {b n : Nat} (hb : b < n) : packBytes f n / 256 ^ b % 256 = f b := by
  induction n with
  | zero => omega
  | succ n ih =>
    rw [packBytes_succ]
    obtain rfl | hlt := (Nat.lt_succ_iff.mp hb).eq_or_lt
    · rw [Nat.add_mul_div_right _ _ (by positivity), Nat.div_eq_of_lt (packBytes_lt h b), Nat.zero_add, Nat.mod_eq_of_lt (h b)]
    · obtain ⟨k, rfl⟩ := Nat.exists_eq_add_of_lt hlt
      have hsplit : f (b + k + 1) * 256 ^ (b + k + 1) = f (b + k + 1) * 256 ^ k * 256 * 256 ^ b := by ring
      rw [hsplit, Nat.add_mul_div_right _ _ (by positivity), Nat.add_mul_mod_self_right, ih hlt]

end

/-! ### The default route table (R315) -/

/-- Registers of a table that are written in turn each hold what was written to them. -/
theorem State.rd_foldl_wr (s : State) (p : Nat) (f : Fld) (v : Nat → Nat) (hstride : 0 < f.stride) (hhi : f.hi < 64)
    (hlo : f.lo ≤ f.hi) {k n : Nat} (hk : k < n) :
    ((List.range n).foldl (fun s w => s.wr p f (v w) w) s).rd p f k = v k % 2 ^ (f.hi + 1 - f.lo) := by
  induction n with
  | zero => omega
  | succ n ih =>
    rw [List.range_succ, List.foldl_append, List.foldl_cons, List.foldl_nil]
    obtain rfl | hlt := (Nat.lt_succ_iff.mp hk).eq_or_lt
    · exact State.rd_wr_same _ p f _ k hhi hlo
    · refine (State.rd_wr_ne _ p p f f _ n k (regAddr_off_ne ?_)).trans (ih hlt)
      simp only [Fld.atIx, ne_eq, Nat.add_left_cancel_iff, Nat.mul_right_inj hstride.ne']
      exact hlt.ne

theorem defaultRoute_lt (i j : Nat) : defaultRoute i j < 256 := by
  unfold defaultRoute
  dsimp only
  split_ifs <;> decide

/-- An entry of bank 0 is the default route of its pair once boot has loaded the table. -/
theorem State.routeEntry_loadDefaultRoutes (s : State) {e : Nat} (he : e < 7056) :
    s.loadDefaultRoutes.routeEntry 0 e = defaultRoute (e / 84) (e % 84) := by
  have hword : s.loadDefaultRoutes.rd pFAB FAB_ROUTE_BANK0_WORD (e / 8) =
      packBytes (fun k => defaultRoute ((8 * (e / 8) + k) / 84) ((8 * (e / 8) + k) % 84)) 8 :=
    (s.rd_foldl_wr pFAB FAB_ROUTE_BANK0_WORD _ (by decide) (by decide) (by decide) (n := 882) (by omega)).trans
      (Nat.mod_eq_of_lt (packBytes_lt (fun _ => defaultRoute_lt _ _) 8))
  have hbyte := packBytes_div_mod (f := fun k => defaultRoute ((8 * (e / 8) + k) / 84) ((8 * (e / 8) + k) % 84))
    (fun _ => defaultRoute_lt _ _) (Nat.mod_lt e (by decide : 0 < 8))
  rw [Nat.div_add_mod] at hbyte
  rw [State.routeEntry, if_pos rfl, hword, bits, show 8 * (e % 8) + 7 + 1 - 8 * (e % 8) = 8 by omega, Nat.pow_mul]
  exact hbyte

section
variable {c r x y : Nat}

theorem posPresent_eq_false_iff (hc : c < 10) (hr : r < 10) :
    posPresent c r = false ↔ (c < 2 ∨ 8 ≤ c) ∧ (r < 2 ∨ 8 ≤ r) := by
  simp only [posPresent, hc, hr, decide_true, Bool.true_and, Bool.not_eq_false', Bool.and_eq_true, Bool.or_eq_true,
    decide_eq_true_eq, ge_iff_le]

/-- R12: the 84 regions lie on the grid, and in no corner of it. -/
theorem regionPos_present {i : Nat} (h : i < 84) :
    (regionPos i).1 < 10 ∧ (regionPos i).2 < 10 ∧ posPresent (regionPos i).1 (regionPos i).2 = true := by
  unfold regionPos
  split_ifs <;> simp [posPresent] <;> omega

/-- The XY route between two regions crosses an absent position exactly when the source's row and the destination's column are
edges of the grid, for then their corner is absent. -/
theorem xyRoute_crosses_absent_iff (hx : x < 10) (hy : y < 10) (hsrc : posPresent x y = true) (hc : c < 10) (hr : r < 10)
    (hdst : posPresent c r = true) :
    ((∃ n, min x c ≤ n ∧ n ≤ max x c ∧ posPresent n y = false) ∨ (∃ n, min y r ≤ n ∧ n ≤ max y r ∧ posPresent c n = false)) ↔
      (y < 2 ∨ 8 ≤ y) ∧ (c < 2 ∨ 8 ≤ c) := by
  have hsrc' := mt (posPresent_eq_false_iff hx hy).mpr (ne_false_of_eq_true hsrc)
  have hdst' := mt (posPresent_eq_false_iff hc hr).mpr (ne_false_of_eq_true hdst)
  constructor
  · rintro (⟨n, hlo, hhi, habsent⟩ | ⟨n, hlo, hhi, habsent⟩)
    · have := (posPresent_eq_false_iff (by omega) hy).mp habsent
      omega
    · have := (posPresent_eq_false_iff hc (by omega)).mp habsent
      omega
  · rintro ⟨hrow, hcol⟩
    exact .inl ⟨c, min_le_right x c, le_max_right x c, (posPresent_eq_false_iff hc hy).mpr ⟨hcol, hrow⟩⟩

end

theorem exec_selftestDone_of_stage {s : State} (ok : Bool) (hstage : s.stage = 1) (hheld : s.heldReset = false) :
    exec (.selftestDone ok) s = keep s (if ok then s.loadDefaultRoutes.setStage 2 else s.setStage 0xFE) :=
  congrArg (keep s) (if_neg (by simp [hstage, hheld]))

/-- Settles O46: each entry reads back as the default route of its pair, and the corner that its XY route would turn in says
whether it needs another. -/
theorem defaultRoutesAvoidAbsentPositions : Obligations.DefaultRoutesAvoidAbsentPositions := by
  refine ⟨fun s hstage hheld => answers_of_keep (exec_selftestDone_of_stage true hstage hheld), fun s i j hi hj => ?_⟩
  obtain ⟨hx, hy, hsrc⟩ := regionPos_present hi
  obtain ⟨hc, hr, hdst⟩ := regionPos_present hj
  have hcross := xyRoute_crosses_absent_iff hx hy hsrc hc hr hdst
  dsimp only
  rw [hcross, s.routeEntry_loadDefaultRoutes (by omega), Nat.mul_add_div (by decide), Nat.div_eq_of_lt hj, Nat.mul_add_mod,
    Nat.mod_eq_of_lt hj]
  unfold defaultRoute
  dsimp only
  generalize (regionPos i).2 = y at *
  generalize (regionPos j).1 = c at *
  simp only [Bool.and_eq_true, Bool.or_eq_true, decide_eq_true_eq]
  split_ifs <;> simp [bits] <;> omega

/-! ### The route word and the size of a packet (R307) -/

theorem Packet.word_fields (p : Packet) (hdx : p.dstX < 256) (hdy : p.dstY < 256) (hsx : p.srcX < 256) (hsy : p.srcY < 256)
    (hvc : p.vc < 8) (hcls : p.cls < 4) (hmid : p.mid < 16) (hflits : p.flits < 128) (hjob : p.job < 32) (hep : p.ep < 256) :
    bits p.word 7 0 = p.dstX ∧ bits p.word 15 8 = p.dstY ∧ bits p.word 23 16 = p.srcX ∧ bits p.word 31 24 = p.srcY ∧
    bits p.word 34 32 = p.vc ∧ bits p.word 35 35 = b2n p.detour ∧ bits p.word 37 36 = p.cls ∧ bits p.word 41 38 = p.mid ∧
    bits p.word 48 42 = p.flits ∧ bits p.word 53 49 = p.job ∧ bits p.word 55 54 = 0 ∧ bits p.word 63 56 = p.ep := by
  have hdet := b2n_lt p.detour
  unfold Packet.word bits
  norm_num
  omega

theorem packetFlits_le_iff (n : Nat) : packetFlits n ≤ 66 ↔ n ≤ 16864 := by
  unfold packetFlits
  omega

/-! ### What a packet's head does at a tile (R314, R318, R320) -/

section
variable {x y r d : Nat} {p : Packet} {s : State}

/-- On its class channel a packet goes on along its legs while its next link leads into a region that forwards; else the checks of
R318 come in their order. -/
theorem State.hop_of_class_channel (hr : regionOfTile x y = some r) (hd : regionOfTile p.dstX p.dstY = some d)
    (hclass : p.detour = false) : s.hop x y p =
      let leg := (legFrom x y (p.goals.drop p.leg) p.leg).1
      let side := (legFrom x y (p.goals.drop p.leg) p.leg).2
      if side = 4 ∨ s.forwards x y side = true then .go side leg
      else if s.bypassed d then .drop FAB_C_BYPASS_DISCARDS
      else if s.rd pFAB FAB_STATUS_DETOUR_BUSY = 1 then .wait
      else if s.detourTo r d = 7 then .drop FAB_C_UNREACH_DROPS
      else .switch := by
  simp only [State.hop, hr, hd, hclass, Bool.false_eq_true, if_false]

/-- On channel 4 it goes by the detour table, and in the destination region along X and then Y. -/
theorem State.hop_of_detour (hr : regionOfTile x y = some r) (hd : regionOfTile p.dstX p.dstY = some d) (hdetour : p.detour = true) :
    s.hop x y p = match s.detourTo r d with
      | 4 => .go (legFrom x y [(true, p.dstX), (false, p.dstY)] 0).2 0
      | 7 => .drop FAB_C_UNREACH_DROPS
      | side => if s.forwards x y side then .go side 0 else .wait := by
  simp only [State.hop, hr, hd, hdetour, if_true] <;> rfl

/-- R320: a packet never leaves channel 4 again. -/
theorem State.hop_ne_switch_of_detour (hr : regionOfTile x y = some r) (hd : regionOfTile p.dstX p.dstY = some d)
    (hdetour : p.detour = true) : s.hop x y p ≠ .switch := by
  rw [State.hop_of_detour hr hd hdetour]
  split
  · exact Hop.noConfusion
  · exact Hop.noConfusion
  · split <;> exact Hop.noConfusion

/-- R319, R320: outside the destination region the table gives the side. -/
theorem State.hop_of_detour_side (hr : regionOfTile x y = some r) (hd : regionOfTile p.dstX p.dstY = some d)
    (hdetour : p.detour = true) (hside : s.detourTo r d < 4) (hlink : s.forwards x y (s.detourTo r d) = true) :
    s.hop x y p = .go (s.detourTo r d) 0 := by
  rw [State.hop_of_detour hr hd hdetour]
  split
  next h => omega
  next h => omega
  next => rw [if_pos hlink]

/-- R320: in the destination region X comes before Y. -/
theorem State.hop_of_detour_home (hr : regionOfTile x y = some r) (hd : regionOfTile p.dstX p.dstY = some d)
    (hdetour : p.detour = true) (hhome : s.detourTo r d = 4) : s.hop x y p =
      .go (if x = p.dstX then if y = p.dstY then 4 else if y < p.dstY then 2 else 0 else if x < p.dstX then 1 else 3) 0 := by
  rw [State.hop_of_detour hr hd hdetour, hhome]
  simp only [legFrom, if_true, Bool.false_eq_true, if_false]
  split_ifs <;> rfl

end

/-- R318: the switch to channel 4 sets DETOUR and counts. -/
theorem State.settle_of_switch {k : Nat} {p : Packet} {s : State} (hhead : s.net.head k = some p)
    (hswitch : s.hop (keyX k) (keyY k) p = .switch) :
    s.settle k = ({ s with net := s.net.setPkt { p with detour := true } } : State).bump pFAB FAB_C_DETOUR_PACKETS := by
  simp only [State.settle, hhead, hswitch]

/-! ### Endpoints and credits (R309, R312, R313) -/

/-- R312, R313: a tile endpoint judges a packet by its region, and then by the region's job. -/
theorem State.endDiscards_of_tile {r : Nat} {p : Packet} {s : State} (htile : p.ep ≠ 1) (hr : regionOfTile p.dstX p.dstY = some r) :
    s.endDiscards p = if s.endDrops r p.dstX then some FAB_C_INACTIVE_DROPS
      else if s.slotOf r = some p.job then none else some FAB_C_XJOB_DROPS := by
  simp only [State.endDiscards, if_neg htile, hr]

section
variable (k : Nat) (f : Flit) (n : Net)

theorem Net.buf_push : (n.push k f).buf k = n.buf k ++ [f] := tabGet_set_same _ _ _ _

/-- R309: a flit that is put into an input buffer uses one of the credits toward it. -/
theorem Net.credit_push (h : 0 < n.credit k) : (n.push k f).credit k + 1 = n.credit k := by
  have hused : tabGet (fun _ => 0) (n.push k f).used k = tabGet (fun _ => 0) n.used k + 1 := tabGet_set_same _ _ _ _
  unfold Net.credit at h ⊢
  omega

theorem Net.buf_pop : (n.pop k).buf k = (n.buf k).tail := tabGet_set_same _ _ _ _

end

/-- Settles O45: a head by its channel and its next link, a packet at a tile endpoint by its region, and a credit by the two ends of
a buffer. That heads wait while the detour table is replaced, and that UNREACH_DROPS counts the others, is R321's; the endpoints that
drop are R306's. -/
theorem packetsFollowTheirRoutes : Obligations.PacketsFollowTheirRoutes := by
  refine ⟨fun p hdx hdy hsx hsy hvc hcls hmid hflits hjob hep => p.word_fields hdx hdy hsx hsy hvc hcls hmid hflits hjob hep,
    packetFlits_le_iff, fun x y r d p s hr hd => ⟨fun hclass => ?onClass, fun hdetour => ?onDetour⟩,
    fun k p s hhead hswitch => ⟨State.settle_of_switch hhead hswitch, rfl⟩, fun r p s htile hr => ?endpoint,
    fun k f n hcredit => ⟨n.credit_push k f hcredit, n.buf_push k f⟩,
    fun k n => ⟨n.buf_pop k, rfl, List.mem_append_right _ (List.mem_singleton_self _)⟩⟩
  case onClass =>
    have hop := State.hop_of_class_channel (s := s) hr hd hclass
    refine ⟨fun hgo => hop.trans (if_pos hgo), fun hside hlink => ?_⟩
    have hstops := hop.trans (if_neg (by rintro (h | h); exacts [hside h, Bool.false_ne_true (hlink.symm.trans h)]))
    refine ⟨fun hgone => hstops.trans (if_pos hgone), fun hlive hbusy => ?_, fun hlive hidle hno => ?_, fun hlive hidle hway => ?_⟩
    · simp only [hstops, hlive, hbusy, Bool.false_eq_true, if_false, if_true]
    · simp only [hstops, hlive, hidle, hno, Bool.false_eq_true, if_false, if_true]
    · simp only [hstops, hlive, hidle, hway, Bool.false_eq_true, if_false]
  case onDetour =>
    refine ⟨State.hop_ne_switch_of_detour hr hd hdetour, State.hop_of_detour_side hr hd hdetour, fun hhome => ?_⟩
    rw [State.hop_of_detour_home hr hd hdetour hhome]
    refine ⟨fun h => ?_, fun h => ?_, fun hx h => ?_, fun hx h => ?_, fun hx hy => ?_⟩
    · rw [if_neg h.ne, if_pos h]
    · rw [if_neg h.ne', if_neg h.not_gt]
    · rw [if_pos hx, if_neg h.ne, if_pos h]
    · rw [if_pos hx, if_neg h.ne', if_neg h.not_gt]
    · rw [if_pos hx, if_pos hy]
  case endpoint =>
    have hjudged := State.endDiscards_of_tile (s := s) htile hr
    exact ⟨fun hdrops => hjudged.trans (if_pos hdrops),
      fun hopen hother => by rw [hjudged, hopen, if_neg Bool.false_ne_true, if_neg hother],
      fun hopen hmine => by rw [hjudged, hopen, if_neg Bool.false_ne_true, if_pos hmine]⟩

end Sys2Proof.Machine

/-! Serving, the model cache and the cellar (12_serving_and_model_residency.md, R288–R301; 16_memory_stacks_and_cellar.md, R394 and
R395): requests and batches, the commands of the cache, a load from the cellar, and the cellar's write session. -/

namespace Sys2Proof.Machine

/-! ### Requests and streams (R288–R290) -/

section
variable {slot : SlotIx} {s : State}

/-- A serving message that is taken answers what its row does with it. -/
theorem answers_of_srvTaken {row : Instr} {m : Msg} {op slot : Nat} {u : State} {run : State → Nat → State} (h : SrvTaken s m op slot)
    (hrow : exec row s = keep s (s.srvIn m op run)) (hrun : run s slot = u) : Answers row s u :=
  answers_of_keep (hrow.trans (congrArg (keep s) ((srvIn_taken run h).trans hrun)))

theorem exec_queueWaitExpiry_of_queued {n : Nat} {r : SrvReq} (h : (s.srv slot).queue.find? (fun r => r.id == n) = some r) :
    exec (.queueWaitExpiry slot n) s =
      keep s (((s.setQueue slot ((s.srv slot).queue.filter fun x => x.id != n)).srvReject slot r 6).freeStreams slot) := by
  simp only [exec, execQueueWaitExpiry, h]

theorem exec_batchWaitExpiry_of_queued {model : Nat} {r : SrvReq} {rs : List SrvReq} (h : s.queued slot model = r :: rs) :
    exec (.batchWaitExpiry slot model) s = keep s ((s.setQueue slot ((s.srv slot).queue.map fun x =>
      if x.id == r.id then { x with waited := true } else x)).wantLoad slot model) := by
  simp only [exec, execBatchWaitExpiry, h]

/-! ### Batches (R290–R293) -/

/-- The loads that a job's queue asks for (R290; log 113). -/
def State.wantQueued (s : State) (slot : Nat) : State :=
  ((s.srv slot).queue.map (·.model)).eraseDups.foldl (fun (s : State) m => s.wantLoad slot m) s

/-- Whether a queued request's model qualifies and is ready (R290). -/
def State.batchReady (s : State) (slot : Nat) (r : SrvReq) : Bool :=
  s.qualifies slot r.model && (match s.entryOf r.model with
    | some e => (s.curReady e).isSome
    | none => false)

/-- R290: a free batch admits the first request of the queue that is ready. -/
theorem exec_batchAdmit_of_ready {t : State} {r : SrvReq} {d e k : Nat} (ht : s.wantQueued slot = t) (hstate : s.jobState slot = 3)
    (hserves : s.serves slot = true) (hfree : s.batchFree slot = true) (hrecovering : s.rd pPLC PLC_JOB_RECOVERING slot = 0)
    (hfind : (t.srv slot).queue.find? (t.batchReady slot) = some r) (hd : t.serveEntry slot r.model = some d)
    (he : t.entryOf r.model = some e) (hk : t.curReady e = some k) :
    exec (.batchAdmit slot) s = keep s (t.admitBatch slot d e k r.model) := by
  subst ht
  refine congrArg (keep s) ((if_neg (by simp [hstate, hserves, hfree, hrecovering])).trans ?_)
  split
  next hnone => exact nomatch hfind.symm.trans hnone
  next r' hfind' =>
    obtain rfl : r = r' := Option.some.inj (hfind.symm.trans hfind')
    simp only [State.wantQueued] at hd he hk ⊢
    simp only [hd, he, hk]

/-- R293: a batch whose regions all wait, with nothing outstanding and one LAST flag, ends. -/
theorem exec_batchDone_of_ended {b : SrvBatch} (hbatch : (s.srv slot).batch = some b) (hwait : s.allStepWait slot = true)
    (hquiet : (s.regionsOf slot).any (fun r => !(s.seq r).outst.isEmpty) = false)
    (hlast : (s.lastFlags slot).any (· != (s.lastFlags slot).headD false) = false) :
    exec (.batchDone slot) s = keep s (s.endBatch slot b) := by
  simp only [exec, execBatchDone, hbatch]
  refine congrArg (keep s) ((if_neg ?_).trans (if_neg (ne_true_of_eq_false hlast)))
  simp only [hwait, hquiet, Bool.not_true, Bool.or_self, Bool.false_eq_true, not_false_eq_true]

theorem exec_batchDone_of_no_batch (hbatch : (s.srv slot).batch = none) : exec (.batchDone slot) s = keep s s := by
  simp only [exec, execBatchDone, hbatch]

end

/-- Settles O41: a message by its form and its stream, a timer by what it finds in the queue, and a batch by what its regions wait
for. That BATCH_ADMIT starts the loads that the queue wants, and that BATCH_DONE compares the LAST flags, is the model's reading
(log 113). -/
theorem servingRowsComplete : Obligations.ServingRowsComplete :=
  ⟨fun _ _ _ h => answers_of_srvTaken h rfl rfl,
    fun _ _ _ h hopened => answers_of_srvTaken h rfl (if_pos hopened),
    fun _ _ s hidle => answers_of_keep (congrArg (keep s) (if_pos hidle)),
    fun _ _ _ _ hqueued => answers_of_keep (exec_queueWaitExpiry_of_queued hqueued),
    fun _ _ _ _ _ hqueued => answers_of_keep (exec_batchWaitExpiry_of_queued hqueued),
    fun _ _ hstate hserves hfree hrecovering _ _ _ _ hfind hd he hk =>
      answers_of_keep (exec_batchAdmit_of_ready rfl hstate hserves hfree hrecovering hfind hd he hk),
    fun _ _ _ hbatch hwait hquiet hlast => answers_of_keep (exec_batchDone_of_ended hbatch hwait hquiet hlast),
    fun _ _ hbatch => answers_of_keep (exec_batchDone_of_no_batch hbatch)⟩

/-! ### Cache commands (R300) -/

section
variable {q : Requester} {v : Word} {s : State} {run : State → Nat → State}

/-- R300: a served CACHE_CMD for a valid entry does the command that its OP names. -/
theorem State.cacheCmd_of_valid {op : Nat} (h : s.served q (regAddr pCELL 0x108) v = true) (he : s.entryValid (bits v.toNat 12 8) = true)
    (hop : bits v.toNat 2 0 = op) (hknown : 1 ≤ op ∧ op ≤ 4) : s.cacheCmd q v op run = run s (bits v.toNat 12 8) := by
  refine (serveWrite_served _ h).trans ((if_neg ?_).trans (if_pos hop))
  rw [he, hop]
  rintro (h | h | h)
  · omega
  · omega
  · exact nomatch h

/-- R300: for another entry, or with another OP, it raises BAD_CMD. -/
theorem State.cacheCmd_of_bad (op : Nat) (h : s.served q (regAddr pCELL 0x108) v = true)
    (hbad : s.entryValid (bits v.toNat 12 8) = false ∨ bits v.toNat 2 0 = 0 ∨ 4 < bits v.toNat 2 0) :
    s.cacheCmd q v op run = s.raiseErr pCELL CELL_ERR_STATUS_BAD_CMD := by
  refine (serveWrite_served _ h).trans (if_pos ?_)
  rcases hbad with hentry | hop | hop
  · exact .inr (.inr hentry)
  · exact .inl hop
  · exact .inr (.inl hop)

end

/-! ### The decay of USE (R295) -/

/-- USE of the first n entries halved, in their order. -/
def State.halveUse (s : State) (n : Nat) : State :=
  (List.range n).foldl (fun s e => s.wr pCELL CELL_MODEL_USE (s.rd pCELL CELL_MODEL_USE e / 2) e) s

section
variable (s : State) (n : Nat)

theorem State.halveUse_succ :
    s.halveUse (n + 1) = (s.halveUse n).wr pCELL CELL_MODEL_USE ((s.halveUse n).rd pCELL CELL_MODEL_USE n / 2) n := by
  simp only [State.halveUse, List.range_succ, List.foldl_append, List.foldl_cons, List.foldl_nil]

theorem State.useAddr_ne {e n : Nat} (h : e ≠ n) : regAddr pCELL (CELL_MODEL_USE.atIx e) ≠ regAddr pCELL (CELL_MODEL_USE.atIx n) :=
  regAddr_off_ne (by simp only [Fld.atIx]; omega)

/-- Each entry is halved once: a write of one entry's USE leaves the others. -/
theorem State.rd_halveUse (e : Nat) : (s.halveUse n).rd pCELL CELL_MODEL_USE e =
    if e < n then s.rd pCELL CELL_MODEL_USE e / 2 else s.rd pCELL CELL_MODEL_USE e := by
  induction n with
  | zero => rfl
  | succ n ih =>
    rw [State.halveUse_succ]
    by_cases he : e = n
    · subst he
      have hfits := s.rd_lt pCELL CELL_MODEL_USE e
      rw [State.rd_wr_same _ _ _ _ _ (by decide) (by decide), ih, if_neg (lt_irrefl e), if_pos (Nat.lt_succ_self e)]
      exact Nat.mod_eq_of_lt (by omega)
    · rw [State.rd_wr_ne _ _ _ _ _ _ _ _ (State.useAddr_ne he), ih]
      exact if_congr (by omega) rfl rfl

theorem State.halveUse_eq : s.halveUse n = { s with regs := (s.halveUse n).regs } := by
  induction n with
  | zero => rfl
  | succ n ih => rw [State.halveUse_succ, ih]; rfl

theorem State.halveUse_keptBut :
    RegsKeptBut ((List.range n).map fun e => regAddr pCELL (CELL_MODEL_USE.atIx e)) s (s.halveUse n) := by
  induction n with
  | zero => exact fun _ _ => rfl
  | succ n ih =>
    intro a ha
    rw [List.range_succ, List.map_append, List.mem_append, not_or] at ha
    rw [State.halveUse_succ]
    exact (State.getReg_wr_ne _ _ _ _ _ _ fun h => ha.2 (List.mem_singleton.mpr h)).trans (ih a ha.1)

end

/-- Settles O42: a command by its entry and its OP, and USE_DECAY entry by entry. -/
theorem cacheCommandsComplete : Obligations.CacheCommandsComplete := by
  refine ⟨fun q v s h he => ⟨fun hop => ?load, fun hop => ?unload, fun hop => ?pin, fun hop => ?unpin⟩,
    fun q v s h hbad row hrow => ?bad,
    fun e s he hfailed => answers_of_keep (congrArg (keep s) (if_pos (by simp [he, hfailed]))),
    fun e s he => ⟨_, answers_of_keep rfl, (s.rd_halveUse 32 e).trans (if_pos he)⟩,
    fun s => ⟨_, answers_of_keep rfl, s.halveUse_eq 32, s.halveUse_keptBut 32⟩⟩
  case load => exact answers_of_keep (congrArg (keep s) (State.cacheCmd_of_valid h he hop (by decide)))
  case unload => exact answers_of_keep (congrArg (keep s) (State.cacheCmd_of_valid h he hop (by decide)))
  case pin => exact answers_of_keep (congrArg (keep s) (State.cacheCmd_of_valid h he hop (by decide)))
  case unpin => exact answers_of_keep (congrArg (keep s) (State.cacheCmd_of_valid h he hop (by decide)))
  case bad =>
    simp only [List.mem_cons, List.not_mem_nil, or_false] at hrow
    rcases hrow with rfl | rfl | rfl | rfl
    · exact answers_of_keep (congrArg (keep s) (State.cacheCmd_of_bad 1 h hbad))
    · exact answers_of_keep (congrArg (keep s) (State.cacheCmd_of_bad 2 h hbad))
    · exact answers_of_keep (congrArg (keep s) (State.cacheCmd_of_bad 3 h hbad))
    · exact answers_of_keep (congrArg (keep s) (State.cacheCmd_of_bad 4 h hbad))

/-! ### A load from the cellar (R297) -/

section
variable {e : Fin 32} {l : CacheLoad} {s : State}

/-- Raising an error on the page leaves an entry's load and its SOURCE. -/
theorem State.cacheEnt_raiseErr (p : Nat) (f : Fld) (k : Nat) : (s.raiseErr p f).cacheEnt k = s.cacheEnt k := by
  simp only [State.cacheEnt, State.raiseErr_caches]

theorem State.source_raiseErr (e : Fin 32) (f : Fld) : (s.raiseErr pCELL f).rd pCELL CELL_MODEL_SOURCE e = s.rd pCELL CELL_MODEL_SOURCE e :=
  have hoff : CELL_MODEL_SOURCE.atIx e < 65536 ∧ CELL_MODEL_SOURCE.atIx e ≠ 0x20 := by simp only [Fld.atIx]; omega
  s.rd_raiseErr pCELL pCELL f CELL_MODEL_SOURCE e (regAddr_off_ne hoff.2) (notMem_notifyRegs (by decide) (by decide) hoff.1)

/-- R297: an image that is not there fails the load with IMAGE_BAD. -/
theorem exec_cellarLoadDone_of_no_image (hload : (s.cacheEnt e).load = some l) (hsource : l.source ≠ 0)
    (himage : s.cellarImage (s.rd pCELL CELL_MODEL_CELLAR_INDEX e) = none) :
    exec (.cellarLoadDone e) s = keep s ((s.raiseErr pCELL CELL_ERR_STATUS_IMAGE_BAD).cacheFailOr e 4) := by
  simp only [exec, execCellarLoadDone, hload, hsource, himage, if_false]

/-- R297: a load that reads the cellar of an entry of another SOURCE than 2 fails. -/
theorem State.cacheFailOr_of_cellar_only (cause : Nat) (hload : (s.cacheEnt e).load = some l)
    (hcellar : s.rd pCELL CELL_MODEL_SOURCE e ≠ 2) : s.cacheFailOr e cause = s.cacheFail e cause := by
  simp only [State.cacheFailOr, hload, hcellar, and_false, if_false]

/-- R297: one of SOURCE 2 starts again from its carrier. -/
theorem State.cacheFailOr_of_either (cause : Nat) (hload : (s.cacheEnt e).load = some l) (hsource : l.source = 1)
    (heither : s.rd pCELL CELL_MODEL_SOURCE e = 2) : s.cacheFailOr e cause =
      (((s.setCacheLoad e none).freeSlotOf e l.slot).startCacheLoad e l.epoch true).retrySpace := by
  simp only [State.cacheFailOr, hload, hsource, heither, and_self, if_true]

/-- R297, R304: an image that fits a placed load and reads well under the key gives the load its pieces. -/
theorem exec_cellarLoadDone_of_read {b body : List Byte} {ps : List (List CacheSeg)} (hload : (s.cacheEnt e).load = some l)
    (hsource : l.source ≠ 0) (hplaced : l.placed = true) (himage : s.cellarImage (s.rd pCELL CELL_MODEL_CELLAR_INDEX e) = some b)
    (hbody : imageBody b = some body) (hkind : byteAt b 6 = 0) (hmodel : leAt b 10 2 = s.rd pCELL CELL_MODEL_MODEL e)
    (hepoch : leAt b 12 4 = l.epoch) (hread : readPieces b (s.keyBytes (s.rd pCELL CELL_MODEL_KEYSLOT e))
      (s.rd pCELL CELL_MODEL_MODEL e) l.epoch (parseManifest body) = some ps)
    (hall : ((ps.map landPiece).flatMap (·.1)).length = (ps.map List.length).sum) :
    exec (.cellarLoadDone e) s = keep s
      (((s.bump pWSP WSP_C_DUP_DROPS ((ps.map landPiece).map fun x => x.2.1).sum).bump pWSP WSP_C_GEN_RESTARTS
        ((ps.map landPiece).map fun x => x.2.2).sum).loadDone e
          { l with manifest := some (parseManifest body), placed := true, segs := (ps.map landPiece).flatMap (·.1) }
          ({ l with manifest := some (parseManifest body), placed := true, segs := (ps.map landPiece).flatMap (·.1) } :
            CacheLoad).assemble) := by
  have hfits : ¬(byteAt b 6 ≠ 0 ∨ leAt b 10 2 ≠ s.rd pCELL CELL_MODEL_MODEL e ∨ leAt b 12 4 ≠ l.epoch) := by
    simp [hkind, hmodel, hepoch]
  simp only [exec, execCellarLoadDone, hload, if_neg hsource, himage, hbody, if_neg hfits, hplaced, if_true, Option.map_some,
    ne_eq, not_true_eq_false, if_false, hread, hall]

theorem exec_cellarLoadDone_of_no_load (hload : (s.cacheEnt e).load = none) : exec (.cellarLoadDone e) s = keep s s := by
  simp only [exec, execCellarLoadDone, hload]

end

/-! ### Cellar commands (R394, R395) -/

section
variable {f : MgtReq} {s t u : State}

/-- What a cellar command does, by its OP (R394). -/
def State.cellarOp (s : State) (b : List Byte) : State × Nat :=
  if byteAt b 5 = 1 then s.openWrite (leAt b 16 2) (leAt b 24 8)
  else if byteAt b 5 = 2 then s.eraseImage (leAt b 16 2)
  else if byteAt b 5 = 3 then s.sealImage (leAt b 16 2)
  else s.abortCmd

/-- What a cellar command that has passed the mailbox does and answers. -/
def State.cellarRun (f : MgtReq) (t : State) : State × Nat × List Byte :=
  let b := f.payload.take 256
  if t.lifecycle = 3 then (t, stOk, leBytes 1 cellProtected)
  else if (t.cellCmdOk b).2 = false then ((t.cellCmdOk b).1, stOk, leBytes 1 cellBadSig)
  else
    let r := (t.cellCmdOk b).1.cellarOp b
    (if r.2 = cellOk then r.1.wr pDOCK DOCK_KEY_SEQ_SEQ (leAt b 8 8) else r.1, stOk, leBytes 1 r.2)

theorem State.cellarCmd_eq_mailbox (s : State) (f : MgtReq) :
    s.cellarCmd f = s.mailbox 0x40 false true 256 f (State.cellarRun f) := by
  unfold State.cellarCmd
  congr 1
  funext t
  simp only [State.cellarRun]
  refine if_congr Iff.rfl rfl ?_
  cases hok : t.cellCmdOk (f.payload.take 256) with
  | mk u ok =>
    cases ok with
    | false => rfl
    | true =>
      simp only [State.cellarOp, Bool.true_eq_false, if_false]
      split
      next h => simp only [h, if_true]
      next h => simp only [h, if_true, if_false, OfNat.ofNat_ne_one]
      next h => simp only [h, if_true, if_false, OfNat.ofNat_ne_one, Nat.reduceEqDiff]
      next _ h1 h2 h3 => simp only [if_neg h1, if_neg h2, if_neg h3]

theorem exec_cellarRow {row : MgtReq → Instr} (h : row = Instr.openWrite ∨ row = Instr.erase ∨ row = Instr.seal ∨ row = Instr.abort)
    (f : MgtReq) (s : State) : exec (row f) s = keep s (s.mailbox 0x40 false true 256 f (State.cellarRun f)) := by
  rw [← State.cellarCmd_eq_mailbox]
  rcases h with rfl | rfl | rfl | rfl <;> rfl

/-- A cellar command that passes the mailbox is answered with what it does. -/
theorem answers_of_cellarRun {row : MgtReq → Instr}
    (h : row = Instr.openWrite ∨ row = Instr.erase ∨ row = Instr.seal ∨ row = Instr.abort) (hok : s.mailOk 0x40 false 256 f = true)
    {st : Nat} (hrun : State.cellarRun f (s.mailTaken 0x40 f) = (u, stOk, leBytes 1 st)) :
    Answers (row f) s (u.respond 0x40 f stOk (leBytes 1 st)) := by
  have hmail := mailbox_ok (State.cellarRun f) hok
  rw [hrun] at hmail
  exact answers_of_keep ((exec_cellarRow h f s).trans (congrArg (keep s) hmail))

theorem State.cellarRun_of_retired (h : t.lifecycle = 3) : State.cellarRun f t = (t, stOk, leBytes 1 cellProtected) := if_pos h

theorem State.cellarRun_of_bad_signature (h : t.lifecycle ≠ 3) (hsig : t.cellCmdOk (f.payload.take 256) = (u, false)) :
    State.cellarRun f t = (u, stOk, leBytes 1 cellBadSig) := by
  simp only [State.cellarRun, if_neg h, hsig, if_true]

theorem State.cellarRun_of_signed (h : t.lifecycle ≠ 3) (hsig : t.cellCmdOk (f.payload.take 256) = (u, true)) :
    State.cellarRun f t = (if (u.cellarOp (f.payload.take 256)).2 = cellOk then
      (u.cellarOp (f.payload.take 256)).1.wr pDOCK DOCK_KEY_SEQ_SEQ (leAt (f.payload.take 256) 8 8)
      else (u.cellarOp (f.payload.take 256)).1, stOk, leBytes 1 (u.cellarOp (f.payload.take 256)).2) := by
  simp only [State.cellarRun, if_neg h, hsig, Bool.true_eq_false, if_false]

/-- What a data message that has passed the mailbox does and answers (R394). -/
def State.cellarDataRun (f : MgtReq) (t : State) : State × Nat × List Byte :=
  if t.lifecycle = 3 then (t, stOk, leBytes 1 cellProtected)
  else match t.cellar.session with
    | none => (t, stOk, leBytes 1 cellOrder)
    | some x =>
      if f.arg.toNat ≠ x.data.length then (t, stOk, leBytes 1 cellOrder)
      else (({ t with cellar := { t.cellar with session := some { x with data := x.data ++ f.payload } } } : State).wr
        pMEM MEM_CELLAR_SESSION_BYTES (x.data ++ f.payload).length, stOk, leBytes 1 cellOk)

theorem exec_cellarData_eq (f : MgtReq) (s : State) :
    exec (.cellarData f) s = keep s (s.mailbox 0x41 false true 0 f (State.cellarDataRun f)) := rfl

theorem answers_of_cellarDataRun (hok : s.mailOk 0x41 false 0 f = true) {st : Nat}
    (hrun : State.cellarDataRun f (s.mailTaken 0x41 f) = (u, stOk, leBytes 1 st)) :
    Answers (.cellarData f) s (u.respond 0x41 f stOk (leBytes 1 st)) := by
  have hmail := mailbox_ok (State.cellarDataRun f) hok
  rw [hrun] at hmail
  exact answers_of_keep ((exec_cellarData_eq f s).trans (congrArg (keep s) hmail))

theorem State.cellarDataRun_in_place {x : CellSession} (h : t.lifecycle ≠ 3) (hopen : t.cellar.session = some x)
    (hplace : f.arg.toNat = x.data.length) : State.cellarDataRun f t =
      (({ t with cellar := { t.cellar with session := some { x with data := x.data ++ f.payload } } } : State).wr
        pMEM MEM_CELLAR_SESSION_BYTES (x.data ++ f.payload).length, stOk, leBytes 1 cellOk) := by
  simp only [State.cellarDataRun, if_neg h, hopen, hplace, ne_eq, not_true_eq_false, if_false]

theorem State.cellarDataRun_out_of_place {x : CellSession} (h : t.lifecycle ≠ 3) (hopen : t.cellar.session = some x)
    (hplace : f.arg.toNat ≠ x.data.length) : State.cellarDataRun f t = (t, stOk, leBytes 1 cellOrder) := by
  simp only [State.cellarDataRun, if_neg h, hopen, ne_eq, hplace, not_false_eq_true, if_true]

theorem State.session_wrs (s : State) (p : Nat) (l : List (Fld × Nat)) (i : Nat) : (s.wrs p l i).cellar.session = s.cellar.session := by
  rw [State.wrs_eq]

theorem State.session_endSession (s : State) : s.endSession.cellar.session = none := State.session_wrs _ _ _ _

theorem State.session_freeBlocks (s : State) (n : Nat) : (s.freeBlocks n).cellar.session = s.cellar.session := rfl

/-- Nothing of a session that is aborted stays open. -/
theorem State.session_abortSession (s : State) : s.abortSession.cellar.session = none := by
  unfold State.abortSession
  split
  · rw [State.session_freeBlocks, State.session_endSession]
  · assumption

end

/-- Settles O43: a load by the image that it finds, and a command or data message by the module's life, its signature and its place
in the session. That KEY_SEQ is recorded only where the status is OK is deduced (log 44), and so are the statuses of malformed
commands (log 115). -/
theorem cellarRowsComplete : Obligations.CellarRowsComplete := by
  refine ⟨fun e l s hload hsource himage hcellar => ?gone, fun e l s hload hsource himage heither => ?either,
    fun e l b body ps s hload hsource hplaced himage hbody hkind hmodel hepoch hread hall => answers_of_keep
      (exec_cellarLoadDone_of_read hload hsource hplaced himage hbody hkind hmodel hepoch hread hall),
    fun e s hload => answers_of_keep (exec_cellarLoadDone_of_no_load hload),
    fun row hrow f s hok => ⟨fun hlife => answers_of_cellarRun hrow hok (State.cellarRun_of_retired hlife),
      fun u hlife hsig => answers_of_cellarRun hrow hok (State.cellarRun_of_bad_signature hlife hsig),
      fun u hlife hsig => ⟨fun hdone => ?done, fun hrefused => ?refused⟩⟩,
    fun f x s hok hlife hopen hplace => answers_of_cellarDataRun hok (State.cellarDataRun_in_place hlife hopen hplace),
    fun f x s hok hlife hopen hplace => answers_of_cellarDataRun hok (State.cellarDataRun_out_of_place hlife hopen hplace),
    fun s => answers_of_keep rfl, State.session_abortSession⟩
  case gone =>
    have hfail := State.cacheFailOr_of_cellar_only 4 ((congrArg CacheEnt.load (State.cacheEnt_raiseErr _ _ _)).trans hload)
      ((State.source_raiseErr e CELL_ERR_STATUS_IMAGE_BAD).trans_ne hcellar)
    exact answers_of_keep ((exec_cellarLoadDone_of_no_image hload hsource himage).trans (congrArg (keep s) hfail))
  case either =>
    have hagain := State.cacheFailOr_of_either 4 ((congrArg CacheEnt.load (State.cacheEnt_raiseErr _ _ _)).trans hload) hsource
      ((State.source_raiseErr e CELL_ERR_STATUS_IMAGE_BAD).trans heither)
    exact answers_of_keep ((exec_cellarLoadDone_of_no_image hload (by omega) himage).trans (congrArg (keep s) hagain))
  case done =>
    exact answers_of_cellarRun hrow hok ((State.cellarRun_of_signed hlife hsig).trans (congrArg (·, _) (if_pos hdone)))
  case refused =>
    exact answers_of_cellarRun hrow hok ((State.cellarRun_of_signed hlife hsig).trans (congrArg (·, _) (if_neg hrefused)))

end Sys2Proof.Machine

/-! Routes, detours and transfers (13_wafer_fabric.md, R316–R326; 15_optical_links.md, R375): the check of a staged route table, the
drain of a detour, and the two ends of a transfer, inside the module and between modules. -/

namespace Sys2Proof.Machine

/-! ### The route check (R316, R317) -/

section
variable {q : Requester} {v : Word} {s : State}

/-- R317: what a served write with COMMIT turns on. -/
def State.routeBusy (s : State) : Bool :=
  (List.range 16).any (fun j => s.jobState j != 0) || s.net.busy || s.rd pFAB FAB_STATUS_CHECK == 1

theorem State.routeBusy_eq_true_iff :
    s.routeBusy = true ↔ (∃ j, j < 16 ∧ s.jobState j ≠ 0) ∨ s.net.busy = true ∨ s.rd pFAB FAB_STATUS_CHECK = 1 := by
  simp only [State.routeBusy, Bool.or_eq_true, List.any_eq_true, List.mem_range, bne_iff_ne, beq_iff_eq, or_assoc]

theorem exec_routeCommit_of_served (h : s.served q (regAddr pFAB 0x100) v = true) :
    exec (.routeCommit q v) s = keep s (if FAB_ROUTE_CTRL_COMMIT.of v = 0 then s
      else if s.routeBusy then s.raiseErr pFAB FAB_ERR_STATUS_ROUTE_BUSY else s.wr pFAB FAB_STATUS_CHECK 1) :=
  congrArg (keep s) (serveWrite_served _ h)

end

section
variable {s : State} {j : Nat}

/-- The fabric's page holds no job's STATE. -/
theorem State.jobState_wr_fab (f : Fld) (v i : Nat) (hf : f.atIx i < 65536) (hj : j < 16) :
    (s.wr pFAB f v i).jobState j = s.jobState j :=
  s.rd_wr_ne pFAB pDOCK f DOCK_JOB_STATE v i j (regAddr_page_ne (by decide) (by simp only [Fld.atIx]; omega) hf)

theorem State.jobState_wrs_fab (l : List (Fld × Nat)) (hl : ∀ x ∈ l, x.1.atIx 0 < 65536) (hj : j < 16) :
    (s.wrs pFAB l).jobState j = s.jobState j := by
  induction l generalizing s with
  | nil => rfl
  | cons x l ih =>
    rw [State.wrs_cons, ih fun y hy => hl y (List.mem_cons_of_mem _ hy)]
    exact State.jobState_wr_fab x.1 x.2 0 (hl x (List.mem_cons_self ..)) hj

theorem jobState_notMem_notifyRegs (hj : j < 16) : regAddr pDOCK (DOCK_JOB_STATE.atIx j) ∉ notifyRegs :=
  notMem_notifyRegs (by decide) (by decide) (by simp only [Fld.atIx]; omega)

theorem State.jobState_raiseErr_fab (f : Fld) (hj : j < 16) : (s.raiseErr pFAB f).jobState j = s.jobState j :=
  s.rd_raiseErr pFAB pDOCK f DOCK_JOB_STATE j (regAddr_page_ne (by decide) (by simp only [Fld.atIx]; omega) (by decide))
    (jobState_notMem_notifyRegs hj)

theorem State.jobState_raiseEvt_fab (f : Fld) (hj : j < 16) : (s.raiseEvt pFAB f).jobState j = s.jobState j :=
  s.rd_raiseEvt pFAB pDOCK f DOCK_JOB_STATE j (regAddr_page_ne (by decide) (by simp only [Fld.atIx]; omega) (by decide))
    (jobState_notMem_notifyRegs hj)

/-- What the verdict on a bank leaves (R316, R317). -/
def State.routeVerdict (s : State) (bank : Nat) : Option (Nat × Nat × Nat) → State
  | none => (s.wrs pFAB [(FAB_STATUS_ACTIVE_BANK, bank), (FAB_STATUS_CHECK, 2), (FAB_ROUTE_RESULT_KIND, 0),
      (FAB_ROUTE_RESULT_SRC, 0), (FAB_ROUTE_RESULT_DST, 0)]).raiseEvt pFAB FAB_EVT_STATUS_ROUTE_COMMITTED
  | some (k, a, d) => (s.wrs pFAB [(FAB_STATUS_CHECK, 3), (FAB_ROUTE_RESULT_KIND, k), (FAB_ROUTE_RESULT_SRC, a),
      (FAB_ROUTE_RESULT_DST, d)]).raiseErr pFAB FAB_ERR_STATUS_ROUTE_CHECK_FAIL

theorem State.jobState_routeVerdict (bank : Nat) (o : Option (Nat × Nat × Nat)) (hj : j < 16) :
    (s.routeVerdict bank o).jobState j = s.jobState j := by
  rcases o with _ | ⟨k, a, d⟩
  · exact (State.jobState_raiseEvt_fab _ hj).trans (State.jobState_wrs_fab _ (by simp [Fld.atIx]) hj)
  · exact (State.jobState_raiseErr_fab _ hj).trans (State.jobState_wrs_fab _ (by simp [Fld.atIx]) hj)

/-- What the end of a check finds: the verdict on the staged bank, its check counted. -/
def State.routeChecked (s : State) : State :=
  (s.bump pFAB FAB_C_ROUTE_CHECKS).routeVerdict (1 - s.rd pFAB FAB_STATUS_ACTIVE_BANK)
    (routeCheck ((s.bump pFAB FAB_C_ROUTE_CHECKS).routeEntry (1 - s.rd pFAB FAB_STATUS_ACTIVE_BANK)))

theorem State.jobState_routeChecked (hj : j < 16) : s.routeChecked.jobState j = s.jobState j := by
  rw [State.routeChecked, State.jobState_routeVerdict _ _ hj, State.bump, State.jobState_wr_fab _ _ _ (by decide) hj]

/-- No job in ADMITTING waits for the check to end, and then the dockets that came behind it go on. -/
theorem exec_routeCheckDone_of_checking (hcheck : s.rd pFAB FAB_STATUS_CHECK = 1) (hjobs : ∀ j, j < 16 → s.jobState j ≠ 1) :
    exec .routeCheckDone s = keepQ s s.routeChecked.admitNext := by
  have hnone : (List.range 16).find? (fun j => s.routeChecked.jobState j == 1) = none := by
    refine List.find?_eq_none.mpr fun j hj => ?_
    have hlt := List.mem_range.mp hj
    rw [State.jobState_routeChecked hlt, beq_iff_eq]
    exact hjobs j hlt
  refine congrArg (keepQ s) ((if_neg (not_not.mpr hcheck)).trans (congrArg State.admitNext ?_))
  -- the verdict is opaque before any match on it is unfolded, so that nothing evaluates the check
  rw [State.routeChecked] at hnone ⊢
  generalize routeCheck _ = o at hnone ⊢
  rcases o with _ | ⟨k, a, d⟩ <;> dsimp only [State.routeVerdict] at hnone ⊢ <;> rw [hnone]

end

/-! ### Transfers inside the module (R323) -/

section
variable {r : RegionIx} {s : State}

theorem exec_xferPost_of_posted {p : Post} (h : s.fab.posts.find? (fun p => p.src == r.val && !p.here) = some p) :
    exec (.xferPost r) s = keep s ((s.setFab { s.fab with
      posts := s.fab.posts.map fun q => if q = p then { p with here := true } else q }).tryMatch r) := by
  simp only [exec, execXferPost, h]

theorem exec_xferAck_of_landed {x : Sending} (h : s.fab.sends.find? (fun x => x.src == r.val && x.landed) = some x) :
    exec (.xferAck r) s = keep s ((s.setFab { s.fab with sends := s.fab.sends.erase x }).finish r x.outId 8) := by
  simp only [exec, execXferAck, h]

end

/-! ### Transfers between modules (R375) -/

section
variable {m : Msg} {slot : Nat} {s u : State}

/-- A transfer message that is taken answers what its row does with it. -/
theorem answers_of_xferTaken {row : Instr} {xtype : Nat} {run : State → Nat → State} (h : XferTaken s m xtype slot)
    (hrow : exec row s = keep s (s.xferIn m xtype run)) (hrun : run s slot = u) : Answers row s u :=
  answers_of_keep (hrow.trans (congrArg (keep s) ((xferIn_taken run h).trans hrun)))

/-- Whether DATA belongs to a RECV, and brings a piece of it that has not landed (R375). -/
def State.dataOf (s : State) (m : Msg) (slot : Nat) (x : Xfer) : Bool :=
  s.xferOf m slot x && x.bytes == leAt m.body 4 4 && x.rect == leAt m.body 8 2 && (rectTiles x.rect).contains (byteAt m.body 10)
    && (xferPieces x.bytes).contains (leAt m.body 12 4, (m.body.drop 24).length)
    && !x.landed.contains (byteAt m.body 10, leAt m.body 12 4, (m.body.drop 24).length)

/-- A RECV with the piece of a DATA landed. -/
def Xfer.land (x : Xfer) (m : Msg) : Xfer :=
  { x with landed := x.landed ++ [(byteAt m.body 10, leAt m.body 12 4, (m.body.drop 24).length)] }

/-- The bytes of DATA in the tile that it names, counted in the context of its RECV. -/
def State.landData (s : State) (m : Msg) (slot : Nat) (x : Xfer) : State :=
  (s.sramWrite x.region (byteAt m.body 10) (x.addr + leAt m.body 12 4) (m.body.drop 24)).ctxBytes slot x.sid (m.body.drop 24).length

/-- What DATA does, by the RECV that it belongs to (R375). -/
def State.dataIn (s : State) (m : Msg) (slot : Nat) : Option Xfer → State
  | none => s.xferOrphan m slot
  | some x => if (x.land m).whole then
      (((s.landData m slot x).setFab { (s.landData m slot x).fab with xrecvs := (s.landData m slot x).fab.xrecvs.erase x }).sendXfer
        x 3 0 0 []).finish x.region x.outId 8
    else (s.landData m slot x).setFab { (s.landData m slot x).fab with
      xrecvs := (s.landData m slot x).fab.xrecvs.map fun z => if z = x then x.land m else z }

/-- R375: DATA lands in the RECV that it belongs to, and is acknowledged once all of it has landed. -/
theorem answers_xferData_of_recv {x : Xfer} (h : XferTaken s m 2 slot) (hrecv : s.fab.xrecvs.find? (s.dataOf m slot) = some x)
    (hland : s.dataIn m slot (some x) = u) : Answers (.xferData m) s u :=
  answers_of_xferTaken h rfl ((congrArg (s.dataIn m slot) hrecv).trans hland)

/-- R375: a message for an end acts on the oldest one that it belongs to, and one for no end is an orphan. -/
theorem answers_of_end {row : Instr} {xtype : Nat} {l : List Xfer} {P : Xfer → Bool} {act : Xfer → State} (h : XferTaken s m xtype slot)
    {run : State → Nat → State} (hrow : exec row s = keep s (s.xferIn m xtype run))
    (hrun : run s slot = (l.find? P).elim (s.xferOrphan m slot) act) :
    (∀ x, l.find? P = some x → Answers row s (act x)) ∧ (l.find? P = none → Answers row s (s.xferOrphan m slot)) :=
  ⟨fun x hx => answers_of_xferTaken h hrow (hrun.trans (by rw [hx]; rfl)),
    fun hnone => answers_of_xferTaken h hrow (hrun.trans (by rw [hnone]; rfl))⟩

theorem exec_xferTimeout_of_open {r : RegionIx} {id : Nat} {x : Xfer}
    (h : (s.fab.xsends ++ s.fab.xrecvs).find? (fun x => x.region == r.val && x.outId == id) = some x) :
    exec (.xferTimeout r id) s = keep s (((s.haltAt x.region false x.ix OPT_ERR_STATUS_XFER_TIMEOUT.lo).raiseErr (portPage x.port)
      OPT_ERR_STATUS_XFER_TIMEOUT).reportOn .program x.region (portPage x.port) OPT_ERR_STATUS_XFER_TIMEOUT (s.jobOf x.region)) := by
  simp only [exec, execXferTimeout, h]

end

/-- Settles O44: a commit by what keeps the table in use, the end of a check by its verdict, and a message of a transfer by the end
that it belongs to. That XFER_POST takes the oldest post under way (log 111) and the code of XFER_TIMEOUT in FAULT_INFO (log 12) are
deduced. -/
theorem fabricAndTransferRowsComplete : Obligations.FabricAndTransferRowsComplete := by
  refine ⟨fun q v s h => ⟨fun hcommit => ?noCommit, fun hcommit hjobs hnet hcheck => ?starts, fun hcommit hbusy => ?busy⟩,
    fun s hcheck hjobs => ?verdict,
    fun n s => ⟨fun hbusy => answers_of_keep (congrArg (keep s) (if_neg hbusy)),
      fun hidle => answers_of_keep (congrArg (keep s) (if_pos hidle))⟩,
    fun r s => answers_of_keep rfl,
    fun r p s hposted => answers_of_keep (exec_xferPost_of_posted hposted),
    fun r x s hlanded => answers_of_keep (exec_xferAck_of_landed hlanded),
    fun m slot s h => answers_of_xferTaken h rfl rfl,
    fun m slot x s h hrecv => ⟨fun hwhole => ?whole, fun hpart => ?part⟩,
    fun m slot s h => answers_of_end h rfl ?ack,
    fun m slot s h => answers_of_end h rfl ?size,
    fun r id x s hopen => answers_of_keep (exec_xferTimeout_of_open hopen)⟩
  case verdict =>
    have hexec := exec_routeCheckDone_of_checking hcheck hjobs
    unfold State.routeChecked at hexec
    dsimp only
    generalize routeCheck _ = o at hexec ⊢
    rcases o with _ | ⟨k, a, d⟩ <;> exact answersMem_of_keepQ hexec
  case noCommit => exact answers_of_keep ((exec_routeCommit_of_served h).trans (congrArg (keep s) (if_pos hcommit)))
  case starts =>
    have hfree : ¬s.routeBusy = true := by
      rw [State.routeBusy_eq_true_iff]
      rintro (⟨j, hj, hstate⟩ | hheld | hchecking)
      · exact hstate (hjobs j hj)
      · exact Bool.false_ne_true (hnet.symm.trans hheld)
      · exact hcheck hchecking
    exact answers_of_keep ((exec_routeCommit_of_served h).trans (congrArg (keep s) ((if_neg hcommit).trans (if_neg hfree))))
  case busy =>
    exact answers_of_keep ((exec_routeCommit_of_served h).trans
      (congrArg (keep s) ((if_neg hcommit).trans (if_pos (State.routeBusy_eq_true_iff.mpr hbusy)))))
  case whole => exact answers_xferData_of_recv h hrecv (if_pos hwhole)
  case part => exact answers_xferData_of_recv h hrecv (if_neg (ne_true_of_eq_false hpart))
  case ack => cases s.fab.xsends.find? _ <;> rfl
  case size => cases s.fab.xrecvs.find? _ <;> rfl

end Sys2Proof.Machine

/-! Faults, injection and stacks (14_fault_containment_and_recovery.md, R327–R358; 16_memory_stacks_and_cellar.md, R388–R391): each
row of the fault unit and of a stack site, by the condition that it turns on. -/

namespace Sys2Proof.Machine

section
variable {s : State}

/-! ### Reports (R327) -/

section
variable {rep : Report}

theorem exec_faultReport_of_waiting (h : s.reports.contains rep = true) :
    exec (.faultReport rep) s = keepQ s (({ s with reports := s.reports.erase rep } : State).takeReport rep) :=
  congrArg (keepQ s) (if_pos h)

theorem exec_faultReport_of_unassigned (h : s.reports.contains rep = false) (hpage : pageAssigned rep.page = false) :
    exec (.faultReport rep) s = keepQ s (s.takeReport rep) :=
  congrArg (keepQ s) ((if_neg (ne_true_of_eq_false h)).trans (if_pos (by rw [hpage]; rfl)))

/-- R327: a report from a block is detected first. -/
theorem exec_faultReport_of_block (h : s.reports.contains rep = false) (hpage : pageAssigned rep.page = true) :
    exec (.faultReport rep) s = keepQ s (if s.onlyCounted rep then s.bump rep.page REG_C_RESIDUE_ERRS else (s.detect rep).takeReport rep) :=
  congrArg (keepQ s) ((if_neg (ne_true_of_eq_false h)).trans (if_neg (by rw [hpage]; exact Bool.false_ne_true)))

end

/-! ### Sentinels and heartbeats (R331, R332) -/

theorem exec_blockHeartbeatMiss_of_region {page : Nat} (hlo : pREG ≤ page) (hhi : page < pREG + 84) :
    exec (.blockHeartbeatMiss page) s = keep s ((s.raiseErr pFLT FLT_ERR_STATUS_HEARTBEAT).reportOn .region (page - pREG) pFLT
      FLT_ERR_STATUS_HEARTBEAT (s.jobOf (page - pREG))) :=
  congrArg (keep s) (if_pos ⟨hlo, hhi⟩)

theorem exec_blockHeartbeatMiss_of_block {page : Nat} (hhi : page < pREG) (hblock : heartPages.contains page = true) :
    exec (.blockHeartbeatMiss page) s = keep s ((s.raiseErr pFLT FLT_ERR_STATUS_HEARTBEAT).reportOn .module 0 pFLT
      FLT_ERR_STATUS_HEARTBEAT) :=
  congrArg (keep s) ((if_neg fun h => Nat.not_le_of_lt hhi h.1).trans (if_pos hblock))

/-! ### Recovery and injection (R339, R356, R358) -/

theorem exec_recoveryResume_of_ready {slot : SlotIx} (hstate : s.jobState slot = 3) (hrec : s.rd pPLC PLC_JOB_RECOVERING slot = 1)
    (hremaps : s.flt.remaps = []) (hreload : slot.val ∉ s.flt.reload) (hgroup : (s.grp slot).accepted = none) :
    exec (.recoveryResume slot) s = keepQ s (s.resumeJob slot) :=
  congrArg (keepQ s) (if_pos ⟨hstate, hrec, hremaps, hreload, hgroup⟩)

/-- What an expert write of INJECT does: nothing without its CONFIRM, or for a kind or a target that there is not (R358). -/
def State.faultInjected (s : State) (v : Word) : State :=
  if FLT_INJECT_CONFIRM.of v ≠ 0x5A3C then s
  else (s.injected (FLT_INJECT_KIND.of v) (FLT_INJECT_TARGET.of v)).elim s (s.bump pFLT FLT_C_INJECTIONS).takeReport

theorem exec_fltInject_of_served {q : Requester} {v : Word} (h : s.served q (regAddr pFLT 0x800) v = true) :
    exec (.fltInject q v) s = keepQ s (s.faultInjected v) := by
  refine congrArg (keepQ s) ((serveWrite_served _ h).trans ?_)
  unfold State.faultInjected
  cases s.injected (FLT_INJECT_KIND.of v) (FLT_INJECT_TARGET.of v) <;> rfl

theorem exec_forceDisable_of_served {q : Requester} {v : Word} (h : s.served q (regAddr pFLT 0x808) v = true) :
    exec (.forceDisable q v) s = keep s (if FLT_FORCE_DISABLE_CONFIRM.of v = 0x5A3C then
      s.forceDisable (FLT_FORCE_DISABLE_PAGE.of v) else s) :=
  congrArg (keep s) (serveWrite_served _ h)

/-! ### Stack sites (R388–R391) -/

section
variable {site : SiteIx}

/-- What the scrub of a line counts (R388). -/
def State.scrubbed (s : State) (site line : Nat) : MemErr → State
  | .ok => s
  | .ce => s.bump (memPage site) MEM_C_SCRUB_CE
  | .ue => (s.bump (memPage site) MEM_C_SCRUB_UE).lineLost site line

theorem exec_stackScrubTick_of_scrubbing {line : Nat} (found : MemErr) (hen : s.rd (memPage site) MEM_CTRL_SCRUB_EN ≠ 0)
    (hstate : s.rd (memPage site) MEM_STATUS_STATE < 2) (hline : line < 1000000000) :
    exec (.stackScrubTick site line found) s = keep s (if line = 999999999 then
      ((s.scrubbed site line found).bump (memPage site) MEM_C_SCRUB_PASSES).raiseEvt (memPage site) MEM_EVT_STATUS_SCRUB_PASS
      else s.scrubbed site line found) := by
  have hscrubs : ¬(s.rd (memPage site) MEM_CTRL_SCRUB_EN = 0 ∨ 2 ≤ s.rd (memPage site) MEM_STATUS_STATE ∨ 1000000000 ≤ line) := by
    omega
  refine congrArg (keep s) ((if_neg hscrubs).trans ?_)
  cases found <;> rfl

theorem answers_scrub {line : Nat} (found : MemErr) (hen : s.rd (memPage site) MEM_CTRL_SCRUB_EN ≠ 0)
    (hstate : s.rd (memPage site) MEM_STATUS_STATE < 2) (hline : line < 999999999) :
    Answers (.stackScrubTick site line found) s (s.scrubbed site line found) :=
  answers_of_keep ((exec_stackScrubTick_of_scrubbing found hen hstate (by omega)).trans (congrArg (keep s) (if_neg (by omega))))

/-- What stands of the site's remap is forgotten. -/
def State.remapEnds (s : State) (i : Nat) : State := { s with flt := { s.flt with remaps := s.flt.remaps.filter fun x => x.1 != i } }

/-- The end of the remap of site `i`, which held slot `k`: by the spare site, or with fewer stacks (R390, R391). -/
def State.remapDone (s : State) (i k : Nat) : Option Nat → State
  | some j => (((((s.remapEnds i).wrs (memPage j) [(MEM_STATUS_STATE, 0), (MEM_STATUS_SLOT, k)]).zeroSlot (s.rd pMEM MEM_MAP_N)
      k).writeMap (s.rd pMEM MEM_MAP_N)).raiseEvt (memPage j) MEM_EVT_STATUS_REMAPPED).recacheAll
  | none => (((s.remapEnds i).shrinkStacks i).raiseEvt (memPage ((s.remapEnds i).shrinkStacks i).lowestSite)
      MEM_EVT_STATUS_REMAPPED).recacheAll

theorem exec_stackRemapDone_of_lost {i k : Nat} (h : s.flt.remaps.find? (fun x => x.1 == site.val) = some (i, k)) :
    exec (.stackRemapDone site) s
      = keepQ s (s.remapDone i k ((List.range 26).find? fun i => s.rd (memPage i) MEM_STATUS_STATE == 1)) := by
  simp only [exec, execStackRemapDone, h]
  refine congrArg (keepQ s) ?_
  -- the search for a spare site does not read the remaps
  change (match (List.range 26).find? (fun i => s.rd (memPage i) MEM_STATUS_STATE == 1) with | some j => _ | none => _) = _
  cases (List.range 26).find? (fun i => s.rd (memPage i) MEM_STATUS_STATE == 1) <;> rfl

end

end

/-- Settles O47: each row of the fault unit and of the stacks by the condition that it turns on. That a lost presence is reported
on the bit MODULE_FAULT (log 47, deduced) and that reports wait in a queue (log 56) are the model's choice. -/
theorem faultAndStackRowsComplete : Obligations.FaultAndStackRowsComplete := by
  refine ⟨fun rep s => ⟨fun hwaits => answersMem_of_keepQ (exec_faultReport_of_waiting hwaits),
      fun hnone hpage => answersMem_of_keepQ (exec_faultReport_of_unassigned hnone hpage),
      fun hnone hpage hfull => ?detected, fun hnone hpage hcounted => ?counted⟩,
    fun r wrong s => ⟨fun hoff => answers_of_keep (congrArg (keep s) (if_pos hoff)),
      fun hactive => answers_of_keep (congrArg (keep s) (if_neg (not_not.mpr hactive)))⟩,
    fun page s hlo hhi => answers_of_keep (exec_blockHeartbeatMiss_of_region hlo hhi),
    fun page s hhi hblock => answers_of_keep (exec_blockHeartbeatMiss_of_block hhi hblock),
    fun slot s hstate hrec hremaps hreload hgroup => ?resumes,
    fun s => answers_of_keep rfl,
    fun q v s h => ⟨fun hconfirm => ?unconfirmed, fun hconfirm rep hrep => ?injected⟩,
    fun q v s h => ⟨fun hconfirm => ?disabled, fun hconfirm => ?kept⟩,
    fun s => answersMem_of_keepQ rfl,
    fun s hheld => ?presence,
    fun site line s hen hstate => ⟨fun hline => ⟨answers_scrub .ok hen hstate hline, answers_scrub .ce hen hstate hline,
      answers_scrub .ue hen hstate hline⟩, fun hlast => ?pass⟩,
    fun site cause s hcause hstate => answers_of_keep (congrArg (keep s) (if_neg (by omega))),
    fun site cause s hstate => answers_of_keep (congrArg (keep s) (if_pos (Or.inr hstate))),
    fun site i k s hlost => ⟨fun j hspare => ?spare, fun hnone => ?fewer⟩⟩
  case detected =>
    exact answersMem_of_keepQ ((exec_faultReport_of_block hnone hpage).trans (congrArg (keepQ s) (if_neg (ne_true_of_eq_false hfull))))
  case counted => exact answersMem_of_keepQ ((exec_faultReport_of_block hnone hpage).trans (congrArg (keepQ s) (if_pos hcounted)))
  case resumes =>
    exact answersMem_of_keepQ (exec_recoveryResume_of_ready hstate hrec hremaps (by simpa using hreload) hgroup)
  case unconfirmed => exact answersMem_of_keepQ ((exec_fltInject_of_served h).trans (congrArg (keepQ s) (if_pos hconfirm)))
  case injected =>
    refine answersMem_of_keepQ ((exec_fltInject_of_served h).trans (congrArg (keepQ s) ((if_neg (not_not.mpr hconfirm)).trans ?_)))
    rw [hrep]
    rfl
  case disabled => exact answers_of_keep ((exec_forceDisable_of_served h).trans (congrArg (keep s) (if_pos hconfirm)))
  case kept => exact answers_of_keep ((exec_forceDisable_of_served h).trans (congrArg (keep s) (if_neg hconfirm)))
  case presence => exact answers_of_keep (congrArg (keep s) (if_neg (ne_true_of_eq_false hheld)))
  case pass =>
    exact answers_of_keep ((exec_stackScrubTick_of_scrubbing .ok hen hstate (by omega)).trans (congrArg (keep s) (if_pos hlast)))
  case spare => exact answersMem_of_keepQ ((exec_stackRemapDone_of_lost hlost).trans (by rw [hspare]; rfl))
  case fewer => exact answersMem_of_keepQ ((exec_stackRemapDone_of_lost hlost).trans (by rw [hnone]; rfl))

end Sys2Proof.Machine

/-! Optical engines, ports and flits (15_optical_links.md, R359–R372; 19_boot_and_bringup.md, R454): each row by the state of the
engine or the port that it turns on. -/

namespace Sys2Proof.Machine

section
variable {s : State}

/-! ### Engines (R360) -/

section
variable {q : Requester} {e : EngineIx} {v : Word}

/-- A field of OPT.CFG after a write: 3 leaves it (R360). -/
def cfgField (new old : Nat) : Nat := if new = 3 then old else new

/-- R360: what a served write of OPT.CFG does. -/
theorem exec_engineCfg_of_served (h : s.served q (regAddr (pOPT + e) 0x100) v = true) :
    exec (.engineCfg q e v) s = keepQ s (if s.engineHeld e || s.engineSoak e then s.raiseErr (pOPT + e) OPT_ERR_STATUS_CFG_BUSY
      else if (cfgField (OPT_CFG_ROLE.of v) (s.rd (pOPT + e) OPT_CFG_ROLE), cfgField (OPT_CFG_SPLIT.of v) (s.rd (pOPT + e) OPT_CFG_SPLIT))
        == (s.rd (pOPT + e) OPT_CFG_ROLE, s.rd (pOPT + e) OPT_CFG_SPLIT) then s
      else s.reconfigure e (cfgField (OPT_CFG_ROLE.of v) (s.rd (pOPT + e) OPT_CFG_ROLE))
        (cfgField (OPT_CFG_SPLIT.of v) (s.rd (pOPT + e) OPT_CFG_SPLIT))) :=
  congrArg (keepQ s) (serveWrite_served _ h)

end

/-! ### IDENT (R372) -/

section
variable {m : Msg}

/-- R372: an IDENT of a port that trains or is up. -/
theorem exec_ident_of_trained (hexists : s.portExists m.port = true) (hready : (s.link m.port).ready = true)
    (hform : Msg.wellFormed m = true) (hcls : m.cls = 7) (hstate : s.lstate m.port = 2 ∨ s.lstate m.port = 3) :
    exec (.ident m) s = keepQ s (if !s.identOk m.port m.body then
        (s.raiseErr (portPage m.port) OPT_ERR_STATUS_IDENT_MISMATCH).portFail m.port
      else if (s.recordIdent m.port m.body).lstate m.port = 2 then (s.recordIdent m.port m.body).portBecomesUp m.port
      else (s.recordIdent m.port m.body).flushUnrouted) := by
  have hserves : ¬(!(s.portExists m.port) || !(s.link m.port).ready || (s.lstate m.port != 2 && s.lstate m.port != 3)) = true := by
    rw [hexists, hready]
    rcases hstate with h | h <;> rw [h] <;> decide
  have hwell : ¬(!Msg.wellFormed m) = true := by rw [hform]; exact Bool.false_ne_true
  exact congrArg (keepQ s) ((if_neg hserves).trans ((if_neg hwell).trans (if_neg (not_not.mpr hcls))))

end

/-! ### Ports (R363, R364, R369) -/

section
variable {port : PortIx}

theorem exec_trainRetry_of_waiting {light : Bool} (h : s.lstate port = 1 ∨ (s.lstate port = 2 ∧ light = false)) :
    exec (.trainRetry port light) s = keep s (s.trainPort port) :=
  congrArg (keep s) (if_pos h)

theorem exec_linkDown_of_up {lanes : Nat} (h : s.portUp port = true) :
    exec (.linkDown port lanes) s = keepQ s (if 2 ≤ lanes then s.portDown port 1 else s) := by
  refine congrArg (keepQ s) ?_
  by_cases hlanes : 2 ≤ lanes
  · exact (if_pos ⟨h, hlanes⟩).trans (if_pos hlanes).symm
  · exact (if_neg fun hboth => hlanes hboth.2).trans (if_neg hlanes).symm

end

section
variable {q : Requester} {e : EngineIx} {k : Fin 4} {v : Word}

/-- What a write of PORT_CFG does to a port that no job holds: `t` is the state with the write made (R369). -/
def State.portCfg (s t : State) (e k : Nat) : State :=
  if t.rd (pOPT + e) OPT_PORT_CFG_EN k = 0 then (if t.lstate (4 * e + k) = 0 then t else t.portDown (4 * e + k) 0)
  else if s.rd (pOPT + e) OPT_PORT_CFG_EN k = 0 then
    let u := (t.setLink (4 * e + k) { t.link (4 * e + k) with faulty := [] }).wr (pOPT + e) OPT_PORT_FAULTY_COUNT 0 k
    if u.portExists (4 * e + k) then u.setLstate (4 * e + k) 1 else u
  else t

theorem exec_portEnable_of_served (h : s.served q (regAddr (pOPT + e) (0x130 + 8 * k)) v = true) :
    exec (.portEnable q e k v) s = keepQ s (if (s.portSlot (4 * e.val + k.val)).isSome then s.raiseErr (pOPT + e) OPT_ERR_STATUS_CFG_BUSY
      else s.portCfg (s.plainWrite (regAddr (pOPT + e) (0x130 + 8 * k)) v) e k) :=
  congrArg (keepQ s) (serveWrite_served _ h)

/-- R369: a write to a port that no job holds. -/
theorem exec_portEnable_of_free (h : s.served q (regAddr (pOPT + e) (0x130 + 8 * k)) v = true)
    (hfree : s.portSlot (4 * e.val + k.val) = none) :
    exec (.portEnable q e k v) s = keepQ s (s.portCfg (s.plainWrite (regAddr (pOPT + e) (0x130 + 8 * k)) v) e k) :=
  (exec_portEnable_of_served h).trans (congrArg (keepQ s) (if_neg (by rw [hfree]; exact Bool.false_ne_true)))

end

/-! ### Flits (R365, R367) -/

section
variable {port : PortIx} {flit : List Byte}

theorem exec_dataFlit_of_idle (h : (s.link port).ready = false) : exec (.dataFlit port flit) s = keepQ s s :=
  congrArg (keepQ s) (if_pos (by rw [h]; rfl))

/-- A flit of another length, or whose CRC fails, is only counted. -/
theorem exec_dataFlit_of_bad (hready : (s.link port).ready = true) (hexists : s.portExists port = true)
    (hbad : flit.length ≠ 256 ∨ leAt flit 252 4 ≠ (crc32 (flit.take 252)).toNat) :
    exec (.dataFlit port flit) s = keepQ s (s.bump (portPage port) OPT_C_CRC_ERRS) :=
  congrArg (keepQ s) ((if_neg (by rw [hready, hexists]; exact Bool.false_ne_true)).trans (if_pos hbad))

/-- What any whole flit gives: its acknowledgement and its credits. -/
def State.flitTaken (s : State) (p : Nat) (flit : List Byte) : State :=
  ((s.takeAck p (leAt flit 2 2)).setLink p { (s.takeAck p (leAt flit 2 2)).link p with
    credits := ((s.takeAck p (leAt flit 2 2)).link p).credits.modify (byteAt flit 4 / 32) fun c => c + leAt flit 5 2 % 4096 }).pumpPort p

/-- What a flit does past its acknowledgement and its credits, by its type. -/
def State.flitActs (u : State) (p : Nat) (flit : List Byte) : Nat → State
  | 1 => u.takeDataFlit p (leAt flit 0 2) (bit (byteAt flit 4) 4) ((flit.drop 8).take 244)
  | 2 => u.resend p
  | _ => u

theorem exec_dataFlit_of_whole (hready : (s.link port).ready = true) (hexists : s.portExists port = true)
    (hlen : flit.length = 256) (hcrc : leAt flit 252 4 = (crc32 (flit.take 252)).toNat) (htype : byteAt flit 4 % 16 < 4) :
    exec (.dataFlit port flit) s = keepQ s ((s.flitTaken port flit).flitActs port flit (byteAt flit 4 % 16)) := by
  have hwhole : ¬(flit.length ≠ 256 ∨ leAt flit 252 4 ≠ (crc32 (flit.take 252)).toNat) :=
    fun h => h.elim (fun h => h hlen) fun h => h hcrc
  refine congrArg (keepQ s) ((if_neg (by rw [hready, hexists]; exact Bool.false_ne_true)).trans
    ((if_neg hwhole).trans ((if_neg (Nat.not_le_of_lt htype)).trans ?_)))
  unfold State.flitActs
  rfl

/-- A whole flit of type `k` answers what its type does. -/
theorem answersMem_dataFlit {k : Nat} {t : State} (hready : (s.link port).ready = true) (hexists : s.portExists port = true)
    (hlen : flit.length = 256) (hcrc : leAt flit 252 4 = (crc32 (flit.take 252)).toNat) (hk : k < 4)
    (htype : byteAt flit 4 % 16 = k) (ht : (s.flitTaken port flit).flitActs port flit k = t) :
    AnswersMem (.dataFlit port flit) s t :=
  answersMem_of_keepQ ((exec_dataFlit_of_whole hready hexists hlen hcrc (htype.trans_lt hk)).trans (by rw [htype, ht]))

theorem exec_sinkTimeout_of_starved {m : QMsg} (hup : s.portUp port = true) (hm : m ∈ (s.link port).queue)
    (hcredits : (s.link port).credits.getD m.cls 0 < msgFlits m.body.length) :
    exec (.sinkTimeout port) s = keepQ s ((s.raiseErr (portPage port) OPT_ERR_STATUS_SINK_TIMEOUT).portFail port) :=
  congrArg (keepQ s) (if_pos ⟨hup, List.any_eq_true.mpr ⟨m, hm, decide_eq_true hcredits⟩⟩)

end

end

/-- Settles O48: an engine's and a port's rows by their state. That an IDENT of a wrong type or length counts as one that does not
agree is deduced (log 116). -/
theorem engineAndPortRowsComplete : Obligations.EngineAndPortRowsComplete := by
  refine ⟨fun e s => ⟨answers_of_keep rfl, answers_of_keep rfl, answers_of_keep rfl⟩,
    fun q e v s h => ⟨fun hbusy => ?busy, fun hheld hsoak hrole hsplit => ?same, fun hheld hsoak hchange => ?changed⟩,
    fun port light s hwaits => answers_of_keep (exec_trainRetry_of_waiting hwaits),
    fun port credits s hstate hexists => answers_of_keep (congrArg (keep s) (if_pos ⟨hstate, hexists⟩)),
    fun m s hexists hready hform hcls => ⟨fun hstate hok => ⟨fun htraining => ?becomesUp, fun hup => ?identAgain⟩,
      fun hstate hbad => ?mismatch⟩,
    fun port lanes s hup => ⟨fun hlanes => ?down, fun hlanes => ?stays, answersMem_of_keepQ (congrArg (keepQ s) (if_pos hup))⟩,
    fun port s hstate => answers_of_keep (congrArg (keep s) (if_pos hstate)),
    fun q e k v s h => ⟨fun hheld => ?held, fun hfree hoff hstate => ?disabled, fun hfree hon hwas =>
      ⟨fun hexists => ?trains, fun hmissing => ?enabled⟩⟩⟩
  case busy =>
    exact answersMem_of_keepQ ((exec_engineCfg_of_served h).trans (congrArg (keepQ s) (if_pos (Bool.or_eq_true_iff.mpr hbusy))))
  case same =>
    refine answersMem_of_keepQ ((exec_engineCfg_of_served h).trans (congrArg (keepQ s) ((if_neg ?_).trans (if_pos ?_))))
    · rw [hheld, hsoak]; exact Bool.false_ne_true
    · exact beq_iff_eq.mpr (Prod.ext hrole hsplit)
  case changed =>
    refine answersMem_of_keepQ ((exec_engineCfg_of_served h).trans (congrArg (keepQ s) ((if_neg ?_).trans (if_neg ?_))))
    · rw [hheld, hsoak]; exact Bool.false_ne_true
    · intro hsame
      obtain ⟨hrole, hsplit⟩ := Prod.ext_iff.mp (beq_iff_eq.mp hsame)
      exact hchange.elim (fun h => h hrole) fun h => h hsplit
  case becomesUp =>
    exact answersMem_of_keepQ ((exec_ident_of_trained hexists hready hform hcls hstate).trans
      (congrArg (keepQ s) ((if_neg (by rw [hok]; exact Bool.false_ne_true)).trans (if_pos htraining))))
  case identAgain =>
    exact answersMem_of_keepQ ((exec_ident_of_trained hexists hready hform hcls hstate).trans
      (congrArg (keepQ s) ((if_neg (by rw [hok]; exact Bool.false_ne_true)).trans (if_neg hup))))
  case mismatch =>
    exact answersMem_of_keepQ ((exec_ident_of_trained hexists hready hform hcls hstate).trans
      (congrArg (keepQ s) (if_pos (by rw [hbad]; rfl))))
  case down => exact answersMem_of_keepQ ((exec_linkDown_of_up hup).trans (congrArg (keepQ s) (if_pos hlanes)))
  case stays => exact answersMem_of_keepQ ((exec_linkDown_of_up hup).trans (congrArg (keepQ s) (if_neg (by omega))))
  case held => exact answersMem_of_keepQ ((exec_portEnable_of_served h).trans (congrArg (keepQ s) (if_pos hheld)))
  case disabled =>
    exact answersMem_of_keepQ ((exec_portEnable_of_free h hfree).trans (congrArg (keepQ s) ((if_pos hoff).trans (if_neg hstate))))
  case trains =>
    exact answersMem_of_keepQ ((exec_portEnable_of_free h hfree).trans
      (congrArg (keepQ s) ((if_neg hon).trans ((if_pos hwas).trans (if_pos hexists)))))
  case enabled =>
    exact answersMem_of_keepQ ((exec_portEnable_of_free h hfree).trans
      (congrArg (keepQ s) ((if_neg hon).trans ((if_pos hwas).trans (if_neg (ne_true_of_eq_false hmissing))))))

/-- Settles O49: a flit by its form and its type. What stands behind its DATA and its resend is deduced: the
sequence number after a flit beyond the credits (log 43), when credits go back (log 117), what a resend sends (log 118). -/
theorem flitRowsComplete : Obligations.FlitRowsComplete := by
  refine ⟨fun port flit s hready hexists =>
      ⟨fun hlen => answersMem_of_keepQ (exec_dataFlit_of_bad hready hexists (.inl hlen)),
        fun hcrc => answersMem_of_keepQ (exec_dataFlit_of_bad hready hexists (.inr hcrc)),
        fun hlen hcrc => ⟨fun htype => answersMem_dataFlit hready hexists hlen hcrc (by omega) htype rfl,
          fun htype => answersMem_dataFlit hready hexists hlen hcrc (by omega) htype rfl,
          fun htype => answersMem_dataFlit hready hexists hlen hcrc (by omega) htype rfl⟩⟩,
    fun port flit s hidle => answersMem_of_keepQ (exec_dataFlit_of_idle hidle),
    fun port ack s hready => ⟨answersMem_of_keepQ (congrArg (keepQ s) (if_pos hready)),
      answersMem_of_keepQ (congrArg (keepQ s) (if_pos hready))⟩,
    fun port m s hup hm hcredits => answersMem_of_keepQ (exec_sinkTimeout_of_starved hup hm hcredits)⟩

end Sys2Proof.Machine

/-! Lanes and their tests (15_optical_links.md, R376, R377): a bad lane, the moves that partners agree on, and the tests of BERT_CMD. -/

namespace Sys2Proof.Machine

section
variable {s : State}

/-! ### Bad lanes (R376) -/

/-- R376: what a lane in use, outside a move of its own, meets when it is bad. -/
theorem State.badLane_of_used {e l : Nat} (hfenced : s.engineFenced e = false) (hstate : s.rxState e l = 0)
    (hmove : (s.eng e).lmaps.any (fun x => x.1 == l) = false) :
    s.badLane e l = (s.rxSpare e).elim (s.failEngine e OPT_ERR_STATUS_LANES_EXHAUSTED) (s.askMove e l) := by
  have hused : ¬(s.engineFenced e || s.rxState e l != 0 || (s.eng e).lmaps.any (fun x => x.1 == l)) = true := by
    rw [hfenced, hstate, hmove]
    decide
  refine (if_neg hused).trans ?_
  cases s.rxSpare e <;> rfl

theorem exec_serCheck (e : EngineIx) (lane : Fin 18) (n k : Nat) :
    exec (.serCheck e lane n k) s
      = keep s (if s.rd (pOPT + e) OPT_LIMITS_SER_LIMIT * k < n * 1000000000 then s.badLane e lane else s) := rfl

/-! ### Moves that partners agree on (R376) -/

section
variable {e : EngineIx} {a b : Fin 18}

theorem exec_lmap_of_free {p : Nat} (hfenced : s.engineFenced e = false) (hfrom : s.txState e a = 0)
    (hto : s.txState e b = 1 ∨ s.txState e b = 3)
    (hport : (s.moveTx e a b).lanePort e ((s.moveTx e a b).rd (pOPT + e) OPT_LANE_TX_LOGICAL b) = some p) :
    exec (.lmap e a b) s = keep s ((s.moveTx e a b).emit (.ctl p 5 a b)) := by
  refine congrArg (keep s) ((if_neg (ne_true_of_eq_false hfenced)).trans ((if_pos ⟨hfrom, hto⟩).trans ?_))
  dsimp only
  rw [hport]

theorem exec_lmapAck_of_asked {x : Nat × Nat} (h : (s.eng e).lmaps.find? (fun x =>
      s.rd (pOPT + e) OPT_LANE_RX_FROM x.1 == a.val && s.rd (pOPT + e) OPT_LANE_RX_FROM x.2 == b.val) = some x) :
    exec (.lmapAck e a b) s = keep s ((s.setEng e { s.eng e with lmaps := (s.eng e).lmaps.erase x }).moveRx e x.1 x.2) := by
  simp only [exec, execLmapAck, h]

theorem exec_lmapTimeout : exec (.lmapTimeout e) s = keepQ s ((s.eng e).lmaps.foldl (fun s x =>
    match s.lanePort e (s.rd (pOPT + e) OPT_LANE_RX_LOGICAL x.1) with
    | some p => if (s.moveRx e x.1 x.2).portUp p then (s.moveRx e x.1 x.2).portDown p 1 else s.moveRx e x.1 x.2
    | none => s.moveRx e x.1 x.2) (s.setEng e { s.eng e with lmaps := [] })) := rfl

end

/-! ### Tests (R377) -/

section
variable {e : EngineIx}

/-- What BERT_CMD asks for (R377). -/
def State.bertAsks (s : State) (e : Nat) : Nat → State
  | 1 => s.startSoak e
  | 2 => s.nextTest e
  | 3 => s.abortTest e
  | _ => s

theorem State.bertCmd_of_served {q : Requester} {v : Word} {k : Nat} {t : State} (h : s.served q (regAddr (pOPT + e) 0x120) v = true)
    (hcmd : OPT_BERT_CMD_CMD.of v = k) (ht : s.bertAsks e k = t) : State.bertCmd q e v s = t := by
  subst hcmd ht
  refine (serveWrite_served _ h).trans ?_
  unfold State.bertAsks
  rfl

/-- What the end of a test does, by the test that runs (R377). -/
def State.bertEnds (s : State) (e : Nat) (errs : List Nat) : Option (Bool × Nat × Option Nat) → State
  | none => s
  | some (true, _, _) =>
    let n := s.testBits e true
    let s := if errs.isEmpty then s
      else (errs.take 18).zipIdx.foldl (fun (s : State) (x : Nat × Nat) => s.recordTest e x.2 n x.1) (s.bump (pOPT + e) OPT_C_BERT_RUNS)
    let bad := (((errs.take 18).zipIdx.filter fun (x : Nat × Nat) => s.berFails e n x.1).map (·.2))
    ((bad.foldl (fun s l => s.soakOut e l) ((List.range 18).foldl (fun s l => (s.restRx e l).restTx e l) s)).leaveSoak e).raiseEvt
      (pOPT + e) OPT_EVT_STATUS_BERT_DONE
  | some (false, l, spare) => match errs with
    | [] => (s.endTest e l spare false false).bump (pOPT + e) OPT_C_BERT_SKIPPED
    | n :: _ =>
      let out := bit (s.rd (pOPT + e) OPT_LANE_OUT_RX) l
      let fail := s.berFails e (s.testBits e false) n
      (((s.recordTest e l (s.testBits e false) n).bump (pOPT + e) OPT_C_BERT_RUNS).endTest e l spare (fail && !out)
        (out && !fail && s.rd (pOPT + e) OPT_LINK_EXPERT_AUTO_RETURN == 1)).raiseEvt (pOPT + e) OPT_EVT_STATUS_BERT_DONE

theorem exec_bertEnd (errs : List Nat) : exec (.bertEnd e errs) s = keep s (s.bertEnds e errs (s.eng e).test) := by
  refine congrArg (keep s) ?_
  unfold State.bertEnds
  rfl

/-- The end of test `x` answers what it does. -/
theorem answers_bertEnd {errs : List Nat} {x : Option (Bool × Nat × Option Nat)} {t : State} (hx : (s.eng e).test = x)
    (ht : s.bertEnds e errs x = t) : Answers (.bertEnd e errs) s t :=
  answers_of_keep ((exec_bertEnd errs).trans (by rw [hx, ht]))

end

end

/-- Settles O50: lanes and tests by the state of the lane and the test that runs. That LMAP_ACK is matched through LANE.RX_FROM (log 42)
and the corners of the tests (log 119) are deduced. -/
theorem laneRowsComplete : Obligations.LaneRowsComplete := by
  refine ⟨fun e lane n k s => ⟨fun hover => answers_of_keep ((exec_serCheck e lane n k).trans (congrArg (keep s) (if_pos hover))),
      fun hwithin => answers_of_keep ((exec_serCheck e lane n k).trans (congrArg (keep s) (if_neg (Nat.not_lt_of_le hwithin)))),
      answers_of_keep rfl⟩,
    fun e l s hfenced hstate hmove => ⟨fun b hspare => ?moves, fun hnone => ?exhausted⟩,
    fun e a b p s hfenced hfrom hto hport => answers_of_keep (exec_lmap_of_free hfenced hfrom hto hport),
    fun e a b x s hasked => answers_of_keep (exec_lmapAck_of_asked hasked),
    fun e s => answersMem_of_keepQ exec_lmapTimeout,
    fun q e v s h => answersMem_of_keepQ (congrArg (keepQ s) (serveWrite_served _ h)),
    fun q e v s h => ⟨fun hcmd => answersMem_of_keepQ (congrArg (keepQ s) (State.bertCmd_of_served h hcmd rfl)),
      fun hcmd => answersMem_of_keepQ (congrArg (keepQ s) (State.bertCmd_of_served h hcmd rfl)),
      fun hcmd => answersMem_of_keepQ (congrArg (keepQ s) (State.bertCmd_of_served h hcmd rfl)),
      fun hcmd => answersMem_of_keepQ (congrArg (keepQ s) (State.bertCmd_of_served h hcmd rfl))⟩,
    fun e s => ⟨fun hset => answers_of_keep (congrArg (keep s) (if_neg hset)),
      fun hunset => answers_of_keep (congrArg (keep s) (if_pos hunset))⟩,
    fun e lane s hfenced htest => ?starts,
    fun e l sp s htest => ⟨answers_bertEnd htest rfl, fun n hout => answers_bertEnd htest ?recorded⟩,
    fun e x l errs sp s htest => answers_bertEnd htest rfl,
    fun e errs s htest => answers_bertEnd htest rfl⟩
  case moves => rw [State.badLane_of_used hfenced hstate hmove, hspare]; rfl
  case exhausted => rw [State.badLane_of_used hfenced hstate hmove, hnone]; rfl
  case starts =>
    exact answers_of_keep (congrArg (keep s) (if_neg (by rw [hfenced, htest]; exact Bool.false_ne_true)))
  case recorded =>
    dsimp only [State.bertEnds]
    rw [hout, Bool.not_false, Bool.and_true, Bool.false_and, Bool.false_and]

end Sys2Proof.Machine

/-! Power, clocks, temperature and telemetry (17_power_thermal_clocks.md, R399–R430; 20_pins_electrical_mechanical.md, R473). -/

namespace Sys2Proof.Machine

section
variable {s : State}

/-! ### Power (R407–R412, R473) -/

theorem exec_droop_of_low {r : RegionIx} {mv : Nat} (hrun : s.zoneMode r = 2)
    (hlow : (2 * mv : Int) < 800 + 5 * s.vMinAt r (s.rd (regPage r) REG_PT_STATUS_K_RUN)) (hnew : r.val ∉ s.power.droop) :
    exec (.droop r mv) s
      = keep s ((s.setPower { s.power with droop := r.val :: s.power.droop }).bump (regPage r) REG_C_DROOP_EVENTS) :=
  congrArg (keep s) (if_pos ⟨hrun, decide_eq_true hlow, hnew⟩)

section
variable (total core : Nat)

/-- A sample's average and energy touch no more than registers of PWR, past the state that keeps them. -/
theorem State.totalSample_power : (s.totalSample total core).power.totals = (total :: s.power.totals).take 10 := by
  unfold State.totalSample
  dsimp only
  split <;> rfl

/-- A field of PWR.MEAS, which the energy counter leaves as it was. -/
theorem State.rd_totalSample {f : Fld} (henergy : f.atIx 0 ≠ PWR_ENERGY_J.atIx 0) :
    (s.totalSample total core).rd pPWR f = (s.wrs pPWR [(PWR_MEAS_TOTAL_W, total / 10), (PWR_MEAS_CORE_W, core / 10),
      (PWR_MEAS_AVG100_W, ((total :: s.power.totals).take 10).sum / (10 * ((total :: s.power.totals).take 10).length))]).rd pPWR f := by
  unfold State.totalSample
  dsimp only
  split
  · rfl
  · exact State.rd_bump_ne _ _ _ _ _ _ _ (regAddr_off_ne henergy)

theorem State.rd_totalSample_total : (s.totalSample total core).rd pPWR PWR_MEAS_TOTAL_W = total / 10 % 2 ^ 16 := by
  rw [State.rd_totalSample total core (by decide), State.wrs_cons, State.wrs_cons, State.wrs_cons, State.wrs_nil,
    State.rd_wr_other _ _ _ _ _ _ _ _ (by decide) (by decide) (fun _ => by decide),
    State.rd_wr_other _ _ _ _ _ _ _ _ (by decide) (by decide) (fun _ => by decide), State.rd_wr_same _ _ _ _ _ (by decide) (by decide)]
  rfl

theorem State.rd_totalSample_core : (s.totalSample total core).rd pPWR PWR_MEAS_CORE_W = core / 10 % 2 ^ 16 := by
  rw [State.rd_totalSample total core (by decide), State.wrs_cons, State.wrs_cons, State.wrs_cons, State.wrs_nil,
    State.rd_wr_other _ _ _ _ _ _ _ _ (by decide) (by decide) (fun _ => by decide), State.rd_wr_same _ _ _ _ _ (by decide) (by decide)]
  rfl

end

theorem exec_capWrite_of_served {q : Requester} {v : Word} (h : s.served q (regAddr pPWR 0x100) v = true) :
    exec (.capWrite q v) s = keep s (if PWR_CAP_CAP_DW.of v = 0 ∨ (500 ≤ PWR_CAP_CAP_DW.of v ∧ PWR_CAP_CAP_DW.of v ≤ 6000) then
      (s.wr pPWR PWR_CAP_CAP_DW (PWR_CAP_CAP_DW.of v)).setPower { s.power with capNew := true } else s) :=
  congrArg (keep s) (serveWrite_served _ h)

/-- R473: a low of the alert pin that the filter lets through. -/
theorem exec_alertAssert_of_high {ns : Nat} (hns : 100 ≤ ns) (hlow : s.power.alertLow = false) (hheld : s.heldReset = false) :
    exec (.alertAssert ns) s = keep s (if 200 ≤ ns then s.alertActs
      else if bit (Config.freeWord s.free).toNat 0 then ({ s with free := s.free + 1 } : State).alertActs
      else { s with free := s.free + 1 }) := by
  have hpasses : ¬(decide (ns < 100) || s.power.alertLow || s.heldReset) = true := by
    rw [hlow, hheld, decide_eq_false (Nat.not_lt_of_le hns)]
    decide
  exact congrArg (keep s) (if_neg hpasses)

theorem exec_alertAssert_of_short {ns : Nat} (hns : ns < 100) : exec (.alertAssert ns) s = keep s s :=
  congrArg (keep s) (if_pos (by rw [decide_eq_true hns]; rfl))

theorem exec_alertRampTick_of_free (hlow : s.power.alertLow = false) (hhold : s.power.alertHold = false) (hk : s.power.alert < 34) :
    exec .alertRampTick s = keep s (s.setAlert (s.power.alert + 1)) := by
  have hramps : ¬(s.power.alertLow || s.power.alertHold || decide (34 ≤ s.power.alert)) = true := by
    rw [hlow, hhold, decide_eq_false (Nat.not_le_of_lt hk)]
    decide
  exact congrArg (keep s) (if_neg hramps)

theorem exec_alertRampTick_of_hold (hhold : s.power.alertHold = true) : exec .alertRampTick s = keep s s :=
  congrArg (keep s) (if_pos (by rw [hhold, Bool.or_true, Bool.true_or]))

/-! ### Supply and clocks (R401, R403) -/

theorem exec_zoneTimeout_of_run {r : RegionIx} (hrun : s.zoneMode r = 2) : exec (.zoneTimeout r) s
    = keep s (if vidOf (s.rd (regPage r) REG_PT_STATUS_V_MEAS) < (s.rd (regPage r) REG_PT_STATUS_VID_SENT : Int) then
      (s.raiseErr (regPage r) REG_ERR_STATUS_ZONE_TIMEOUT).bump (regPage r) REG_C_ZONE_TIMEOUTS else s) := by
  refine congrArg (keep s) ?_
  by_cases hlow : vidOf (s.rd (regPage r) REG_PT_STATUS_V_MEAS) < (s.rd (regPage r) REG_PT_STATUS_VID_SENT : Int)
  · exact (if_pos ⟨hrun, decide_eq_true hlow⟩).trans (if_pos hlow).symm
  · exact (if_neg fun h => hlow (of_decide_eq_true h.2)).trans (if_neg hlow).symm

/-! ### Temperature and trims (R414, R423) -/

theorem exec_trimWrite_of_served {q : Requester} {r : RegionIx} {v : Word} (h : s.served q (regAddr pCAL (0x2000 + 8 * r)) v = true) :
    exec (.trimWrite q r v) s = keep s (if (-20 ≤ signed 8 (CAL_TRIM_IGAIN.of v) ∧ signed 8 (CAL_TRIM_IGAIN.of v) ≤ 20) ∧
        (-16 ≤ signed 8 (CAL_TRIM_TOFF.of v) ∧ signed 8 (CAL_TRIM_TOFF.of v) ≤ 16) ∧
        (-8 ≤ signed 8 (CAL_TRIM_VOFF.of v) ∧ signed 8 (CAL_TRIM_VOFF.of v) ≤ 8) then
      s.plainWrite (regAddr pCAL (0x2000 + 8 * r)) v else s.raiseErr pCAL CAL_ERR_STATUS_TRIM_RANGE) := by
  refine congrArg (keep s) ((serveWrite_served _ h).trans ?_)
  simp only [Bool.and_eq_true, decide_eq_true_eq, and_assoc]

/-! ### Telemetry (R420) -/

section
variable {q : Requester} {set : Fin 16} {v : Word}

theorem exec_tsetWrite_of_rest {word : Fin 16} (h : s.served q (regAddr pTHM (0x1000 + 0x80 * set + 8 * word)) v = true)
    (hword : word.val ≠ 0) :
    exec (.tsetWrite q set word v) s = keep s (s.plainWrite (regAddr pTHM (0x1000 + 0x80 * set + 8 * word)) v) :=
  congrArg (keep s) ((serveWrite_served _ h).trans (if_pos hword))

/-- R420: the first word of a set, with a period and a count in their ranges. -/
theorem exec_tsetWrite_of_first (h : s.served q (regAddr pTHM (0x1000 + 0x80 * set)) v = true)
    (hperiod : 100 ≤ THM_TSET_PERIOD_US.of v ∧ THM_TSET_PERIOD_US.of v ≤ 16000000)
    (hcount : 1 ≤ THM_TSET_COUNT.of v ∧ THM_TSET_COUNT.of v ≤ 60) :
    exec (.tsetWrite q set 0 v) s = keep s (if overload ((THM_TSET_EN.of v, THM_TSET_PERIOD_US.of v, THM_TSET_COUNT.of v) ::
        ((List.range 16).filter (· != set.val)).map s.setEntry) then s.raiseErr pTHM THM_ERR_STATUS_TELEM_LOAD
      else s.wrs pTHM [(THM_TSET_EN, THM_TSET_EN.of v), (THM_TSET_PERIOD_US, THM_TSET_PERIOD_US.of v),
        (THM_TSET_COUNT, THM_TSET_COUNT.of v)] set) := by
  refine congrArg (keep s) ((serveWrite_served _ (addr := regAddr pTHM (0x1000 + 0x80 * set + 8 * (0 : Fin 16).val)) h).trans
    ((if_neg (not_not.mpr rfl)).trans ?_))
  dsimp only
  rw [if_pos hperiod, if_pos hcount]

/-- R420: a record of a set that is on. -/
theorem exec_telemetryRecord_of_on {p n : Nat} (hset : s.setEntry set = (1, p, n)) (hn : n ≠ 0) (hruns : s.mmcRuns = true) :
    exec (.telemetryRecord set) s = keep s (if !s.mgtUp then s.bump pTHM THM_C_TELEM_OVERRUNS
      else (s.sendMgt 0x50 30 (s.telemetry set)).bump pTHM THM_C_TELEM_RECORDS) := by
  simp only [exec, execTelemetryRecord, hset, hruns]
  exact congrArg (keep s) (if_neg (by simp [hn]))

end

/-! ### Power loops (R430) -/

theorem exec_mmcPowerLoop_of_stopped (h : s.mmcRuns = false) : exec .mmcPowerLoop s = keepQ s s :=
  congrArg (keepQ s) (if_pos (by rw [h]; rfl))

/-- The budgets of the regions in `l`, in turn, out of what the cap leaves (R430). -/
theorem exec_mmcPowerLoop_of_running (h : s.mmcRuns = true) : exec .mmcPowerLoop s
    = keepQ s (((List.range 84).filter fun r => s.pmbusSetup.regionState r == 0).foldl (fun (a : State × Nat) r =>
      let b := min a.2 (Config.loopBudget r (a.1.rd pPWR PWR_MEAS_TOTAL_W)).toNat
      (a.1.wr (regPage r) REG_PT_BUDGET_BUDGET_DW b, a.2 - b))
      (s.pmbusSetup, if s.pmbusSetup.capDw = 0 then 100 * s.pmbusSetup.rd pCAL CAL_LIMITS_CORE_MAX_DW else s.pmbusSetup.capDw)).1 :=
  congrArg (keepQ s) (if_neg (by rw [h]; exact Bool.false_ne_true))

end

/-- Settles O51: a row of the supply by the readings and the state that it turns on. That a low between 100 and 200 ns acts where a free
value says so (log 181) and how a sample is trimmed (log 179) are the model's choice. -/
theorem powerRowsComplete : Obligations.PowerRowsComplete := by
  refine ⟨fun s hheld => answers_of_keep (congrArg (keep s) (if_neg (ne_true_of_eq_false hheld))),
    fun volts s => answers_of_keep rfl,
    fun r mv s hrun hlow hnew => answers_of_keep (exec_droop_of_low hrun hlow (by simpa using hnew)),
    fun r s => answers_of_keep rfl,
    fun zones rails s => answers_of_keep rfl,
    fun total core s => ⟨State.totalSample_power total core, State.rd_totalSample_total total core, State.rd_totalSample_core total core⟩,
    fun q v s h => ⟨fun hcap => answers_of_keep ((exec_capWrite_of_served h).trans (congrArg (keep s) (if_pos hcap))),
      fun hcap => answers_of_keep ((exec_capWrite_of_served h).trans (congrArg (keep s) (if_neg hcap)))⟩,
    fun ns s hlow hheld => ⟨fun hlong => ?long, fun hns hbelow => ?between,
      fun hshort => answers_of_keep (exec_alertAssert_of_short hshort)⟩,
    fun s hlow => answers_of_keep (congrArg (keep s) (if_pos hlow)),
    fun s hhold => answers_of_keep (congrArg (keep s) (if_pos hhold)),
    fun s hlow hhold hk => answers_of_keep (exec_alertRampTick_of_free hlow hhold hk),
    fun s hhold => answers_of_keep (exec_alertRampTick_of_hold hhold),
    fun r s hrun => ⟨fun hbelow => answers_of_keep ((exec_zoneTimeout_of_run hrun).trans (congrArg (keep s) (if_pos hbelow))),
      fun hreached => answers_of_keep ((exec_zoneTimeout_of_run hrun).trans (congrArg (keep s) (if_neg (Int.not_lt.mpr hreached))))⟩,
    fun r s => answers_of_keep rfl,
    fun rail s hheld => answers_of_keep (congrArg (keep s) (if_neg (ne_true_of_eq_false hheld))),
    fun k s => ⟨answers_of_keep rfl, answers_of_keep rfl⟩,
    fun r s hon => answers_of_keep (congrArg (keep s) (if_neg (Nat.not_le_of_lt hon)))⟩
  case long =>
    exact answers_of_keep ((exec_alertAssert_of_high (by omega) hlow hheld).trans (congrArg (keep s) (if_pos hlong)))
  case between =>
    exact answers_of_keep ((exec_alertAssert_of_high hns hlow hheld).trans (congrArg (keep s) (if_neg (Nat.not_le_of_lt hbelow))))

/-- Settles O52: samples, trims, telemetry and the power loops by what they find. That a cooled region returns when the last running job
ends (log 175), that the budgets are clipped (log 125) and that only a record without any lane is dropped (log 124) are deduced. -/
theorem thermalAndTelemetryRowsComplete : Obligations.ThermalAndTelemetryRowsComplete := by
  refine ⟨fun temps s => answers_of_keep rfl,
    fun r s hstate hcool => ⟨answers_of_keep (congrArg (keep s) (if_pos ⟨hstate, hcool⟩)), fun hruns => if_pos hruns⟩,
    fun r s hstate => answers_of_keep (congrArg (keep s) (if_neg fun h => hstate h.1)),
    fun q r v s h => ⟨fun hin => answers_of_keep ((exec_trimWrite_of_served h).trans (congrArg (keep s) (if_pos hin))),
      fun hout => answers_of_keep ((exec_trimWrite_of_served h).trans (congrArg (keep s) (if_neg hout)))⟩,
    fun q set word v s h hword => answers_of_keep (exec_tsetWrite_of_rest h hword),
    fun q set v s h hp1 hp2 hc1 hc2 => ⟨fun hload => ?tooMuch, fun hload => ?fits⟩,
    fun set p n s hset hn hruns => ⟨fun hup => ?sent, fun hdown => ?overrun⟩,
    fun s hstopped => answersMem_of_keepQ (exec_mmcPowerLoop_of_stopped hstopped),
    fun s hruns => answersMem_of_keepQ (exec_mmcPowerLoop_of_running hruns),
    fun r s hstate hregion => answers_of_keep (congrArg (keep s) (if_pos ⟨hstate, hregion⟩))⟩
  case tooMuch =>
    exact answers_of_keep ((exec_tsetWrite_of_first h ⟨hp1, hp2⟩ ⟨hc1, hc2⟩).trans (congrArg (keep s) (if_pos hload)))
  case fits =>
    exact answers_of_keep ((exec_tsetWrite_of_first h ⟨hp1, hp2⟩ ⟨hc1, hc2⟩).trans
      (congrArg (keep s) (if_neg (ne_true_of_eq_false hload))))
  case sent =>
    exact answers_of_keep ((exec_telemetryRecord_of_on hset hn hruns).trans
      (congrArg (keep s) (if_neg (by rw [hup]; exact Bool.false_ne_true))))
  case overrun =>
    exact answers_of_keep ((exec_telemetryRecord_of_on hset hn hruns).trans (congrArg (keep s) (if_pos (by rw [hdown]; rfl))))

end Sys2Proof.Machine

/-! The firmware complexes (18_firmware_and_management.md, R425, R432–R434): traps, watchdogs, restarts and failed cores. -/

namespace Sys2Proof.Machine

section
variable {s : State}

/-! ### Region control complexes (R432, R433) -/

section
variable {r : RegionIx} {core : Fin 3}

theorem exec_mpuTrap_of_rcc (h : s.rd pFWC FWC_RCC_STATE r = 1) :
    exec (.mpuTrap (.rcc r)) s = keep s ((s.raiseErr pFWC FWC_ERR_STATUS_MPU_VIOLATION).bump pFWC FWC_C_MPU_VIOLATIONS) :=
  congrArg (keep s) (if_pos (beq_iff_eq.mpr h))

/-- R433: the crash of an active core, which fails at its third in 10 s. -/
theorem exec_rccWatchdog_of_active (hstate : s.rd pFWC FWC_RCC_STATE r = 1) (hactive : s.coreActive r core = true) :
    exec (.rccWatchdog r core) s = keep s ((if 3 ≤ (s.rccCrash r core).coreCrashes r core then (s.rccCrash r core).coreFails r core
      else s.rccCrash r core).rccJudge r) := by
  have hruns : ¬(s.rd pFWC FWC_RCC_STATE r ≠ 1 ∨ (!s.coreActive r core) = true) := by
    rw [hstate, hactive]
    decide
  exact congrArg (keep s) (if_neg hruns)

/-- The state in which no core of a region waits to hand its role over. -/
def State.swapsTaken (s : State) (r : Nat) : State := { s with fw := { s.fw with swap := s.fw.swap.filter fun x => x.1 != r } }

/-- R432: a restart without a core to swap. -/
theorem exec_rccRestartDone_of_whole (hstate : s.rd pFWC FWC_RCC_STATE r = 2) (hswap : s.fw.swap.any (fun x => x.1 == r.val) = false) :
    exec (.rccRestartDone r) s = keep s (((((s.swapsTaken r).loopRequest r).wrs pFWC [(FWC_RCC_STATE, 1),
      (FWC_RCC_RESTARTS, (s.swapsTaken r).rd pFWC FWC_RCC_RESTARTS r + 1)] r).bump pFWC FWC_C_RCC_RESTARTS).raiseEvt pFWC
        FWC_EVT_STATUS_RCC_RESTARTED) := by
  refine congrArg (keep s) ((if_neg (not_not.mpr hstate)).trans ?_)
  dsimp only
  rw [if_neg (ne_true_of_eq_false hswap)]
  rfl

theorem exec_coreCheckFail_of_rcc (h : s.rd pFWC FWC_RCC_STATE r = 1 ∨ s.rd pFWC FWC_RCC_STATE r = 2) :
    exec (.coreCheckFail (.rcc r) core) s = keep s ((s.coreFails r core).rccJudge r) :=
  congrArg (keep s) (if_pos h)

end

/-! ### The module management cores (R434) -/

theorem exec_mmcWatchdog_of_running (h : s.mmcRuns = true) : exec .mmcWatchdog s
    = keep s (if (s.raiseErr pFWC FWC_ERR_STATUS_MMC_CRASH).rd pFWC FWC_STATUS_TWIN_READY = 1 then
      (((s.raiseErr pFWC FWC_ERR_STATUS_MMC_CRASH).wrs pFWC [(FWC_STATUS_MMC_ACTIVE, (s.raiseErr pFWC FWC_ERR_STATUS_MMC_CRASH).twin),
        (FWC_STATUS_TWIN_READY, 0)]).raiseEvt pFWC FWC_EVT_STATUS_MMC_FAILOVER).bump pFWC FWC_C_MMC_FAILOVERS
      else (s.raiseErr pFWC FWC_ERR_STATUS_MMC_CRASH).wr pFWC FWC_STATUS_MMC_FAILED 1) :=
  congrArg (keep s) (if_neg (by rw [h]; exact Bool.false_ne_true))

theorem exec_mmcTwinReady_of_restarted (hruns : s.mmcRuns = true) (hwell : s.fw.mmcOut.contains s.twin = false) :
    exec .mmcTwinReady s = keep s (s.wr pFWC FWC_STATUS_TWIN_READY 1) :=
  congrArg (keep s) (if_pos (by rw [hruns, hwell]; rfl))

/-- The management cores that are out once `core` has failed its checks. -/
def State.mmcOutWith (s : State) (core : Nat) : List Nat := core :: s.fw.mmcOut.filter (· != core)

/-- A management core is out; the twin no longer stands ready. -/
def State.mmcCoreOut (s : State) (core : Nat) : State :=
  let t : State := { s with fw := { s.fw with mmcOut := s.mmcOutWith core } }
  if core = t.twin then t.wr pFWC FWC_STATUS_TWIN_READY 0 else t

theorem exec_coreCheckFail_of_mmc {core : Fin 3} (hcore : core.val < 2) (hruns : s.mmcRuns = true) :
    exec (.coreCheckFail .mmc core) s = keep s (if (s.mmcOutWith core).length = 2 then
      (s.mmcCoreOut core).wr pFWC FWC_STATUS_MMC_FAILED 1 else s.mmcCoreOut core) := by
  have hhas : ¬(2 ≤ core.val ∨ (!s.mmcRuns) = true) := by
    rw [hruns]
    exact fun h => h.elim (Nat.not_le_of_lt hcore) Bool.false_ne_true
  exact congrArg (keep s) (if_neg hhas)

end

/-- Settles O53: traps, watchdogs and restarts by the state of the complex. That the MMC fails at a watchdog without a ready twin
(log 46) and what else a failed check does (log 128) are deduced. -/
theorem firmwareRowsComplete : Obligations.FirmwareRowsComplete := by
  refine ⟨fun r s hstate => answers_of_keep (exec_mpuTrap_of_rcc hstate),
    fun s hruns => answers_of_keep (congrArg (keep s) (if_pos hruns)),
    fun r core s hstate => answers_of_keep (congrArg (keep s) (if_pos (Or.inl hstate))),
    fun r core s hstate hactive => ⟨fun hfew => ?crashes, fun hthird => ?fails⟩,
    fun r s hstate hswap => answers_of_keep (exec_rccRestartDone_of_whole hstate hswap),
    fun s hruns => ⟨fun hready => answers_of_keep ((exec_mmcWatchdog_of_running hruns).trans (congrArg (keep s) (if_pos hready))),
      fun hnone => answers_of_keep ((exec_mmcWatchdog_of_running hruns).trans (congrArg (keep s) (if_neg hnone)))⟩,
    fun s hruns hwell => answers_of_keep (exec_mmcTwinReady_of_restarted hruns hwell),
    fun r core s hstate => answers_of_keep (exec_coreCheckFail_of_rcc hstate),
    fun core s hcore hruns => ⟨fun hboth => answers_of_keep ((exec_coreCheckFail_of_mmc hcore hruns).trans
        (congrArg (keep s) (if_pos hboth))),
      fun hone => answers_of_keep ((exec_coreCheckFail_of_mmc hcore hruns).trans (congrArg (keep s) (if_neg hone)))⟩,
    fun core s hcore => answers_of_keep (congrArg (keep s) (if_pos (Or.inl hcore)))⟩
  case crashes =>
    refine answers_of_keep ((exec_rccWatchdog_of_active hstate hactive).trans (congrArg (fun t : State => keep s (t.rccJudge r)) ?_))
    exact if_neg (Nat.not_le_of_lt hfew)
  case fails =>
    refine answers_of_keep ((exec_rccWatchdog_of_active hstate hactive).trans (congrArg (fun t : State => keep s (t.rccJudge r)) ?_))
    exact if_pos hthird

end Sys2Proof.Machine

/-! The management plane (18_firmware_and_management.md, R428–R447): the requests of the mailbox, the lanes, NOTIFY, and the frames
that no request takes. -/

namespace Sys2Proof.Machine

section
variable {s : State} {f : MgtReq}

/-! ### What the action of a request finds -/

/-- Taking a request touches its counters and its pair alone. -/
theorem State.rd_mailTaken {opcode p : Nat} {g : Fld} {j : Nat} (hpair : f.pair < 28) (hpage : p ≠ pMBX) (hoff : g.atIx j < 65536)
    (hframes : regAddr p (g.atIx j) ≠ regAddr pMGT (MGT_C_FRAMES_IN.atIx 0)) : (s.mailTaken opcode f).rd p g j = s.rd p g j := by
  have hbox : ∀ h : Fld, h.atIx f.pair < 65536 → regAddr p (g.atIx j) ≠ regAddr pMBX (h.atIx f.pair) :=
    fun _ => regAddr_page_ne hpage hoff
  unfold State.mailTaken
  rw [State.rd_bump_ne _ _ _ _ _ _ _ (regAddr_page_ne hpage hoff (by decide)), State.wrs_cons, State.wrs_cons, State.wrs_nil,
    State.rd_wr_ne _ _ _ _ _ _ _ _ (hbox _ (by simp only [Fld.atIx]; omega)),
    State.rd_wr_ne _ _ _ _ _ _ _ _ (hbox _ (by simp only [Fld.atIx]; omega)), State.rd_bump_ne _ _ _ _ _ _ _ hframes]

theorem pair_lt_of_mailOk {opcode least : Nat} {open_ : Bool} (h : s.mailOk opcode open_ least f = true) : f.pair < 28 := by
  simp only [State.mailOk, Bool.and_eq_true, decide_eq_true_eq] at h
  obtain ⟨⟨⟨⟨⟨⟨-, hpair⟩, -⟩, -⟩, -⟩, -⟩, -⟩ := h
  exact hpair

theorem State.lifecycle_mailTaken {opcode : Nat} (hpair : f.pair < 28) : (s.mailTaken opcode f).lifecycle = s.lifecycle :=
  State.rd_mailTaken hpair (by decide) (by decide) (by decide)

theorem State.ownerBound_mailTaken {opcode : Nat} (hpair : f.pair < 28) :
    (s.mailTaken opcode f).rd pMGT MGT_OWNER_BOUND = s.rd pMGT MGT_OWNER_BOUND :=
  State.rd_mailTaken hpair (by decide) (by decide) (by decide)

/-- Two actions that agree where a request is taken make the same row. -/
theorem MailRuns.of_eq {row : Instr} {opcode least : Nat} {open_ : Bool} {act act' : State → State × Nat × List Byte}
    (h : MailRuns row s opcode open_ least f act')
    (heq : f.pair < 28 → act' (s.mailTaken opcode f) = act (s.mailTaken opcode f)) : MailRuns row s opcode open_ least f act := by
  intro hok
  have hruns := h hok
  rw [heq (pair_lt_of_mailOk hok)] at hruns
  exact hruns

/-! ### Open requests (R442, R446) -/

/-- R446: a module that is not RETIRED signs a quote. -/
theorem mailRuns_attest (h : s.lifecycle ≠ 3) : MailRuns (.attest f) s 0x02 true 48 f fun t =>
    ({ t with free := t.free + 1 }, stOk, t.quote (f.payload.take 48)) :=
  (mailRuns_of rfl : MailRuns (.attest f) s 0x02 true 48 f fun t => if t.lifecycle = 3 then (t, stDenied, [])
    else ({ t with free := t.free + 1 }, stOk, t.quote (f.payload.take 48))).of_eq
      fun hpair => if_neg ((State.lifecycle_mailTaken hpair).trans_ne h)

/-- R442: a module without an owner is bound to the one that asks. -/
theorem mailRuns_ownerBind (h : s.rd pMGT MGT_OWNER_BOUND = 0) : MailRuns (.ownerBind f) s 0x03 true 97 f fun t =>
    (t.bindOwner (f.payload.take 97), stOk, []) := by
  have hexec : exec (.ownerBind f) s = keep s (s.mailbox 0x03 true true 97 f fun t => if t.rd pMGT MGT_OWNER_BOUND = 1 then
      (t, stDenied, []) else (t.bindOwner (f.payload.take 97), stOk, [])) := by
    simp only [exec, execOwnerBind, h]
    rfl
  exact (mailRuns_of hexec).of_eq fun hpair => if_neg (by rw [State.ownerBound_mailTaken hpair, h]; decide)

/-! ### KEY_INSTALL and IMAGE_PUSH (R428, R445) -/

/-- R445: what KEY_INSTALL fills with a key that it could unwrap, by its TARGET. -/
def State.keyFills (s : State) (b key : List Byte) : Nat → State × Nat
  | 0 => s.installWeight b key
  | 1 => s.installCache b key
  | 2 => s.installMirror b key
  | 3 => s.installExpert key
  | _ => (s, stDenied)

theorem State.keyInstall_of_unwrapped {key : List Byte} {target : Nat} (hlife : s.lifecycle ≠ 3)
    (hkey : s.unwrap (f.payload.take 209) = some key) (htarget : byteAt f.payload 0 = target) :
    s.keyInstall f = ((s.keyFills (f.payload.take 209) key target).1, (s.keyFills (f.payload.take 209) key target).2, []) := by
  have hbyte : byteAt (f.payload.take 209) 0 = target := by
    rw [← htarget]
    simp [byteAt, List.getD_eq_getElem?_getD]
  unfold State.keyInstall
  dsimp only
  rw [if_neg hlife, hkey, hbyte]
  unfold State.keyFills
  rfl

theorem State.keyInstall_of_refused (hkey : s.unwrap (f.payload.take 209) = none) (hlife : s.lifecycle ≠ 3) :
    s.keyInstall f = (s.unwrapFail, stUnwrap, []) := by
  unfold State.keyInstall
  dsimp only
  rw [if_neg hlife, hkey]

/-- R428: the first piece of an image, too short for a header, is kept. -/
theorem State.pushImage_of_first (hstage : s.stage = 2) (harg : f.arg = 0#64) (hlen : f.payload.length < 20) :
    s.pushImage f = ({ s with boot := { s.boot with pushed := f.payload } }, stOk, []) := by
  unfold State.pushImage
  dsimp only
  rw [if_pos harg, List.nil_append, if_neg (by simp [hstage, harg]), if_pos (Or.inl hlen)]

/-! ### Lanes and NOTIFY (R435, R440) -/

section
variable {lane : Fin 2}

/-- R435: what the fault of a lane that was up does, from the state `t` in which the lane is down. -/
def State.laneFaults (t : State) (lane : Nat) : State :=
  if !t.mgtUp then t.raiseErr pMGT MGT_ERR_STATUS_LANES_DOWN
  else if t.rd pMGT MGT_STATUS_ACTIVE_LANE ≠ lane then t
  else (((t.wr pMGT MGT_STATUS_ACTIVE_LANE (1 - lane)).raiseEvt pMGT MGT_EVT_STATUS_FAILOVER).bump pMGT MGT_C_FAILOVERS).sendNotify 1

theorem exec_mgtLaneFault_of_up (h : s.rd pMGT (laneUp lane) ≠ 0) :
    exec (.mgtLaneFault lane) s = keep s ((s.wr pMGT (laneUp lane) 0).laneFaults lane) :=
  congrArg (keep s) (if_neg h)

theorem exec_mgtLaneUp_of_free (h : s.heldReset = false) : exec (.mgtLaneUp lane) s = keep s (if !s.mgtUp then
      (((s.wr pMGT (laneUp lane) 1).wr pMGT MGT_STATUS_ACTIVE_LANE lane).flushMgt).flushReports else s.wr pMGT (laneUp lane) 1) :=
  congrArg (keep s) (if_neg (ne_true_of_eq_false h))

end

theorem exec_notifyGapExpiry : exec .notifyGapExpiry s = keep s (if s.notify.gap && s.notify.deferred then
      ({ s with notify := {} } : State).sendNotify s.notify.cause else { s with notify := {} }) := rfl

/-! ### Frames that no request takes (R435, R437) -/

/-- R437: a request of another version is answered BAD_VERSION, before any check of its pair. -/
theorem mailbox_badVersion {opcode least : Nat} {open_ known : Bool} {run : State → State × Nat × List Byte}
    (hreset : s.wholeReset = false) (htest : s.stage ≠ 1) (hdead : s.stage ≠ 0xFE) (hmajor : f.major ≠ 2) :
    s.mailbox opcode open_ known least f run = (((s.bump pMGT MGT_C_FRAMES_IN).raiseErr pMBX MBX_ERR_STATUS_BAD_VERSION).bump pMBX
      MBX_C_VERSION_FAILS).respond opcode f stBadVersion [] := by
  have hstage : (s.bump pMGT MGT_C_FRAMES_IN).stage = s.stage :=
    s.rd_bump_ne pMGT pGLB MGT_C_FRAMES_IN GLB_STATUS_BOOT_STAGE 1 0 (by decide)
  unfold State.mailbox
  dsimp only
  rw [if_neg (by simp [hreset, htest]), if_neg (hstage.trans_ne hdead), if_pos hmajor]

section
variable {fr : MgtFrame}

theorem exec_badMgtFrame_of_fcs (hreset : s.wholeReset = false) (htest : s.stage ≠ 1) (hfcs : fr.fcsOk = false) :
    exec (.badMgtFrame fr) s = keep s (s.bump pMGT MGT_C_FCS_ERRS) :=
  congrArg (keep s) ((if_neg (by simp [hreset, htest])).trans (if_pos (by rw [hfcs]; rfl)))

theorem exec_badMgtFrame_of_foreign (hreset : s.wholeReset = false) (htest : s.stage ≠ 1) (hfcs : fr.fcsOk = true)
    (hforeign : fr.ethertype ≠ s.rd pMGT MGT_NET_ETHERTYPE ∨ fr.destOk = false) :
    exec (.badMgtFrame fr) s = keep s (s.bump pMGT MGT_C_FOREIGN_DROPS) :=
  congrArg (keep s) ((if_neg (by simp [hreset, htest])).trans ((if_neg (by rw [hfcs]; exact Bool.false_ne_true)).trans
    (if_pos (hforeign.imp_right fun h => by rw [h]; rfl))))

theorem exec_badMgtFrame_of_version (hreset : s.wholeReset = false) (htest : s.stage ≠ 1) (hfcs : fr.fcsOk = true)
    (htype : fr.ethertype = s.rd pMGT MGT_NET_ETHERTYPE) (hdest : fr.destOk = true) (hdead : s.stage ≠ 0xFE) (hmajor : fr.req.major ≠ 2) :
    exec (.badMgtFrame fr) s = keep s ((((s.bump pMGT MGT_C_FRAMES_IN).raiseErr pMBX MBX_ERR_STATUS_BAD_VERSION).bump pMBX
      MBX_C_VERSION_FAILS).respond fr.opcode fr.req stBadVersion []) := by
  refine congrArg (keep s) ((if_neg (by simp [hreset, htest])).trans ((if_neg (by rw [hfcs]; exact Bool.false_ne_true)).trans
    ((if_neg (by simp [htype, hdest])).trans ((if_neg fun h => hmajor h.1).trans ((if_neg ?_).trans
      (mailbox_badVersion hreset htest hdead hmajor))))))
  have hversion : (fr.req.major == 2) = false := beq_eq_false_iff_ne.mpr hmajor
  simp only [hversion, Bool.and_false, Bool.false_and, Bool.false_eq_true, not_false_eq_true]

end

end

/-- Settles O54: each request by its mailbox row, and by what its action finds. The free key bytes of a RETIRED module (log 49) and that
a piece at offset 0 restarts the image (log 51) are the model's choice. -/
theorem managementRequestsComplete : Obligations.ManagementRequestsComplete := by
  refine ⟨fun f s => mailRuns_of rfl, fun f s hlife => mailRuns_attest hlife, fun f s hunbound => mailRuns_ownerBind hunbound,
    fun f s => mailRuns_of rfl, fun f s => mailRuns_of rfl, fun f s => mailRuns_of rfl, fun f s => mailRunsMem_of rfl, ?keys,
    fun f s => mailRuns_of rfl, ?lifecycle,
    fun f key s hlife hkey => ⟨fun h => State.keyInstall_of_unwrapped hlife hkey h, fun h => State.keyInstall_of_unwrapped hlife hkey h,
      fun h => State.keyInstall_of_unwrapped hlife hkey h, fun h => State.keyInstall_of_unwrapped hlife hkey h,
      fun h => State.keyInstall_of_unwrapped hlife hkey h⟩,
    fun f s hkey hlife => State.keyInstall_of_refused hkey hlife,
    fun f s hstage harg hlen => State.pushImage_of_first hstage harg hlen⟩
  case keys => rintro row (rfl | rfl | rfl | rfl | rfl) f s <;> exact mailRunsMem_of rfl
  case lifecycle => rintro row (rfl | rfl) f s <;> exact mailRuns_of rfl

/-- Settles O55: a lane by what is left of the port, a frame by the first check that it fails. That the FAILOVER event's NOTIFY comes
before the failover's own is deduced (log 130). -/
theorem managementPortRowsComplete : Obligations.ManagementPortRowsComplete := by
  refine ⟨fun lane s hup => ⟨fun hlast => ?last, fun hother hactive => ?other, fun hother hactive => ?failover⟩,
    fun lane s hheld => ⟨fun hup => ?second, fun hdown => ?first⟩,
    fun s => ⟨fun hgap hdeferred => ?waited, fun hdeferred => ?nothing⟩,
    fun fr s hreset htest => ⟨fun hfcs => answers_of_keep (exec_badMgtFrame_of_fcs hreset htest hfcs),
      fun hfcs hforeign => answers_of_keep (exec_badMgtFrame_of_foreign hreset htest hfcs hforeign),
      fun hfcs htype hdest hdead hmajor => answers_of_keep (exec_badMgtFrame_of_version hreset htest hfcs htype hdest hdead hmajor)⟩,
    fun fr s htest => answers_of_keep (congrArg (keep s) (if_pos (Or.inr htest)))⟩
  case last =>
    exact answers_of_keep ((exec_mgtLaneFault_of_up hup).trans (congrArg (keep s) (if_pos (by rw [hlast]; rfl))))
  case other =>
    exact answers_of_keep ((exec_mgtLaneFault_of_up hup).trans
      (congrArg (keep s) ((if_neg (by rw [hother]; exact Bool.false_ne_true)).trans (if_pos hactive))))
  case failover =>
    exact answers_of_keep ((exec_mgtLaneFault_of_up hup).trans
      (congrArg (keep s) ((if_neg (by rw [hother]; exact Bool.false_ne_true)).trans (if_neg (not_not.mpr hactive)))))
  case second =>
    exact answers_of_keep ((exec_mgtLaneUp_of_free hheld).trans (congrArg (keep s) (if_neg (by rw [hup]; exact Bool.false_ne_true))))
  case first => exact answers_of_keep ((exec_mgtLaneUp_of_free hheld).trans (congrArg (keep s) (if_pos (by rw [hdown]; rfl))))
  case waited => exact answers_of_keep (exec_notifyGapExpiry.trans (congrArg (keep s) (if_pos (by rw [hgap, hdeferred]; rfl))))
  case nothing =>
    exact answers_of_keep (exec_notifyGapExpiry.trans
      (congrArg (keep s) (if_neg (by rw [hdeferred, Bool.and_false]; exact Bool.false_ne_true))))

end Sys2Proof.Machine

/-! Boot and registration (19_boot_and_bringup.md, R449–R460; 20_pins_electrical_mechanical.md, R470, R479): the cold starts, each stage
by what ends it, and the messages of registration. -/

namespace Sys2Proof.Machine

section
variable {s t : State}

/-! ### Stages (R452–R460) -/

/-- A row of a boot stage acts in its stage, while no reset runs. -/
theorem not_stage_ne_or_wholeReset {k : Nat} (hstage : s.stage = k) (hreset : s.wholeReset = false) :
    ¬(s.stage ≠ k ∨ s.wholeReset = true) :=
  fun h => h.elim (fun h => h hstage) fun h => Bool.false_ne_true (hreset.symm.trans h)

theorem exec_sportStageEnd_of_stage (hstage : s.stage = 8) (hreset : s.wholeReset = false) :
    exec .sportStageEnd s = keep s (s.setStage (if s.noLockWait then 0x0A else 9)) :=
  congrArg (keep s) (if_neg (not_stage_ne_or_wholeReset hstage hreset))

theorem exec_tbLockEnd_of_stage (timeout : Bool) (hstage : s.stage = 9) (hreset : s.wholeReset = false) :
    exec (.tbLockEnd timeout) s = keep s (if timeout || s.noLockWait then s.setStage 0x0A else s) := by
  refine congrArg (keep s) ?_
  have hruns : (!s.wholeReset) = true := by rw [hreset]; rfl
  by_cases hends : (timeout || s.noLockWait) = true
  · exact (if_pos ⟨hstage, hruns, hends⟩).trans (if_pos hends).symm
  · exact (if_neg fun h => hends h.2.2).trans (if_neg hends).symm

/-! ### Registration (R455, R457) -/

section
variable {c : CtlMsg}

/-- R457: an ASSIGN that answers the current HELLO. -/
theorem exec_assign_of_answer {h : CtlPath × Nat} (harrive : s.ctlArrive c = (t, true)) (hhello : t.boot.hello = some h)
    (hstage : t.stage = 0x07) (hanswers : t.ctlAnswers c h = true) (hgood : assignGood c = true) :
    exec (.assign c) s = keep s ((((t.assignIdentity c.body).resendIdent).setStage 0x08).checkUpdate) := by
  simp only [exec, execAssign, harrive, hhello]
  exact congrArg (keep s) (if_pos (by simp [hstage, hanswers, hgood]))

theorem exec_assign_of_refused (harrive : s.ctlArrive c = (t, false)) : exec (.assign c) s = keep s t := by
  simp only [exec, execAssign, harrive]
  cases t.boot.hello <;> rfl

theorem State.rd_assignIdentity (s : State) (b : List Byte) (p : Nat) (f : Fld) : (s.assignIdentity b).rd p f
    = (s.wrs pGLB [(GLB_MODULE_ID_ID, leAt b 2 2 % 2 ^ 14), (GLB_MODULE_ID_VALID, 1)]).rd p f :=
  State.rd_of_regs rfl p f 0

theorem State.moduleId_assignIdentity (s : State) (b : List Byte) :
    (s.assignIdentity b).rd pGLB GLB_MODULE_ID_ID = leAt b 2 2 % 2 ^ 14 := by
  rw [State.rd_assignIdentity, State.wrs_cons, State.wrs_cons, State.wrs_nil,
    State.rd_wr_other _ _ _ _ _ _ _ _ (by decide) (by decide) fun _ => by decide, State.rd_wr_same _ _ _ _ _ (by decide) (by decide)]
  exact Nat.mod_mod _ _

theorem State.moduleIdValid_assignIdentity (s : State) (b : List Byte) : (s.assignIdentity b).rd pGLB GLB_MODULE_ID_VALID = 1 := by
  rw [State.rd_assignIdentity, State.wrs_cons, State.wrs_cons, State.wrs_nil, State.rd_wr_same _ _ _ _ _ (by decide) (by decide)]
  rfl

theorem exec_updateResend_of_sent {p : CtlPath} {q : Nat} {b : List Byte} {x : Bool} (h : s.boot.update = some (p, q, b, x)) :
    exec .updateResend s = keep s (s.resendReg q b) := by
  simp only [exec, execUpdateResend, h]

/-- R457: the ACK of the UPDATE that was sent. -/
theorem exec_updateAck_of_sent {p : CtlPath} {b : List Byte} {x : Bool} (harrive : s.ctlArrive c = (t, true))
    (hsent : t.boot.update = some (p, c.cseq, b, x)) (htype : c.ctype = 6) (hack : byteAt c.body 0 = 4) (hauth : t.ctlAuth c = true) :
    exec (.updateAck c) s
      = keep s { t with boot := { t.boot with update := none, jobReset := t.boot.jobReset && !x } } := by
  simp only [exec, execUpdateAck, harrive, hsent]
  exact congrArg (keep s) (if_pos (by simp [htype, hack, hauth]))

end

end

/-- Settles O56: a stage's row by its stage, a message of registration by what it answers. That EXTEST is SOURCE 4 and a release keeps the
cause of its trigger (log 134), that the stacks are emptied at STACK_TRAIN (log 48) and that NEIGHBOUR ends within LINK_TRAIN_EXPIRY
(log 135) are deduced. -/
theorem bootAndRegistrationRowsComplete : Obligations.BootAndRegistrationRowsComplete := by
  refine ⟨fun s => answers_of_keep rfl, fun s => answers_of_keep rfl,
    fun s hlow => answers_of_keep (congrArg (keep s) (if_pos hlow)),
    fun s hstage hheld => ⟨answers_of_keep (exec_selftestDone_of_stage true hstage hheld),
      answers_of_keep (exec_selftestDone_of_stage false hstage hheld)⟩,
    fun cols failed s hstage => answers_of_keep (congrArg (keep s) (if_pos (Or.inl hstage))),
    fun cols failed s hstage hreset => answers_of_keep (congrArg (keep s) (if_neg (not_stage_ne_or_wholeReset hstage hreset))),
    fun passed s => ⟨fun hstage hreset => ?trained, rfl⟩,
    fun s hstage hreset => answers_of_keep (congrArg (keep s) (if_neg (not_stage_ne_or_wholeReset hstage hreset))),
    fun s hstage hreset => ⟨fun hfree => ?noWait, fun hwait => ?waits⟩,
    fun s hstage hreset => ⟨answers_of_keep (exec_tbLockEnd_of_stage true hstage hreset), fun hfree => ?lockFree, fun hwait => ?unlocked⟩,
    fun s hout => answers_of_keep (congrArg (keep s) (if_neg (ne_true_of_eq_false hout))),
    fun s hin => answers_of_keep (congrArg (keep s) (if_pos hin)),
    fun s => ⟨fun hstage => answers_of_keep (congrArg (keep s) (if_pos hstage)),
      fun hstage => answers_of_keep (congrArg (keep s) (if_neg hstage))⟩,
    fun c h t s harrive hhello hstage hanswers hgood => answers_of_keep (exec_assign_of_answer harrive hhello hstage hanswers hgood),
    fun c t s harrive => answers_of_keep (exec_assign_of_refused harrive),
    fun b s => ⟨s.moduleId_assignIdentity b, s.moduleIdValid_assignIdentity b, rfl, fun hset => if_neg hset, fun hunset => if_pos hunset⟩,
    fun p c b x s hsent => answers_of_keep (exec_updateResend_of_sent hsent),
    fun c p b x t s harrive hsent htype hack hauth => answers_of_keep (exec_updateAck_of_sent harrive hsent htype hack hauth),
    fun s => ⟨fun hdue => answers_of_keep (congrArg (keep s) (if_pos hdue)),
      fun hidle => answers_of_keep (congrArg (keep s) (if_neg (ne_true_of_eq_false hidle)))⟩⟩
  case trained =>
    exact answersMem_of_keepQ (congrArg (keepQ s) (if_neg (not_stage_ne_or_wholeReset hstage hreset)))
  case noWait =>
    exact answers_of_keep ((exec_sportStageEnd_of_stage hstage hreset).trans
      (congrArg (fun k => keep s (s.setStage k)) (if_pos hfree)))
  case waits =>
    exact answers_of_keep ((exec_sportStageEnd_of_stage hstage hreset).trans
      (congrArg (fun k => keep s (s.setStage k)) (if_neg (ne_true_of_eq_false hwait))))
  case lockFree => exact answers_of_keep ((exec_tbLockEnd_of_stage false hstage hreset).trans (congrArg (keep s) (if_pos hfree)))
  case unlocked =>
    exact answers_of_keep ((exec_tbLockEnd_of_stage false hstage hreset).trans
      (congrArg (keep s) (if_neg (ne_true_of_eq_false hwait))))

end Sys2Proof.Machine
